-- ==== Sys2Proof/Word.lean ====
section
/-! DEFINITION. The word types of the KU2428: bytes, 32-bit words, and the 36-bit stream word of R21. -/
namespace Sys2Proof

/-- One byte (R11: multi-byte fields are little-endian). -/
abbrev Byte := BitVec 8

/-- A 32-bit word: a sample, a status word, a 32-bit parameter value. -/
abbrev Word := BitVec 32

/-- A parameter value is 32 or 64 bits wide (R9); the 32-bit ones stand zero-extended. -/
abbrev PVal := BitVec 64

/-- A count of ticks as the TICK register holds it (R6). -/
abbrev TickWord := BitVec 48

/-- The 36-bit stream word of R21: the sample and its four side flags. -/
structure StreamWord where
  sample : Word
  unsettled : Bool := false
  clipped : Bool := false
  substituted : Bool := false
  provisional : Bool := false
  deriving DecidableEq, Repr

/-- A clean zero sample. -/
def StreamWord.zero : StreamWord := { sample := 0#32 }

/-- The sample of a stream word as the two's-complement number of R7. -/
def StreamWord.int (w : StreamWord) : Int := w.sample.toInt

end Sys2Proof
end

