-- ==== Sys2Proof/Syntax.lean ====
section
/-! DEFINITION. The commands of the block: one constructor per row of spec/opcode_table.json. -/
namespace Sys2Proof

/-- A request packet as its binding presents it to the interpreter (R384, R388, R391): the port, on ports 2 and 3 the
origin, the tag, the revision, REMOTE, MORE (quiet execution), and the payload bytes. -/
structure Req where
  port : Fin 5
  origin : Fin 1024 := 0
  oport : Fin 8 := 0
  tag : Byte := 0
  rev : Fin 16 := 1
  remote : Bool := false
  quiet : Bool := false
  payload : List Byte := []
  deriving DecidableEq, Repr

/-- The quaternary digits that ADR0 to ADR4 show (R359), as a release or a rise of RESET_N finds them. -/
structure Straps where
  d0 : Fin 4 := 0
  d1 : Fin 4 := 0
  d2 : Fin 4 := 0
  d3 : Fin 4 := 0
  d4 : Fin 4 := 0
  deriving DecidableEq, Repr

/-- The bytes that lead into a read (R364, R375): on the two-wire bus those of a write that a repeated START ends, none where there is no such
write, and those from the START that begins the read; on the SPI they are sent in one transaction. -/
structure ReadHead where
  write : List Byte := []
  addr : List Byte
  deriving DecidableEq, Repr

/-- What a power-fail comparator sees (R338): AVDD5 or DVDD08 has stood at or below `mv` millivolts for `us` microseconds. -/
structure SupplyDip where
  dvdd : Bool
  mv : Fin 8192
  us : Fin 65536
  deriving DecidableEq, Repr

/-- What the pins of a port carried between two frame starts (R222, R227, R235): the root cycle of this frame start within
the tick in progress, the bit clocks counted since the frame start before it, whether the mid-frame edge of formats 0-2 stood
at half the frame, and the SW bits of each slot completed, slot 0 first. -/
structure PortWire where
  at_ : Fin 32768
  clocks : Nat
  midOk : Bool := true
  slots : List Nat
  deriving DecidableEq, Repr

/-- A control cell (R272); `good` says that its CCRC holds. -/
structure LinkCell where
  full : Bool := true
  first : Bool
  last : Bool
  bcast : Bool := false
  hopLocal : Bool := false
  src : Fin 1024
  dst : Fin 1024
  seq : Fin 256
  seg : Fin 20
  data : List Byte
  good : Bool := true
  deriving DecidableEq, Repr

/-- A link frame (R248-R251, R262): its header, its timing block, the slots whose VALID is 1 with value and flags, the slots
whose CROSSED is 1, and its cells; `good` says that CHECK holds, `markOk` that its mark stood where R248 asks, block 0 with its sync
header. Times are in 1/16 root period. -/
structure LinkFrame where
  label : BitVec 48
  origin : Fin 1024
  pace : Fin 1024
  l : Fin 256
  k : Fin 256
  gunMask : Fin 256 := 0
  gunDelta : Fin 256 := 0
  gunSrc : Fin 1024 := 0
  ring : Bool := false
  heal : Bool := false
  sender : Fin 1024 := 0
  sendPort : Fin 2 := 0
  hops : Fin 2048 := 2047
  revMax : Fin 16 := 2
  tTx : BitVec 32 := 0
  echoTx : BitVec 32 := 0
  echoRx : BitVec 32 := 0
  slots : List (Nat × StreamWord) := []
  crossed : List Nat := []
  cells : List LinkCell := []
  good : Bool := true
  markOk : Bool := true
  deriving DecidableEq, Repr

/-- What the partner of a hop sends in the hop-local exchange of link-up (R266-R268): port letter, REV_MAX, ID, serial number,
its pacesetter and whether that can be one, the system identity, whether a device of its segment is in Run, and the size, TICK
and IDs of its segment with the serial number of each, and the priority of its pacesetter. -/
structure HopInfo where
  letterB : Bool
  revMax : Fin 16
  id : Fin 1024
  serial : BitVec 64
  pace : Fin 1024
  paceSerial : BitVec 64
  pacePrio : Fin 256
  identity : BitVec 64
  live : Bool
  tick : BitVec 48
  members : List (Nat × BitVec 64) := []
  /-- The forwarding and hop delays of its segment from end to end in 0.01 ns: what L_MIN of the joined system needs. -/
  span : Nat := 0
  deriving DecidableEq, Repr

/-- An announcement (R253): ID, serial number, PACE_PRIORITY, mode, hop count, hop delays of LINKA and LINKB in 0.01 ns,
forwarding delay in 0.1 ns and the revision agreed on each hop; and, as this device finds them at the cell that brings it, the system that its
sender belongs to and the hops that it came over (log entry 65). -/
structure Announcement where
  id : Fin 1024
  serial : BitVec 64
  prio : Fin 256
  mode : Byte
  hops : Fin 2048
  delayA : BitVec 20
  delayB : BitVec 20
  fwd : BitVec 12
  revA : Fin 4
  revB : Fin 4
  identity : BitVec 64 := 0
  legs : Nat := 1
  deriving DecidableEq, Repr

/-- What a join brings (R29, R267): the TICK to load, and what a device behind the joining hop is told of the system that its segment
joins: the pacesetter's ID and the system identity (log entry 65). -/
structure JoinInfo where
  tick : BitVec 48
  system : Option (Fin 1024 × BitVec 64) := none
  deriving DecidableEq, Repr

/-- The commands. -/
inductive Instr where
  /-- TICK_BOUNDARY (R16): at each tick boundary input samples are latched, the results of the previous heat are released to sinks, and the next heat opens. -/
  | tickBoundary
  /-- PARAM_EVENT_APPLY (R126): A node parameter event or LFO phase event keyed to tick t is applied before any firing for tick t. -/
  | paramEventApply
  /-- NODE_FIRING_COMPLETE (R117): A firing completes on its runner, consuming input batons and placing output batons. -/
  | nodeFiringComplete (runner : Fin 16) (cycle : Nat)
  /-- SPRINT_SAMPLE (R86): each sprint cell executes its program once per sprint sample. `levels` are the quantiser outputs of the modulators, `pdm` the
  bits of the pins PDMD0-PDMD3, falling edge before rising (R343), and of the low-power modulator of AIN0. -/
  | sprintSample (levels : List (List Int)) (pdm : List Bool)
  /-- SPRINT_CROSSFADE_END (R102): after 256 sprint samples the outgoing datapath stops and the cell runs the incoming program alone. -/
  | sprintCrossfadeEnd (cell : Fin 16)
  /-- CONVERTER_BRIDGE_PARITY_ERROR (R14): A converter bridge word failing parity is replaced by the previous word and its sample is marked SUBSTITUTED. -/
  | converterBridgeParityError (ch : Fin 52) (core : Bool)
  /-- POWER_BRIDGE_PARITY_ERROR (R14): A power bridge word failing parity makes the stage hold its PWM edges for one period. -/
  | powerBridgeParityError (spk : Fin 4)
  /-- MODULATOR_OVERLOAD (R61): the overload detector flags a modulator sample, driving CLIPPED marking and the overload status bits. -/
  | modulatorOverload (ch : Fin 24) (limit : Bool)
  /-- MODULATOR_RESET_END (R49): at the end of a modulator reset the chain settle marking of UNSETTLED starts. -/
  | modulatorResetEnd (ch : Fin 24)
  /-- UNSETTLED_END (R70): the settle count after a disturbance runs out and samples stop carrying UNSETTLED. -/
  | unsettledEnd (ch : Fin 24)
  /-- QUICK_SETTLE_CONVERSION_END (R80): A 64-tick quick-settle conversion completes and its result is presented. -/
  | quickSettleConversionEnd (ch : Fin 24)
  /-- MEAS_CONVERSION_END (R81): A measurement-modulator conversion of one MS channel completes and updates its measurement word. -/
  | measConversionEnd (ms : Fin 14) (value : Int)
  /-- INPUT_GAIN_ZERO_CROSSING (R45): A pending input gain change applies at the channel's first zero crossing. -/
  | inputGainZeroCrossing (ch : Fin 16)
  /-- INPUT_GAIN_ZC_TIMEOUT (R45): with no zero crossing within the timeout, the input gain step is made as a step. -/
  | inputGainZcTimeout (ch : Fin 16)
  /-- INPUT_MUTE_CURVE_END (R44): an input mute or unmute curve reaches its end. -/
  | inputMuteCurveEnd (ch : Fin 16)
  /-- ANALOG_SETTLE_END (R47): the 5 ms analog network settle of a mode sequence ends. -/
  | analogSettleEnd (ch : Fin 16)
  /-- PHANTOM_FRAME (R52): A phantom shift frame is sent on a state change or every 960 ticks, and latched. -/
  | phantomFrame
  /-- PHANTOM_RAMP_END (R53): RAMP after an enable latch ends and the input unmutes if no other cause remains. -/
  | phantomRampEnd (ch : Fin 16)
  /-- PHANTOM_DISCHARGE_END (R54): DISCHARGE after a disable latch ends and the input unmutes or proceeds to a queued enable. -/
  | phantomDischargeEnd (ch : Fin 16)
  /-- INPUT_JACK_PIN_CHANGE (R56): A level change on JS4–JS11 restarts the debounce. -/
  | inputJackPinChange (pin : Fin 8) (level : Bool)
  /-- INPUT_JACK_DEBOUNCE_END (R57): A debounce ends on a new jack state, setting attention and starting removal mute or insertion wait. -/
  | inputJackDebounceEnd (pin : Fin 8)
  /-- INSERT_SETTLE_END (R57): INSERT_SETTLE after an insertion ends and the input unmutes over 10 ms. -/
  | insertSettleEnd (pin : Fin 8)
  /-- ROUTE_CROSSFADE_END (R175): A route contribution fade reaches its end weight. -/
  | routeCrossfadeEnd (index : Nat)
  /-- ROUTE_GAIN_ZERO_CROSSING (R180): A pending route or output gain change applies at the first zero crossing. -/
  | routeGainZeroCrossing (index : Nat)
  /-- ROUTE_GAIN_ZC_TIMEOUT (R180): with no zero crossing within ZC_TIMEOUT, the gain starts a 192-tick ramp. -/
  | routeGainZcTimeout (index : Nat)
  /-- GAIN_RAMP_END (R181): A 192-tick gain ramp ends and later changes wait for a zero crossing again. -/
  | gainRampEnd (index : Nat)
  /-- BUS_SCALE_RAMP_END (R179): A mix bus scale ramp after a change of inputs or LAW reaches its target. -/
  | busScaleRampEnd (index : Nat)
  /-- HPF_CROSSFADE_END (R185): the 96-tick input filter crossfade ends. -/
  | hpfCrossfadeEnd (index : Nat)
  /-- METER_UPDATE (R188): at each boundary where TICK is a multiple of 96, meter slots update and their mirror words are written. -/
  | meterUpdate
  /-- OUTPUT_CURVE_END (R194): an output mute or unmute curve reaches its end. -/
  | outputCurveEnd (o : Fin 28)
  /-- CM_BIAS_RAMP_END (R197): the line output common-mode bias ramp up or down ends. -/
  | cmBiasRampEnd
  /-- LINE_BUFFER_CONNECT (R197): after the bias ramp a line buffer is preset and connected, muted. -/
  | lineBufferConnect (l : Fin 16)
  /-- LINE_OFFSET_CAL_END (R196): the 5 ms offset calibration ends and preloads the servo. -/
  | lineOffsetCalEnd (l : Fin 16)
  /-- CHARGE_PUMP_READY (R199): HPVNEG reaches −4.5 V and the pump is ready. -/
  | chargePumpReady
  /-- CHARGE_PUMP_START_TIMEOUT (R199): the pump is not ready within 10 ms, so headphones are held under PROTECT with CP_FAULT. -/
  | chargePumpStartTimeout
  /-- CHARGE_PUMP_RETRY (R199): one second after a failed start the pump start is retried. -/
  | chargePumpRetry
  /-- CHARGE_PUMP_IDLE_STOP (R199): the pump stops after CP_IDLE with no headphone enabled and plugged. -/
  | chargePumpIdleStop
  /-- HP_OVERCURRENT (R200): A headphone leg in current limit for 1 ms mutes both channels under PROTECT. -/
  | hpOvercurrent (h : Fin 4)
  /-- HP_OC_REMEASURE (R200): one second after an overcurrent trip the jack is measured again or the channels unmute. -/
  | hpOcRemeasure (h : Fin 4)
  /-- HP_JACK_PIN_CHANGE (R201): A qualified level change on JS0–JS3 starts a debounce or a removal. -/
  | hpJackPinChange (pin : Fin 4) (level : Bool)
  /-- HP_JACK_DEBOUNCE_END (R202): the insertion debounce ends, sets PLUGGED and begins load measurement. -/
  | hpJackDebounceEnd (pin : Fin 4)
  /-- HP_TEST_CURRENT_UP (R202): the 100 µA test current is up and the leg measurement conversions begin. -/
  | hpTestCurrentUp (h : Fin 4)
  /-- HP_TEST_CURRENT_DOWN (R202): the test current ramps down, the legs are classified and the drivers reconnect. -/
  | hpTestCurrentDown (h : Fin 4)
  /-- HP_GLITCH_TIMEOUT (R204): A removal that lasts DEBOUNCE clears PLUGGED and the classification and is counted. -/
  | hpGlitchTimeout (pin : Fin 4)
  /-- SPK_PRECHARGE_END (R209): the bootstrap precharge ends and the stage starts switching in staggered order. -/
  | spkPrechargeEnd (spk : Fin 4)
  /-- SPK_OVERCURRENT (R210): A speaker overcurrent turns the stage off within one PWM period. -/
  | spkOvercurrent (spk : Fin 4)
  /-- SPK_DC_TRIP (R210): DC output above ±2 V for 200 ms mutes and stops the stage until the next ARM. -/
  | spkDcTrip (spk : Fin 4)
  /-- SPK_UNDERVOLTAGE (R210): VSPK below 7.0 V mutes and stops switching. -/
  | spkUndervoltage
  /-- SPK_OVERVOLTAGE (R210): VSPK above 19.5 V stops switching at once. -/
  | spkOvervoltage
  /-- SPK_THERMAL_TRIP (R210): power die temperature at 125 °C mutes and stops the stages. -/
  | spkThermalTrip
  /-- SPK_RETRY (R210): A protection recovery condition or RETRY time is met and the stage restarts under R209. -/
  | spkRetry (spk : Fin 4)
  /-- VSPK_DECOUPLING_CONNECT (R327): after VSPK has been above 7.5 V for 10 ms the internal decoupling switch closes. -/
  | vspkDecouplingConnect
  /-- MODE_MUTE_END (R212): the MODE_MUTE before leaving Run completes and the mode change is performed. -/
  | modeMuteEnd
  /-- LAST_LAP_SPEAKER_STOP (R213): at 1 ms after the warning every speaker stage stops. -/
  | lastLapSpeakerStop
  /-- LAST_LAP_CLEAR (R213): A warning clear for 100 ms clears LASTLAP and outputs unmute. -/
  | lastLapClear
  /-- GBY_HEALTH_LOSS (R217): A guard pin stops being healthy and pre-mutes its guarded outputs. -/
  | gbyHealthLoss (g : Fin 4)
  /-- GBY_PREMUTE_END (R217): the 2 ms guard pre-mute ends and the pin goes low. -/
  | gbyPremuteEnd (g : Fin 4)
  /-- GBY_RESTORE (R216): A pin healthy for RESTORE, or at ARM, goes to the processed state. -/
  | gbyRestore (g : Fin 4)
  /-- GBY_SETTLE_END (R216): SETTLE after the pin goes high ends and the guarded outputs unmute. -/
  | gbySettleEnd (g : Fin 4)
  /-- PORT_FRAME_START (R227): A frame start on a port restarts the slot bit-clock count. -/
  | portFrameStart (p : Fin 6) (frame : PortWire)
  /-- PORT_EXCHANGE (R230): at P_j a synchronous port exchanges one exchange of samples with the core lane. -/
  | portExchange (p : Fin 6)
  /-- PORT_STOPPED (R234): no valid frame for 256 ticks puts a started port in STOPPED. -/
  | portStopped (p : Fin 6)
  /-- RATE_REPORT (R235): every 100 ms the port rate, deviation and class are reported. -/
  | rateReport
  /-- ASRC_LOCK (R233): the ASRC estimator locks and converted samples stop carrying UNSETTLED. -/
  | asrcLock (p : Fin 6)
  /-- GUN_FIRE (R239): at tick G the starting gun starts or restarts the members of the named groups. -/
  | gunFire
  /-- START_N_EDGE (R238): A qualified falling edge on START_N schedules a gun two boundaries later. -/
  | startNEdge
  /-- MASK_TAKE_EFFECT (R242): A staged slot mask takes effect at the first qualifying frame start. -/
  | maskTakeEffect (p : Fin 6)
  /-- LINK_SIGNAL_DETECT (R266): A partner signal is detected on a link port and training begins. -/
  | linkSignalDetect (x : Fin 2) (present : Bool)
  /-- LINK_FRAME_LOCK (R248): eight consecutive valid marks give frame lock on a receiver. -/
  | linkFrameLock (x : Fin 2)
  /-- LINK_TRAINING_DONE (R267): after the delay measurements and hop-local exchange the hop is judged miswired, blocked, joined or rejoined. -/
  | linkTrainingDone (x : Fin 2) (info : HopInfo)
  /-- LINK_JOIN_ALIGN (R266): A joiner's DPLL acquires the link, steps phase and loads TICK, and the hop comes UP. -/
  | linkJoinAlign (join : JoinInfo)
  /-- LINK_FRAME_RECEIVED (R249): A link frame is received and forwarded, with slots, flags, cells and timing rewritten. -/
  | linkFrameReceived (x : Fin 2) (frame : LinkFrame) (time : Nat)
  /-- LINK_FRAME_LAUNCH (R252): an origin launches frame m at boundary m+1+S. -/
  | linkFrameLaunch (x : Fin 2)
  /-- LINK_RETIME (R258): the pacesetter sends frame m carrying the content received as m−K and marks CROSSED. -/
  | linkRetime (x : Fin 2)
  /-- LINK_BREAK (R269): loss of frame lock on an UP hop makes the next device an origin and heals within 2 ticks. -/
  | linkBreak (x : Fin 2)
  /-- LINK_ANNOUNCEMENT (R253): every 100 ms the device broadcasts an announcement cell in both directions. -/
  | linkAnnouncement
  /-- ANNOUNCEMENT_RECEIVED (R253): an announcement updates the topology table and may mark an ID conflict. -/
  | announcementReceived (x : Fin 2) (ann : Announcement)
  /-- ANNOUNCEMENT_DROP (R253): A topology entry that misses three announcements is dropped. -/
  | announcementDrop (id : Fin 1024)
  /-- RING_FORMATION (R256): from label C the former origins forward and the pacesetter retimes the ring. -/
  | ringFormation
  /-- LINK_REPAIR_RETURN (R271): after a repair the origin returns to forwarding at the announced label. -/
  | linkRepairReturn (x : Fin 2)
  /-- LINK_ALIGNED_CHANGE (R260): the boundary error holds within or exceeds its window for the counted ticks, setting (true) or clearing ALIGNED. -/
  | linkAlignedChange (gained : Bool)
  /-- LINK_OFFSET_CHANGE (R264): at the named tick every receive stream repeats or skips samples for the new L. -/
  | linkOffsetChange
  /-- CONTROL_CELL_RECEIVED (R272): A control cell addressed to the device is consumed or a BCAST cell is taken. -/
  | controlCellReceived (x : Fin 2) (cell : LinkCell)
  /-- REMOTE_PACKET_REASSEMBLED (R273): the target reassembles a remote packet and executes it on port 2 or 3. -/
  | remotePacketReassembled (x : Fin 2) (src : Fin 1024) (seq : Fin 256)
  /-- REMOTE_REPLY_RECEIVED (R273): A remote reply returns and is placed in the originating port's reply FIFO. -/
  | remoteReplyReceived (x : Fin 2) (src : Fin 1024) (seq : Fin 256)
  /-- REMOTE_TIMEOUT (R273): no reply within REMOTE_TIMEOUT is answered REMOTE_TIMEOUT. -/
  | remoteTimeout (seq : Fin 256)
  /-- REMOTE_FORWARD (R390): A request for another device is stamped with ORIGIN and carried over the link. -/
  | remoteForward (q : Req) (target : Fin 1024) (opcode : BitVec 15)
  /-- XO_LOSS (R281): no XO edge within 100 ns clears XO_OK and LOCK and holds the VCO tuning. -/
  | xoLoss
  /-- XO_RECOVER (R281): after 1,024 good XO cycles XO_OK sets and the PLL reacquires. -/
  | xoRecover
  /-- ANALOG_LOCK_SET (R282): the master PLL's analog loop locks. -/
  | analogLockSet
  /-- LOCK_DECLARE (R283): LOCK is declared after LOCK_COUNT comparisons within the lock window. -/
  | lockDeclare (errs : List Int)
  /-- LOCK_LOSS (R283): LOCK is lost when ANALOG_LOCK clears or on four errors beyond the unlock window. -/
  | lockLoss (errs : List Int)
  /-- STEER_SLEW_START (R287): A steering slew named for a tick begins at that tick. -/
  | steerSlewStart
  /-- STEER_SLEW_END (R287): s_now reaches s and STEER_SLEWING clears. -/
  | steerSlewEnd
  /-- CLOCK_OUTPUT_GATE (R293): A gating condition stops a clock output after its current cycle. -/
  | clockOutputGate (o : Fin 5)
  /-- CLOCK_OUTPUT_RESUME (R293): when every gating condition clears the output resumes at the next aligned instant. -/
  | clockOutputResume (o : Fin 5)
  /-- REF_BEAT_MISSED (R302): A reference beat is missed, counting toward disqualification. -/
  | refBeatMissed (src : Fin 8)
  /-- REF_SIGNAL_SEEN (R303): A beat on a source with no signal moves it to QUALIFYING. -/
  | refSignalSeen (src : Fin 8)
  /-- REF_FREQ_REPORT (R302): every 100 ms each monitored source reports offset and drift and may be disqualified. -/
  | refFreqReport (src : Fin 10) (ppb : Int)
  /-- ACCEPT_TIME_END (R303): ACCEPT_TIME passes within limits and the source becomes QUALIFIED. -/
  | acceptTimeEnd (src : Fin 8)
  /-- WTR_END (R304): A source qualified for WTR becomes restorable. -/
  | wtrEnd (src : Fin 8)
  /-- HANDOFF_MEASURE_DONE (R307): the eighth incoming beat completes the handoff offset measurement. -/
  | handoffMeasureDone (beats : List Int) (pulse : Int)
  /-- HANDOFF_CAPTURE (R307): at the next boundary the offset is absorbed in the build-out and the incoming source is tracked. -/
  | handoffCapture
  /-- HOLDOVER_HISTORY_RECORD (R313): each second while tracking with LOCK the mean ΔD is recorded in the history ring. -/
  | holdoverHistoryRecord
  /-- HOLDOVER_EXPIRE (R314): the error estimate or time exceeds its limit and the DPLL enters HOLDOVER_EXPIRED. -/
  | holdoverExpire
  /-- FORCE_ACT (R315): A REF_FORCE action takes effect at its tick of effect. -/
  | forceAct
  /-- SUPPLY_POR_ASSERT (R322): A supply falls below its POR assert level and causes the reset or effect of its mode. -/
  | supplyPorAssert (supply : Fin 8)
  /-- SUPPLY_POR_RELEASE (R320): the last required supply becomes valid and the reset is released. -/
  | supplyPorRelease (supply : Fin 8) (straps : Straps)
  /-- RESET_N_LOW (R323): RESET_N low for at least 1 µs resets the whole device. -/
  | resetNLow
  /-- RESET_N_RISE (R323): RESET_N rises with supplies valid and the device boots. -/
  | resetNRise (straps : Straps)
  /-- FIRMWARE_VERIFY (R331): the boot ROM verifies the active bank, falls back, or enters RECOVERY. -/
  | firmwareVerify
  /-- BOOT_IDLE_REACHED (R330): the firmware starts, loads defaults and the device reaches Idle. -/
  | bootIdleReached
  /-- AUTORUN (R332): after boot or wake, slot 0 is recalled and armed over port 4. -/
  | autorun
  /-- BIAS_RAMP_DOWN_END (R333): on entry to Rest or Watch, after CM_RAMP clock outputs are gated and the log is committed. -/
  | biasRampDownEnd
  /-- SESSIONS_CLOSE_AT_ENTRY (R333): sessions close, claims are released and ATTN_N is released during entry. -/
  | sessionsCloseAtEntry
  /-- ROOT_STOP (R333): the root stops, TICK is held and the device is in Rest or Watch. -/
  | rootStop
  /-- WAKE_N (R336): WAKE_N low for 100 µs starts the exit from Rest or Watch. -/
  | wakeN
  /-- JACK_WAKE (R336): A sampled insertion on an enabled JS0–JS3 pin starts the exit. -/
  | jackWake (pin : Fin 4) (level : Bool)
  /-- REST_TIMER (R336): the Rest timer expires and starts the exit. -/
  | restTimer
  /-- BUS_WAKE (R336): bus activity in Watch starts the exit without acknowledging the byte. -/
  | busWake
  /-- EXIT_COMPLETE (R337): an exit from Watch or Rest reaches Idle and sets the wake attention. -/
  | exitComplete
  /-- POWER_FAIL_WARNING (R338): AVDD5 or DVDD08 below threshold for FILTER raises the warning. -/
  | powerFailWarning (dip : SupplyDip)
  /-- POWER_FAIL_CLEAR (R338): both supplies above threshold plus margin for FILTER clear the warning. -/
  | powerFailClear
  /-- MRAM_WRITE_RESUME (R339): MRAM writes resume after the warning has been clear for 100 ms. -/
  | mramWriteResume
  /-- PDM_CLOCK_SWITCH (R345): A PDM clock changes source or rate without a runt pulse. -/
  | pdmClockSwitch (c : Fin 2)
  /-- PDM_CLK_SETTLE_END (R345): CLK_SETTLE after a rate change passes and the full-quality chain starts. -/
  | pdmClkSettleEnd (c : Fin 2)
  /-- WAKE_FRAME_END (R349): stage 1 completes a 256-sample frame, updates the floor and may declare an onset. -/
  | wakeFrameEnd (bits : List (Bool × Bool))
  /-- STAGE2_MATCH (R350): stage 2 finds a template path within THRESHOLD and declares a match. -/
  | stage2Match
  /-- STAGE2_END (R350): stage 2 ends after 128 frames or a quiet spell, counting a rejected onset. -/
  | stage2End
  /-- HANDOVER_START (R354): A handover named for a tick begins the wake stream at that tick. -/
  | handoverStart
  /-- HANDOVER_CAUGHT_UP (R354): the read position reaches WIDX − 8 and the stream moves to the live rate. -/
  | handoverCaughtUp
  /-- MAILBOX_WRITE (R363): data bytes written to the mailbox page enter the port's mailbox, or are not acknowledged. -/
  | mailboxWrite (twi : Bool) (head : Option (List Byte)) (bytes : List Byte)
  /-- REPLY_PAGE_READ (R364): A read of the reply page returns and removes the next reply byte. -/
  | replyPageRead (twi : Bool) (head : Option ReadHead) (len : Nat)
  /-- PACKET_FRAGMENT_DISCARD (R365): A transaction ending inside a packet discards the fragment and places a BAD_LENGTH reply. -/
  | packetFragmentDiscard (twi : Bool)
  /-- RSTART_AT_ACK (R367): A repeated START in place of an acknowledge discards the byte and any fragment. -/
  | rstartAtAck
  /-- BUS_ERROR (R368): A START or STOP within a byte abandons the transaction and sets BUS_ERROR. -/
  | busError
  /-- SCL_TIMEOUT (R369): SCL low for 30 ms releases SDA and resets the bus state. -/
  | sclTimeout (held : Bool)
  /-- SDA_TIMEOUT (R369): SDA low for 30 ms with SCL high releases SDA and resets the bus state. -/
  | sdaTimeout (held : Bool)
  /-- SPI_FRAME_ERROR (R377): A bad instruction or a partial byte at SPI_CSN rise sets SPI_FRAME_ERR. -/
  | spiFrameError
  /-- INBAND_PULSE (R380): A due in-band pulse is sent after 50 µs of idle bus. -/
  | inbandPulse
  /-- INBAND_PULSE_ABORT (R380): SCL falling during a pulse releases SDA and keeps the pulse due. -/
  | inbandPulseAbort
  /-- SESSION_IDLE_TIMEOUT (R394): A session with no packet for IDLE_TIMEOUT ends and its claims are released. -/
  | sessionIdleTimeout (number : BitVec 16)
  /-- CHALLENGE_EXPIRE (R392): A pending session challenge lapses after 10 s. -/
  | challengeExpire (port : Fin 5)
  /-- LEDGER_MIRROR (R408): A ledger record is mirrored to the MRAM ring within 1 s. -/
  | ledgerMirror
  /-- HELLO (R389): agrees the protocol revision on the port. -/
  | hello (q : Req)
  /-- SESSION_OPEN (R392): starts a session challenge, or opens at once when unprovisioned. -/
  | sessionOpen (q : Req)
  /-- SESSION_PROVE (R392): checks the host proof and opens the session or counts a failure. -/
  | sessionProve (q : Req)
  /-- SESSION_CLOSE (R394): ends the session on the binding and releases its claims. -/
  | sessionClose (q : Req)
  /-- KEY_CHANGE (R395): unwraps and stores a new device key, increments KEY_GEN and ends other sessions. -/
  | keyChange (q : Req)
  /-- IDENTITY (R397): returns identity, serial, firmware versions and KEY_GEN. -/
  | identity (q : Req)
  /-- PARAM_READ (R433): returns a parameter value from the active or shadow bank. -/
  | paramRead (q : Req)
  /-- PARAM_WRITE (R437): writes one parameter under its class after range and cross-field judgement. -/
  | paramWrite (q : Req)
  /-- PARAM_WRITE_BLOCK (R439): writes a run of consecutive parameters atomically. -/
  | paramWriteBlock (q : Req)
  /-- CK_XO_FREQ_WRITE (R280): A write of CK_XO_FREQ in Idle stores it in MRAM, drops LOCK and relocks on the new word. -/
  | ckXoFreqWrite (q : Req)
  /-- CK_STEER_WRITE (R286): A write of CK_STEER sets the steering target, clamped, and starts the slew. -/
  | ckSteerWrite (q : Req)
  /-- CV_ORDER_WRITE (R72): A write of CV_IN_ORDER or CV_OUT_ORDER clears that channel's chain state. -/
  | cvOrderWrite (q : Req)
  /-- SP_ORDER_WRITE (R90): A write of SP_ORDER clears all sprint-branch CIC state. -/
  | spOrderWrite (q : Req)
  /-- PORT_MASK_WRITE (R242): A slot mask write is staged for the next qualifying frame start. -/
  | portMaskWrite (q : Req)
  /-- MT_CFG_WRITE (R186): A meter slot configuration write takes effect at the next boundary, resetting the slot if STREAM or ENABLE changed. -/
  | mtCfgWrite (q : Req)
  /-- GR_RUNAHEAD_WRITE (R157): A write of LIMIT takes effect at once and may cause a false start. -/
  | grRunaheadWrite (q : Req)
  /-- GR_TRACE_WRITE (R158): setting ENABLE empties the trace buffer, and clearing it stops recording. -/
  | grTraceWrite (q : Req)
  /-- REF_PARAM_WRITE (R316): A reference block write restarts qualification of changed sources. -/
  | refParamWrite (q : Req)
  /-- WAKE_PARAM_WRITE (R348): A write of any WAKE parameter restarts listening. -/
  | wakeParamWrite (q : Req)
  /-- DEVICE_RECORD_PARAM_WRITE (R440): A write of DEV_BOOT or BUS_ADDR is an MRAM write to the device record. -/
  | deviceRecordParamWrite (q : Req)
  /-- BANK_SWAP (R413): accepts a swap, freezes the shadow bank and starts the consistency check. -/
  | bankSwap (q : Req)
  /-- BANK_SWAP_CHECK_DONE (R413): the swap check completes and arms the swap or refuses it. -/
  | bankSwapCheckDone
  /-- BANK_SWAP_ACT (R413): at tick T the hardware exchanges the active and shadow banks. -/
  | bankSwapAct
  /-- REFILL_END (R413): the copy engine finishes refilling the shadow bank from the active bank. -/
  | refillEnd
  /-- NODE_PARAM_WRITE (R155): writes node parameters to the shadow bank or places a timed event. -/
  | nodeParamWrite (q : Req)
  /-- NODE_PARAM_READ (R155): reads node parameter slots from either bank. -/
  | nodeParamRead (q : Req)
  /-- SPRINT_WRITE (R99): writes bytes of a cell image in the shadow bank. -/
  | sprintWrite (q : Req)
  /-- SPRINT_READ (R99): reads bytes of a cell image from either bank. -/
  | sprintRead (q : Req)
  /-- ARM (R417): runs the full check in Idle and arms entry to Run or refuses. -/
  | arm (q : Req)
  /-- ARM_TICK (R417): at the ARM tick the banks are exchanged, the device enters Run and the enable sequences start. -/
  | armTick
  /-- DISARM (R417): leaves Run for Idle after MODE_MUTE without changing a bank. -/
  | disarm (q : Req)
  /-- SET_MODE (R328): requests Idle, Watch or Rest, starting the entry sequence. -/
  | setMode (q : Req)
  /-- START_GROUP (R237): schedules a starting gun for a mask of groups at tick G. -/
  | startGroup (q : Req)
  /-- GRAPH_LOAD (R128): writes a piece of a graph image into the shadow graph. -/
  | graphLoad (q : Req)
  /-- GRAPH_CHECK (R137): runs the graph part of the check on the shadow graph without swapping. -/
  | graphCheck (q : Req)
  /-- RUNAHEAD_SET (R157): sets the run-ahead LIMIT. -/
  | runaheadSet (q : Req)
  /-- TRACE_READ (R158): reads debug trace records. -/
  | traceRead (q : Req)
  /-- STATUS_READ (R400): returns status words of one group latched at one boundary. -/
  | statusRead (q : Req)
  /-- STICKY_CLEAR (R461): clears the sticky fields of one or every status group. -/
  | stickyClear (q : Req)
  /-- ATTN_ACK (R378): clears device-wide attention cause bits. -/
  | attnAck (q : Req)
  /-- CLAIM (R405): claims a mask of groups for the session, all or nothing. -/
  | claim (q : Req)
  /-- RELEASE (R405): releases claimed groups. -/
  | release (q : Req)
  /-- CONFIG_SAVE (R424): snapshots the configuration and starts writing it to a store slot. -/
  | configSave (q : Req)
  /-- CONFIG_SAVE_COMPLETE (R424): the slot image, CRC, marker and directory word are written and the save completes. -/
  | configSaveComplete
  /-- CONFIG_RECALL (R425): validates a slot, loads defaults, applies the slot, checks, and optionally arms. -/
  | configRecall (q : Req)
  /-- FW_STAGE (R427): writes a piece of a firmware image into the inactive bank. -/
  | fwStage (q : Req)
  /-- FW_COMMIT (R428): verifies the staged image and starts its commit. -/
  | fwCommit (q : Req)
  /-- FW_COMMIT_VERIFY_DONE (R428): verification ends, the active-bank word is written and the control processor restarts into the new bank. -/
  | fwCommitVerifyDone
  /-- LEDGER_READ (R408): reads change ledger records from a sequence number. -/
  | ledgerRead (q : Req)
  /-- LIFELOG_READ (R459): returns bytes of the marathon log image as of the request tick. -/
  | lifelogRead (q : Req)
  /-- REF_FORCE (R315): forces, releases, holds over or free-runs the reference selection. -/
  | refForce (q : Req)
  /-- STEER (R287): sets numeric steering, optionally from a named tick. -/
  | steer (q : Req)
  /-- LINK_DISCOVER (R273): reads the link topology table. -/
  | linkDiscover (q : Req)
  /-- LINK_ASSIGN_ID (R273): assigns a new link ID to the device with a named serial number. -/
  | linkAssignId (q : Req)
  /-- LINK_SET_OFFSET (R264): sets the system presentation offset L at a named tick on the pacesetter. -/
  | linkSetOffset (q : Req)
  /-- LINK_SLOT_WRITE (R261): writes bytes of the link slot image in the shadow bank. -/
  | linkSlotWrite (q : Req)
  /-- LINK_SLOT_READ (R261): reads bytes of the link slot image from either bank. -/
  | linkSlotRead (q : Req)
  /-- WAKE_TEMPLATE_LOAD (R351): writes a piece of a wake template slot. -/
  | wakeTemplateLoad (q : Req)
  /-- HISTORY_HANDOVER (R354): starts or stops the wake history stream. -/
  | historyHandover (q : Req)
  /-- CONTROL_RESTART (R38): A watchdog expiry, firmware fault or commit restarts the control processor while the audio path continues. -/
  | controlRestart
  /-- RESTART_COMPLETE (R38): the restart resumes command service, sets attention bit 13 and reports the armed swap. -/
  | restartComplete
  /-- WATCHDOG_EXPIRY (R453): the watchdog expires 100 ms after last service and restarts the control processor. -/
  | watchdogExpiry
  /-- SCRUB_VISIT (R447): A scrub visit reads, corrects and writes back a memory word. -/
  | scrubVisit (mem : Nat) (runner : Nat) (word : Nat) (found : Fin 4) (late : Bool)
  /-- BANK_WORD_RESTORE (R451): A failing bank word is restored by the copy engine within 4 ticks. -/
  | bankWordRestore (active : Bool) (kind : Nat) (index : Nat)
  /-- ERROR_INJECT (R446): at the boundary after a DG_INJECT write the named bits of the named word are inverted. -/
  | errorInject
  /-- HISTOGRAM_SAMPLE (R454): once per second the measurements increment histogram bins and count excursions. -/
  | histogramSample
  /-- LOG_COMMIT (R458): the marathon log is committed to the older image every 10 minutes or at entry or after a restart. -/
  | logCommit
  /-- JTAG_INSTRUCTION (R462): A new JTAG instruction is loaded and selects its register. -/
  | jtagInstruction (code : Nat)
  /-- TAP_RESET (R462): five TCK cycles with TMS high reset the TAP and select IDCODE. -/
  | tapReset
  /-- CONSISTENCY_CHECK_DONE (R417): the consistency check started by ARM, CONFIG_RECALL or GRAPH_CHECK completes, placing its completion reply and arming or refusing with the refusal record. -/
  | consistencyCheckDone
  /-- HP_DRIVER_CONNECT (R200): 0.5 ms after the charge pump is ready, the headphone driver is preset to HPnG and connected, and DISABLED clears when no jack classification is awaited. -/
  | hpDriverConnect (h : Fin 4)
  /-- LOCKED_OUT_END (R393): the lockout delay of min(2^(f−5), 3,600) s after the latest failed proof runs out, and LOCKED_OUT in SESSION_STATE returns to 0. -/
  | lockedOutEnd (port : Fin 5)
  /-- FRAME_LOCK_LOSS (R248): A link receiver on a hop that is not UP (TRAINING, BLOCKED or ALIGNING) loses frame lock after two consecutive missing or displaced marks, and the port leaves its state. -/
  | frameLockLoss (x : Fin 2)
  /-- ATTN_CAUSE_READ (R380): A two-wire read of ATTN_CAUSE in the register window stops further REPEAT in-band pulses for the causes then set. -/
  | attnCauseRead (twi : Bool)
  deriving DecidableEq, Repr

end Sys2Proof
end

