-- ==== Sys2Proof/Decode.lean ====
section
/-! DEFINITION. Words that spell a command. The opcode table gives no row any bits: a command comes over a bus, on a pin or at a time,
so no word spells one. -/
namespace Sys2Proof

/-- The command that a word spells by the table's bits: none, since no row gives bits (DEDUCED, log entry 13). -/
def decodeTableWord (_nbits _w : Nat) : Option Instr := none

end Sys2Proof
end

