-- ==== Sys2Proof/Config.lean ====
section
/-! DEFINITION. What one part of the KU2428 fixes and the manual does not state, and the free values: constants without a
body, so that no proof can see them. They are DESIGN CHOICE, log entries 8 to 12, 22, 52 to 55, 58, 63 and 66: the manual states no value, and
a claim holds for every one. -/
namespace Sys2Proof.Config

/-- The serial number of this part (R253, R392). -/
opaque serial : BitVec 64

/-- The n-th nonce of the random generator (R392): 16 bytes. -/
opaque nonce : Nat → BitVec 128

/-- The n-th draw for a session number (R391). -/
opaque sessionDraw : Nat → BitVec 16

/-- Does a signature verify under the key in ROM (R331, R429)? The digest, and the 64 bytes r and s. -/
opaque signatureOk : List Byte → List Byte → Bool

/-- Where the manual gives a real number and no rounding, the n-th result rounds up from the floor when this says so. -/
opaque roundUp : Nat → Bool

/-- Where the manual defines a real number by a formula and gives no rounding, the result of a law with its operands rounds up from the
floor when this says so: 0 raised cosine, 1 equal power, 2 trim, 3 dB to linear, 4 linear to dB, 5 the SVF's
frequency, 6 a band level of the wake detector. -/
opaque realUp : Nat → List Int → Bool

/-- The level of a detector state of zero (R165), an amplitude (false) or a mean square (true): the logarithm of 0. -/
opaque levelOfZero : Bool → Int

/-- One output of a stage D1-D5 of a decimation chain (R65, R107): linear phase, the stage 1-5, the CIC whose droop D1 corrects (its
order, or 0 for a tap's), and the inputs its taps span, newest first. -/
opaque stage : Bool → Nat → Nat → List Int → Int

/-- One output of a stage I5-I1 of an interpolation chain (R73): linear phase, the stage 0 (I5) to 4 (I1), the order of the first CIC,
the output 0 or 1 of the two for an input, and the inputs spanned, newest first. -/
opaque upStage : Bool → Nat → Nat → Nat → List Int → Int

/-- The n-th step, −1 to 1 levels, of a DAC modulator's quantiser from the nearest level (R60, R62). -/
opaque dacStep : Nat → Nat

/-- The droop compensators: 9 taps of the PDM chain (R83), 11 taps of the wake chain (R347), samples newest first. -/
opaque pdmDroop : List Int → Int
opaque wakeDroop : List Int → Int

/-- The gain of the fault fade at its sample j of 32, in units of 2^-32 (R109). -/
opaque faultFade : Nat → Nat

/-- The gain of an output of PAN (R167), in units of 2^-32: the law, the second output, and the position. -/
opaque panGain : Nat → Bool → Int → Nat

/-- The integrator coefficient of the state variable filter (R162), in units of 2^-32, for a frequency in 2^-32 cycle per tick. -/
opaque svfCoef : Nat → Nat

/-- Where in its cycle a wave begins (R164), in 2^-32 cycle: of an LFO (true) or an OSC, by shape; and whether an OSC's sawtooth
falls. -/
opaque waveStart : Bool → Nat → Nat
opaque sawFalls : Bool

/-- The two-sample polynomial band-limit correction of an OSC (R164) on the sample before (false) or after (true) a step: how far
the sample lies from the step, and the increment. -/
opaque bandLimit : Bool → Nat → Nat → Int

/-- The reduction of an EXPANDER below its threshold, in 2^-16 of 0.01 dB (R165): how far below, and the ratio. -/
opaque expand : Int → Nat → Int

/-- The fixed half-band filters of an oversampled WAVESHAPER (R166): sample k of the 2 or 4 interpolated for a tick from the driven
inputs, newest first; and the decimated output from the shaped samples, newest first. Their delay together is 1 tick. -/
opaque shapeUp : Nat → Nat → List Int → Int
opaque shapeDown : Nat → List Int → Int

/-- The halfband stages of R229, samples newest first: in and out at SYNC 1 (in: the phase 0 or 1), in and out at SYNC 3 (out:
the frame 0 or 1 of the exchange). -/
opaque halfIn1 : Nat → List Int → Int
opaque halfOut1 : List Int → Int
opaque halfIn3 : List Int → Int
opaque halfOut3 : Nat → List Int → Int

/-- The n-th sample of the ASRC filter under ASRC_CFG at a port rate in 1/1,024 Hz, at a position in root cycles after the newest sample of its
window, newest first (R232). -/
opaque asrc : Nat → Nat → Nat → Int → List Int → Int

/-- Whether an ASRC ring ran empty (1) or full (2) at the n-th jump of a rate that the estimator did not follow (R233). -/
opaque asrcSlip : Nat → Nat

/-- How long the n-th frame took from a receive pair to the transmit pair, and from the boundary to the launch of the n-th frame, in
1/16 root periods (R252: within 80 ns and within 20 ns). -/
opaque forwardTime : Nat → Nat
opaque launchTime : Nat → Nat

/-- What the type-2 loop of the DPLL (R305, R311) adds to its integrator (true) or gives beside it (false), in units of 2^-48 of the word W: by
its bandwidth in mHz, its damping ζ in 0.001, and the n-th phase error that its detector measures. -/
opaque loopTerm : Bool → Nat → Nat → Nat → Int

/-- The wake stream between two samples of the ring (R354): the sixth 1-5, and the ring samples the filter spans, newest first. -/
opaque wakeInterp : Nat → List Int → Int

/-- The energy over a frame of band b of the wake detector (R350), whose band-pass has no coefficients in the manual: the samples from the
onset start to the end of the frame, newest first. -/
opaque bandEnergy : Nat → List Int → Nat

/-- Whether a warping path counts the pair of frames that it steps over (R350), in a step of two frames of the episode (true) or of the
template (false). -/
opaque warpCounts : Bool → Bool

/-- The analog offset of a line output in 2^-31 level, before and after its calibration (R196: then within 0.1 mV). -/
opaque lineOffset : Bool → Nat → Int

/-- The n-th free value. -/
opaque freeInt : Nat → Int

end Sys2Proof.Config
end

