-- ==== Sys2Proof/Machine/Arith.lean ====
section
/-! DEFINITION. Bit fields, byte order, saturation and rounding, each once. -/
namespace Sys2Proof.Machine

/-- The field [lo + n - 1 : lo] of a number (R10). -/
def field (v lo n : Nat) : Nat := (v >>> lo) % 2 ^ n

/-- Bit k of a number. -/
def bit (v k : Nat) : Bool := v.testBit k

/-- The signed reading of an n-bit field. -/
def signed (v n : Nat) : Int := if v % 2 ^ n < 2 ^ (n - 1) then (v % 2 ^ n : Int) else (v % 2 ^ n : Int) - 2 ^ n

/-- Sign-extended field [lo + n - 1 : lo]. -/
def sfield (v lo n : Nat) : Int := signed (field v lo n) n

/-- Limit an integer to the range of an n-bit two's-complement value. -/
def sat (n : Nat) (x : Int) : Int := max (-(2 : Int) ^ (n - 1)) (min (2 ^ (n - 1) - 1) x)

/-- Did the limit act? -/
def saturates (n : Nat) (x : Int) : Bool := decide (sat n x ≠ x)

/-- sat32 of R19 and R23: the range −2^31 to 2^31 − 1. -/
def sat32 (x : Int) : Int := sat 32 x

/-- The 32-bit word of an integer already in range. -/
def word (x : Int) : Word := BitVec.ofInt 32 x

/-- Wrap an integer to an n-bit two's-complement value (the CIC registers of R64 wrap). -/
def wrap (n : Nat) (x : Int) : Int := (BitVec.ofInt n x).toInt

/-- 'x >> s' of R92: add 2^(s-1), then an arithmetic shift right. -/
def roundShift (x : Int) (s : Nat) : Int := if s = 0 then x else (x + 2 ^ (s - 1)) / 2 ^ s

/-- Division rounded to the nearest, halves away from zero. -/
def roundDiv (a : Int) (b : Nat) : Int :=
  if b = 0 then 0 else if 0 ≤ a then (2 * a + b) / (2 * b) else -((2 * -a + b) / (2 * b))

/-- Ceiling division of naturals. -/
def ceilDiv (a b : Nat) : Nat := if b = 0 then 0 else (a + b - 1) / b

/-- Add and saturate an unsigned counter at its maximum (the sticky counters: 16 bits in status, 32 in the log). -/
def satAdd (bits a b : Nat) : Nat := min (a + b) (2 ^ bits - 1)

/-- n little-endian bytes of a number (R11). -/
def leBytes : Nat → Nat → List Byte
  | 0, _ => []
  | n + 1, v => BitVec.ofNat 8 v :: leBytes n (v / 256)

/-- The number that little-endian bytes spell (R11). -/
def leNat : List Byte → Nat
  | [] => 0
  | b :: bs => b.toNat + 256 * leNat bs

/-- The number that big-endian bytes spell (a byte string of a standard, R11). -/
def beNat (bs : List Byte) : Nat := leNat bs.reverse

/-- n big-endian bytes of a number. -/
def beBytes (n v : Nat) : List Byte := (leBytes n v).reverse

/-- n bytes from an offset; bytes past the end read 0. -/
def slice (bs : List Byte) (ofs n : Nat) : List Byte := (List.range n).map (fun i => bs.getD (ofs + i) 0)

/-- The little-endian number of n bytes at an offset. -/
def le (bs : List Byte) (ofs n : Nat) : Nat := leNat (slice bs ofs n)

/-- The output of a fixed linear filter without stated coefficients: a constant of Config applied to the inputs its taps span; inputs that
are all 0 give 0, as they do at any coefficients (R44). -/
def fir (h : List Int) (y : Int) : Int := if h.all (fun x => decide (x = 0)) then 0 else y

/-- A quotient without a stated rounding: the floor, or one more when it is not whole (Config.roundUp at a free index). -/
def looseQuot (free : Nat) (num : Int) (den : Nat) : Int :=
  num / den + (if num % den = 0 then 0 else if Config.roundUp free then 1 else 0)

/-- One when true. -/
def b2n (b : Bool) : Nat := if b then 1 else 0

/-- A field value placed at a bit position. -/
def at_ (v lo : Nat) : Nat := v * 2 ^ lo

end Sys2Proof.Machine
end

