-- ==== Sys2Proof/Machine/Reals.lean ====
section
/-! DEFINITION. The real numbers of the curves, levels and gains that the manual defines by a formula and gives no rounding: a
value in units of 2^-32, computed to about 2^-88, whose last unit is rounded down or up as a free choice of the operands (log
entry 52). A value that lies on the grid has no choice. -/
namespace Sys2Proof.Machine

/-- Unity gain, weight and scale: 2^32. -/
def unity : Nat := 4294967296

/-- An effective gain g / one is above the off level of R22, −120.00 dB: 10^-6. -/
def heard (g : Int) (one : Nat) : Bool := decide (one < 10 ^ 6 * g.natAbs)

/-- One in the units of 2^-96 in which the formulas are evaluated; π/2, ln 2, log2 10 and log10 2 in them. -/
def fine : Nat := 2 ^ 96
def halfPi : Nat := 124451306656115542615260972311
def lnTwo : Nat := 54916777467707473351141471128
def logTen : Nat := 263190258962436467100402834429
def logTwo : Nat := 23850053418134191015272426710

/-- A value in units of 2^-96 to units of 2^-32: the nearest grid value when it lies there, else down or up as Config.realUp says
for the law and its operands. -/
def onGrid (law : Nat) (operands : List Int) (v : Int) : Int :=
  let step : Int := 2 ^ 64
  if (v + 65536) % step ≤ 131072 then (v + 65536) / step
  else v / step + (if Config.realUp law operands then 1 else 0)

/-- The nested form of a power series: from the n-th term down, 1 − x·(…)/((2n − 1)·2n). -/
def cosSeries (x2 : Nat) : Nat → Nat → Nat
  | 0, acc => acc
  | n + 1, acc => cosSeries x2 n (fine - x2 * acc / (fine * ((2 * n + 1) * (2 * n + 2))))

/-- cos(π/2 · a/b) for a ≤ b, in units of 2^-96. -/
def cosQuarter (a b : Nat) : Nat :=
  if b ≤ a then 0
  else
    let x := halfPi * a / b
    cosSeries (x * x / fine) 18 fine

/-- 1 + x·(…)/n from the n-th term of e^x down. -/
def expSeries (x : Nat) : Nat → Nat → Nat
  | 0, acc => acc
  | n + 1, acc => expSeries x n (fine + x * acc / (fine * (n + 1)))

/-- 2^y in units of 2^-96, y in units of 2^-96. -/
def twoTo (y : Int) : Nat :=
  let f := expSeries ((y % 2 ^ 96).toNat * lnTwo / fine) 28 fine
  if 0 ≤ y then f * 2 ^ (y / 2 ^ 96).toNat else f / 2 ^ (-(y / 2 ^ 96)).toNat

/-- The binary digits of log2 of m, m from 1 to 2 in units of 2^-96. -/
def logDigits : Nat → Nat → Nat → Nat
  | 0, _, acc => acc
  | n + 1, m, acc =>
    let q := m * m / fine
    if 2 * fine ≤ q then logDigits n (q / 2) (2 * acc + 1) else logDigits n q (2 * acc)

/-- log2 of a positive whole number v in units of 2^-96, to 80 digits. -/
def logOf (v : Nat) : Int := (fine : Int) * Nat.log2 v + logDigits 80 (v * fine / 2 ^ Nat.log2 v) 0 * 2 ^ 16

/-- The linear gain, in units of 2^-32, of a gain of g / per decades in amplitude: 10^(g/per). -/
def tenTo (law : Nat) (g : Int) (per : Nat) : Nat := (onGrid law [g] (twoTo (g * logTen / per))).toNat

/-- The linear gain of a gain in 2^-16 of 0.01 dB (R165): 10^(g / (2,000·2^16)). -/
def gainOf (g : Int) : Nat := tenTo 3 g 131072000

/-- The level in 2^-16 of 0.01 dB of a detector state of n / 2^64 (R77, R165): 20·log10 e of an amplitude, 10·log10 2m of a mean
square. The level of a state 0 has no value in the manual: a free one, no higher than that of the least state. -/
def levelOf (meanSquare : Bool) (n : Nat) : Int :=
  let k : Int := if meanSquare then 63 else 64
  let scale : Int := if meanSquare then 65536000 else 131072000
  let lv := fun (m : Nat) => onGrid 4 [b2n meanSquare, m] ((logOf m - k * fine) * logTwo / fine * scale / 2 ^ 32)
  if n = 0 then min (lv 1) (Config.levelOfZero meanSquare) else lv n

/-- The falling raised cosine (1 + cos(π(j+1)/n))/2 at sample j: zero from the last sample on (R44, R175, R194). -/
def fallAt (j n : Nat) : Nat :=
  if n ≤ j + 1 then 0
  else
    let c := cosQuarter (j + 1) n
    (onGrid 0 [j, n] (c * c / fine : Nat)).toNat

/-- The equal-power law sin(π·k/(2n)) (R175): 0 at k = 0, unity from k = n on. -/
def powerAt (k n : Nat) : Nat :=
  if k = 0 then 0 else if n ≤ k then unity else (onGrid 1 [k, n] (cosQuarter (n - k) n : Nat)).toNat

/-- The trim factor 10^(T/20) of T = k·0.5 dB (R42). -/
def trimOf (k : Nat) : Nat := if k = 0 then unity else tenTo 2 (k * 50) 2000

end Sys2Proof.Machine
end

