-- ==== Sys2Proof/Machine/Streams.lean ====
section
/-! DEFINITION. The stream namespace of R8 and R169: which IDs exist, which are sources, which are sinks. -/
namespace Sys2Proof.Machine

/-- A stream ID is a source (R169). -/
def isSource (id : Nat) : Bool :=
  decide (id ≤ 0x0017) || decide (0x0200 ≤ id ∧ id ≤ 0x02BF) || decide (0x0400 ≤ id ∧ id ≤ 0x05FF) ||
  decide (0x0800 ≤ id ∧ id ≤ 0x083F) || decide (0x0A00 ≤ id ∧ id ≤ 0x0A0F) || decide (0x1100 ≤ id ∧ id ≤ 0x11FF) ||
  decide (id = 0x2000) || decide (0x2001 ≤ id ∧ id ≤ 0x2008)

/-- A stream ID is a sink (R169). -/
def isSink (id : Nat) : Bool :=
  decide (0x0100 ≤ id ∧ id ≤ 0x011B) || decide (0x0300 ≤ id ∧ id ≤ 0x03BF) || decide (0x0600 ≤ id ∧ id ≤ 0x07FF) ||
  decide (0x0800 ≤ id ∧ id ≤ 0x083F) || decide (0x0A10 ≤ id ∧ id ≤ 0x0A1F) || decide (0x1000 ≤ id ∧ id ≤ 0x10FF)

/-- A stream ID that R8 defines; any other is reserved. -/
def isStream (id : Nat) : Bool := isSource id || isSink id

/-- A mix bus stream, and its number (R169). -/
def busOf (id : Nat) : Option Nat := if 0x0800 ≤ id ∧ id ≤ 0x083F then some (id - 0x0800) else none

/-- The graph input terminal a sink names. -/
def graphInOf (id : Nat) : Option Nat := if 0x1000 ≤ id ∧ id ≤ 0x10FF then some (id - 0x1000) else none

/-- The graph output terminal a source names. -/
def graphOutOf (id : Nat) : Option Nat := if 0x1100 ≤ id ∧ id ≤ 0x11FF then some (id - 0x1100) else none

/-- The stream of port p's input slot, and of its output slot (R8). -/
def portInStream (p s : Nat) : Nat := 0x0200 + 32 * p + s
def portOutStream (p s : Nat) : Nat := 0x0300 + 32 * p + s

end Sys2Proof.Machine
end

