-- ==== Sys2Proof/Machine/ParamMap.lean ====
section
/-! DEFINITION. The parameter map: every parameter ID with its class, width and default (R431-R436), the claim bit of its
block (R404), and the fields its layout allows (R437 and the layout tables of each chapter). -/
namespace Sys2Proof.Machine

/-- The class of a parameter (R9, R411). `device` marks the three STATIC ones kept in the MRAM device record (R412). -/
inductive PClass where
  | banked | static | device | live
  deriving DecidableEq, Repr

/-- One row of the index of R436: `count` consecutive IDs from `first`. `step` is added to the default per element. -/
structure ParamRow where
  first : Nat
  count : Nat
  cls : PClass
  wide : Bool := false
  default : Nat := 0
  step : Nat := 0
  deriving DecidableEq, Repr

/-- Index rows of blocks 0x00 to 0x03 (R436). -/
def paramIndexA : List ParamRow :=
  [ { first := 0x0000, count := 1, cls := .device },
    { first := 0x0001, count := 1, cls := .static, default := 0x00000222 },
    { first := 0x0002, count := 1, cls := .static, default := 0x003C0041 },
    { first := 0x0100, count := 1, cls := .device, default := 24576000 },
    { first := 0x0101, count := 1, cls := .static, default := 0x00000002 },
    { first := 0x0102, count := 1, cls := .static, default := 0x00400007 },
    { first := 0x0103, count := 1, cls := .live },
    { first := 0x0104, count := 1, cls := .live, default := 1 },
    { first := 0x0110, count := 4, cls := .static, wide := true, default := 0x0200600000800018 },
    { first := 0x0114, count := 1, cls := .static, wide := true, default := 0x0200600000800000 },
    { first := 0x0200, count := 1, cls := .static, default := 0xFFFFFF10 },
    { first := 0x0201, count := 1, cls := .static, default := 0x00000A01 },
    { first := 0x0202, count := 1, cls := .static, default := 0x02146432 },
    { first := 0x0203, count := 1, cls := .static, default := 0x000A0064 },
    { first := 0x0204, count := 1, cls := .static, default := 0x0000648C },
    { first := 0x0205, count := 1, cls := .static, default := 0x0000781E },
    { first := 0x0206, count := 1, cls := .static, default := 0x000003E8 },
    { first := 0x0207, count := 1, cls := .static, default := 0x0064000A },
    { first := 0x0210, count := 2, cls := .static, default := 0x003000A0 },
    { first := 0x0212, count := 2, cls := .static, wide := true },
    { first := 0x0300, count := 24, cls := .banked },
    { first := 0x0318, count := 24, cls := .banked },
    { first := 0x0330, count := 16, cls := .banked },
    { first := 0x0340, count := 8, cls := .static, default := 0x00321440, step := 1 },
    { first := 0x0348, count := 1, cls := .static, default := 0x320A2800 } ]

/-- Index rows of blocks 0x04 to 0x0F (R436). -/
def paramIndexB : List ParamRow :=
  [ { first := 0x0400, count := 24, cls := .static, default := 3 },
    { first := 0x0418, count := 24, cls := .banked },
    { first := 0x0430, count := 28, cls := .static, default := 3 },
    { first := 0x044C, count := 28, cls := .banked },
    { first := 0x0468, count := 24, cls := .live, default := 0x000008D4 },
    { first := 0x0480, count := 1, cls := .static, default := 0x00000100 },
    { first := 0x0481, count := 1, cls := .static, default := 0x00000608 },
    { first := 0x0500, count := 24, cls := .banked, default := 0x00000A01 },
    { first := 0x0518, count := 4, cls := .banked, default := 0x00000A00 },
    { first := 0x0520, count := 16, cls := .static, default := 0x00000004 },
    { first := 0x0530, count := 1, cls := .static, default := 0x00030A00 },
    { first := 0x0531, count := 1, cls := .static, default := 0x00000F69 },
    { first := 0x0600, count := 4, cls := .static, default := 0x010A1400, step := 1 },
    { first := 0x0604, count := 1, cls := .static, default := 0x0000000A },
    { first := 0x0605, count := 1, cls := .static, default := 0x00140A14 },
    { first := 0x0608, count := 4, cls := .static, wide := true, default := 0x050A000200000000 },
    { first := 0x0700, count := 16, cls := .banked, step := 1 },
    { first := 0x0710, count := 1, cls := .static, default := 3 },
    { first := 0x0800, count := 2048, cls := .banked, wide := true } ]

/-- Index rows of blocks 0x10 to 0x1C (R436). -/
def paramIndexC : List ParamRow :=
  [ { first := 0x1000, count := 64, cls := .banked },
    { first := 0x1040, count := 8, cls := .banked, default := 0x60 },
    { first := 0x1100, count := 1, cls := .banked, default := 0x18 },
    { first := 0x1110, count := 28, cls := .banked },
    { first := 0x1200, count := 24, cls := .banked, default := 1 },
    { first := 0x1218, count := 8, cls := .banked, default := 1 },
    { first := 0x1220, count := 6, cls := .banked, wide := true, default := 0xFFFFFFFF },
    { first := 0x1226, count := 1, cls := .banked },
    { first := 0x1230, count := 16, cls := .banked, default := 0xFFFFFFFF },
    { first := 0x1300, count := 256, cls := .live, wide := true, default := 0x0000000141440000 },
    { first := 0x1400, count := 6, cls := .static, default := 0x00001410 },
    { first := 0x1406, count := 6, cls := .static, default := 0x00000020 },
    { first := 0x140C, count := 6, cls := .live, default := 3 },
    { first := 0x1412, count := 6, cls := .live, default := 3 },
    { first := 0x1418, count := 6, cls := .static, default := 8 },
    { first := 0x141E, count := 6, cls := .live, default := 0x00010064 },
    { first := 0x1424, count := 1, cls := .static, default := 0xFF },
    { first := 0x1600, count := 1, cls := .static, default := 1 },
    { first := 0x1700, count := 1, cls := .static, default := 0x000A0A00 },
    { first := 0x1701, count := 1, cls := .static, default := 0x00000400 },
    { first := 0x1702, count := 2, cls := .static, default := 1 },
    { first := 0x1704, count := 1, cls := .static, default := 4 },
    { first := 0x1800, count := 1, cls := .static },
    { first := 0x1801, count := 1, cls := .static, default := 0x003C0C04 },
    { first := 0x1802, count := 1, cls := .static, default := 0x00000800 },
    { first := 0x1803, count := 1, cls := .static, default := 4 },
    { first := 0x1900, count := 1, cls := .device },
    { first := 0x1901, count := 1, cls := .live, default := 0x0003FFFF },
    { first := 0x1902, count := 1, cls := .live, default := 0x0003FFFF },
    { first := 0x1903, count := 1, cls := .live, default := 0x00000A00 },
    { first := 0x1A00, count := 1, cls := .live, default := 0x00000258 },
    { first := 0x1B00, count := 1, cls := .live, default := 0x00056E6E },
    { first := 0x1B01, count := 1, cls := .live, wide := true },
    { first := 0x1C00, count := 1, cls := .live, default := 4 },
    { first := 0x1C01, count := 1, cls := .live } ]

/-- The index of R436: exactly the defined parameter IDs (R431). -/
def paramIndex : List ParamRow := paramIndexA ++ paramIndexB ++ paramIndexC

/-- The index row that holds an ID. -/
def paramRow (id : Nat) : Option ParamRow := paramIndex.find? (fun r => decide (r.first ≤ id ∧ id < r.first + r.count))

/-- The ID is defined (R431). -/
def paramDefined (id : Nat) : Bool := (paramRow id).isSome

/-- The class of a parameter (undefined IDs read as STATIC here; every use tests `paramDefined` first). -/
def paramClass (id : Nat) : PClass := match paramRow id with | some r => r.cls | none => .static

/-- 64-bit parameter (R432)? -/
def paramWide (id : Nat) : Bool := match paramRow id with | some r => r.wide | none => false

/-- WIDTH of a parameter in bytes: 4 or 8 (R397, R432). -/
def paramWidth (id : Nat) : Nat := if paramWide id then 8 else 4

/-- The default of a parameter (R436). -/
def paramDefault (id : Nat) : Nat := match paramRow id with | some r => r.default + r.step * (id - r.first) | none => 0

/-- CLASS as PARAM_READ reports it: 0 BANKED, 1 STATIC, 2 LIVE (R397). -/
def PClass.code : PClass → Nat
  | .banked => 0 | .static => 1 | .device => 1 | .live => 2

/-- STATIC, kept in MRAM or not. -/
def PClass.isStatic : PClass → Bool
  | .static => true | .device => true | .banked => false | .live => false

/-- The block of an ID (R9): the high byte. -/
def paramBlock (id : Nat) : Nat := id / 256

/-- Two IDs stand in one block; the ROUTE blocks 0x08-0x0F count as one (R439). -/
def sameBlock (a b : Nat) : Bool :=
  let r := fun x => if 0x08 ≤ x ∧ x ≤ 0x0F then 0x08 else x
  decide (r (paramBlock a) = r (paramBlock b))

/-- The claim bit that a write of a parameter needs (R404, R436). -/
def paramClaimBit (id : Nat) : Nat := paramBlock id

/-- A field lies in a closed range. -/
def fieldIn (v lo n a b : Nat) : Bool := decide (a ≤ field v lo n ∧ field v lo n ≤ b)

/-- Every bit at or above a position is 0. -/
def zeroFrom (v lo : Nat) : Bool := decide (v < 2 ^ lo)

/-- A field is 0 (a reserved field). -/
def zeroField (v lo n : Nat) : Bool := decide (field v lo n = 0)

/-- A GAIN code of R172 lies at or below +2,400. -/
def gainOk (v lo : Nat) : Bool := decide (sfield v lo 16 ≤ 2400)

/-- Layouts of the DEVICE block (R341). -/
def deviceFieldsOk (id v : Nat) : Bool :=
  if id = 0x0000 then zeroFrom v 2
  else if id = 0x0001 then
    fieldIn v 0 3 0 4 && zeroField v 3 1 && zeroField v 6 2 && fieldIn v 8 8 1 20 && zeroFrom v 16
  else zeroField v 7 9 && fieldIn v 16 16 1 65535

/-- Layouts of the CLOCK block (R289, R295). CK_STEER takes any value and is clamped (R286). -/
def clockFieldsOk (id v : Nat) : Bool :=
  if id = 0x0100 then decide (19200000 ≤ v ∧ v ≤ 52000000)
  else if id = 0x0101 then zeroFrom v 3
  else if id = 0x0102 then
    fieldIn v 0 4 0 14 && decide (field v 4 4 = 0 ∨ field v 0 4 + 1 ≤ field v 4 4) && zeroField v 8 8 && fieldIn v 16 16 1 65535
  else if id = 0x0103 then true
  else if id = 0x0104 then fieldIn v 0 3 0 4 && zeroFrom v 3
  else
    let outd := decide (id = 0x0114)
    let div := field v 16 24
    let per := field v 40 17
    (if outd then zeroField v 3 3 else fieldIn v 2 2 0 2) && zeroField v 8 8 &&
    decide (div % 2 = 0 ∧ (if outd then 16 else 32) ≤ div ∧ div ≤ 16777214) &&
    decide (96 ≤ per ∧ per ≤ 96000) && decide (1 ≤ field v 57 7 ∧ field v 57 7 < per)

/-- Entries of REF_PRIO hold 0-7 or 0xF (R300). -/
def refPrioOk (v : Nat) : Bool := (List.range 8).all (fun e => decide (field v (4 * e) 4 ≤ 7 ∨ field v (4 * e) 4 = 15))

/-- Layouts of the REFERENCE block (R316); REF_FP_OFFSET is judged across fields (R438). -/
def refFieldsOk (id v : Nat) : Bool :=
  if id = 0x0200 then refPrioOk v
  else if id = 0x0201 then zeroField v 2 6 && zeroFrom v 16
  else if id = 0x0202 then fieldIn v 0 8 1 254 && fieldIn v 8 8 2 255 && fieldIn v 16 8 1 255 && zeroFrom v 26
  else if id = 0x0203 then fieldIn v 16 8 1 255 && zeroFrom v 24
  else if id = 0x0204 then fieldIn v 0 5 0 20 && fieldIn v 5 3 0 4 && fieldIn v 8 12 10 1000 && zeroFrom v 20
  else if id = 0x0205 then fieldIn v 0 9 1 300 && fieldIn v 9 10 0 720 && zeroFrom v 19
  else if id = 0x0206 then true
  else if id = 0x0207 then true
  else if id = 0x0210 ∨ id = 0x0211 then
    fieldIn v 0 2 0 2 && fieldIn v 4 5 2 18 && zeroField v 9 6 && fieldIn v 15 17 96 96000
  else true

/-- Layouts of the INPUT block (R39, R40, R42, R56, R58); IN_MODE of c = 16-23 takes 0 alone. -/
def inputFieldsOk (id v : Nat) : Bool :=
  if id < 0x0318 then (if id < 0x0310 then decide (v ≤ 2) else decide (v = 0))
  else if id < 0x0330 then decide (v ≤ 6600 ∧ v % 50 = 0)
  else if id < 0x0340 then decide (v ≤ 1)
  else if id < 0x0348 then fieldIn v 8 8 1 255 && zeroFrom v 24
  else zeroField v 1 7 && fieldIn v 8 8 1 255 && fieldIn v 24 8 1 255

/-- Layouts of the CONVERTER block (R78, R85). -/
def converterFieldsOk (id v : Nat) : Bool :=
  if id < 0x0418 then decide (3 ≤ v ∧ v ≤ 5)
  else if id < 0x0430 then decide (v ≤ 1)
  else if id < 0x044C then decide (3 ≤ v ∧ v ≤ 5)
  else if id < 0x0468 then decide (v ≤ 1)
  else if id < 0x0480 then zeroFrom v 12
  else if id = 0x0480 then zeroFrom v 9
  else fieldIn v 0 4 1 15 && fieldIn v 4 8 64 128 && zeroFrom v 12

/-- Layouts of the OUTPUT block (R218). -/
def outputFieldsOk (id v : Nat) : Bool :=
  if id < 0x0520 then zeroField v 2 6 && fieldIn v 8 8 1 255 && zeroFrom v 16
  else if id < 0x0530 then zeroFrom v 3
  else if id = 0x0530 then zeroField v 4 4 && fieldIn v 8 8 1 255 && zeroFrom v 18
  else fieldIn v 0 8 85 115 && fieldIn v 8 8 0 24 && zeroFrom v 16

/-- Layouts of the JACK_POP block (R201, R215, R219). -/
def jackFieldsOk (id v : Nat) : Bool :=
  if id < 0x0604 then zeroField v 2 2 && zeroField v 6 2 && fieldIn v 8 8 1 255 && fieldIn v 16 8 1 255 && zeroFrom v 25
  else if id = 0x0604 then fieldIn v 0 8 1 255 && zeroFrom v 8
  else if id = 0x0605 then fieldIn v 0 8 1 255 && fieldIn v 8 8 1 255 && fieldIn v 16 8 1 255 && zeroFrom v 24
  else zeroField v 28 4 && zeroField v 43 5 && fieldIn v 48 8 1 255 && fieldIn v 56 8 1 255

/-- Layouts of the SPRINT block (R89, R90). -/
def sprintFieldsOk (id v : Nat) : Bool :=
  if id < 0x0710 then fieldIn v 0 5 0 23 && zeroFrom v 8 else decide (v = 3 ∨ v = 4)

/-- The layout of a route entry: GAIN and the reserved bits (R171, R172); SOURCE and SINK are not examined. -/
def routeFieldsOk (v : Nat) : Bool := gainOk v 32 && zeroFrom v 54

/-- Layouts of the MIXBUS, GAIN and HPF blocks (R175, R179, R182, R184). -/
def mixFieldsOk (id v : Nat) : Bool :=
  if id < 0x1040 then decide (v ≤ 2)
  else if id < 0x1100 then fieldIn v 0 13 0 4096 && zeroFrom v 14
  else if id = 0x1100 then fieldIn v 0 8 1 200 && zeroFrom v 9
  else if id < 0x1200 then gainOk v 0 && zeroFrom v 16
  else if id < 0x1220 then zeroFrom v 4
  else if id < 0x1226 then true
  else if id = 0x1226 then zeroFrom v 12
  else true

/-- The layout of a meter slot (R186): a reserved stream is out of range. -/
def meterFieldsOk (v : Nat) : Bool := isStream (field v 0 16) && zeroField v 19 1 && zeroFrom v 36

/-- Layouts of the PORT and ASRC blocks (R243); a mask bit at or above SLOTS is judged across fields (R438). -/
def portFieldsOk (id v : Nat) : Bool :=
  if id < 0x1406 then fieldIn v 9 2 0 2 && fieldIn v 16 2 0 2 && zeroFrom v 18
  else if id < 0x140C then fieldIn v 4 4 2 15 && zeroFrom v 8
  else if id < 0x1418 then true
  else if id < 0x141E then zeroFrom v 4
  else if id < 0x1424 then zeroFrom v 17
  else if id = 0x1424 then zeroFrom v 17
  else zeroFrom v 3

/-- Layouts of the LINK block (R275). -/
def linkFieldsOk (id v : Nat) : Bool :=
  if id = 0x1700 then fieldIn v 10 2 1 2 && zeroField v 12 4 && fieldIn v 16 8 1 255 && zeroFrom v 24
  else if id = 0x1701 then zeroFrom v 11
  else if id = 0x1704 then fieldIn v 0 6 2 63 && zeroFrom v 6
  else fieldIn v 0 2 0 2 && fieldIn v 2 2 0 2 && zeroField v 4 12 && decide (-2000 ≤ sfield v 16 16 ∧ sfield v 16 16 ≤ 2000)

/-- Layouts of the WAKE block (R357). -/
def wakeFieldsOk (id v : Nat) : Bool :=
  if id = 0x1800 then fieldIn v 1 4 0 8 && zeroFrom v 5
  else if id = 0x1801 then
    fieldIn v 1 3 1 7 && zeroField v 4 4 && fieldIn v 8 8 3 40 && fieldIn v 16 8 20 100 && zeroFrom v 24
  else if id = 0x1802 then zeroField v 4 4 && zeroFrom v 16
  else zeroFrom v 3

/-- Layouts of the BUS block (R382). -/
def busFieldsOk (id v : Nat) : Bool :=
  if id = 0x1900 then zeroFrom v 1
  else if id = 0x1903 then zeroField v 1 7 && zeroFrom v 16
  else zeroFrom v 18

/-- The WORD range of DG_INJECT per MEMORY (R444). -/
def injectWords : Nat → Nat
  | 1 => 2097152 | 2 => 24576 | 3 => 8192 | 4 => 16384 | 5 => 65536 | 6 => 12288 | 7 => 24576 | _ => 1

/-- The layout of DG_INJECT (R444). -/
def injectOk (v : Nat) : Bool :=
  let m := field v 0 4
  let b := field v 4 2
  decide (m ≤ 7) && decide ((m = 0 ∧ b = 0) ∨ (m = 7 ∧ b = 1) ∨ (1 ≤ m ∧ m ≤ 6 ∧ 1 ≤ b)) && zeroField v 6 2 &&
  (decide (m = 2) || zeroField v 8 4) && zeroField v 12 4 && zeroFrom v 48 && decide (field v 16 32 < injectWords m)

/-- Layouts of the DIAG block (R444). -/
def diagFieldsOk (id v : Nat) : Bool :=
  if id = 0x1B00 then fieldIn v 0 8 60 120 && fieldIn v 8 8 60 120 && fieldIn v 16 8 1 20 && zeroFrom v 24 else injectOk v

/-- Layouts of the GRAPH block (R157). -/
def graphFieldsOk (id v : Nat) : Bool :=
  if id = 0x1C00 then decide (v ≤ 8) else zeroField v 3 13 && zeroFrom v 28

/-- Every field of a value lies in the range its layout gives and every reserved bit is 0 (R437). -/
def paramFieldsOk (id v : Nat) : Bool :=
  decide (v < 256 ^ paramWidth id) &&
  (let b := paramBlock id
   if b = 0x00 then deviceFieldsOk id v
   else if b = 0x01 then clockFieldsOk id v
   else if b = 0x02 then refFieldsOk id v
   else if b = 0x03 then inputFieldsOk id v
   else if b = 0x04 then converterFieldsOk id v
   else if b = 0x05 then outputFieldsOk id v
   else if b = 0x06 then jackFieldsOk id v
   else if b = 0x07 then sprintFieldsOk id v
   else if b ≤ 0x0F then routeFieldsOk v
   else if b ≤ 0x12 then mixFieldsOk id v
   else if b = 0x13 then meterFieldsOk v
   else if b = 0x14 ∨ b = 0x16 then portFieldsOk id v
   else if b = 0x17 then linkFieldsOk id v
   else if b = 0x18 then wakeFieldsOk id v
   else if b = 0x19 then busFieldsOk id v
   else if b = 0x1A then fieldIn v 0 16 10 65535 && zeroFrom v 16
   else if b = 0x1B then diagFieldsOk id v
   else if b = 0x1C then graphFieldsOk id v
   else false)

end Sys2Proof.Machine
end

