-- ==== Sys2Proof/Machine/State.lean ====
section
/-! DEFINITION. The state of the KU2428: every register, buffer, counter, mode and pin the manual gives it, as plain data,
and the queue of commands that are waiting. -/
namespace Sys2Proof.Machine

/-- The tick time base. -/
structure Clock where
  /-- TICK, 48 bits (R6, R29). -/
  tick : TickWord := 0
  /-- The model's own count of tick boundaries since power-up: the base of every deadline (TICK may hold or be loaded). -/
  now : Nat := 0
  /-- LOCK has been declared since the reset, so TICK counts at boundaries (R29). -/
  counting : Bool := false
  /-- The root runs (R328, R333). -/
  rootRunning : Bool := false
  /-- Sprint samples made in the tick in progress, 0 to 128 (R18, R27). -/
  phase : Nat := 0
  /-- The tick in progress has been opened: its samples are latched (R16). It waits for the act of a bank swap or an ARM at its
  boundary, which comes first (R413, R417). -/
  opened : Bool := true
  deriving DecidableEq, Repr

/-- The mode of R328. -/
inductive Mode where
  | boot | recovery | idle | run | rest | watch
  deriving DecidableEq, Repr

/-- The port, the origin and the origin port that a session is bound to (R391). On ports 0, 1 and 4 the origin fields are 0. -/
structure Binding where
  port : Nat
  origin : Nat := 0
  oport : Nat := 0
  deriving DecidableEq, Repr

/-- A request in execution: its packet, its opcode and its arrival tick (R388), as the model's tick count and as TICK. -/
structure Job where
  req : Req
  opcode : Nat
  now : Nat
  tick : Nat
  /-- The number of the session it came under (R406); 0: none. -/
  session : BitVec 16 := 0
  /-- A refused header piece in the queue of R415: in its turn the load is abandoned, and nothing is written (R128). -/
  void : Bool := false
  deriving DecidableEq, Repr

/-- A whole packet waiting in a mailbox (R365), with its arrival tick. -/
structure Waiting where
  bytes : List Byte
  now : Nat
  tick : Nat
  deriving DecidableEq, Repr

/-- What a bus port takes the next byte as (R362, R363, R375): the first byte of a transaction; nothing until the next STOP, or until the
transaction ends; the second byte of a 10-bit address; the pointer, of an SPI READ or of a write; the turnaround byte; data; or it is
read. -/
inductive BusPhase where
  | idle | deaf | ignored | address | pointer (read : Bool) | pointerHigh (read : Bool) (low : Byte) | turn | data | reading
  deriving DecidableEq, Repr

/-- One control bus: the SPI (port 0) or the two-wire bus (port 1) (R363-R365, R373, R376, R389). -/
structure BusPort where
  /-- The pointer into the register window, retained across STOP, 0x0000 after a reset (R364). -/
  pointer : BitVec 16 := 0
  /-- The transaction in progress: what its next byte is. -/
  phase : BusPhase := .idle
  /-- The two-wire target has been addressed by both bytes of its 10-bit address since the last STOP (R364). -/
  addressed : Bool := false
  /-- 256-byte page of the first data byte of the write transaction in progress (R363). -/
  firstPage : Option Nat := none
  /-- A byte of the transaction in progress was refused, so every later one is (R363, R366). -/
  refusing : Bool := false
  /-- Bytes of the packet being assembled (R365). -/
  fragment : List Byte := []
  /-- Whole packets not yet executed: the mailbox holds 2,080 bytes with the fragment (R365). -/
  mailbox : List Waiting := []
  /-- Whole replies, the first perhaps partly read: the reply FIFO of 2,080 bytes (R365, R387). -/
  replies : List (List Byte) := []
  /-- Completion replies that found no room: the port takes no further packet until they are placed (R387). -/
  held : List (List Byte) := []
  /-- The agreed revision (R389): 1 after a reset and after a control processor restart. -/
  rev : Nat := 1
  /-- The sticky bits of BUS_FLAGS (R373). -/
  flags : BitVec 16 := 0
  /-- A byte was discarded in the previous transaction (R376). -/
  lastRefused : Bool := false
  /-- The field latched whole when its first byte was read: its address and bytes (R364). -/
  latch : Option (Nat × List Byte) := none
  /-- The bytes the target drove in the latest command (the model's record of the bus). -/
  lastRead : List Byte := []
  /-- How many data bytes of the latest command it took, and whether it acknowledged the latest address (the model's record of the bus). -/
  lastAcks : Nat := 0
  addrAck : Bool := false
  deriving DecidableEq, Repr

/-- The control interfaces (chapter 15). -/
structure Bus where
  spi : BusPort := {}
  twi : BusPort := {}
  /-- BUS_ERRORS, TIMEOUTS, RSTART_AT_ACK, DISCARDED, INBAND_PULSES of R383: 16-bit, sticky, saturating. -/
  busErrors : Nat := 0
  timeouts : Nat := 0
  rstarts : Nat := 0
  discarded : Nat := 0
  pulses : Nat := 0
  /-- The digits that the pins ADR0-ADR4 show, as last reported, and the address code A that the boot sampled (R359, R360). -/
  straps : Straps := {}
  code : Nat := 0
  /-- The addressing mode in force (R361, R383). -/
  addr7 : Bool := false
  /-- The target answers no address because A[6:0] is reserved (R361). -/
  addrReserved : Bool := false
  /-- ATTN_CAUSE bits 1 to 17 (R378, R409); bit 0 is computed per port. -/
  attn : BitVec 32 := 0
  /-- An in-band pulse is due (R380), and the tick count of the last pulse with whether ATTN_CAUSE was read since. -/
  pulseDue : Bool := false
  lastPulse : Option Nat := none
  readSince : Bool := false
  /-- The live status mirror: six words latched at the boundary (R374). -/
  mirror : List Word := []
  /-- The words of the status groups 1 to 17, latched at the boundary, and TICK of the latch (R400); none before the first. -/
  status : List (List Nat) := []
  statusTick : Nat := 0
  deriving DecidableEq, Repr

/-- An open session (R391, R392, R394, R405). -/
structure Session where
  binding : Binding
  number : BitVec 16
  claims : BitVec 64 := 0
  /-- Tick count of its latest packet. -/
  lastPacket : Nat
  deriving DecidableEq, Repr

/-- A pending challenge of SESSION_OPEN (R392). -/
structure Challenge where
  binding : Binding
  nh : List Byte
  nd : List Byte
  made : Nat
  deriving DecidableEq, Repr

/-- One record of the change ledger (R406). -/
structure LedgerRec where
  seq : BitVec 32
  tick : TickWord
  port : BitVec 8
  kind : BitVec 8
  session : BitVec 16
  opcode : BitVec 16
  object : BitVec 32
  count : BitVec 16
  origin : BitVec 16
  value : BitVec 64
  deriving DecidableEq, Repr

/-- What two requests of one arrival tick compete for (R403): a parameter ID, a swap, claim bits, slots of a node at a tick
of effect, start groups at a tick of effect, or the one act of an opcode at a tick of effect. -/
inductive PhotoThing where
  | params (first count : Nat)
  | swap
  | claims (mask : Nat)
  | slots (node slot count tick : Nat)
  | groups (mask tick : Nat)
  | act (opcode tick : Nat)
  deriving DecidableEq, Repr

/-- Why the control processor restarts (R38, R453, R456). -/
inductive RestartCause where
  | watchdog | fault | commit
  deriving DecidableEq, Repr

/-- The control processor and the packet interpreter (chapter 16). -/
structure Control where
  /-- False while the control processor restarts (R37, R38). -/
  running : Bool := true
  /-- Tick count at which the restart in progress began, and whether a swap was armed then (R38). -/
  restartAt : Nat := 0
  swapAtRestart : Bool := false
  /-- Any session held a claim as the restart in progress began (R405). -/
  claimsAtRestart : Bool := false
  /-- The open sessions (R391). -/
  sessions : List Session := []
  /-- Pending challenges of SESSION_OPEN (R392). -/
  challenges : List Challenge := []
  /-- Bindings whose session idled out and whose next packet is answered SESSION_EXPIRED (R394). -/
  expired : List Binding := []
  /-- Requests accepted, for the photo finish (R403): the arrival tick count, the binding and what each acts on. -/
  photo : List (Nat × Binding × PhotoThing) := []
  /-- Failure counts per port (R393), which MRAM keeps once it can be written (R339). -/
  fails : Tab Nat := []
  /-- Tick counts until which a port is locked out (R393): a reset does not restart the time since the latest failure. -/
  lockedUntil : Tab Nat := []
  /-- AUTH_FAILS of R401, saturating. -/
  authFails : Nat := 0
  /-- PHOTO_LOSSES of R401, saturating. -/
  photoLosses : Nat := 0
  /-- The newest 2,048 records, newest first (R408). -/
  ledger : List LedgerRec := []
  /-- SEQ of the next record: the hardware counter of R408. -/
  seq : BitVec 32 := 1
  /-- LEDGER_GAP of R401 (R408). -/
  ledgerGap : Bool := false
  /-- SWAP_IN_RESTART and SWAP_TAKEN (R38, R401). -/
  swapInRestart : Bool := false
  swapTaken : Bool := false
  /-- The replies that the internal port, port 4, has received (R388). -/
  internal : List (List Byte) := []
  /-- Whole packets reassembled on ports 2 and 3 and not yet executed: port, origin, origin port (R388). -/
  inbox : List (Nat × Nat × Nat × Waiting) := []
  deriving DecidableEq, Repr

/-- One configuration slot: its directory word and its image (R423). START and LEN are in units of 8 bytes. -/
structure Slot where
  start : Nat := 0
  len : Nat := 0
  label : BitVec 32 := 0
  image : List Byte := []
  /-- An uncorrectable error in it (R448). -/
  spoiled : Bool := false
  deriving DecidableEq, Repr

/-- A firmware bank: the image staged into it, VERSION (0: no valid image), an uncorrectable error in it (R448), and
whether it is the bank that the device was delivered with, whose image the manual does not give. -/
structure FwBank where
  image : Tab Byte := []
  version : BitVec 32 := 0
  spoiled : Bool := false
  delivered : Bool := false
  deriving DecidableEq, Repr

/-- One of the two marathon log images in MRAM (R458). -/
structure LogImage where
  valid : Bool := false
  seq : Nat := 0
  info : Nat := 0
  counts : Tab Nat := []
  deriving DecidableEq, Repr

/-- The MRAM (R422): what survives every reset. -/
structure Mram where
  /-- The device key, 32 bytes; all zero: unprovisioned (R392, R395). -/
  key : List Byte := List.replicate 32 0
  keyGen : BitVec 32 := 0
  /-- Failure counts per port (R393). -/
  fails : Tab Nat := []
  /-- The ledger mirror: the newest 1,024 records, newest first (R408). -/
  mirror : List LedgerRec := []
  /-- DEV_BOOT, CK_XO_FREQ and BUS_ADDR (R412). -/
  device : Tab PVal := []
  /-- The eight configuration slots (R423). -/
  slots : Tab Slot := []
  /-- The two firmware banks (R422, R428). -/
  bank0 : FwBank := { version := 0x01000000, delivered := true }
  bank1 : FwBank := {}
  /-- The active-bank word: bank 1 is active (R428). -/
  active1 : Bool := false
  /-- ROLLBACK_MIN (R429). -/
  rollbackMin : BitVec 32 := 0
  /-- The two marathon log images (R458). -/
  log0 : LogImage := { valid := true }
  log1 : LogImage := {}
  /-- RESTARTED of R456. -/
  logRestarted : Bool := false
  deriving DecidableEq, Repr

/-- What a consistency check was started by (R413, R417, R425, R397). -/
inductive CheckKind where
  | swap | arm | recall (armAfter : Bool) | graph
  deriving DecidableEq, Repr

/-- A check or an armed act: the request that asked for it and the tick it named (0: none). -/
structure Pending where
  kind : CheckKind
  job : Job
  named : Nat
  /-- Writes in the queue of R415 that were accepted before it (R413, R441). -/
  ahead : Nat := 0
  /-- A control processor restart has lost its completion reply (R416). -/
  lost : Bool := false
  deriving DecidableEq, Repr

/-- A save in progress (R424): the snapshot is taken at the first boundary after acceptance. -/
structure SaveJob where
  job : Job
  slot : Nat
  label : BitVec 32
  /-- The image and its place in the store, once the snapshot has been taken. -/
  image : Option (Nat × List Byte) := none
  deriving DecidableEq, Repr

/-- Configuration, banks and firmware (chapter 17). -/
structure Cfg where
  /-- BANKED parameters of the active and of the shadow bank, unlisted IDs at their default (R411, R436). -/
  active : Tab PVal := []
  shadow : Tab PVal := []
  /-- STATIC and LIVE parameters in force (R411). -/
  direct : Tab PVal := []
  /-- Sprint cell images: 2,440 bytes per cell n at 2,440·n, active and shadow (R99). -/
  cellsActive : Tab Byte := []
  cellsShadow : Tab Byte := []
  /-- The link slot image, 2,048 bytes, active and shadow (R261). -/
  linkActive : Tab Byte := []
  linkShadow : Tab Byte := []
  /-- The check in progress for BANK_SWAP, ARM or a recall, and for GRAPH_CHECK (R413, R417, R425, R397). -/
  check : Option Pending := none
  graphCheck : Option Pending := none
  /-- The armed swap or ARM and its tick T (R413, R417). -/
  armed : Option (Pending × Nat) := none
  /-- A refill runs (R413). -/
  refilling : Bool := false
  /-- Shadow writes queued under R415, oldest first. -/
  queue : List Job := []
  /-- The swap fields of R430: SWAP_TICK of the latest swap, SWAPS, REFUSALS, REFUSED_STICKY, LAST_REASON, LAST_KIND,
  LAST_INDEX. -/
  swapTick : BitVec 32 := 0
  swaps : Nat := 0
  refusals : Nat := 0
  refusedSticky : Bool := false
  lastReason : Nat := 0
  lastKind : Nat := 0
  lastIndex : Nat := 0
  /-- The save in progress (R424). -/
  save : Option SaveJob := none
  /-- The stage held: the bytes written so far (R427). -/
  stage : Option (Tab Byte) := none
  /-- A FW_COMMIT whose verification runs (R428). -/
  commit : Option Job := none
  deriving DecidableEq, Repr

/-- An injected error not yet found: memory m of R447, runner (of bank memory: 0 the active
bank, 1 the shadow bank), word, inverted bits (R446, R452). -/
structure Injected where
  mem : Nat
  runner : Nat
  word : Nat
  bits : Nat
  deriving DecidableEq, Repr

/-- A bank word that awaits restore (R451): the bank and the object. -/
structure BankFault where
  activeBank : Bool
  kind : Nat
  index : Nat
  deriving DecidableEq, Repr

/-- Dependability, diagnostics and the marathon log (chapter 19). -/
structure Dep where
  /-- The warnings of the engine and converter dies (R445), and the sticky bits of R460. -/
  engineWarn : Bool := false
  convWarn : Bool := false
  thermSticky : Bool := false
  ueSticky : Bool := false
  ceSticky : Bool := false
  earlySticky : Bool := false
  shadowLost : Bool := false
  scrubLate : Bool := false
  injected : List Injected := []
  /-- The value of DG_INJECT that acts at the next boundary; 0: none (R446). -/
  injectNext : Nat := 0
  /-- Bank words that await restore (R451). -/
  bankFaults : List BankFault := []
  /-- The latest uncorrectable error: LAST_UE of R460 (R452). -/
  lastUeMem : Nat := 0
  lastUeRunner : Nat := 0
  lastUeWord : Nat := 0
  lastUeTick : BitVec 32 := 0
  /-- LAST_NODE, NODE_RESETS, LAST_KIND and LAST_INDEX of R460 (R449, R451). -/
  lastNode : Nat := 0
  nodeResets : Nat := 0
  lastKind : Nat := 0
  lastIndex : Nat := 0
  /-- Status counters per memory m, 16-bit (R460). -/
  corrected : Tab Nat := []
  uncorrectable : Tab Nat := []
  /-- RESTARTS and LAST_RESTART of R460 (R38). -/
  restarts : Nat := 0
  lastRestart : Nat := 0
  /-- Objects written since the last refill, per bank: (KIND, INDEX) of R399 (R451). -/
  writtenActive : List (Nat × Nat) := []
  writtenShadow : List (Nat × Nat) := []
  deriving DecidableEq, Repr

/-- The live counters of the marathon log, made since the last commit, by image offset (R456, R458). -/
structure MarathonLog where
  live : Tab Nat := []
  /-- Ticks of powered-on time not yet made up to a second. -/
  subSecond : Nat := 0
  /-- Seconds of POWER_ON_S since the last periodic commit. -/
  sinceCommit : Nat := 0
  /-- A commit fell due during a restart (R37, R458). -/
  due : Bool := false
  /-- Committed image in force: 0 at 0x0F_A000, 1 at 0x0F_C800 (R460). -/
  image1 : Bool := false
  /-- Per supply MS4-MS10: the latest conversion lay inside the operating range (R454). -/
  inRange : Tab Bool := []
  /-- IOVDD nominal taken at the first conversion after boot, mV; 0: none yet. -/
  ioNominal : Nat := 0
  /-- Tick count of the latest histogram second (R454). -/
  histAt : Nat := 0
  /-- Watchdog: tick count of its last service (R453). -/
  served : Nat := 0
  deriving DecidableEq, Repr

/-- The JTAG TAP (R462, R463): the instruction in force. -/
inductive Jtag where
  | extest | sample | idcode | clamp | highz | bypass
  deriving DecidableEq, Repr

/-- EXTEST, CLAMP and HIGHZ take the pins from the device (R463). -/
def Jtag.drives : Jtag → Bool | .extest => true | .clamp => true | .highz => true | _ => false

/-- A raised-cosine gain curve at a mute point (R44, R194): from the gain `g0` reached at sprint sample `start`, over
`len` sprint samples, rising to unity or falling to zero. Gains and weights are in units of 2^-32. -/
structure Curve where
  rising : Bool
  g0 : Nat
  start : Nat
  len : Nat
  deriving DecidableEq, Repr

/-- A mute point: the settled gain, and the curve that runs. -/
structure MutePoint where
  gain : Nat := 4294967296
  curve : Option Curve := none
  deriving DecidableEq, Repr

/-- PHANTOM_STATE of R59 for an input in mic mode; BLOCKED is read from the mode (R55). -/
inductive PhState where
  | off | queued | ramping | on | discharging
  deriving DecidableEq, Repr

/-- A gain change that waits for a zero crossing (R45): the targets A / 3 dB and T / 0.5 dB, and the end of the timeout. -/
structure GainWait where
  aStep : Nat
  trim : Nat
  deadline : Nat
  deriving DecidableEq, Repr

/-- One analog input (chapter 2). -/
structure InputCh where
  /-- Mode in force: 0 line, 1 mic, 2 instrument (R39, R59). -/
  mode : Nat := 0
  /-- A / 3 dB and T / 0.5 dB in force (R42, R59). -/
  aStep : Nat := 0
  trim : Nat := 0
  /-- A gain change that waits for a zero crossing (R45). -/
  wait : Option GainWait := none
  /-- The mute point (R44). -/
  mute : MutePoint := {}
  /-- Mute causes of R44: a mode sequence, a phantom sequence, a jack auto-mute. -/
  causeMode : Bool := false
  causePhantom : Bool := false
  causeJack : Bool := false
  /-- The unmute length (ticks) of the causes that cleared last, and when (R44). -/
  clearLen : Nat := 192
  clearAt : Nat := 0
  /-- The unmute curve that runs belongs to a mode or phantom sequence (R59, MUTED_SEQ). -/
  seqUnmute : Bool := false
  /-- Step 1-7 of the mode sequence of R47; 0: none runs. -/
  seqStep : Nat := 0
  /-- End of the analog network settle of step 4 (R47). -/
  settleEnd : Nat := 0
  /-- PHANTOM_STATE (R53, R59). -/
  phantom : PhState := .off
  /-- The input's bit as the phantom frames carry it (R51); true: phantom on. -/
  phBit : Bool := false
  /-- A disable is waiting for the next frame (R54). -/
  phClear : Bool := false
  /-- End of RAMP or DISCHARGE (R53, R54); a new enable may wait for the end of DISCHARGE. -/
  phEnd : Nat := 0
  phRequeue : Bool := false
  /-- Tick of the latest overload, and OVERLOAD_STICKY (R49, R59). -/
  overAt : Option Nat := none
  overSticky : Bool := false
  /-- Samples up to this tick count carry UNSETTLED (R70). -/
  unsettledTo : Nat := 0
  /-- The boundary before the first sample that the latest disturbance marks: the taps count their own settle count from it (R108). -/
  disturbedAt : Option Nat := none
  deriving DecidableEq, Repr

/-- One jack sense pin, JS0-JS11 (R56, R201): its level, the debounce in progress, and the debounced state. -/
structure JackPin where
  level : Bool := false
  debounceEnd : Option Nat := none
  /-- The first debounce since the pin was enabled has not ended (R56). -/
  first : Bool := true
  /-- The debounced state: PLUGGED (R57, R59, R202). -/
  plugged : Bool := false
  /-- End of INSERT_SETTLE (R57). -/
  settleEnd : Option Nat := none
  /-- A removal whose DEBOUNCE has not yet passed (R204): end of that time. -/
  glitchEnd : Option Nat := none
  deriving DecidableEq, Repr

/-- The phantom shift output (R51, R52). -/
structure PhantomPort where
  /-- The bits the external register holds since the latest latch, as shifted (POLARITY applied). -/
  latched : BitVec 16 := 0
  /-- The bits of a frame that shifts and waits for its latch, one tick after its start (R51). -/
  sending : Option (BitVec 16) := none
  /-- Tick count of the latest latch. -/
  latchAt : Option Nat := none
  /-- Tick count at which the latest frame started. -/
  frameAt : Option Nat := none
  /-- Tick count of the latch of the previous enable (R53). -/
  lastEnable : Option Nat := none
  /-- The all-off frame of an entry to Rest or Watch awaits its start (R52). -/
  allOff : Bool := false
  deriving DecidableEq, Repr

/-- The registers of a CIC (R63, R64, R74): integrators, combs, and the count of inputs toward the next output. -/
structure Cic where
  integ : List Int := []
  comb : List Int := []
  count : Nat := 0
  deriving DecidableEq, Repr

/-- A quick-settle filter (R80): the three integrators, the modulator samples taken, and the third integrator's value at
samples L − 2 and 2L − 2. -/
structure QuickSettle where
  count : Nat := 0
  i1 : Int := 0
  i2 : Int := 0
  i3 : Int := 0
  at1 : Int := 0
  at2 : Int := 0
  /-- The latest completed conversion, whether one has been presented, and the previous value held (R82). -/
  result : Word := 0
  fresh : Bool := false
  held : Word := 0
  valid : Bool := false
  /-- The conversion in progress was disturbed and its result is not presented. -/
  spoiled : Bool := true
  /-- A flagged modulator sample in the conversion in progress, in the latest completed one, and in the one presented (R49). -/
  clip : Bool := false
  resultClip : Bool := false
  heldClip : Bool := false
  deriving DecidableEq, Repr

/-- One ADC channel (chapter 3). -/
structure AdcCh where
  /-- The last quantiser outputs, newest first, as many as OVL_WINDOW can ask for (R61). -/
  window : List Int := []
  /-- The modulator is in its reset (R49), and the overload behind it is negative. -/
  inReset : Bool := false
  overNeg : Bool := false
  /-- Core and sprint CIC branches (R63). -/
  core : Cic := {}
  sprint : Cic := {}
  /-- The latest two 3.072 MHz samples after the core CIC, for zero crossings (R45). -/
  cicNow : Int := 0
  cicPrev : Int := 0
  /-- The histories of D1 to D5, newest first: 65, 23, 19, 27 and 57 inputs (R65); and the latest output of D5, before its limit. -/
  chain : List (List Int) := []
  chainOut : Int := 0
  /-- The latest sprint input word, after trim and mute point (R49, R87). -/
  sprintWord : Int := 0
  /-- The word was saturated (R49). -/
  sprintSat : Bool := false
  /-- The stream sample latched at the boundary, before the high-pass filters (R16, R65). -/
  sample : Word := 0
  /-- The quick-settle filter of AIN16-AIN23 (R80). -/
  quick : QuickSettle := {}
  /-- Detectors of R77: the samples taken, the window W in samples at the latest one, the peaks that a window can still show (sample,
  magnitude), m and e as fractions of 2^64. -/
  taken : Nat := 0
  peakW : Nat := 1536
  peaks : List (Nat × Nat) := []
  m : Nat := 0
  e : Nat := 0
  /-- The latest Fc sample carried UNSETTLED (R79). -/
  unsettledNow : Bool := false
  deriving DecidableEq, Repr

/-- One DAC channel's interpolation chain (R73, R74) and its clip bookkeeping (R24). -/
structure DacCh where
  /-- Core feed samples, newest first, that I5 spans, and the histories of I4 to I1 (R73). -/
  feed : List Int := []
  up : List (List Int) := []
  /-- The first and the final CIC interpolator (R73, R74). -/
  first : Cic := {}
  last : Cic := {}
  /-- Order of the final interpolator in force: 3 or 4 (R73, R103). -/
  lastOrder : Nat := 3
  /-- Orders that the final interpolator takes at sprint samples to come (R103), oldest first. -/
  switches : List (Nat × Nat) := []
  /-- The latest input of the final interpolator, and its latest word to the modulator (R62). -/
  lastIn : Int := 0
  word : Word := 0
  /-- The modulator's quantiser levels of the latest sprint sample, oldest first, and its accumulated error in 2^-31 level (R60,
  R62). -/
  levels : List Int := []
  modErr : Int := 0
  /-- A speaker's PWM edge word in force, as the modulator word it stands for, and the one before it (R14, R207). -/
  edges : Word := 0
  edgesPrev : Word := 0
  /-- A line's DC servo integrator, and its P and N legs about the common mode in 2^-32 level (R195, R196). -/
  servo : Int := 0
  legs : Int × Int := (0, 0)
  /-- The latest core-lane and sprint words that crossed the bridge for it (R14). -/
  coreWord : Int := 0
  sprintWord : Int := 0
  /-- A clip in the tick in progress, and whether the tick before clipped (R24). -/
  clipNow : Bool := false
  clipRun : Bool := false
  deriving DecidableEq, Repr

/-- One PDM channel's full-quality chain (R83, R84). -/
structure PdmCh where
  cic : Cic := {}
  /-- The scaled CIC results at Fc the droop compensator spans, newest first. -/
  taps : List Int := []
  /-- Samples up to this tick count carry UNSETTLED (R84). -/
  unsettledTo : Nat := 0
  deriving DecidableEq, Repr

/-- A word of the measurement modulator (R81): the latest value, whether it is VALID, and when it was converted. -/
structure MeasWord where
  value : Int := 0
  valid : Bool := false
  at_ : Nat := 0
  deriving DecidableEq, Repr

/-- The converters (chapter 3). -/
structure Conv where
  /-- The converters' channels and the measurement words (R60, R73, R83, R81). -/
  adc : Tab AdcCh := []
  dac : Tab DacCh := []
  pdm : Tab PdmCh := []
  meas : Tab MeasWord := []
  /-- The channel in conversion, the tick count at which its conversion starts (R80), the next channel of the scan, and whether the one in
  conversion was asked for (R81). -/
  current : Option Nat := none
  startAt : Nat := 0
  scan : Nat := 4
  onAsk : Bool := false
  /-- Channels asked for: MS0-MS3 while a load measurement runs, MS8 and MS10 on demand (R81). -/
  asked : List Nat := []
  /-- Converter bridge parity: channels whose sample of the tick in progress is marked SUBSTITUTED (R14). -/
  substituted : List Nat := []
  /-- Channels whose next bridge word fails its parity (R14): inputs 0-23, outputs from 24, and whether it is a core-lane word. -/
  failing : List (Nat × Bool) := []
  deriving DecidableEq, Repr

/-- The state of one operation of a sprint program (R95, R98): the biquad states with 21 fraction bits, or the last two inputs
of a DROOP. -/
structure SprintOp where
  s1 : Int := 0
  s2 : Int := 0
  v1 : Int := 0
  v2 : Int := 0
  deriving DecidableEq, Repr

/-- The outgoing datapath of a cell that crossfades (R102): its program image, its SP_CFG and its states. -/
structure SprintOld where
  image : Tab Byte
  cfg : Nat
  ops : Tab SprintOp
  deriving DecidableEq, Repr

/-- One sprint cell (chapter 4). -/
structure Cell where
  /-- States of the running (incoming) program by op index. -/
  ops : Tab SprintOp := []
  /-- The output register o_n (R88, R93). -/
  out : Int := 0
  /-- The outgoing datapath of a crossfade (R102). -/
  old : Option SprintOld := none
  /-- Sprint samples of the crossfade made so far, 0 to 256 (R102). -/
  fade : Nat := 0
  /-- FAULT (R109), sprint samples of the fault fade made, and of the restart fade. -/
  fault : Bool := false
  faultFade : Nat := 0
  restart : Option Nat := none
  /-- Sprint sample of the latest clip, CLIP_STICKY and FAULT_STICKY (R112). -/
  clipAt : Option Nat := none
  clipSticky : Bool := false
  faultSticky : Bool := false
  /-- Feed samples released at the previous boundary and at the latest (R94). -/
  feedPrev : Word := 0
  feedNow : Word := 0
  /-- The tap decimator (R107): CIC, the histories of D1 to D5 and the latest output of D5, and the flag windows of R108. -/
  tapCic : Cic := {}
  tapChain : List (List Int) := []
  tapOut : Int := 0
  tapUnsettledTo : Nat := 0
  tapClippedTo : Nat := 0
  tapSubst : Bool := false
  deriving DecidableEq, Repr

/-- The sprint lane. -/
structure Sprint where
  cells : Tab Cell := []
  /-- DAC contributions on their way to the summing nodes, one list per sprint sample, oldest last: the two-sample
  pipeline of R87. -/
  pipe : List (List (Nat × Int)) := []
  deriving DecidableEq, Repr

/-- A node record of a graph image (R130). -/
structure NodeRec where
  op : Nat
  raMax : Nat
  flow : Nat
  home : Nat
  pFirst : Nat
  pCount : Nat
  size : Nat
  dataOfs : Nat
  /-- Reserved bits [7:4] of byte 1. -/
  resv : Nat := 0
  deriving DecidableEq, Repr

/-- An edge record of a graph image (R131). -/
structure EdgeRec where
  src : Nat
  srcPort : Nat
  pipeline : Bool
  dst : Nat
  dstPort : Nat
  /-- Reserved bits of EFLAGS, and byte 7. -/
  resv : Nat := 0
  deriving DecidableEq, Repr

/-- A loaded graph image with its records; no bytes: the empty default graph (R113, R133). -/
structure GraphImage where
  bytes : List Byte := []
  nodes : List NodeRec := []
  edges : List EdgeRec := []
  deriving DecidableEq, Repr

/-- A queued baton (R116): the tick its producer made it for (as the model's tick count), its stream word, AHEAD and EPOCH. -/
structure Baton where
  made : Nat
  word : StreamWord
  ahead : Nat := 0
  epoch : Nat := 0
  deriving DecidableEq, Repr

/-- A firing in progress on a runner (R120, R143, R158). `write` is the write part of a SPLIT node. -/
structure Firing where
  node : Nat
  write : Bool
  made : Nat
  ahead : Nat
  epoch : Nat
  heat : Nat
  start : Nat
  moved : Bool
  /-- The words of its inputs, read at the grant (R143). -/
  words : List StreamWord := []
  /-- Its flow was late at the boundary: its outputs are discarded, and this LOCAL state stands (R153). -/
  late : Bool := false
  lateLoc : List Int := []
  /-- It runs ahead to a tick that a swap accepted meanwhile takes from it: its result is dropped (R149). -/
  void : Bool := false
  deriving DecidableEq, Repr

/-- Smoothing ramp of a node parameter slot (R156): the value it left, and the tick at which the new value took effect. -/
structure Ramp where
  frm : Int
  start : Nat
  /-- For the selected input of a SWITCH: the weights of its inputs, in units of 2^-32, as the fade began (R167). -/
  mix : List Nat := []
  deriving DecidableEq, Repr

/-- Run-time state of one node: home runner, the next tick to fire of the node (or read part) and of the write part, grants
in the heat per part, the squash floor (epoch, tick, and the heat it was set in), LOCAL state, the phase anchor, the last value written, the base of its
SHARED words, and the firings that still carry UNSETTLED after a reset (R120-R124, R140, R147, R152, R164, R449). -/
structure NodeRt where
  home : Nat := 0
  next : Nat := 0
  nextW : Nat := 0
  grants : Nat := 0
  grantsW : Nat := 0
  floor : Option (Nat × Nat × Nat) := none
  loc : List Int := []
  anchor : Nat × Nat := (0, 0)
  lastWrite : StreamWord := StreamWord.zero
  base : Nat := 0
  unsettled : Nat := 0
  /-- What an uncorrectable error leaves (R448): the node is faulted until a new image is loaded; the next firing fails, and LOCAL is
  reset; partitions of a CONVOLVE that are re-formed before a tick; and the heat whose firings are lost (R450). -/
  faulted : Bool := false
  localError : Bool := false
  spectra : List (Nat × Nat) := []
  lost : Option Nat := none
  deriving DecidableEq, Repr

/-- A sink effect held for release (R123). -/
inductive SinkEffect where
  | terminal (flow made term : Nat) (word : StreamWord)
  | shared (flow made node pos : Nat) (word : StreamWord)
  | meter (flow made slot : Nat) (word : StreamWord)
  deriving DecidableEq, Repr

/-- A scheduled node parameter event (R125, R126): its key as TICK, its kind (LFO phase event or parameter event), node,
first slot, values, and the request that placed it. -/
structure GEvent where
  key : Nat
  phase : Bool
  node : Nat
  slot : Nat
  values : List Word
  order : Nat
  /-- Slots written in the shadow bank since the event was accepted: there the later write stands (R126). -/
  noShadow : List Nat := []
  deriving DecidableEq, Repr

/-- A debug trace record (R158). -/
structure TraceRec where
  tick : Nat
  node : Nat
  runner : Nat
  ahead : Nat
  tflags : Nat
  start : Nat
  cycles : Nat
  epoch : Nat
  deriving DecidableEq, Repr

/-- A run-ahead firing of a node for a tick whose result is neither committed nor squashed: the batons that it took, by edge, and its
trace record (R143-R147, R150, R158). -/
structure LeadRec where
  node : Nat
  made : Nat
  inputs : List (Nat × Baton)
  rec_ : TraceRec
  deriving DecidableEq, Repr

/-- The graph engine (chapters 5 and 6). -/
structure Graph where
  active : GraphImage := {}
  /-- Bytes written into the shadow graph since its load began; none: the empty default (R113, R128). -/
  load : Option (Tab Byte) := none
  /-- IMAGE_LEN of the header accepted in the load in progress; 0: the header is not complete (R128). -/
  loadLen : Nat := 0
  /-- Bytes of shared sample memory reserved for the shadow graph's data copy, and SHARED and data bytes reserved for a graph whose swap or
  ARM has passed its check (R128). -/
  reserved : Nat := 0
  held : Nat := 0
  /-- Node parameter words of the active and shadow bank (R132). -/
  nodeActive : Tab Word := []
  nodeShadow : Tab Word := []
  /-- The edge queues in the matching store (R117). -/
  queues : Tab (List Baton) := []
  /-- By edge, the operands that squashed firings had taken from producers outside the cone, oldest first: the firings that compute their
  ticks again use them (R147). -/
  kept : Tab (List Baton) := []
  /-- The run-time state of the nodes (R120-R124). -/
  nodes : Tab NodeRt := []
  /-- The firing in progress on each runner (R120). -/
  runners : Tab (Option Firing) := []
  /-- FABRIC cycle, counted over the heats, at which a work item (2·node + part) became ready (R121). -/
  ready : Tab Nat := []
  /-- The FABRIC cycle of the latest grants, counted over the heats, and their number in it; the FABRIC cycle of the latest request, and
  the lowest runner that may still ask in it (R120). -/
  granted : Nat × Nat := (0, 0)
  asked : Nat × Nat := (0, 0)
  /-- RUN cycle reached within the heat (R139). -/
  cycle : Nat := 0
  /-- Sink effects held for release (R123). -/
  sinks : List SinkEffect := []
  /-- Latest released sample of each output terminal (R114). -/
  termOut : Tab StreamWord := []
  /-- Smoothing ramps of node parameters (R156). -/
  ramps : Tab Ramp := []
  /-- The event list, and the number of events placed (R125). -/
  events : List GEvent := []
  eventOrder : Nat := 0
  /-- Shared sample memory (R124, R132). -/
  shared : Tab StreamWord := []
  /-- The epoch E (R147). -/
  epoch : Nat := 0
  /-- False starts taken in this heat, and run-ahead suspended (R148). -/
  heatStarts : Nat := 0
  suspended : Bool := false
  /-- FINISH_LAST, FINISH_PEAK and SLOTS_PEAK (R139). -/
  finishLast : Nat := 0
  finishPeak : Nat := 0
  slotsPeak : Nat := 0
  /-- FALSE_STARTS, STUMBLES, LAST_STUMBLE_TICK, LAST_STUMBLE_FLOW and SQUASHED_FIRINGS (R159). -/
  falseStarts : Nat := 0
  stumbles : Nat := 0
  lastStumbleTick : BitVec 32 := 0
  lastStumbleFlow : Nat := 0
  squashed : Nat := 0
  /-- The trace buffer (R158). -/
  trace : List TraceRec := []
  /-- The run-ahead results that stand (R143). -/
  leads : List LeadRec := []
  /-- The stream word that each pipeline edge delivered last (R153), and the word that waits on the pipeline edge into each output
  terminal (R115). -/
  delivered : Tab StreamWord := []
  termHeld : Tab StreamWord := []
  /-- RUN cycle of the latest committed completion in this heat (R139). -/
  finishNow : Nat := 0
  deriving DecidableEq, Repr

/-- A linear gain in unsigned Q4.28 (R172): the gain in force, a target that waits for a zero crossing with the end of its
timeout, and a 192-tick ramp with the gain it left and its first tick (R180, R181). -/
structure GainSt where
  gain : Nat := 268435456
  wait : Option (Nat × Nat) := none
  ramp : Option (Nat × Nat) := none
  deriving DecidableEq, Repr

/-- A contribution (R173-R176): one (entry, SOURCE, SINK, INVERT) with its gain and its weight, which rises or falls from
`w0` at tick `start` over `len` ticks under `law`. -/
structure Contribution where
  entry : Nat
  source : Nat
  sink : Nat
  invert : Bool
  gain : GainSt
  rising : Bool
  w0 : Nat
  start : Nat
  len : Nat
  law : Nat
  deriving DecidableEq, Repr

/-- The scale of a mix bus (R179) in units of 2^-32: it moves from s0 to s1 over m ticks from tick `start`. -/
structure BusScale where
  s0 : Nat := 4294967296
  s1 : Nat := 4294967296
  start : Nat := 0
  m : Nat := 0
  deriving DecidableEq, Repr

/-- One arrangement of the fixed filters of a stream (R183): offset blocker on, wind and rumble corner (4: off), and their
states in units of 2^-16 sample LSB. -/
structure HpfArr where
  ob : Bool := true
  wind : Nat := 4
  x1 : Int := 0
  y1 : Int := 0
  s1 : Int := 0
  s2 : Int := 0
  deriving DecidableEq, Repr

/-- The filters of one stream: the arrangement in force, the outgoing one of a crossfade with its first tick (R185), and the
raw sample and blocker output of the latest tick. -/
structure HpfSt where
  arr : HpfArr := {}
  old : Option (HpfArr × Nat) := none
  raw : Int := 0
  deriving DecidableEq, Repr

/-- One meter slot (R186-R189). The held peak is a magnitude and how far it has fallen, in 0.001 dB. -/
structure MeterSt where
  /-- MT_CFG in force since the latest boundary. -/
  cfg : Nat := 0x0000000141440000
  /-- Window peak so far and of the latest update, RMS state, held peak with its fall and its timer, CLIPS and the run of clips,
  the flags of the window so far and of the latest one, and the sticky bit (R187-R189). -/
  peak : Nat := 0
  peakNow : Nat := 0
  m : Nat := 0
  heldPeak : Nat := 0
  fallen : Nat := 0
  holdLeft : Nat := 0
  clips : Nat := 0
  inRun : Bool := false
  winUnsettled : Bool := false
  winSubst : Bool := false
  lastUnsettled : Bool := false
  lastSubst : Bool := false
  substSticky : Bool := false
  /-- The slot has taken a sample in the window in progress. -/
  fed : Bool := false
  /-- The mirror word (R188). -/
  mirror : Word := 0xFFFFFFFF
  deriving DecidableEq, Repr

/-- Routing, mixing and metering (chapter 7). -/
structure Routing where
  /-- The contributions, the gains of GN_OUT and the bus scales (R174, R179, R180). -/
  contribs : List Contribution := []
  /-- SOURCE and SINK of every enabled route of the active bank, muted ones too: the routes that exist (R171, R177, R178). -/
  enabled : List (Nat × Nat) := []
  outGain : Tab GainSt := []
  busScale : Tab BusScale := []
  /-- Source streams as presented to routes in the heat in progress, and in the heat before. -/
  cur : Tab StreamWord := []
  prev : Tab StreamWord := []
  /-- Sink streams as released at the latest boundary (R16). -/
  sinks : Tab StreamWord := []
  /-- Route sums of delayed terminals held for the next heat (R178). -/
  termHeld : Tab StreamWord := []
  /-- Graph input terminals as presented in the heat in progress. -/
  termIn : Tab StreamWord := []
  /-- The heat in progress is the first of a graph or after ARM (R178). -/
  firstHeat : Bool := true
  /-- Route sum of each core feed at the latest heat, before GN_OUT (R180). -/
  outSum : Tab Int := []
  /-- Tick count of the latest meter update (R188). -/
  meterAt : Nat := 0
  /-- The input high-pass filters (R183, R185). -/
  hpf : Tab HpfSt := []
  /-- The meter slots (R186). -/
  meters : Tab MeterSt := []
  deriving DecidableEq, Repr

/-- One DAC output channel, in output order LOUT0-LOUT15, HP0L..HP3R, SPK0-SPK3 (R85, R192-R194, R221). -/
structure OutCh where
  mute : MutePoint := { gain := 0 }
  /-- The causes of R193 in the order of the table: MODE, DISABLED, USER, JACK, PROTECT, LASTLAP, GUARD. -/
  causes : BitVec 7 := 3
  /-- The unmute length (sprint samples) of the causes that cleared last, and when (R194). -/
  clearLen : Nat := 122880
  clearAt : Nat := 0
  /-- Step of the enable sequence (R197, R200, R209) that runs; 0: none. -/
  step : Nat := 0
  /-- The end of the step, where it has a duration. -/
  stepEnd : Nat := 0
  /-- Buffer or driver connected, or for a speaker switching (R197, R200, R209). -/
  driving : Bool := false
  /-- The stop or disconnection that ends the disable sequence waits for the mute (R197, R200, R209). -/
  stopping : Bool := false
  /-- OC, BRIDGE, DC, UV, OV, THERM, HP_OC (R221), the sticky trip bit, and a trip that holds until the next ARM. -/
  prot : BitVec 7 := 0
  protSticky : Bool := false
  latched : Bool := false
  /-- Tick counts of overcurrent retries, or of HP_OC trips, newest first (R200, R210). -/
  trips : List Nat := []
  /-- Tick count at which a retry, or a new measurement after HP_OC, falls due. -/
  retryAt : Option Nat := none
  /-- The tick count from which the 100 ms of recovery from UV or OV count at the earliest (R210). -/
  clearSince : Option Nat := none
  /-- Calibrated since the latest entry to Idle (R196). -/
  calibrated : Bool := false
  /-- A headphone driver that a measurement has disconnected, and that reconnects after it (R202). -/
  rejoin : Bool := false
  /-- The tick count at which a speaker's precharge began (R209). -/
  began : Option Nat := none
  deriving DecidableEq, Repr

/-- The common-mode bias of the line outputs (R197): a ramp goes from its level, in 2^-32 of the common-mode voltage, at the tick count of its
start to its end. -/
inductive Bias where
  | down | rising (level start endAt : Nat) | up | falling (level start endAt : Nat)
  deriving DecidableEq, Repr

/-- The charge pump (R199). -/
inductive Pump where
  | off | starting (since : Nat) | ready | failed (since : Nat)
  deriving DecidableEq, Repr

/-- Step of the insertion of R202 that runs: none, the test current rising, the readings, and the current falling. -/
inductive HpStep where
  | none | rise (endAt : Nat) | readings | fall (endAt : Nat)
  deriving DecidableEq, Repr

/-- A headphone and its jack (R198, R202, R203). -/
structure HpJack where
  /-- PLUGGED of R221: 1 with no pin. -/
  plugged : Bool := true
  /-- The measurement in progress (R202). -/
  step : HpStep := .none
  /-- The readings so far: legs L and R alternately, oldest first, in the unit of R81. -/
  readL : List Nat := []
  readR : List Nat := []
  repeats : Nat := 0
  /-- 0 SHORT, 1 LOAD, 2 HIGH, 3 LINE, 4 UNMEASURED, and the impedances (R203). -/
  classL : Nat := 4
  classR : Nat := 4
  zL : Nat := 0
  zR : Nat := 0
  mono : Bool := false
  short : Bool := false
  low : Bool := false
  /-- The classification is complete, with MEASURE 0 as UNMEASURED (R200, R202). -/
  classed : Bool := false
  /-- The debounce that runs follows a removal shorter than DEBOUNCE: the classification is kept (R204). -/
  keep : Bool := false
  deriving DecidableEq, Repr

/-- A guard bypass pin (R214-R217). -/
structure GbyPin where
  /-- The pin is driven high: the processed state. -/
  high : Bool := false
  /-- The end of the 2 ms pre-mute, and of SETTLE (R216, R217). -/
  preEnd : Option Nat := none
  settleEnd : Option Nat := none
  /-- Since when the pin has been healthy. -/
  healthySince : Option Nat := none
  /-- LAST_CAUSE of R221. -/
  lastCause : Nat := 0
  /-- BYPASS_STICKY (R221). -/
  sticky : Bool := false
  /-- A momentary fault that the pin has not acted on yet, as LAST_CAUSE codes it; 0: none (R215). -/
  trip : Nat := 0
  /-- What brings the pin back (R217): 0 the next ARM, 1 AUTO_RESTORE may, 2 the clearing of the warning (R213). -/
  recovery : Nat := 0
  deriving DecidableEq, Repr

/-- The outputs (chapter 8). -/
structure Outputs where
  ch : Tab OutCh := []
  /-- The common-mode bias ramp (R197). -/
  bias : Bias := .down
  /-- The charge pump and CP_FAULT (R199). -/
  pump : Pump := .off
  cpFault : Bool := false
  /-- Since when no headphone channel has been both enabled and plugged (R199). -/
  pumpIdle : Option Nat := none
  /-- JS0-JS3 (R201). -/
  pins : Tab JackPin := []
  /-- The headphones and their jacks (R198, R202, R203). -/
  jacks : Tab HpJack := []
  /-- Foldback in force in 0.01 dB, its target, and whether foldback is entered (R211). -/
  fold : Nat := 0
  foldTarget : Nat := 0
  folding : Bool := false
  /-- One more than the PWM period of each stage's latest failing bridge word; 0: none. The stage holds its PWM edges in that
  period (R14, R210). -/
  bridgeFails : Tab Nat := []
  /-- Since when VSPK has been above 7.5 V (R327). -/
  vspkSince : Option Nat := none
  /-- The VSPK decoupling is connected (R327). -/
  decoupled : Bool := false
  /-- Power-fail mute: when it began, when the warning cleared (R213). -/
  lapAt : Option Nat := none
  lapClear : Option Nat := none
  /-- The guard bypass pins (R214). -/
  gby : Tab GbyPin := []
  deriving DecidableEq, Repr

/-- A frame received on a port: its index, and its samples by slot (R223, R227). -/
structure PortFrame where
  index : Nat
  samples : List StreamWord
  deriving DecidableEq, Repr

/-- The core samples of one tick as the output rings of a port hold them: the tick count, and the samples by slot (R228). -/
structure PortOut where
  tick : Nat
  samples : List StreamWord
  deriving DecidableEq, Repr

/-- One serial audio port (chapter 9). Times are in root cycles (R235), 32,768 to a tick, from tick count 0. -/
structure Port where
  /-- The STATE of R234: 0 OFF, 1 WAITING, 2 RUNNING, 3 STOPPED, 4 MISMATCH. -/
  state : Nat := 0
  /-- A gun at this tick count waits for frame 0 and P_0 (R239). -/
  gunAt : Option Nat := none
  /-- The port restarted by itself, as a group of one (R234). -/
  alone : Bool := false
  /-- The root-cycle time at which the latest valid frame began, or the gun (R234). -/
  lastValid : Nat := 0
  /-- The port has started since it entered Run (R234). -/
  started : Bool := false
  /-- ALIGNED (R241), and the ASRC estimator's lock (R233). -/
  aligned : Bool := false
  asrcLocked : Bool := false
  /-- The first complete frame of the acquisition in progress: its tick count (R233). -/
  acquireFrom : Option Nat := none
  /-- Frame index of the latest frame started, and whether frame 0 has started since the gun (R226, R239). -/
  frame : Nat := 0
  counting : Bool := false
  /-- The root-cycle time of the latest frame start. -/
  lastStart : Option Nat := none
  /-- The rings, newest first: received frames, and core samples (R228), with those behind a ring's 64 that its rate stage still spans
  (R229). -/
  ringIn : List PortFrame := []
  ringOut : List PortOut := []
  /-- The samples of the latest frame received, whatever the state (R227, R228). -/
  lastIn : List StreamWord := []
  /-- The ends of the latest exchanges by exchange index (R230), and the end of exchange 0 (R239). -/
  ends : Tab Nat := []
  end0 : Option Nat := none
  /-- The tick count P_j of the next exchange j, once P_0 is known (R230). -/
  nextP : Option Nat := none
  exchange : Nat := 0
  /-- The samples the streams present, and the words DO carries in the frame in progress (none: high-impedance) (R227, R230). -/
  present : List StreamWord := []
  sent : List (Option Word) := []
  /-- Which words of the frame in progress carry SUBSTITUTED, by slot (R245). -/
  sentSub : List Bool := []
  /-- The port drives PORTn_BCK, and PORTn_FS (R225). -/
  bckOut : Bool := false
  fsOut : Bool := false
  /-- The masks in force, the staged ones, and the frame and tick at which an input mask change presents (R242). -/
  maskIn : Nat := 3
  maskOut : Nat := 3
  staged : Option (Nat × Nat) := none
  stagedAt : Nat := 0
  /-- The staged masks were written while the port was not RUNNING: they wait for frame 0 of its next start (R242). -/
  stagedNext : Bool := false
  maskInAt : List (Nat × Nat) := []
  maskFrame : Nat := 0
  /-- SLIPS, SLIP_STICKY and the latest slip (R231, R245). -/
  slips : Nat := 0
  slipSticky : Bool := false
  lastFast : Bool := false
  lastGroup : Bool := false
  lastSlipFrame : Nat := 0
  /-- FRAME_ERRS and FRAME_ERR_STICKY (R227, R245). -/
  frameErrs : Nat := 0
  frameErrSticky : Bool := false
  /-- Rate measurement (R235): the first and latest frame start of the period with the frames between, and the report. -/
  edgeFirst : Option Nat := none
  edgeLast : Option Nat := none
  edgeCount : Nat := 0
  rate : Nat := 0
  dev : Int := 0
  cls : Nat := 0
  /-- DEV at the previous rate attention (R236). -/
  attnDev : Int := 0
  /-- The slots of which the ring word to be presented next fails its parity (R228). -/
  badSlots : List Nat := []
  /-- The group slips that this member has still to make, oldest first: exchange j, and FAST; and that the latest one made was such (R240). -/
  groupSlips : List (Nat × Bool) := []
  afterGroup : Bool := false
  /-- The internal samples at Fc/2 of the latest ticks, newest first, by slot (R232); a slip of the ASRC ring to act on, FAST, and by how
  many root cycles slips have moved the converter (R233). -/
  asrcHist : List (List Int) := []
  asrcSlip : Option Bool := none
  asrcOfs : Int := 0
  deriving DecidableEq, Repr

/-- The ports. -/
structure Ports where
  port : Tab Port := []
  /-- Guns accepted and not yet fired: group mask, TICK of firing, SYSTEM, and the port that asked (R237). -/
  guns : List (Nat × Nat × Bool × Nat) := []
  /-- The tick count at which the latest pin-fired gun fires (R238). -/
  lastPinGun : Option Nat := none
  deriving DecidableEq, Repr

/-- What a good frame brought a port for the receive entries (R263): its label, arrival time, VALID slots and crossed ones. -/
structure LinkCopy where
  label : Nat
  at_ : Nat
  slots : List (Nat × StreamWord)
  crossed : List Nat
  deriving DecidableEq, Repr

/-- One LINK port (R248, R259, R266-R269, R277). Times are in 1/16 root period (R251). -/
structure LinkPort where
  /-- STATE of R266: 0 DOWN, 1 TRAINING, 2 MISWIRED, 3 BLOCKED, 4 ALIGNING, 5 UP. -/
  state : Nat := 0
  /-- Frame lock and the revision agreed (R248, R266). -/
  locked : Bool := false
  rev : Nat := 0
  /-- R248: the label of the latest mark modulo 16, marks in sequence up to 8, and frames lost one after another up to 2. -/
  markLabel : Option Nat := none
  markRun : Nat := 0
  lostRun : Nat := 0
  /-- What the partner sent in the hop-local exchange (R266), if it has. -/
  partner : Option HopInfo := none
  /-- BLOCK_REASON (R267, R277). -/
  blockReason : Nat := 0
  /-- In ALIGNING: this side aligns to the other: it joins, or its pacesetter loses a rejoin (R266, R267). -/
  joins : Bool := false
  /-- Latest 64 inbound delay measurements, newest first, as twice the delay, and the reported delay in 0.01 ns (R259). -/
  delays : List Int := []
  hopDelay : Nat := 0
  fwdDelay : Nat := 0
  /-- T_TX and receive time of the latest frame received on this hop, and its HOPS (R251), L and K (R250). -/
  echoTx : Nat := 0
  echoRx : Nat := 0
  hops : Nat := 2047
  sysL : Nat := 4
  sysK : Nat := 0
  /-- ORIGIN of the latest good frame received here (R250). -/
  from_ : Nat := 0
  /-- The schedule offsets S of the latest 64 good frames as they arrived, newest first, in 1/16 root periods (R269). -/
  arrivals : List Nat := []
  /-- The direction that begins here has this device as its origin, its schedule offset S in 1/16 root periods, and the
  frames still to carry HEAL (R255, R269). -/
  origin : Bool := true
  sched : Nat := 0
  heal : Nat := 0
  /-- A repaired hop returns to forwarding at this label (R271). -/
  returnAt : Option Nat := none
  /-- FRAME_ERRS, FRAME_ERR_STICKY and BREAKS (R277). -/
  frameErrs : Nat := 0
  frameErrSticky : Bool := false
  breaks : Nat := 0
  /-- Slots of recent frames received here, newest first: as the receive entries read them (R263); bad frames are not listed. -/
  copies : List LinkCopy := []
  /-- Cells waiting for a free place in a frame sent from this port (R272). -/
  outbox : List LinkCell := []
  /-- The latest frame sent from this port (what the balls carry). -/
  sent : Option LinkFrame := none
  deriving DecidableEq, Repr

/-- An entry of the topology table (R253): the latest announcement, the tick count at which it came by each port, and over how many hops. -/
structure TopoEntry where
  ann : Announcement
  atA : Option Nat := none
  atB : Option Nat := none
  overA : Nat := 0
  overB : Nat := 0
  deriving DecidableEq, Repr

/-- A remote packet that waits for its reply (R273): its sequence number, target, the port and tag of the request, its opcode,
and the end of REMOTE_TIMEOUT. -/
structure Outstanding where
  seq : Nat
  target : Nat
  req : Req
  opcode : Nat
  deadline : Nat
  /-- ACCEPTED_PENDING has come back, and a completion reply may follow (R398). -/
  accepted : Bool := false
  deriving DecidableEq, Repr

/-- A packet being reassembled from cells: the port it arrives at, source, sequence number, segments, and how many there are
once the last is known (R272, R273). -/
structure Reassembly where
  port : Nat
  src : Nat
  seq : Nat
  segs : Tab (List Byte)
  total : Option Nat
  deriving DecidableEq, Repr

/-- A system gun seen or accepted and not yet fired (R274): groups, TICK of firing and the firing device. -/
structure SysGun where
  mask : Nat
  tick : Nat
  src : Nat
  deriving DecidableEq, Repr

/-- One RX entry's substitution (R270): the last good sample, missing ticks of the run in progress, and samples of the fade
after a run. -/
structure RxRun where
  good : StreamWord := StreamWord.zero
  missing : Nat := 0
  fade : Nat := 8
  word : StreamWord := StreamWord.zero
  deriving DecidableEq, Repr

/-- Muythlink (chapter 10). -/
structure Link where
  a : LinkPort := {}
  b : LinkPort := {}
  /-- The ID that LINK_ASSIGN_ID gave (R253), and the system identity (R267). -/
  assigned : Option Nat := none
  identity : BitVec 64 := 0
  /-- The pacesetter, whether it is this device, and whether it acts for a lost one (R254, R269). -/
  pace : Nat := 0
  isPace : Bool := true
  acting : Bool := false
  /-- The system is a ring (R256). -/
  ring : Bool := false
  /-- The formation label C announced, with the K computed for it (R256), and K once set. -/
  formAt : Option Nat := none
  /-- The label from which the ring has formed (R256). -/
  ringFrom : Nat := 0
  formK : Nat := 0
  k : Nat := 0
  /-- L in force (R264). -/
  l : Nat := 4
  /-- The changes of L to come, each at its named TICK, the earliest first; and the latest one made: its TICK and the L before it (R264). -/
  lNext : List (Nat × Nat) := []
  lOld : Option (Nat × Nat) := none
  /-- ALIGNED (R260). -/
  aligned : Bool := false
  /-- The signed boundary error in 10 ps, and for how many ticks it has stayed within ±2 ns (up to 96) or beyond ±3 ns (up to 4)
  (R260). -/
  alignErr : Int := 0
  near : Nat := 0
  far : Nat := 0
  /-- The topology table and SEQ of the next cell (R253, R272). -/
  topo : List TopoEntry := []
  seq : Nat := 0
  /-- Packets being reassembled, and remote packets that wait for a reply (R272, R273). -/
  assembling : List Reassembly := []
  outstanding : List Outstanding := []
  /-- System guns not yet fired, those received before, and what was refused of them (R274). -/
  guns : List SysGun := []
  gunsSeen : List SysGun := []
  gunClash : Bool := false
  lateGuns : Nat := 0
  /-- Link transmit samples of recent heats by TICK, newest first (R262). -/
  txHist : List (Nat × Tab StreamWord) := []
  /-- The images that swaps at these TICKs replaced, oldest first: TX entries serve frames before the TICK, RX entries receive samples
  before it + L (R265). -/
  rxOld : List (Nat × Tab Byte) := []
  /-- The substitution of the receive entries (R270). -/
  rx : Tab RxRun := []
  /-- COLLISION_STICKY, and the collisions counted (R262, R277). -/
  collision : Bool := false
  collisions : Nat := 0
  /-- Two announcements carried one ID with different serial numbers (R253). -/
  conflict : Bool := false
  /-- LOST_RUNS (R270, R277). -/
  lostRuns : Nat := 0
  /-- The pacesetter's retiming buffer per direction: 16 frames (R258). -/
  retimeAB : List LinkFrame := []
  retimeBA : List LinkFrame := []
  deriving DecidableEq, Repr

/-- The master PLL, LOCK, numeric steering and the clock outputs (chapter 11). -/
structure Synth where
  /-- XO_OK, ANALOG_LOCK, LOCK, LOST_STICKY and LOCK_LOSSES (R281-R283, R297). -/
  xoOk : Bool := false
  analogLock : Bool := false
  lock : Bool := false
  lostSticky : Bool := false
  lockLosses : Nat := 0
  /-- LOCK cleared because the root stops: its next declaration sets no attention cause (R285). -/
  quietLock : Bool := false
  /-- Latest phase error of R283, ps. -/
  phaseErr : Int := 0
  /-- The CK_XO_FREQ that W0 is made from, in Hz (R280). -/
  xoFreq : Nat := 24576000
  /-- s_now in units of 1/96 ppt, so that each SLEW of R287 is a whole number of units per tick. -/
  sNow : Int := 0
  /-- STEER_CLAMPED and WORD_LIMIT (R287, R297). -/
  clamped : Bool := false
  wordLimit : Bool := false
  /-- Steering with a tick: the TICK at which the slew begins, s, and the port that asked (R287). -/
  steers : List (Nat × Int × Nat) := []
  /-- Outputs CKO0-CKO3 and CKOD as bits 0-4: gated (R293); gated by a write not yet applied; gated by entry to Rest or Watch. -/
  gated : BitVec 5 := 31
  writeGate : BitVec 5 := 0
  sleepGate : BitVec 5 := 0
  /-- By output: the CK_OUT or CK_OUTD that it runs on, the root cycle from which it stays low once gated, and the root cycle of the rise
  with which it resumed (R290, R293). -/
  outs : Tab Nat := []
  stopAt : Tab Nat := []
  resumeAt : Tab Nat := []
  /-- By output: the root cycle to which a high phase in progress runs on as its schedule changes, and the one before which the next does not
  rise (R293, R312). -/
  pulseTo : Tab Nat := []
  riseFrom : Tab Nat := []
  /-- The comparison source of LOCK, a reference or none, and the tick count of its latest change (R283, R284). -/
  compares : Option Nat := none
  comparesAt : Nat := 0
  deriving DecidableEq, Repr

/-- One reference source, codes 0 to 9 (R298, R302-R304, R318). -/
structure RefSource where
  /-- QSTATE and DQ_REASON (R303, R318). -/
  qstate : Nat := 1
  dqReason : Nat := 0
  /-- Tick counts since which the source has been qualifying without a restart, and qualified (R303, R304). -/
  since : Nat := 0
  qualifiedAt : Nat := 0
  /-- RESTORABLE (R304), the run of missed beats, MISS_STICKY and DQ_STICKY (R302, R318). -/
  restorable : Bool := false
  misses : Nat := 0
  missSticky : Bool := false
  dqSticky : Bool := false
  /-- Offset against the XO in ppb: the latest report; the reports since a signal was seen, newest first, as many as DRIFT_WIN can ask
  for; and the drift in 0.01 ppm/s (R302, R318). -/
  offset : Int := 0
  offsets : List Int := []
  drift : Int := 0
  /-- The class of a SYNC 0 port under which the source qualified (R299). -/
  cls : Nat := 0
  deriving DecidableEq, Repr

/-- One second of the history of ΔD (R313): its end as a tick count, and the mean. -/
structure HistRec where
  at_ : Nat
  mean : Int
  deriving DecidableEq, Repr

/-- DPLL_STATE of R305. -/
inductive DpllState where
  | freerun | handoff | tracking | holdover | expired
  deriving DecidableEq, Repr

/-- The DPLL (chapter 12). -/
structure Dpll where
  src : Tab RefSource := []
  state : DpllState := .freerun
  /-- CURRENT and TARGET of R318; 15: none. -/
  current : Nat := 15
  target : Nat := 15
  /-- The source of the handoff in progress when it was not a failure: revertive (R308). -/
  revertive : Bool := false
  /-- 8 beats have been measured: their mean φ in root periods, and the mean pulse position in root periods (R307, R312). -/
  measured : Option (Int × Int) := none
  /-- The tick count at which they were. -/
  measuredAt : Nat := 0
  /-- Outgoing DPLL state: the outgoing side holds over during MEASURE (R308). -/
  outgoing : DpllState := .freerun
  /-- Phase build-out register, root periods. -/
  buildOut : Int := 0
  /-- ΔD in units of 2^-48 (R278), and the integrator of the loop (R311). -/
  delta : Int := 0
  loopSum : Int := 0
  /-- The bandwidth in mHz and the damping in 0.001 of the loop, as the latest tick boundary took them (R311). -/
  bw : Nat := 10000
  damp : Nat := 5000
  /-- The link source QUALIFIED at the latest tick boundary (R301, R318), and the tick count at which the DPLL stopped with the root (R305). -/
  linkWas : Option Nat := none
  stoppedAt : Option Nat := none
  /-- PULL_LIMIT (R309, R318). -/
  pullLimit : Bool := false
  /-- A force in force: 1 a source, 2 holdover, 3 free-run, with the source; and one that waits for its TICK (R315). -/
  force : Option (Nat × Nat) := none
  forceNext : List (Nat × Nat × Nat × Nat) := []
  /-- The history ring, newest first, 1,024 entries, and the second in progress: its sum, ticks, and whether it is spoiled
  (R313). -/
  history : List HistRec := []
  secSum : Int := 0
  secTicks : Nat := 0
  secBad : Bool := false
  /-- Tick count of the latest capture (R307). -/
  lastCapture : Nat := 0
  /-- Holdover: t_d as a tick count, e0 in 0.5 ppb, and θ0 in the unit of R81 (R313, R314). -/
  hoAt : Nat := 0
  e0 : Nat := 0
  theta0 : Int := 0
  /-- SHORT_HISTORY, the sticky bits and SWITCHES (R313, R318). -/
  shortHistory : Bool := false
  hoSticky : Bool := false
  expSticky : Bool := false
  switchSticky : Bool := false
  switches : Nat := 0
  /-- The frame-pulse alignment A in root periods (R312). -/
  align : Nat := 0
  deriving DecidableEq, Repr

/-- A wake source of R336 as LAST_WAKE of R342 codes it: 1 WAKE_N, 2 jack, 3 Rest timer, 4 bus, 5 wake detector. -/
structure WakeCause where
  code : Nat
  js : Nat := 0
  deriving DecidableEq, Repr

/-- Power, resets, boot and modes (chapter 13). -/
structure Power where
  /-- The mode (R328). -/
  mode : Mode := .boot
  /-- VALID of R342, in the order of R319: VAON, DVDD08, LVDD09, AVDD18, AVDD5, IOVDD, HPVDD, VSPK. -/
  valid : BitVec 8 := 255
  /-- RESET_N is low; the device is held in reset (R322, R323). -/
  resetLow : Bool := false
  inReset : Bool := false
  /-- LAST_RESET, RESET_SUPPLY, LAST_WAKE, WAKE_JS and BOOT_BANK (R342). -/
  lastReset : Nat := 0
  resetSupply : Nat := 0
  lastWake : Nat := 0
  wakeJs : Nat := 0
  bootBank : Nat := 0
  /-- The boot has verified a firmware bank (R330, R331). -/
  verified : Bool := false
  /-- FW_FALLBACK and WOKEN (R329). -/
  fallback : Bool := false
  woken : Bool := false
  /-- The boot in progress ends Rest, or follows FW_COMMIT in RECOVERY (R324). -/
  bootFromRest : Bool := false
  bootFromRecovery : Bool := false
  /-- REFUSED_AT_BOOT and BOOT_REASON (R332, R342), and AUTORUN_PENDING (R329). -/
  refusedAtBoot : Bool := false
  bootReason : Nat := 0
  autorun : Bool := false
  /-- What R332 still has to start: 0 nothing, 1 the recall of slot 0 with ARM, 2 ARM. -/
  autorunDue : Nat := 0
  /-- The power-fail warning is present; tick count at which it last cleared (R338, R339). -/
  pfw : Bool := false
  /-- PFW_STICKY and PFW_COUNT (R342). -/
  pfwSticky : Bool := false
  pfwCount : Nat := 0
  /-- Tick count at which the warning last cleared (R339). -/
  pfwClear : Option Nat := none
  /-- MRAM writes are held off since a warning (R339). -/
  mramHeld : Bool := false
  /-- Leaving Run: the mode asked for, and the tick count at which the mutes end (R212, R217). -/
  leaving : Option (Mode × Nat) := none
  /-- The request that Idle answers when it is reached (R396, R417). -/
  leaveJob : Option Job := none
  /-- The sequence of R333: its target, the tick count of its start, and its step: 0 bias ramp, 1 gated and committed,
  2 sessions closed. -/
  entering : Option (Mode × Nat) := none
  entryStep : Nat := 0
  /-- The bias ramp of the sequence has ended at this tick count. -/
  rampedAt : Nat := 0
  /-- A power-fail warning in the sequence has made its commit (R340). -/
  entryCommitted : Bool := false
  /-- A wake source latched in AON (R333, R335). -/
  wake : Option WakeCause := none
  /-- Retention was lost in Watch (R322). -/
  retentionLost : Bool := false
  /-- An exit from Rest or Watch is in progress (R337): the mode it leaves. -/
  exiting : Option Mode := none
  /-- The samples of JS0-JS3 in Rest and Watch, newest first, up to three (R336). -/
  jackSamples : Tab (List Bool) := []
  /-- ATTN_N is pulled low from VAON by a wake in Rest (R336). -/
  attnHeld : Bool := false
  /-- Tick count at which the latest entry to Rest or Watch ended: the Rest timer counts from it (R336). -/
  enteredAt : Nat := 0
  deriving DecidableEq, Repr

/-- The rate and source of a PDM clock (R344). -/
inductive PdmClk where
  | stopped | slow | fast | losc
  deriving DecidableEq, Repr

/-- An event record (R352, R358). -/
structure WakeRec where
  start : BitVec 32
  end_ : BitVec 32
  seq : Nat
  template : Nat
  late : Bool
  modeEnd : Nat
  distance : Nat
  deriving DecidableEq, Repr

/-- A template slot: its bytes and whether it is ready (R351). -/
structure Template where
  bytes : Tab Byte := []
  ready : Bool := false
  deriving DecidableEq, Repr

/-- An episode of stage 2 (R350): the onset start, the slots that take part, and the consecutive quiet frames. -/
structure Episode where
  onset : BitVec 32
  slots : List Nat
  quiet : Nat
  deriving DecidableEq, Repr

/-- A handover (R354): the read position as an index and sixths of a sample, r, whether the live rate is reached, and whether a
sample has been presented. -/
structure Handover where
  idx : BitVec 32
  sixth : Nat := 0
  r : Nat
  live : Bool := false
  ran : Bool := false
  deriving DecidableEq, Repr

/-- Listening and wake (chapter 14). -/
structure Wake where
  /-- The rates and sources of PDMCK0 and PDMCK1 (R344). -/
  clk0 : PdmClk := .stopped
  clk1 : PdmClk := .stopped
  /-- End of CLK_SETTLE of each clock, while it runs (R345). -/
  settle0 : Option Nat := none
  settle1 : Option Nat := none
  /-- LISTENING (R348, R358). -/
  listening : Bool := false
  /-- The wake chain (R347): bits of the group of four at 3.072 MHz, the CIC, and its results for the compensator. -/
  group : List Bool := []
  cic : Cic := {}
  taps : List Int := []
  /-- The history ring, newest first (R348), 24-bit signed samples; the entry at the head has index WIDX − 1. -/
  ring : List Int := []
  widx : BitVec 32 := 0
  startIdx : BitVec 32 := 0
  /-- Stage 1 (R349): the floor F, none before the first frame, as the sum of squares of the frame it fell to and the frames
of 16 ms it has risen since; the frames of the onset so far; and WIDX at the end of the latest frame done. -/
  floor : Option (Nat × Nat) := none
  framesOver : Nat := 0
  frameDone : BitVec 32 := 0
  /-- Stage 2 (R350). -/
  episode : Option Episode := none
  /-- The templates (R351). -/
  templates : Tab Template := []
  /-- The 8 newest records, newest first, and the SEQ of the newest (R352, R358). -/
  records : List WakeRec := []
  seq : Nat := 0
  /-- WIDX values at which the mode changed, newest first (R352). -/
  modeMarks : List (BitVec 32) := []
  /-- The handover in progress (R354). -/
  handover : Option Handover := none
  /-- HISTORY_HANDOVER with a tick: TICK, start index (none: a stop), r, and the port that asked (R354). -/
  handoverNext : List (Nat × Option (BitVec 32) × Nat × Nat) := []
  /-- CAUGHT_UP, H and T_H (R354, R358). -/
  caughtUp : Bool := false
  hIndex : BitVec 32 := 0xFFFFFFFF
  hTick : BitVec 32 := 0
  /-- LOST_STICKY, LOST_REST and REJECTED (R352, R353, R358). -/
  lostSticky : Bool := false
  lostRest : Nat := 0
  rejected : Nat := 0
  /-- The wake stream 0x2000 as presented at the latest boundary (R354, R170). -/
  stream : StreamWord := StreamWord.zero
  /-- LOSC has been calibrated in the latest sequence of R333 (R344). -/
  calibrated : Bool := false
  deriving DecidableEq, Repr

/-- The analog inputs AIN0-AIN15 with the jacks JS4-JS11 and the phantom port (chapter 2). -/
structure Inputs where
  ch : Tab InputCh := []
  pins : Tab JackPin := []
  phantom : PhantomPort := {}
  deriving DecidableEq, Repr

/-- The ways the block could stop with its own error report. The manual gives every listed operation and event an effect or
a reply that refuses it, so no command raises one (log entry 50); the constructor is there to give the type a name for it. -/
inductive Fault where
  /-- Raised by no command (safe). -/
  | stopped
  deriving DecidableEq, Repr

/-- The ways the model declines a command. -/
inductive Refusal where
  /-- Raised by the dispatcher alone, for a command that has no meaning yet (safe: the model stops). -/
  | notModelled (mnemonic : String)
  deriving DecidableEq, Repr

/-- The whole machine. -/
structure State where
  clock : Clock := {}
  power : Power := {}
  synth : Synth := {}
  dpll : Dpll := {}
  bus : Bus := {}
  ctl : Control := {}
  mram : Mram := {}
  cfg : Cfg := {}
  dep : Dep := {}
  log : MarathonLog := {}
  jtag : Jtag := .idcode
  inp : Inputs := {}
  conv : Conv := {}
  sprint : Sprint := {}
  graph : Graph := {}
  rout : Routing := {}
  out : Outputs := {}
  ports : Ports := {}
  link : Link := {}
  wake : Wake := {}
  /-- The model's own count of free values taken: the argument of the opaque constants of Config (not the manual's; DESIGN CHOICE, log
  entry 7). -/
  free : Nat := 0
  /-- The commands that wait, first in, first out. -/
  pending : List Instr := []
  deriving DecidableEq, Repr

/-- The machine at the release of a VAON power-on reset with every supply valid: BOOT, before its first boot step (R330). Where the manual
states no reset value the field defaults are the model's (DESIGN CHOICE, log entries 4 to 6). -/
def State.reset : State := { out := { vspkSince := some 0 } }

end Sys2Proof.Machine
end

