-- ==== Sys2Proof/Machine/Operators.lean ====
section
/-! DEFINITION. The Sahyon operator set, revision 1 (R160-R168): the figures of each operator, what its parameter slots take, and
what one firing computes. -/
namespace Sys2Proof.Machine

/-- The figures of an operator (R160). `cw` is C of the write part of a SPLIT node, `data` the bytes of its data array. -/
structure OpFig where
  ins : Nat
  outs : Nat
  slots : Nat
  c : Nat
  cw : Nat := 0
  l : Nat
  s : Nat := 0
  m : Nat := 0
  lat : Nat := 0
  ahead : Bool := false
  timed : Bool := false
  sink : Bool := false
  split : Bool := false
  data : Nat := 0
  deriving DecidableEq, Repr

/-- The figures when SIZE_ARG lies in its range. -/
def figWhen (ok : Bool) (f : OpFig) : Option OpFig := if ok then some f else none

/-- The figures of operators 0 to 19 (R160). -/
def opFigA (op n : Nat) : Option OpFig :=
  let z := decide (n = 0)
  let i := field n 0 4
  let o := field n 4 4
  let d := field n 4 20
  match op with
  | 0 => figWhen z { ins := 1, outs := 1, slots := 1, c := 30, l := 32, ahead := true }
  | 1 => figWhen (decide (2 ≤ n ∧ n ≤ 16)) { ins := n, outs := 1, slots := n, c := 24 + 6 * n, l := 16 + 8 * n, ahead := true }
  | 2 => figWhen (decide (n ≤ 2)) { ins := 1, outs := 2, slots := 1, c := 44, l := 48, ahead := true }
  | 3 => figWhen (decide (n < 256 ∧ 1 ≤ i ∧ i ≤ 8 ∧ 1 ≤ o ∧ o ≤ 8))
      { ins := i, outs := o, slots := i * o, c := 24 + 5 * i * o, l := 16 + 8 * i * o, ahead := true }
  | 4 => figWhen z { ins := 2, outs := 1, slots := 2, c := 40, l := 32, ahead := true }
  | 5 => figWhen z { ins := 2, outs := 1, slots := 0, c := 26, l := 16, ahead := true }
  | 6 => figWhen z { ins := 0, outs := 1, slots := 1, c := 20, l := 32, ahead := true, timed := true }
  | 7 => figWhen (decide (2 ≤ n ∧ n ≤ 16)) { ins := n, outs := 1, slots := 1, c := 40, l := 32, ahead := true }
  | 8 => figWhen z { ins := 1, outs := 1, slots := 5, c := 50, l := 96 }
  | 9 => figWhen (decide (1 ≤ n ∧ n ≤ 16)) { ins := 1, outs := 1, slots := 5 * n, c := 36 + 14 * n, l := 64 + 32 * n }
  | 10 => figWhen (decide (1 ≤ n ∧ n ≤ 2048)) { ins := 1, outs := 1, slots := n, c := 72 + n, l := 64, s := 8 * n, m := n + 1, sink := true }
  | 11 => figWhen z { ins := 1, outs := 1, slots := 3, c := 36, l := 48 }
  | 12 => figWhen z { ins := 2, outs := 3, slots := 3, c := 110, l := 64 }
  | 13 => figWhen z { ins := 1, outs := 1, slots := 1, c := 32, l := 32 }
  | 14 => figWhen (decide (1 ≤ n ∧ n ≤ 1048575))
      { ins := 1, outs := 1, slots := 1, c := 46, cw := 22, l := 32, s := 8 * (n + 1), m := 3, ahead := true, timed := true, sink := true,
        split := true }
  | 15 => figWhen (decide (n < 2 ^ 24 ∧ 1 ≤ i ∧ i ≤ 8 ∧ 1 ≤ d))
      { ins := 1, outs := i, slots := 2 * i, c := 30 + 24 * i, cw := 22, l := 32 + 16 * i, s := 8 * (d + 1), m := 2 * i + 1, ahead := true,
        timed := true, sink := true, split := true }
  | 16 => figWhen (decide (4 ≤ n ∧ n ≤ 1048575))
      { ins := 2, outs := 1, slots := 2, c := 70, cw := 22, l := 32, s := 8 * (n + 1), m := 5, ahead := true, timed := true, sink := true,
        split := true }
  | 17 => figWhen (decide (1 ≤ n ∧ n ≤ 65535)) { ins := 1, outs := 1, slots := 1, c := 48, l := 32, s := 8 * (n + 1), m := 2, sink := true }
  | 18 => figWhen (decide (1 ≤ n ∧ n ≤ 65535)) { ins := 1, outs := 1, slots := 2, c := 56, l := 48, s := 8 * (n + 1), m := 2, sink := true }
  | 19 => figWhen (decide (n ≤ 3)) { ins := 0, outs := 1, slots := 3, c := 60, l := 64, ahead := true, timed := true }
  | _ => none

/-- The partition P and the count K of a CONVOLVE (R168). -/
def convP (n : Nat) : Nat := 64 * 2 ^ field n 0 4
def convK (n : Nat) : Nat := field n 4 12

/-- The figures of operators 20 to 39 (R160). -/
def opFigB (op n : Nat) : Option OpFig :=
  let z := decide (n = 0)
  match op with
  | 20 => figWhen (decide (n ≤ 4)) { ins := 0, outs := 1, slots := 5, c := 48, l := 64, ahead := true, timed := true }
  | 21 => figWhen z { ins := 0, outs := 1, slots := 2, c := 28, l := 32, ahead := true, timed := true }
  | 22 => figWhen z { ins := 1, outs := 1, slots := 2, c := 40, l := 32 }
  | 23 => figWhen z { ins := 1, outs := 1, slots := 1, c := 30, l := 32 }
  | 24 => figWhen (decide (n ≤ 1)) { ins := 2, outs := 1, slots := 7, c := 140, l := 128 }
  | 25 => figWhen (decide (n ≤ 96)) { ins := 1, outs := 1, slots := 2, c := 180, l := 1024, lat := n }
  | 26 => figWhen (decide (n ≤ 1)) { ins := 2, outs := 1, slots := 6, c := 90, l := 96 }
  | 27 => figWhen (decide (n ≤ 1)) { ins := 2, outs := 1, slots := 5, c := 120, l := 112 }
  | 28 => figWhen z { ins := 2, outs := 1, slots := 5, c := 96, l := 96 }
  | 29 =>
    if n = 1 then some { ins := 1, outs := 1, slots := 2, c := 40, l := 1096, ahead := true, data := 1028 }
    else if n = 2 then some { ins := 1, outs := 1, slots := 2, c := 120, l := 1224, lat := 1, data := 1028 }
    else if n = 4 then some { ins := 1, outs := 1, slots := 2, c := 230, l := 1352, lat := 1, data := 1028 }
    else none
  | 30 => figWhen z { ins := 1, outs := 1, slots := 2, c := 34, l := 32, ahead := true }
  | 31 => figWhen (decide (n ≤ 1)) { ins := 1, outs := 1, slots := 0, c := 20, l := 16, ahead := true }
  | 32 => figWhen z { ins := 2, outs := 1, slots := 0, c := 24, l := 32 }
  | 33 => figWhen z { ins := 1, outs := 1, slots := 2, c := 26, l := 16 }
  | 34 => figWhen z { ins := 1, outs := 1, slots := 2, c := 24, l := 16, ahead := true }
  | 35 => figWhen z { ins := 1, outs := 2, slots := 10, c := 190, l := 160 }
  | 36 => figWhen (decide (16 ≤ n ∧ n ≤ 24)) { ins := 1, outs := 1, slots := 1, c := 30, l := 16, ahead := true }
  | 37 => figWhen (decide (n < 65536 ∧ field n 0 4 ≤ 3 ∧ 1 ≤ convK n ∧ convK n ≤ 256))
      { ins := 1, outs := 1, slots := 0, c := 200 + 20 * (6 + field n 0 4) + 4 * convK n, l := 256,
        s := 16 * convK n * (convP n + 1) + 48 * convP n, m := 12 + 2 * convK n, lat := 2 * convP n, sink := true,
        data := 4 * convK n * convP n }
  | 38 => figWhen z { ins := 1, outs := 0, slots := 1, c := 20, l := 16, sink := true }
  | 39 => figWhen z { ins := 1, outs := 1, slots := 0, c := 20, l := 16, ahead := true }
  | _ => none

/-- The figures of an operator; none where OP or SIZE_ARG is out of range. -/
def opFig (op n : Nat) : Option OpFig := if op < 20 then opFigA op n else opFigB op n

/-- What a parameter slot takes (R156): signed or unsigned words of any value, a signed range, an unsigned range; and whether the
slot is smoothed. -/
inductive SlotFmt where
  | signed (smooth : Bool)
  | unsigned
  | sRange (lo hi : Int)
  | uRange (lo hi : Nat) (smooth : Bool)
  deriving DecidableEq, Repr

/-- LIN, POS and SMP slots that are smoothed; a DB slot with an upper limit. -/
def SlotFmt.lin : SlotFmt := .signed true
def SlotFmt.db (hi : Int) : SlotFmt := .sRange (-12000) hi

/-- The format of slot k of an operator (R156, R160, R163). -/
def slotFmt (op n k : Nat) : SlotFmt :=
  match op with
  | 4 => if k = 0 then .lin else .uRange 0 1 false
  | 7 => .uRange 0 (n - 1) false
  | 8 => .signed false
  | 9 => .signed false
  | 10 => .signed false
  | 11 => .signed false
  | 12 => if k = 2 then .signed false else .unsigned
  | 13 => .unsigned
  | 14 => .uRange 4096 (4096 * n) true
  | 15 => if k % 2 = 0 then .uRange 4096 (4096 * field n 4 20) true else .lin
  | 16 => if k = 0 then .uRange 8192 (4096 * (n - 2)) true else .uRange 0 0xFFFFFFFF true
  | 17 => .signed false
  | 18 => if k = 0 then .lin else .unsigned
  | 19 => if k = 2 then .lin else .unsigned
  | 20 => if k = 2 then .lin else if k = 3 then .signed false else .unsigned
  | 21 => if k = 1 then .lin else .unsigned
  | 22 => .unsigned
  | 23 => .unsigned
  | 24 =>
    if k = 0 then .db 2400 else if k = 1 then .uRange (2 ^ 24) 0xFFFFFFFF false else if k = 2 then .sRange 0 4800
    else if k = 5 then .lin else if k = 6 then .uRange 0 1 false else .unsigned
  | 25 => if k = 0 then .db 0 else .unsigned
  | 26 => if k ≤ 1 then .db 2400 else if k = 2 then .db 0 else if k = 4 then .uRange 0 96000 false else .unsigned
  | 27 => if k = 0 then .db 2400 else if k = 1 then .uRange (2 ^ 24) 0xFFFFFFFF false else if k = 4 then .db 0 else .unsigned
  | 28 => if k = 0 then .db 2400 else if k = 1 then .db 0 else .unsigned
  | 33 => .signed false
  | 35 => .signed false
  | 36 => .unsigned
  | 38 => .uRange 0 255 false
  | _ => .lin

/-- A value lies in what the slot takes. -/
def SlotFmt.ok : SlotFmt → Word → Bool
  | .signed _, _ => true
  | .unsigned, _ => true
  | .sRange lo hi, w => decide (lo ≤ w.toInt ∧ w.toInt ≤ hi)
  | .uRange lo hi _, w => decide (lo ≤ w.toNat ∧ w.toNat ≤ hi)

/-- The number a slot's word stands for, and whether changes of it are smoothed. -/
def SlotFmt.int : SlotFmt → Word → Int
  | .signed _, w => w.toInt
  | .sRange _ _, w => w.toInt
  | .unsigned, w => w.toNat
  | .uRange _ _ _, w => w.toNat
def SlotFmt.smooth : SlotFmt → Bool
  | .signed b => b
  | .uRange _ _ b => b
  | _ => false

/-- A smoothing ramp at tick u (R156): linear over 64 ticks from the value it left. At the tick of effect it has made its first step, and it
reaches the new value 63 ticks later (DESIGN CHOICE, log entry 67). -/
def rampValue (free : Nat) (r : Option Ramp) (v : Int) (u : Nat) : Int :=
  match r with
  | some r => if u < r.start then r.frm else if u < r.start + 64 then r.frm + looseQuot free ((v - r.frm) * (u - r.start + 1 : Nat)) 64 else v
  | none => v

/-- What a firing for tick u sees: its inputs, parameters, LOCAL state, the phase at u with the whole phase since the anchor,
TICK, shared words by position, and its data array. `free` indexes the free roundings. -/
structure FireIn where
  op : Nat
  size : Nat
  xs : List StreamWord
  par : Nat → Int
  mix : List Nat := []
  loc : List Int := []
  phase : Nat := 0
  tick : Nat := 0
  u : Nat := 0
  shared : Nat → StreamWord := fun _ => StreamWord.zero
  data : Nat → Int := fun _ => 0
  free : Nat := 0

/-- What a firing makes: its outputs in order, its LOCAL state, a write to a shared position, and a word for a meter slot. -/
structure FireOut where
  outs : List StreamWord := []
  loc : List Int := []
  write : Option (Nat × StreamWord) := none
  meter : Option (Nat × StreamWord) := none

/-- Input i; a port with no baton reads 0 with no flags (R115). -/
def FireIn.x (f : FireIn) (i : Nat) : StreamWord := f.xs.getD i StreamWord.zero
def FireIn.l (f : FireIn) (i : Nat) : Int := f.loc.getD i 0

/-- A result with the flags of the words that contribute (R22), saturated (R23). -/
def made (from_ : List StreamWord) (y : Int) : StreamWord :=
  { sample := word (sat32 y)
    unsettled := from_.any (fun w => w.unsettled)
    clipped := from_.any (fun w => w.clipped) || saturates 32 y
    substituted := from_.any (fun w => w.substituted) }

/-- The words of inputs that an effective gain g / one lets contribute (R22). -/
def passing (g : Int) (one : Nat) (ws : List StreamWord) : List StreamWord := if heard g one then ws else []

/-- x by a gain g over one, with a free rounding. -/
def FireIn.mul (f : FireIn) (x g : Int) (one : Nat) : Int := looseQuot f.free (x * g) one

/-- A weighted sum of inputs with weights over one: only contributing inputs pass their flags. -/
def FireIn.sum (f : FireIn) (ws : List (StreamWord × Int)) (one : Nat) (on : Int → Bool := fun g => heard g one) : StreamWord :=
  made ((ws.filter (fun p => on p.2)).map (fun p => p.1))
    (looseQuot f.free ((ws.map (fun p => p.1.int * p.2)).foldl (· + ·) 0) one)

/-- A biquad section in the transposed direct form (R162) with states in units of 2^-16 LSB: the new states and the output before
its saturation. -/
def section_ (free : Nat) (b0 b1 b2 a1 a2 x s1 s2 : Int) : Int × Int × Int :=
  let y0 := looseQuot free (b0 * x * 2 ^ 16 + s1 * 2 ^ 29) (2 ^ 45)
  let y := sat32 y0
  (sat 64 (looseQuot free (b1 * x - a1 * y) (2 ^ 13) + s2), sat 64 (looseQuot free (b2 * x - a2 * y) (2 ^ 13)), y0)

/-- A cascade of k sections from slot p on: states, output, and whether a section saturated. -/
def FireIn.cascade (f : FireIn) : Nat → Nat → Int → List Int → Bool → List Int × Int × Bool
  | 0, _, x, _, c => ([], x, c)
  | k + 1, p, x, st, c =>
    let r := section_ f.free (f.par p) (f.par (p + 1)) (f.par (p + 2)) (f.par (p + 3)) (f.par (p + 4)) x (st.getD 0 0) (st.getD 1 0)
    let q := f.cascade k (p + 5) (sat32 r.2.2) (st.drop 2) (c || saturates 32 r.2.2)
    (r.1 :: r.2.1 :: q.1, q.2)

/-- A clipped mark beside the flags of the inputs. -/
def madeClip (from_ : List StreamWord) (y : Int) (clip : Bool) : StreamWord :=
  let w := made from_ y
  { w with clipped := w.clipped || clip }

/-- The hash H of R164. -/
def hashH (s k : Nat) : Nat :=
  let h := (s % 2 ^ 32) ^^^ (k * 0x9E3779B9 % 2 ^ 32)
  let h := h ^^^ (h >>> 16)
  let h := h * 0x85EBCA6B % 2 ^ 32
  let h := h ^^^ (h >>> 13)
  let h := h * 0xC2B2AE35 % 2 ^ 32
  h ^^^ (h >>> 16)

/-- A quarter of the sine table of R164: round((2^31 − 1)·sin(2πi / 1,024)), i from 0 to 256. -/
def sineQuarter0 : List Int :=
  [0, 13176712, 26352928, 39528151, 52701887, 65873638, 79042909, 92209205, 105372028, 118530885, 131685278, 144834714,
   157978697, 171116732, 184248325, 197372981, 210490206, 223599506, 236700388, 249792358, 262874923, 275947592, 289009871, 302061269,
   315101294, 328129457, 341145265, 354148229, 367137860, 380113669, 393075166, 406021864, 418953276, 431868915, 444768293, 457650927,
   470516330, 483364019, 496193509, 509004318, 521795963, 534567963, 547319836, 560051103, 572761285, 585449903, 598116478, 610760535,
   623381597, 635979190, 648552837, 661102068, 673626408, 686125386, 698598533, 711045377, 723465451, 735858287, 748223418, 760560379,
   772868706, 785147934, 797397602, 809617248, 821806413]
def sineQuarter1 : List Int :=
  [833964637, 846091463, 858186434, 870249095, 882278991, 894275670, 906238681, 918167571, 930061894, 941921200, 953745043, 965532978,
   977284561, 988999351, 1000676905, 1012316784, 1023918549, 1035481765, 1047005996, 1058490807, 1069935767, 1081340445, 1092704410, 1104027236,
   1115308496, 1126547765, 1137744620, 1148898640, 1160009404, 1171076495, 1182099495, 1193077990, 1204011566, 1214899812, 1225742318, 1236538675,
   1247288477, 1257991319, 1268646799, 1279254515, 1289814068, 1300325059, 1310787095, 1321199780, 1331562722, 1341875532, 1352137822, 1362349204,
   1372509294, 1382617710, 1392674071, 1402677999, 1412629117, 1422527050, 1432371426, 1442161874, 1451898025, 1461579513, 1471205973, 1480777044,
   1490292364, 1499751575, 1509154322, 1518500249, 1527789006]
def sineQuarter2 : List Int :=
  [1537020243, 1546193612, 1555308767, 1564365366, 1573363067, 1582301533, 1591180425, 1599999410, 1608758157, 1617456334, 1626093615, 1634669675,
   1643184190, 1651636840, 1660027308, 1668355276, 1676620431, 1684822463, 1692961061, 1701035921, 1709046738, 1716993211, 1724875039, 1732691927,
   1740443580, 1748129706, 1755750016, 1763304223, 1770792043, 1778213194, 1785567395, 1792854372, 1800073848, 1807225552, 1814309215, 1821324571,
   1828271355, 1835149305, 1841958164, 1848697673, 1855367580, 1861967633, 1868497585, 1874957188, 1881346201, 1887664382, 1893911493, 1900087300,
   1906191569, 1912224072, 1918184580, 1924072870, 1929888719, 1935631909, 1941302224, 1946899450, 1952423376, 1957873795, 1963250500, 1968553291,
   1973781966, 1978936330, 1984016188, 1989021349, 1993951624]
def sineQuarter3 : List Int :=
  [1998806828, 2003586778, 2008291295, 2012920200, 2017473320, 2021950483, 2026351521, 2030676268, 2034924561, 2039096240, 2043191149, 2047209132,
   2051150040, 2055013722, 2058800035, 2062508835, 2066139982, 2069693341, 2073168776, 2076566159, 2079885359, 2083126253, 2086288719, 2089372637,
   2092377891, 2095304369, 2098151959, 2100920555, 2103610053, 2106220351, 2108751351, 2111202958, 2113575079, 2115867625, 2118080510, 2120213650,
   2122266966, 2124240379, 2126133816, 2127947205, 2129680479, 2131333571, 2132906419, 2134398965, 2135811152, 2137142926, 2138394239, 2139565042,
   2140655292, 2141664947, 2142593970, 2143442325, 2144209981, 2144896909, 2145503082, 2146028479, 2146473079, 2146836865, 2147119824, 2147321945,
   2147443221, 2147483647]
def sineQuarter : List Int := sineQuarter0 ++ sineQuarter1 ++ sineQuarter2 ++ sineQuarter3

/-- Entry i of the sine table. -/
def sineEntry (i : Nat) : Int :=
  let j := i % 512
  let v := sineQuarter.getD (if j ≤ 256 then j else 512 - j) 0
  if i % 1024 < 512 then v else -v

/-- The sine of a phase by linear interpolation on the low 22 bits (R164). -/
def sineOf (free ph : Nat) : Int :=
  let a := sineEntry (ph / 2 ^ 22)
  a + looseQuot free ((sineEntry (ph / 2 ^ 22 + 1) - a) * (ph % 2 ^ 22 : Nat)) (2 ^ 22)

/-- The position of tick u − d in a store of n + 1 positions (R163). -/
def FireIn.back (f : FireIn) (n d : Nat) : StreamWord := f.shared ((f.u + (n + 1) * (d / (n + 1) + 1) - d) % (n + 1))

/-- A delayed word at d / 4,096 ticks in a store of n + 1 positions, interpolated linearly (R161, R163). -/
def FireIn.tap (f : FireIn) (n d : Nat) : StreamWord :=
  let a := f.back n (d / 4096)
  if d % 4096 = 0 then a
  else
    let b := f.back n (d / 4096 + 1)
    made [a, b] (a.int + looseQuot f.free ((b.int - a.int) * (d % 4096 : Nat)) 4096)

/-- The delay of a MODDELAY (R163): base + depth·in1 / 2^31, limited to 2 to D − 2 ticks. -/
def FireIn.modD (f : FireIn) : Nat :=
  (max 8192 (min (4096 * ((f.size : Int) - 2)) (f.par 0 + looseQuot f.free (f.par 1 * (f.x 0).int) (2 ^ 31)))).toNat

/-- A four-point cubic Hermite at fraction k / 4,096 between y1 and y2. -/
def hermite (free : Nat) (y0 y1 y2 y3 : Int) (k : Nat) : Int :=
  let c1 := y2 - y0
  let c2 := 2 * y0 - 5 * y1 + 4 * y2 - y3
  let c3 := (y3 - y0) + 3 * (y1 - y2)
  y1 + looseQuot free (c1 * k * 4096 ^ 2 + c2 * k ^ 2 * 4096 + c3 * k ^ 3) (2 * 4096 ^ 3)

/-- The detector of R165: detector 0 is the envelope of R77 with attack and release coefficients, detector 1 its RMS. -/
def FireIn.env (f : FireIn) (x : StreamWord) (att rel e : Int) : Int :=
  let m : Nat := x.int.natAbs * 2 ^ 33
  let c := if e < (m : Int) then att else rel
  if x.substituted then e else max 0 (min (2 ^ 64 - 1) (e + looseQuot f.free (c * ((m : Int) - e)) (2 ^ 32)))
def FireIn.rms (f : FireIn) (x : StreamWord) (c m : Int) : Int :=
  if x.substituted then m else max 0 (min (2 ^ 64 - 1) (m + looseQuot f.free (c * (4 * x.int * x.int - m)) (2 ^ 32)))

/-- The key of a dynamics operator (R165): input 1 for a DUCKER or a key setting of 1, else input 0. -/
def FireIn.keyed (f : FireIn) : Bool := decide (f.op = 28 ∨ f.size = 1)
def FireIn.key (f : FireIn) : StreamWord := f.x (if f.keyed then 1 else 0)

/-- A gain of g in 2^-16 of 0.01 dB and then q in Q4.28 lie above the off level of R22 together: judged on the exact gain, not on its
rounded value. -/
def heardDb (g q : Int) : Bool :=
  if q.natAbs = 2 ^ 28 then decide (-(12000 * 65536) < g) else decide (fine * 2 ^ 28 < 10 ^ 6 * (q.natAbs * twoTo (g * logTen / 131072000)))

/-- The output of a dynamics operator that gives its signal a gain of g in 2^-16 of 0.01 dB and then one of q in Q4.28: the signal passes
its flags while their product is above the off level (R22), the key input while it is the key (R161). -/
def FireIn.dynamic (f : FireIn) (g q : Int) : StreamWord :=
  made ((if heardDb g q then [f.x 0] else []) ++ if f.keyed then [f.x 1] else [])
    (f.mul (f.mul (f.x 0).int (gainOf g) (2 ^ 32)) q (2 ^ 28))

/-- The largest magnitude at or below a ceiling of g in 0.01 dB (R165), in LSB. -/
def ceilingOf (g : Int) : Nat := twoTo (g * logTen / 2000) * 2 ^ 31 / fine

/-- The compressor's static curve of R165, as the reduction y − X, for a level, a threshold and a knee in 2^-16 of 0.01 dB and a
ratio in Q8.24. -/
def reduction (free : Nat) (x t k : Int) (r : Nat) : Int :=
  if 2 * (x - t) < -k then 0
  else if 2 * (x - t) ≤ k then
    if k = 0 then 0 else looseQuot free ((2 ^ 24 - (r : Int)) * (2 * (x - t) + k) ^ 2) (8 * r * k.toNat)
  else looseQuot free ((2 ^ 24 - (r : Int)) * (x - t)) r

/-- Move a value toward another by a coefficient (R156, CO). -/
def FireIn.move (f : FireIn) (v to_ co : Int) : Int := v + looseQuot f.free (co * (to_ - v)) (2 ^ 32)

/-- A PAN gain (R156, R167): at the centre −3, −4.5 or −6 dB to the precision the manual states, the same for both outputs; at the ends of
POS all on the first or on the second output; between them a free value, from the centre's up to one on the nearer output and down to
nothing on the other (log entry 53). -/
def panOf (law : Nat) (second : Bool) (pos : Int) : Nat :=
  let centre : Int := [-300, -450, -600].getD law 0
  let lo := gainOf ((centre - 5) * 65536)
  let mid := lo + Config.panGain law false 0 % (gainOf ((centre + 5) * 65536) - lo + 1)
  let near := if second then decide (0 < pos) else decide (pos < 0)
  if pos = 0 then mid
  else if pos ≤ -(2 ^ 31) ∨ 2 ^ 31 - 1 ≤ pos then (if near then unity else 0)
  else if near then mid + Config.panGain law second pos % (unity - mid + 1)
  else Config.panGain law second pos % (mid + 1)

/-- The gains of a CROSSFADE (R167): law 1 equal power, as R175 defines it over the position; law 0 equal gain. -/
def crossOf (law : Int) (second : Bool) (pos : Int) : Nat :=
  let k := (if second then pos + 2 ^ 31 else 2 ^ 31 - pos).toNat
  if law = 1 then powerAt k (2 ^ 32) else k

/-- The band-limit correction of a rising step of full scale at phase 0 (R164): on the samples before and after it alone. -/
def stepFix (inc ph : Nat) : Int :=
  if ph < inc then Config.bandLimit true ph inc
  else if 2 ^ 32 - ph ≤ inc then Config.bandLimit false (2 ^ 32 - ph) inc else 0

/-- The waves of R164 with the peak of its sine, 2^31 − 1: shape 1 triangle, 2 sawtooth, 3 square. Where in the cycle a wave begins
is free (Config.waveStart, log entry 54). -/
def triangleOf (free ph : Nat) : Int :=
  let v := looseQuot free ((2 ^ 31 - 1) * (ph % 2 ^ 31 : Nat)) (2 ^ 30) - (2 ^ 31 - 1)
  if ph < 2 ^ 31 then v else -v
def sawOf (free ph : Nat) : Int := looseQuot free ((2 ^ 31 - 1) * (ph : Int)) (2 ^ 31) - (2 ^ 31 - 1)
def squareOf (ph : Nat) : Int := if ph < 2 ^ 31 then 2 ^ 31 - 1 else -(2 ^ 31 - 1)
def waveOf (free : Nat) (lfo : Bool) (shape ph : Nat) : Int :=
  match shape with
  | 1 => triangleOf free ph
  | 2 => if !lfo && Config.sawFalls then -sawOf free ph else sawOf free ph
  | _ => squareOf ph

/-- An OSC's wave with its band-limit correction at each step of a sawtooth or square (R164); an LFO's has none. -/
def FireIn.wave (f : FireIn) (lfo : Bool) : Int :=
  let ph := (f.phase + Config.waveStart lfo f.size) % 2 ^ 32
  let inc := (f.par 0).toNat
  let fix :=
    if lfo then 0
    else if f.size = 2 then (if Config.sawFalls then stepFix inc ph else -stepFix inc ph)
    else if f.size = 3 then stepFix inc ph - stepFix inc ((ph + 2 ^ 31) % 2 ^ 32)
    else 0
  waveOf f.free lfo f.size ph + fix

/-- The SVF's frequency (R162), in units of 2^-64 cycle per tick: slot 0 by 2^(depth·in1 / 2^31), limited to Fc/6. -/
def svfFreq (slot0 : Nat) (depth in1 : Int) : Nat :=
  min (2 ^ 64 / 6) (onGrid 5 [slot0, depth, in1] ((slot0 * twoTo (depth * in1 * 2 ^ 41) : Nat) : Int)).toNat

/-- One firing of the two-integrator filter (R162): high-pass, band-pass and low-pass, in units of 2^-16 LSB as the states of R162;
the manual gives no equations: the coefficient is free, the form the model's (log entry 55). -/
def FireIn.svf (f : FireIn) : Int × Int × Int :=
  let c : Nat := Config.svfCoef (svfFreq (f.par 0).toNat (f.par 2) (f.x 1).int)
  let hp := (f.x 0).int * 2 ^ 16 - looseQuot f.free (f.par 1 * f.l 0) (2 ^ 30) - f.l 1
  let bp := sat 64 (f.l 0 + looseQuot f.free (c * hp) (2 ^ 32))
  (hp, bp, sat 64 (f.l 1 + looseQuot f.free (c * bp) (2 ^ 32)))

/-- Firings of the operators without LOCAL state that its outputs depend on (R162, R164, R166, R167). -/
def fireA (f : FireIn) : FireOut :=
  let x := f.x 0
  match f.op with
  | 0 => { outs := [f.sum [(x, f.par 0)] (2 ^ 28)] }
  | 1 => { outs := [f.sum ((List.range f.size).map (fun i => (f.x i, f.par i))) (2 ^ 28)] }
  | 2 => { outs := [false, true].map fun b => f.sum [(x, (panOf f.size b (f.par 0) : Nat))] (2 ^ 32) }
  | 3 =>
    let i := field f.size 0 4
    let row := fun o => f.sum ((List.range i).map (fun k => (f.x k, f.par (o * i + k)))) (2 ^ 28)
    { outs := (List.range (field f.size 4 4)).map row }
  | 4 =>
    let w := fun (b : Bool) => crossOf (f.par 1) b (f.par 0)
    { outs := [f.sum [(x, (w false : Nat)), (f.x 1, (w true : Nat))] (2 ^ 32)] }
  | 5 => { outs := [made [x, f.x 1] (x.int * (f.x 1).int / 2 ^ 31)] }
  | 6 => { outs := [made [] (f.par 0)] }
  | 7 =>
    { outs := [f.sum ((List.range f.size).map (fun i => (f.x i, (f.mix.getD i 0 : Nat)))) (2 ^ 32) (fun g => decide (g ≠ 0))] }
  | 14 => { outs := [f.tap f.size (f.par 0).toNat] }
  | 15 =>
    let tap := fun k => f.sum [(f.tap (field f.size 4 20) (f.par (2 * k)).toNat, f.par (2 * k + 1))] (2 ^ 28)
    { outs := (List.range (field f.size 0 4)).map tap }
  | 16 =>
    let d := f.modD
    let p := fun k => f.back f.size (d / 4096 + k - 1)
    let ws := if d % 4096 = 0 then [p 1] else [p 0, p 1, p 2, p 3]
    { outs := [made (f.x 0 :: ws) (hermite f.free (p 0).int (p 1).int (p 2).int (p 3).int (d % 4096))] }
  | 19 =>
    let w := if f.size = 0 then sineOf f.free f.phase else f.wave false
    { outs := [made [] (f.mul w (f.par 2) (2 ^ 28))] }
  | 20 =>
    let w := if f.size = 0 then sineOf f.free (f.phase % 2 ^ 32)
      else if f.size = 4 then signed (hashH (f.par 4).toNat (f.phase / 2 ^ 32)) 32 else f.wave true
    { outs := [made [] (f.mul w (f.par 2) (2 ^ 28) + f.par 3)] }
  | 21 => { outs := [made [] (f.mul (signed (hashH (f.par 0).toNat (f.tick % 2 ^ 32)) 32) (f.par 1) (2 ^ 28))] }
  | 30 =>
    let d := f.mul x.int (f.par 0) (2 ^ 28)
    let v := sat32 d
    let y := looseQuot f.free (3 * v * (3 * 2 ^ 62 - v * v)) (6 * 2 ^ 62)
    { outs := [madeClip (passing (f.par 0 * f.par 1) (2 ^ 56) [x]) (f.mul y (f.par 1) (2 ^ 28)) (saturates 32 d)] }
  | 31 => { outs := [made [x] (if f.size = 0 then (x.int.natAbs : Int) else max 0 x.int)] }
  | 34 => { outs := [made (passing (f.par 0) (2 ^ 28) [x]) (f.mul x.int (f.par 0) (2 ^ 28) + f.par 1)] }
  | 36 =>
    let t := f.tick % 2 ^ 32
    let s := (f.par 0).toNat
    let d := signed (hashH s t) 32 - signed (hashH (s ^^^ 0x55555555) t) 32
    { outs := [made [x] (roundShift (x.int * 2 ^ f.size + d) 32 * 2 ^ (32 - f.size))] }
  | _ => { outs := [x] }

/-- Entry i of a WAVESHAPER table, and its interpolation (R97, R166). -/
def FireIn.shape (f : FireIn) (v : Int) : Int :=
  let u := (v + 2 ^ 31).toNat
  let a := f.data (u / 2 ^ 24)
  a + roundShift ((f.data (u / 2 ^ 24 + 1) - a) * (u % 2 ^ 24 : Nat)) 24

/-- The shaped value of a driven one, and the LOCAL state (R166): at oversampling 2 or 4 the driven inputs are interpolated, each
sample shaped, and the shaped samples decimated. LOCAL holds 32 words at 2 and 64 at 4 beside the table (R160): the inputs and the
shaped samples, half each. The last part says whether an interpolated sample was limited to the table (R161). -/
def FireIn.shaped (f : FireIn) (v : Int) : Int × List Int × Bool :=
  let n := f.size
  if n ≤ 1 then (f.shape v, [], false)
  else
    let past := if f.loc.isEmpty then List.replicate (16 * n) 0 else f.loc
    let ins := (v :: past).take (8 * n)
    let mid := (List.range n).reverse.map (fun k => fir ins (Config.shapeUp n k ins))
    let out := (mid.map (fun y => f.shape (sat32 y)) ++ past.drop (8 * n)).take (8 * n)
    (fir out (Config.shapeDown n out), ins ++ out, mid.any (saturates 32))

/-- Firings of the filters and stores (R162, R163, R166, R168). -/
def fireB (f : FireIn) : FireOut :=
  let x := f.x 0
  match f.op with
  | 8 =>
    let r := f.cascade 1 0 x.int f.loc false
    { outs := [madeClip [x] r.2.1 r.2.2], loc := r.1 }
  | 9 =>
    let r := f.cascade f.size 0 x.int f.loc false
    { outs := [madeClip [x] r.2.1 r.2.2], loc := r.1 }
  | 10 =>
    let past := (List.range (f.size - 1)).map fun k => f.par (k + 1) * (f.back (f.size - 1) (k + 1)).int
    { outs := [made [x] (looseQuot f.free (f.par 0 * x.int + past.foldl (· + ·) 0) (2 ^ 31))], write := some (f.u % f.size, x) }
  | 11 =>
    let y0 := looseQuot f.free (f.par 0 * x.int * 2 ^ 16 + f.l 0 * 2 ^ 29) (2 ^ 45)
    { outs := [made [x] y0], loc := [sat 64 (looseQuot f.free (f.par 1 * x.int - f.par 2 * sat32 y0) (2 ^ 13))] }
  | 12 =>
    let r := f.svf
    { outs := [r.2.2, r.2.1, r.1].map (fun y => made [x, f.x 1] (looseQuot f.free y (2 ^ 16))), loc := [r.2.1, r.2.2] }
  | 13 =>
    { outs := [made [x] (looseQuot f.free (x.int * 2 ^ 16 - f.l 0) (2 ^ 16))]
      loc := [sat 64 (f.l 0 + looseQuot f.free (f.par 0 * (x.int * 2 ^ 16 - f.l 0)) (2 ^ 32))] }
  | 17 =>
    let r := f.back f.size f.size
    let w0 := x.int + looseQuot f.free (f.par 0 * r.int) (2 ^ 31)
    let w := made [x] w0
    { outs := [madeClip [x] (r.int - looseQuot f.free (f.par 0 * w.int) (2 ^ 31)) (saturates 32 w0)], write := some (f.u % (f.size + 1), w) }
  | 18 =>
    let r := f.back f.size f.size
    let fl := f.l 0 + looseQuot f.free (f.par 1 * (r.int * 2 ^ 32 - f.l 0)) (2 ^ 32)
    { outs := [made [x] r.int]
      loc := [fl]
      write := some (f.u % (f.size + 1), made [x] (x.int + looseQuot f.free (f.par 0 * fl) (2 ^ 60))) }
  | 29 =>
    let d := f.mul x.int (f.par 0) (2 ^ 28)
    let r := f.shaped (sat32 d)
    { outs := [madeClip (passing (f.par 0 * f.par 1) (2 ^ 56) [x]) (f.mul (sat32 r.1) (f.par 1) (2 ^ 28)) (saturates 32 d || saturates 32 r.1 || r.2.2)]
      loc := r.2.1 }
  | 35 =>
    let lo := f.cascade 1 0 x.int f.loc false
    let lo2 := f.cascade 1 0 (sat32 lo.2.1) (f.loc.drop 2) lo.2.2
    let hi := f.cascade 1 5 x.int (f.loc.drop 4) false
    let hi2 := f.cascade 1 5 (sat32 hi.2.1) (f.loc.drop 6) hi.2.2
    { outs := [madeClip [x] lo2.2.1 lo2.2.2, madeClip [x] hi2.2.1 hi2.2.2], loc := lo.1 ++ lo2.1 ++ hi.1 ++ hi2.1 }
  | 37 =>
    let n := convK f.size * convP f.size
    let m := n + 2 * convP f.size
    let terms := (List.range n).map fun k => f.data k * (f.back (m - 1) (2 * convP f.size + k)).int
    { outs := [made [x] (looseQuot f.free (terms.foldl (· + ·) 0) (2 ^ 31))], write := some (f.u % m, x) }
  | _ => { outs := [x], loc := f.loc }

/-- Firings of the dynamics operators and of those that hold a value (R165, R167). -/
def fireC (f : FireIn) : FireOut :=
  let x := f.x 0
  let both := [x, f.x 1]
  match f.op with
  | 22 =>
    let e := f.env x (f.par 0) (f.par 1) (f.l 0)
    { outs := [made [x] (looseQuot f.free e (2 ^ 33))], loc := [e] }
  | 23 =>
    let e := f.move (f.l 0) (x.int * 2 ^ 32) (f.par 0)
    { outs := [made [x] (looseQuot f.free e (2 ^ 32))], loc := [e] }
  | 24 =>
    let d := if f.par 6 = 1 then f.rms f.key (f.par 4) (f.l 0) else f.env f.key (f.par 3) (f.par 4) (f.l 0)
    let lv := levelOf (decide (f.par 6 = 1)) d.toNat
    let t := reduction f.free lv (f.par 0 * 65536) (f.par 2 * 65536) (f.par 1).toNat
    let g := f.move (f.l 1) t (if t < f.l 1 then f.par 3 else f.par 4)
    { outs := [f.dynamic g (f.par 5)], loc := [d, g] }
  | 25 =>
    let win := (x.int :: f.loc.drop 1).take (f.size + 1)
    let peak := (win.map Int.natAbs).foldl max 0
    let ceil := ceilingOf (f.par 0)
    let need : Int := if peak ≤ ceil then 2 ^ 32 else (ceil * 2 ^ 32 / peak : Nat)
    let g0 : Int := if f.loc.isEmpty then 2 ^ 32 else f.l 0
    let g := if need < g0 then need else min need (f.move g0 need (f.par 1))
    { outs := [made [x] ((win.getD f.size 0 * g).tdiv (2 ^ 32))], loc := g :: win }
  | 26 =>
    let e := f.env f.key (f.par 3) (f.par 5) (f.l 0)
    let lv := levelOf false e.toNat
    let opens := decide (f.par 0 * 65536 < lv)
    let hold : Int := if opens then f.par 4 else max 0 (f.l 2 - 1)
    let isOpen := opens || (decide (f.l 1 = 1) && (decide (f.par 1 * 65536 ≤ lv) || decide (0 < f.l 2)))
    { outs := [f.dynamic (if isOpen then 0 else f.par 2 * 65536) (2 ^ 28)], loc := [e, if isOpen then 1 else 0, hold] }
  | 27 =>
    let e := f.env f.key (f.par 2) (f.par 3) (f.l 0)
    let lv := levelOf false e.toNat
    let g := if lv < f.par 0 * 65536 then max (f.par 4 * 65536) (min 0 (Config.expand (f.par 0 * 65536 - lv) (f.par 1).toNat)) else 0
    { outs := [f.dynamic g (2 ^ 28)], loc := [e] }
  | 28 =>
    let e := f.env f.key (f.par 2) (f.par 4) (f.l 0)
    let beyond := decide (f.par 0 * 65536 < levelOf false e.toNat)
    let hold : Int := if beyond then f.par 3 else max 0 (f.l 1 - 1)
    { outs := [f.dynamic (if beyond || decide (0 < f.l 1) then f.par 1 * 65536 else 0) (2 ^ 28)], loc := [e, hold] }
  | 32 =>
    let take := decide (f.l 1 < 0 ∧ 0 ≤ (f.x 1).int)
    let v := if take then x.int else f.l 0
    { outs := [made both v], loc := [v, (f.x 1).int] }
  | 33 =>
    let v : Int := if f.par 0 < x.int then 0x7FFFFFFF else if x.int < f.par 1 then 0 else f.l 0
    { outs := [made [x] v], loc := [v] }
  | 38 => { meter := some ((f.par 0).toNat, x) }
  | _ => { outs := [x], loc := f.loc }

/-- One firing of an operator: of a whole node, or of the read part of a SPLIT node. -/
def fire (f : FireIn) : FireOut :=
  if f.op ∈ [0, 1, 2, 3, 4, 5, 6, 7, 14, 15, 16, 19, 20, 21, 30, 31, 34, 36, 39] then fireA f
  else if f.op ∈ [8, 9, 10, 11, 12, 13, 17, 18, 29, 35, 37] then fireB f
  else fireC f

/-- The store length less one of a SPLIT node: D. -/
def splitD (op n : Nat) : Nat := if op = 15 then field n 4 20 else n

/-- One firing of the write part of a SPLIT node (R163): its input 0 goes to position u modulo D + 1. -/
def fireWrite (f : FireIn) : FireOut := { write := some (f.u % (splitD f.op f.size + 1), f.x 0) }

/-- The oldest tick that a read part for tick u needs written, and the newest (R142): u less its longest and its shortest read. -/
def FireIn.newestRead (f : FireIn) : Nat :=
  match f.op with
  | 14 => f.u - (f.par 0).toNat / 4096
  | 15 => ((List.range (field f.size 0 4)).map (fun k => f.u - (f.par (2 * k)).toNat / 4096)).foldl max 0
  | 16 => f.u + 1 - f.modD / 4096
  | _ => 0

end Sys2Proof.Machine
end

