-- ==== Sys2Proof/Machine/Crc.lean ====
section
/-! DEFINITION. CRC-32C of R385. -/
namespace Sys2Proof.Machine

/-- One bit of the reflected CRC-32C register. -/
def crcBit (r : Nat) : Nat := if r % 2 = 1 then (r / 2) ^^^ 0x82F63B78 else r / 2

/-- One byte into the register. -/
def crcByte (r : Nat) (b : Byte) : Nat := (List.range 8).foldl (fun x _ => crcBit x) (r ^^^ b.toNat)

/-- CRC-32C: reflected polynomial 0x82F6_3B78, initial value and final XOR 0xFFFF_FFFF (R385). -/
def crc32c (bs : List Byte) : Nat := (bs.foldl crcByte 0xFFFFFFFF) ^^^ 0xFFFFFFFF

end Sys2Proof.Machine
end

