-- ==== Sys2Proof/Machine/Ops.lean ====
section
/-! DEFINITION. The shared operations: modes, parameters in force, attention, log counters, the ledger, and replies. -/
namespace Sys2Proof.Machine

/-- What an unlisted parameter ID reads as: its default (R436). -/
def pDefault (id : Nat) : PVal := BitVec.ofNat 64 (paramDefault id)

/-- A parameter of a table of values. -/
def pGet (t : Tab PVal) (id : Nat) : Nat := (tabGet pDefault t id).toNat

/-- Write a parameter of a table of values, in canonical form. -/
def pSet (t : Tab PVal) (id v : Nat) : Tab PVal := tabSet pDefault t id (BitVec.ofNat 64 v)

/-- A BANKED parameter of the active bank; one of the shadow bank; a STATIC or LIVE one in force; one of the device record. -/
def State.act (s : State) (id : Nat) : Nat := pGet s.cfg.active id
def State.shd (s : State) (id : Nat) : Nat := pGet s.cfg.shadow id
def State.dir (s : State) (id : Nat) : Nat := pGet s.cfg.direct id
def State.dev (s : State) (id : Nat) : Nat := pGet s.mram.device id

/-- The parameters kept in the MRAM device record (R412). -/
def mramParam (id : Nat) : Bool := decide (id = 0x0000) || decide (id = 0x0100) || decide (id = 0x1900)

/-- A parameter as PARAM_READ gives it: BANK chooses the copy of a BANKED one (R433). -/
def State.param (s : State) (shadow : Bool) (id : Nat) : Nat :=
  if mramParam id then s.dev id
  else match paramClass id with
    | .banked => if shadow then s.shd id else s.act id
    | _ => s.dir id

/-- Modes (R328). -/
def State.inIdle (s : State) : Bool := decide (s.power.mode = .idle)
def State.inRun (s : State) : Bool := decide (s.power.mode = .run)
def State.awake (s : State) : Bool := s.inIdle || s.inRun
/-- Rest or Watch. -/
def State.asleep (s : State) : Bool := decide (s.power.mode = .rest) || decide (s.power.mode = .watch)

/-- An ARM is being checked, or is armed (R329, R417). -/
def State.arming (s : State) : Bool :=
  (match s.cfg.check with | some p => (match p.kind with | .arm => true | .recall a => a | _ => false) | none => false) ||
  (match s.cfg.armed with | some (p, _) => (match p.kind with | .arm => true | _ => false) | none => false)

/-- A bank swap is pending, from acceptance to its swap tick (R413). -/
def State.swapPending (s : State) : Bool :=
  (match s.cfg.check with | some p => (match p.kind with | .swap => true | _ => false) | none => false) ||
  (match s.cfg.armed with | some (p, _) => (match p.kind with | .swap => true | _ => false) | none => false)

/-- Shadow writes queue: a swap pends, a refill runs, or an ARM, which exchanges the banks as a swap does, has not acted (R413, R415,
R417; DEDUCED for ARM, log entry 21). -/
def State.frozen (s : State) : Bool := s.swapPending || s.cfg.refilling || s.arming

/-- A change of mode is in progress (R329). -/
def State.transition (s : State) : Bool := s.power.leaving.isSome || s.power.entering.isSome || s.arming

/-- The MODE byte of R329. -/
def State.modeByte (s : State) : Nat :=
  (match s.power.mode with | .recovery => 1 | .idle => 2 | .run => 3 | _ => 0) +
  8 * b2n s.transition + 16 * b2n s.power.autorun + 32 * b2n s.power.fallback + 64 * b2n s.power.pfw + 128 * b2n s.power.woken

/-- The mailbox is served (R366, R381). -/
def State.served (s : State) : Bool :=
  (s.awake || decide (s.power.mode = .recovery)) && s.ctl.running && !s.power.inReset

/-- Every supply that BOOT, RECOVERY, Idle and Run require is valid (R321). -/
def Power.supplied (p : Power) : Bool := decide (p.valid.toNat % 64 = 63)

/-- Ticks in n milliseconds. -/
def ms (n : Nat) : Nat := 96 * n

/-- TICK as a number. -/
def State.tickNat (s : State) : Nat := s.clock.tick.toNat

/-- The tick of effect of a TICK field (R396): 0, or a tick not after the heat in progress, is the next boundary. -/
def State.effectTick (s : State) (named : Nat) : Nat := if s.tickNat < named then named else s.tickNat + 1

/-- Draw a free value: the index at which the opaque constants of Config are read, and the state with the count advanced. -/
def State.draw (s : State) : State := { s with free := s.free + 1 }

/-- Add to a live counter of the marathon log by its image offset (R456), saturating at 2^32 − 1. -/
def MarathonLog.add (l : MarathonLog) (ofs n : Nat) : MarathonLog :=
  { l with live := tabMod (fun _ => 0) l.live ofs (fun v => satAdd 32 v n) }

/-- Count in the marathon log. -/
def State.count (s : State) (ofs n : Nat) : State := { s with log := s.log.add ofs n }

/-- Set a bit of ATTN_CAUSE other than bit 0 (R378); in-band attention falls due when a masked bit goes from 0 to 1 (R380). -/
def Bus.raise (b : Bus) (inband : Nat) (k : Nat) : Bus :=
  { b with attn := b.attn ||| BitVec.ofNat 32 (2 ^ k),
           pulseDue := b.pulseDue || (inband.testBit k && !b.attn.getLsbD k) }

/-- The in-band mask as it acts: zero while INBAND_EN is 0 or outside Idle and Run (R380). -/
def State.inbandMask (s : State) : Nat := if (s.dir 0x1903).testBit 0 && s.awake then s.dir 0x1902 else 0

/-- Set a cause bit of ATTN_CAUSE. -/
def State.raise (s : State) (k : Nat) : State := { s with bus := s.bus.raise s.inbandMask k }

/-- Set a cause bit when a condition holds. -/
def State.raiseIf (s : State) (c : Bool) (k : Nat) : State := { s with bus := if c then s.bus.raise s.inbandMask k else s.bus }

/-- The device's own ID (R253). -/
def State.devId (s : State) : Nat :=
  match s.link.assigned with
  | some i => i
  | none => if (s.dir 0x1701).testBit 10 then s.bus.code % 1024 else field (s.dir 0x1701) 0 10

/-- A packet (R384): header, the remote fields when asked for, payload, CRC. -/
def packet (rev : Nat) (remote more : Bool) (opcode tag target origin : Nat) (payload : List Byte) : List Byte :=
  let body := [0x4B#8, BitVec.ofNat 8 (16 * rev + b2n remote + 2 * b2n more)] ++ leBytes 2 opcode ++ [BitVec.ofNat 8 tag, 0#8] ++
    leBytes 2 payload.length ++ (if remote then leBytes 2 target ++ leBytes 2 origin else []) ++ payload
  body ++ leBytes 4 (crc32c body)

/-- The ORIGIN field of a request's binding (R384). -/
def originField (q : Req) : Nat := if q.port.val = 2 ∨ q.port.val = 3 then q.origin.val + 1024 * q.oport.val else 0

/-- The reply to a request (R387). -/
def State.replyPacket (s : State) (j : Job) (status detail : Nat) (data : List Byte) : List Byte :=
  packet j.req.rev.val j.req.remote false (j.opcode % 0x8000 + 0x8000) j.req.tag.toNat s.devId (originField j.req)
    (BitVec.ofNat 8 status :: BitVec.ofNat 8 detail :: data)

/-- Bytes that the reply FIFO of a bus holds. -/
def BusPort.queued (p : BusPort) : Nat := (p.replies.map List.length).foldl (· + ·) 0

/-- Bytes that the mailbox of a bus holds, with the packet being assembled (R365). -/
def BusPort.mailQueued (p : BusPort) : Nat := (p.mailbox.map (fun w => w.bytes.length)).foldl (· + ·) 0 + p.fragment.length

/-- Place a whole reply in the FIFO, or hold it back for want of room (R365, R387). -/
def BusPort.place (p : BusPort) (r : List Byte) : BusPort :=
  if p.held.isEmpty && decide (p.queued + r.length ≤ 2080) then { p with replies := p.replies ++ [r] }
  else { p with held := p.held ++ [r] }

/-- Cut a packet into control cells (R272, R273): 52 bytes to a cell, SEG 0 first. -/
def cellsOf (src dst seq : Nat) (bytes : List Byte) : List LinkCell :=
  let n := ceilDiv bytes.length 52
  (List.range n).map fun i =>
    { first := decide (i = 0), last := decide (i + 1 = n), src := Fin.ofNat 1024 src, dst := Fin.ofNat 1024 dst,
      seq := Fin.ofNat 256 seq, seg := Fin.ofNat 20 i, data := (bytes.drop (52 * i)).take 52 }

/-- The ports by which a topology entry comes (R253): both, when the two latest arrivals belong to one broadcast or the one before it;
and the port by which it comes over fewer hops, LINKA on equal counts. -/
def TopoEntry.both (e : TopoEntry) : Bool :=
  match e.atA, e.atB with
  | some a, some b => decide (a < b + 14400) && decide (b < a + 14400)
  | _, _ => false
def TopoEntry.port (e : TopoEntry) : Nat :=
  match e.atA, e.atB with
  | some a, some b => if b + 4800 ≤ a then 0 else if a + 4800 ≤ b then 1 else if e.overA ≤ e.overB then 0 else 1
  | some _, none => 0
  | none, _ => 1

/-- The port by which a device is reached (R273): in a ring the direction with fewer hops, in a chain the only one; LINKA when there is
none. -/
def Link.portTo (l : Link) (id : Nat) : Nat :=
  match l.topo.find? (fun e => decide (e.ann.id.val = id)) with
  | some e => e.port
  | none => 0

/-- Update one LINK port by number: 0 LINKA, 1 LINKB. -/
def Link.modPort (l : Link) (x : Nat) (f : LinkPort → LinkPort) : Link :=
  if x = 0 then { l with a := f l.a } else { l with b := f l.b }

/-- One LINK port by number. -/
def Link.port (l : Link) (x : Nat) : LinkPort := if x = 0 then l.a else l.b

/-- Queue a packet's cells toward a device (R273). -/
def Link.send (l : Link) (self dst : Nat) (bytes : List Byte) : Link :=
  { l.modPort (l.portTo dst) (fun p => { p with outbox := p.outbox ++ cellsOf self dst l.seq bytes }) with seq := (l.seq + 1) % 256 }

/-- Place a reply packet where its binding takes it: a bus FIFO, the link toward the origin, or the internal port (R387). -/
def State.placeReply (s : State) (port origin : Nat) (r : List Byte) : State :=
  { s with
    bus := if port = 0 then { s.bus with spi := s.bus.spi.place r }
           else if port = 1 then { s.bus with
             twi := s.bus.twi.place r
             pulseDue := s.bus.pulseDue || (s.inbandMask.testBit 0 && s.bus.twi.replies.isEmpty) }
           else s.bus
    link := if port = 2 ∨ port = 3 then s.link.send s.devId origin r else s.link
    ctl := if port = 4 then { s.ctl with internal := s.ctl.internal ++ [r] } else s.ctl }

/-- Answer a request (R387); under MORE an OK or ACCEPTED_PENDING is not placed (R384). -/
def State.reply (s : State) (j : Job) (status detail : Nat) (data : List Byte) : State :=
  if j.req.quiet && decide (status ≤ 1) then s
  else s.placeReply j.req.port.val j.req.origin.val (s.replyPacket j status detail data)

/-- The session binding of a request (R391). -/
def bindingOf (q : Req) : Binding :=
  if q.port.val = 2 ∨ q.port.val = 3 then { port := q.port.val, origin := q.origin.val, oport := q.oport.val }
  else { port := q.port.val }

/-- The session open on a binding. -/
def Control.sessionOf (c : Control) (b : Binding) : Option Session := c.sessions.find? (fun x => decide (x.binding = b))

/-- The number of the session open on a request's binding; 0 for none and for port 4. -/
def State.sessionNo (s : State) (q : Req) : BitVec 16 :=
  match s.ctl.sessionOf (bindingOf q) with | some x => x.number | none => 0

/-- Make a ledger record (R406, R408): the newest 2,048 are held, and SEQ counts on. -/
def Control.record (c : Control) (tick : TickWord) (port kind : Nat) (session : BitVec 16) (opcode object count origin value : Nat) : Control :=
  { c with
    ledger := ({ seq := c.seq, tick := tick, port := BitVec.ofNat 8 port, kind := BitVec.ofNat 8 kind, session := session,
                 opcode := BitVec.ofNat 16 opcode, object := BitVec.ofNat 32 object, count := BitVec.ofNat 16 count,
                 origin := BitVec.ofNat 16 origin, value := BitVec.ofNat 64 value } :: c.ledger).take 2048
    seq := c.seq + 1 }

/-- The kind 0 record of an accepted request (R406, R407). -/
def State.recordJob (s : State) (j : Job) (count value : Nat) : State :=
  { s with ctl := s.ctl.record (BitVec.ofNat 48 j.tick) j.req.port.val 0 j.session j.opcode
                    (le j.req.payload 0 4) count (originField j.req) value }

/-- Accept: answer OK with data, and record the change (R407). -/
def State.accept (s : State) (j : Job) (data : List Byte) (count value : Nat) : State :=
  (s.recordJob j count value).reply j 0 0 data

/-- Accept with a detail (R402). -/
def State.acceptWith (s : State) (j : Job) (detail : Nat) (data : List Byte) (count value : Nat) : State :=
  (s.recordJob j count value).reply j 0 detail data

/-- The reply of step 9 of R386: NOT_IN_STATE with the MODE byte. -/
def State.notInState (s : State) (j : Job) : State := s.reply j 0x41 s.modeByte []

/-- OUT_OF_RANGE with the detail of R386. -/
def State.outOfRange (s : State) (j : Job) : State := s.reply j 0x15 0 []

/-- BUSY with a detail. -/
def State.busy (s : State) (j : Job) (detail : Nat) : State := s.reply j 0x60 detail []

/-- Count a refusal (R417, R430): the latest code, KIND and INDEX, the sticky count, and the reason group of the log. -/
def State.noteRefusal (s : State) (code kind index : Nat) : State :=
  { s with
    cfg := { s.cfg with refusals := satAdd 16 s.cfg.refusals 1, refusedSticky := true, lastReason := code, lastKind := kind, lastIndex := index }
    log := s.log.add (0x490 + 4 * (code / 16)) 1 }

/-- CONFIG_REFUSED with the refusal record of R399. -/
def State.refuseConfig (s : State) (j : Job) (code kind index : Nat) (figures : List Byte) : State :=
  (s.noteRefusal code kind index).reply j 0x40 code (leBytes 2 kind ++ leBytes 4 index ++ figures)

/-- The DPLL follows no reference (R292): also during a handoff that started from such a state. -/
def Dpll.unreferenced (d : Dpll) : Bool :=
  let no := fun (x : DpllState) => decide (x = .freerun) || decide (x = .holdover) || decide (x = .expired)
  no d.state || (decide (d.state = .handoff) && no d.outgoing)
def Dpll.expiredNow (d : Dpll) : Bool := decide (d.state = .expired) || (decide (d.state = .handoff) && decide (d.outgoing = .expired))

/-- MRAM writes are held off by a power-fail warning (R339). -/
def State.mramBlocked (s : State) : Bool := s.power.pfw || s.power.mramHeld

/-- A save, a stage piece or a commit is being written (R424, R440). -/
def State.storeBusy (s : State) : Bool := s.cfg.save.isSome || s.cfg.commit.isSome

end Sys2Proof.Machine
end

