-- ==== Sys2Proof/Machine/GraphImage.lean ====
section
/-! DEFINITION. Graph images: the header, the records, and the graph part of the consistency check (R113-R115, R128-R138). -/
namespace Sys2Proof.Machine

/-- Fields of an image by byte offset. -/
def img8 (b : List Byte) (o : Nat) : Nat := (b.getD o 0).toNat
def img16 (b : List Byte) (o : Nat) : Nat := img8 b o + 256 * img8 b (o + 1)
def img32 (b : List Byte) (o : Nat) : Nat := img16 b o + 65536 * img16 b (o + 2)

/-- Header fields (R129). -/
def hdrNodes (b : List Byte) : Nat := img16 b 8
def hdrEdges (b : List Byte) : Nat := img16 b 10
def hdrParams (b : List Byte) : Nat := img16 b 12
def hdrEdgeOfs (b : List Byte) : Nat := 0x40 + 16 * hdrNodes b
def hdrParamOfs (b : List Byte) : Nat := hdrEdgeOfs b + 8 * hdrEdges b
def hdrParamEnd (b : List Byte) : Nat := hdrParamOfs b + 4 * hdrParams b
def hdrDataOfs (b : List Byte) : Nat := 8 * ceilDiv (hdrParamEnd b) 8
def hdrDataLen (b : List Byte) : Nat := img32 b 0x20
def hdrLen (b : List Byte) : Nat := hdrDataOfs b + hdrDataLen b + 4

/-- The header is right (R128, R129): everything but OPSET_REV. -/
def headerOk (b : List Byte) : Bool :=
  decide (slice b 0 4 = [0x53#8, 0x48#8, 0x47#8, 0x31#8]) && decide (img16 b 4 = 1) && decide (hdrNodes b ≤ 4096 ∧ hdrEdges b ≤ 16384 ∧ hdrParams b ≤ 12288) &&
  decide (img16 b 0x0E = 0 ∧ img32 b 0x10 = 0x40 ∧ img32 b 0x14 = hdrEdgeOfs b ∧ img32 b 0x18 = hdrParamOfs b ∧ img32 b 0x1C = hdrDataOfs b) &&
  decide (hdrDataLen b ≤ 0x01000000 ∧ hdrDataLen b % 8 = 0 ∧ img32 b 0x24 = hdrLen b) &&
  (slice b 0x2C 16).all (fun x => decide (x = 0)) && decide (img32 b 0x3C = (crc32c (slice b 0 0x3C)))

/-- Node record n and edge record e (R130, R131). -/
def parseNode (b : List Byte) (n : Nat) : NodeRec :=
  let o := 0x40 + 16 * n
  { op := img8 b o, raMax := img8 b (o + 1) % 16, resv := img8 b (o + 1) / 16, flow := img8 b (o + 2), home := img8 b (o + 3),
    pFirst := img16 b (o + 4), pCount := img16 b (o + 6), size := img32 b (o + 8), dataOfs := img32 b (o + 12) }
def parseEdge (b : List Byte) (e : Nat) : EdgeRec :=
  let o := hdrEdgeOfs b + 8 * e
  { src := img16 b o, srcPort := img8 b (o + 2), pipeline := (img8 b (o + 3)).testBit 0, dst := img16 b (o + 4), dstPort := img8 b (o + 6),
    resv := img8 b (o + 3) / 2 + 256 * img8 b (o + 7) }

/-- The image that bytes spell. -/
def parseImage (b : List Byte) : GraphImage :=
  { bytes := b, nodes := (List.range (hdrNodes b)).map (parseNode b), edges := (List.range (hdrEdges b)).map (parseEdge b) }

/-- IMAGE_CRC and IMAGE_ID of an image. -/
def GraphImage.crc (g : GraphImage) : Nat := le g.bytes (g.bytes.length - 4) 4
def GraphImage.id (g : GraphImage) : Nat := if g.bytes.isEmpty then 0 else img32 g.bytes 0x28

/-- Two graphs are the same image (R133). -/
def sameImage (a b : GraphImage) : Bool :=
  (a.bytes.isEmpty && b.bytes.isEmpty) || (!a.bytes.isEmpty && !b.bytes.isEmpty && decide (a.crc = b.crc))

/-- Word i of the parameter section (R132). -/
def GraphImage.param (g : GraphImage) (i : Nat) : Word := BitVec.ofNat 32 (img32 g.bytes (hdrParamOfs g.bytes + 4 * i))

/-- A node's data array (R132): word i, signed. -/
def GraphImage.dataWord (g : GraphImage) (n : NodeRec) (i : Nat) : Int :=
  signed (img32 g.bytes (hdrDataOfs g.bytes + n.dataOfs + 4 * i)) 32

/-- The figures of a node; zeros where the operator allows none. -/
def NodeRec.fig (n : NodeRec) : OpFig := (opFig n.op n.size).getD { ins := 0, outs := 0, slots := 0, c := 0, l := 0 }

/-- SHARED bytes of a graph with its data copy (R122, R137). -/
def GraphImage.sharedBytes (g : GraphImage) : Nat :=
  (g.nodes.map (fun n => n.fig.s)).foldl (· + ·) 0 + (if g.bytes.isEmpty then 0 else hdrDataLen g.bytes)

/-- Bytes of shared sample memory (R31, R444). -/
def sharedSize : Nat := 16777216

/-- The shadow graph (R113, R128): the empty default when no load has begun, none while a load is incomplete. -/
def Graph.loadBytes (g : Graph) : List Byte :=
  match g.load with
  | some t => tabGetRun (fun _ => 0) t 0 g.loadLen
  | none => []
def Graph.loadFull (g : Graph) : Bool :=
  match g.load with
  | some t => decide (g.loadLen ≠ 0) && (List.range g.loadLen).all (fun i => (tabFind t i).isSome)
  | none => true
def Graph.loadCrcOk (g : Graph) : Bool := decide (crc32c (g.loadBytes.take (g.loadLen - 4)) = le g.loadBytes (g.loadLen - 4) 4)
def Graph.shadow (g : Graph) : Option GraphImage :=
  match g.load with
  | none => some {}
  | some _ => if g.loadFull && g.loadCrcOk then some (parseImage g.loadBytes) else none

/-- The shadow graph is complete and is the active graph's image (R126). -/
def Graph.shadowSame (g : Graph) : Bool := match g.shadow with | some i => sameImage i g.active | none => false

/-- Graph figures (R138): HEAT_BOUND in 1/16 RUN cycle. -/
structure GraphFigures where
  load : Nat := 0
  cp : Nat := 0
  heat16 : Nat := 0
  m : Nat := 0
  slots : Nat := 0
  locals : Nat := 0
  shared : Nat := 0
  first : Nat := 0
  last : Nat := 0
  deriving DecidableEq, Repr

/-- The figures as a refusal record carries them (R399). -/
def GraphFigures.bytes (f : GraphFigures) : List Byte :=
  leBytes 4 f.load ++ leBytes 4 f.cp ++ leBytes 4 f.heat16 ++ leBytes 4 f.m ++ leBytes 4 f.slots ++ leBytes 4 f.locals ++ leBytes 4 f.shared ++
    leBytes 2 f.first ++ leBytes 2 f.last

/-- Work items of a graph: 2·n is node n, or its read part; 2·n + 1 the write part of a SPLIT node (R121). -/
def GraphImage.items (g : GraphImage) : List Nat :=
  (List.range g.nodes.length).flatMap fun i => match g.nodes[i]? with
    | some n => if n.fig.split then [2 * i, 2 * i + 1] else [2 * i]
    | none => []

/-- The node of a work item. -/
def GraphImage.nodeOf (g : GraphImage) (item : Nat) : NodeRec :=
  g.nodes.getD (item / 2) { op := 39, raMax := 0, flow := 0, home := 0, pFirst := 0, pCount := 0, size := 0, dataOfs := 0 }

/-- W of a work item (R134). -/
def GraphImage.cost (g : GraphImage) (item : Nat) : Nat :=
  let f := (g.nodeOf item).fig
  (if item % 2 = 0 then f.c else f.cw) + 16 + 8 + ceilDiv f.l 32

/-- The work item that takes an edge (R163): input 0 of a SPLIT node is its write part's. -/
def GraphImage.taker (g : GraphImage) (e : EdgeRec) : Nat :=
  2 * e.dst + (if (g.nodeOf (2 * e.dst)).fig.split && decide (e.dstPort = 0) then 1 else 0)

def EdgeRec.fromTerm (e : EdgeRec) : Bool := decide (0x8000 ≤ e.src)
def EdgeRec.toTerm (e : EdgeRec) : Bool := decide (0xC000 ≤ e.dst)

/-- Arcs between work items (R135). -/
def GraphImage.arcs (g : GraphImage) : List (Nat × Nat) :=
  (g.edges.filter (fun e => !e.pipeline && !e.fromTerm && !e.toTerm)).map (fun e => (2 * e.src, g.taker e))

/-- Work items in an order in which every producer comes before its consumers: the items with no producer left are taken off
until none is left; what remains lies on a cycle or behind one. -/
def peel (arcs : List (Nat × Nat)) : Nat → List Nat → List Nat → List Nat
  | 0, done, _ => done
  | k + 1, done, rest =>
    let now := rest.filter (fun p => !arcs.any (fun a => decide (a.2 = p) && rest.contains a.1))
    if now.isEmpty then done else peel arcs k (done ++ now) (rest.filter (fun p => !now.contains p))

/-- Items reached from a list of items in at most k arcs. -/
def arcReach (arcs : List (Nat × Nat)) : Nat → List Nat → List Nat
  | 0, l => l
  | k + 1, l => arcReach arcs k ((l ++ (arcs.filter (fun a => l.contains a.1)).map (fun a => a.2)).eraseDups)

/-- The lowest-indexed node on a cycle (R138). -/
def GraphImage.cycleNode (g : GraphImage) (rest : List Nat) : Nat :=
  match rest.find? (fun p => (arcReach g.arcs rest.length ((g.arcs.filter (fun a => decide (a.1 = p))).map (fun a => a.2))).contains p) with
  | some p => p / 2
  | none => 0

/-- A chain that ends at an item: its length, its 1/16 bound, and its first node (R135, R136). -/
structure Chain where
  len : Nat
  heat16 : Nat
  first : Nat
  deriving DecidableEq, Repr

/-- The longest chain that ends at an item, from those of its producers. -/
def GraphImage.chainAt (g : GraphImage) (t : Tab Chain) (p : Nat) : Chain :=
  let s := if g.edges.any (fun e => e.fromTerm && !e.pipeline && decide (g.taker e = p)) then 256 else 0
  let base := (g.arcs.filter (fun a => decide (a.2 = p))).foldl (fun (c : Chain) a => match tabFind t a.1 with
    | some q => { len := max c.len q.len, heat16 := max c.heat16 q.heat16, first := if c.len < q.len then q.first else c.first }
    | none => c) { len := s, heat16 := 16 * s, first := p / 2 }
  { base with len := base.len + g.cost p, heat16 := base.heat16 + 15 * g.cost p }

/-- Chains of every item in producer order. -/
def GraphImage.chains (g : GraphImage) (order : List Nat) : Tab Chain := order.foldl (fun t p => tabPut t p (g.chainAt t p)) []

/-- 128 where an item ends at an output terminal. -/
def GraphImage.tail (g : GraphImage) (p : Nat) : Nat :=
  if decide (p % 2 = 0) && g.edges.any (fun e => e.toTerm && !e.pipeline && decide (e.src = p / 2)) then 128 else 0

/-- Slot demand (R119), LOAD (R134), the sum of M and the LOCAL total. -/
def GraphImage.slotDemand (g : GraphImage) : Nat :=
  (g.edges.map (fun e => if e.toTerm then 0 else min 4 (1 + (if e.fromTerm then 0 else (g.nodeOf (2 * e.src)).raMax) + b2n e.pipeline))).foldl (· + ·) 0
def GraphImage.loadOf (g : GraphImage) : Nat :=
  (g.items.map (fun p => g.cost p * (if decide (p % 2 = 0) && decide (0 < (g.nodeOf p).raMax) then 2 else 1))).foldl (· + ·) 0
def GraphImage.accesses (g : GraphImage) : Nat := (g.nodes.map (fun n => n.fig.m)).foldl (· + ·) 0
def GraphImage.localTotal (g : GraphImage) : Nat := (g.nodes.map (fun n => n.fig.l)).foldl (· + ·) 0

/-- The figures of a graph and the node that closes a cycle, if one does (R138). Of chains of one length the first in item order gives the
two chain nodes (DESIGN CHOICE, log entry 67). -/
def GraphImage.figures (g : GraphImage) : GraphFigures × Option Nat :=
  let order := peel g.arcs g.items.length [] g.items
  let base : GraphFigures := { load := g.loadOf, m := g.accesses, slots := g.slotDemand, locals := g.localTotal, shared := g.sharedBytes }
  if order.length < g.items.length then
    ({ base with first := 0xFFFF, last := 0xFFFF }, some (g.cycleNode (g.items.filter (fun p => !order.contains p))))
  else
    let ch := g.chains order
    let best := ch.foldl (fun (b : Nat × Nat × Nat) c =>
      if b.1 < c.2.len + g.tail c.1 then (c.2.len + g.tail c.1, c.2.first, c.1 / 2) else b) (0, 0, 0)
    let heat := ch.foldl (fun b c => max b (c.2.heat16 + 16 * g.tail c.1)) 0
    ({ base with cp := best.1, heat16 := base.load + heat, first := best.2.1, last := best.2.2 }, none)

/-- The fields of node record i are right (R137, 0x49). PARAM_FIRST past the range of R130 is refused here on a node of no parameters too
(DESIGN CHOICE, log entry 67). -/
def GraphImage.fieldsOk (g : GraphImage) (i : Nat) (n : NodeRec) : Bool :=
  decide (n.resv = 0 ∧ n.raMax ≤ 8 ∧ n.flow ≤ 63 ∧ (n.home ≤ 15 ∨ n.home = 0xFF) ∧ n.pFirst ≤ 12287) &&
  (decide (n.pCount = 0) || decide (n.pFirst + n.pCount ≤ hdrParams g.bytes)) &&
  !((g.nodes.take i).any (fun o => decide (0 < o.pCount ∧ 0 < n.pCount ∧ o.pFirst < n.pFirst + n.pCount ∧ n.pFirst < o.pFirst + o.pCount))) &&
  (decide (n.dataOfs = 0xFFFFFFFF) || decide (n.fig.data = 0) || decide (n.dataOfs + n.fig.data ≤ hdrDataLen g.bytes))

/-- SIZE_ARG, PARAM_COUNT, DATA_OFS and the initial values are what the operator allows (R137, 0x4C). -/
def GraphImage.paramsOk (g : GraphImage) (n : NodeRec) : Bool :=
  match opFig n.op n.size with
  | none => false
  | some f =>
    decide (n.pCount = f.slots) && (if f.data = 0 then decide (n.dataOfs = 0xFFFFFFFF) else decide (n.dataOfs ≠ 0xFFFFFFFF ∧ n.dataOfs % 8 = 0)) &&
    (List.range n.pCount).all (fun k => (slotFmt n.op n.size k).ok (g.param (n.pFirst + k)))

/-- What node record i is refused for (R137). -/
def GraphImage.nodeCheck (g : GraphImage) (i : Nat) : Option Nat :=
  match g.nodes[i]? with
  | none => none
  | some n => if 39 < n.op then some 0x43 else if !g.fieldsOk i n then some 0x49 else if !g.paramsOk n then some 0x4C else none

/-- What edge record i is refused for (R115, R131, R137). -/
def GraphImage.edgeCheck (g : GraphImage) (i : Nat) : Option Nat :=
  match g.edges[i]? with
  | none => none
  | some e =>
    let nn := g.nodes.length
    let srcOk := if 0x8000 ≤ e.src then decide (e.src ≤ 0x80FF ∧ e.srcPort = 0)
      else decide (e.src < nn) && decide (e.srcPort < (g.nodeOf (2 * e.src)).fig.outs)
    let dstOk := if 0xC000 ≤ e.dst then decide (e.dst ≤ 0xC0FF ∧ e.dstPort = 0) && decide (e.src < 0x8000)
      else decide (e.dst < nn) && decide (e.dstPort < (g.nodeOf (2 * e.dst)).fig.ins) &&
        !(g.edges.take i).any (fun o => decide (o.dst = e.dst ∧ o.dstPort = e.dstPort))
    if e.resv ≠ 0 then some 0x49
    else if !srcOk || !dstOk then some 0x4A
    else if e.toTerm && (g.edges.take i).any (fun o => decide (o.dst = e.dst)) then some 0x4B
    else none

/-- The padding between the parameter section and DATA_OFS is 0 (R129). -/
def GraphImage.paddingOk (g : GraphImage) : Bool :=
  (slice g.bytes (hdrParamEnd g.bytes) (hdrDataOfs g.bytes - hdrParamEnd g.bytes)).all (fun x => decide (x = 0))

/-- The first budget step that fails (R137). -/
def budgetCheck (f : GraphFigures) (freeShared : Nat) : Nat :=
  if freeShared < f.shared then 0x46 else if 180224 < f.locals then 0x47 else if 8192 < f.slots then 0x48
  else if 117964 < f.load then 0x40 else if 7372 < f.cp then 0x41 else if 16 * 7372 < f.heat16 then 0x44 else if 15360 < f.m then 0x45 else 0

/-- The outcome of the graph part of the check: the code (0: OK), KIND, INDEX and the figures (R137, R138, R399). -/
structure GraphVerdict where
  code : Nat
  kind : Nat := 0
  index : Nat := 0
  figs : GraphFigures := {}
  deriving DecidableEq, Repr

/-- The first step of the check before the dependency graph that fails (R137): its code, KIND and INDEX. -/
def GraphImage.formCheck (g : GraphImage) : Option (Nat × Nat × Nat) :=
  if !headerOk g.bytes || !g.paddingOk then some (0x49, 0, 0)
  else if img16 g.bytes 6 ≠ 1 then some (0x4D, 0, 0)
  else match (List.range g.nodes.length).findSome? (fun i => (g.nodeCheck i).map (fun c => (c, i))) with
  | some (c, i) => some (c, 5, i)
  | none => (List.range g.edges.length).findSome? (fun i => (g.edgeCheck i).map (fun c => (c, 6, i)))

/-- The graph part of the check of an image, with the shared sample memory not used by the active graph (R137); the figures are
computed whatever step refuses (R138). -/
def GraphImage.check (g : GraphImage) (freeShared : Nat) : GraphVerdict :=
  if g.bytes.isEmpty then { code := 0 }
  else
    let f := g.figures
    match g.formCheck with
    | some (c, k, i) => { code := c, kind := k, index := i, figs := f.1 }
    | none => match f.2 with
      | some n => { code := 0x42, kind := 5, index := n, figs := f.1 }
      | none => { code := budgetCheck f.1 freeShared, figs := f.1 }

/-- Shared sample memory that the active graph does not use (R137). What is reserved for the shadow graph itself counts among its own
bytes (R128). -/
def Graph.freeShared (g : Graph) : Nat := sharedSize - g.active.sharedBytes

/-- A swap or ARM with the shadow graph has passed its check: its SHARED and data bytes are reserved (R128). -/
def Graph.reserve (g : Graph) : Graph := { g with held := match g.shadow with | some i => i.sharedBytes | none => 0 }

/-- The graph part of the check on the shadow graph (R137). -/
def Graph.checkShadow (g : Graph) : GraphVerdict :=
  match g.shadow with
  | none => { code := 0xA0 }
  | some i => i.check g.freeShared

end Sys2Proof.Machine
end

