-- ==== Sys2Proof/Machine/Engine.lean ====
section
/-! DEFINITION. The graph engine at run time (R116-R127, R140-R159): the matching store, the dispatcher, firings, run-ahead, false
starts and stumbles. Ticks are counted as the model's tick count; h is the heat in progress. -/
namespace Sys2Proof.Machine

/-- What the engine sees besides its own state: the heat in progress, its TICK, LIMIT in force (R157), the tick from which a
pending swap forbids run-ahead (R149), GR_TRACE, and the free index. -/
structure EngCtx where
  h : Nat
  tick : Nat
  limit : Nat
  bar : Option Nat
  trace : Nat
  free : Nat

/-- One runner, the run-time state of a node, one queue. -/
def Graph.runner (g : Graph) (q : Nat) : Option Firing := tabGet (fun _ => none) g.runners q
def Graph.rt (g : Graph) (n : Nat) : NodeRt := tabGet (fun _ => {}) g.nodes n
def Graph.modRt (g : Graph) (n : Nat) (f : NodeRt → NodeRt) : Graph := { g with nodes := tabMod (fun _ => {}) g.nodes n f }
def Graph.queue (g : Graph) (e : Nat) : List Baton := tabGet (fun _ => []) g.queues e

/-- The work item numbers of a graph with their edge indices: edges with their indices. -/
def GraphImage.edgeList (i : GraphImage) : List (Nat × EdgeRec) := (List.range i.edges.length).filterMap fun e => i.edges[e]?.map (fun r => (e, r))

/-- Edges into a work item, and out of a node. -/
def GraphImage.into (i : GraphImage) (item : Nat) : List (Nat × EdgeRec) := i.edgeList.filter (fun p => !p.2.toTerm && decide (i.taker p.2 = item))
def GraphImage.outOf (i : GraphImage) (n : Nat) : List (Nat × EdgeRec) := i.edgeList.filter (fun p => decide (p.2.src = n))

/-- Tick at which the consumer takes a baton (R115). -/
def EdgeRec.due (e : EdgeRec) (b : Baton) : Nat := b.made + b2n e.pipeline

/-- The next tick a work item fires for. -/
def Graph.nextOf (g : Graph) (item : Nat) : Nat := if item % 2 = 0 then (g.rt (item / 2)).next else (g.rt (item / 2)).nextW

/-- A firing of the item is in progress (R117). -/
def Graph.firing (g : Graph) (item : Nat) : Bool :=
  (List.range 16).any fun q => match g.runner q with
    | some f => decide (f.node = item / 2) && decide (f.write = decide (item % 2 = 1))
    | none => false

/-- The model's tick count of a TICK value that is not in the past. -/
def EngCtx.nowOf (c : EngCtx) (key : Nat) : Nat := c.h + (key - c.tick)

/-- Value of a parameter slot of a node at tick u (R156), and the weights of a SWITCH's inputs (R167). -/
def Graph.slotAt (g : Graph) (free : Nat) (n : NodeRec) (k u : Nat) : Int :=
  let w := n.pFirst + k
  let f := slotFmt n.op n.size k
  rampValue free (if f.smooth then tabFind g.ramps w else none) (f.int (tabGet (fun _ => 0) g.nodeActive w)) u
def Graph.mixAt (g : Graph) (free : Nat) (n : NodeRec) (u : Nat) : List Nat :=
  let sel := (tabGet (fun _ => (0 : Word)) g.nodeActive n.pFirst).toNat
  (List.range n.size).map fun i =>
    let t : Nat := if i = sel then 2 ^ 32 else 0
    match tabFind g.ramps n.pFirst with
    | some r => (rampValue free (some { r with frm := (r.mix.getD i 0 : Nat) }) t u).toNat
    | none => t

/-- A generator's phase at tick u since its anchor, not reduced (R164). -/
def Graph.phaseAt (g : Graph) (n : NodeRec) (i u : Nat) : Nat :=
  let a := (g.rt i).anchor
  a.2 + (tabGet (fun _ => (0 : Word)) g.nodeActive n.pFirst).toNat * (u - a.1)

/-- One node parameter slot takes a value at tick k (R126, R156, R164). An event for a node or slot that a graph swapped in meanwhile does
not have is dropped, and a value that its operator would not take stands as it is (DESIGN CHOICE, log entry 67). -/
def Graph.putSlot (g : Graph) (free : Nat) (i slot k : Nat) (v : Word) : Graph :=
  match g.active.nodes[i]? with
  | none => g
  | some n =>
    let w := n.pFirst + slot
    if n.pCount ≤ slot then g
    else
      let old := tabGet (fun _ => (0 : Word)) g.nodeActive w
      let gen := decide (n.op = 19) || decide (n.op = 20)
      let g1 := { g with nodeActive := tabSet (fun _ => 0) g.nodeActive w v }
      let g2 :=
        if old = v then g1
        else if n.op = 7 then { g1 with ramps := tabPut g.ramps w { frm := 0, start := k, mix := g.mixAt free n (k - 1) } }
        else if (slotFmt n.op n.size slot).smooth then { g1 with ramps := tabPut g.ramps w { frm := g.slotAt free n slot (k - 1), start := k } }
        else g1
      if gen && decide (slot = 0) && decide (old ≠ v) then g2.modRt i (fun r => { r with anchor := (k, g.phaseAt n i k % 2 ^ 32) })
      else if gen && decide (slot = 1) then g2.modRt i (fun r => { r with anchor := (k, v.toNat) })
      else g2

/-- The slots of an event take their values at tick k. -/
def Graph.putSlots (free i k : Nat) : Nat → List Word → Graph → Graph
  | _, [], g => g
  | slot, v :: vs, g => Graph.putSlots free i k (slot + 1) vs (g.putSlot free i slot k v)
def Graph.putEvent (g : Graph) (free k : Nat) (e : GEvent) : Graph := Graph.putSlots free e.node k e.slot e.values g

/-- The order of R125: key, parameter events before phase events, node, acceptance. -/
def GEvent.before (a b : GEvent) : Bool :=
  if a.key ≠ b.key then decide (a.key < b.key)
  else if a.phase ≠ b.phase then b.phase
  else if a.node ≠ b.node then decide (a.node < b.node)
  else decide (a.order < b.order)

/-- Put an event in its place. -/
def placeEvent (e : GEvent) : List GEvent → List GEvent
  | [] => [e]
  | x :: xs => if e.before x then e :: x :: xs else x :: placeEvent e xs

/-- The parameters of node i as they will stand at tick u (R142): the events keyed at or before u applied in order. -/
def Graph.asOf (g : Graph) (c : EngCtx) (i u : Nat) : Graph :=
  (g.events.filter (fun e => decide (e.node = i) && decide (c.nowOf e.key ≤ u))).foldl (fun g e => g.putEvent c.free (max c.h (c.nowOf e.key)) e) g

/-- The operands kept for an edge (R147). -/
def Graph.keptAt (g : Graph) (e : Nat) : List Baton := tabGet (fun _ => []) g.kept e

/-- The word that an edge delivers to its consumer at tick t: the operand kept for that tick, or the head of its queue. -/
def Graph.headAt (g : Graph) (e : Nat) (r : EdgeRec) (t : Nat) : Option Baton :=
  match g.keptAt e ++ g.queue e with
  | b :: _ => if r.due b = t then some b else none
  | [] => none

/-- A tap of a CONVOLVE whose partition is being re-formed at tick u contributes 0 (R448). -/
def NodeRt.noSpectrum (r : NodeRt) (n : NodeRec) (u k : Nat) : Bool :=
  decide (n.op = 37) && r.spectra.any (fun e => decide (k / convP n.size = e.1) && decide (u < e.2))

/-- Its outputs carry SUBSTITUTED meanwhile, and a node that is faulted or whose LOCAL bytes failed gives 0 so marked (R448). -/
def NodeRt.outWord (r : NodeRt) (u : Nat) (w : StreamWord) : StreamWord :=
  if r.faulted || r.localError then { StreamWord.zero with substituted := true }
  else { w with unsettled := w.unsettled || decide (0 < r.unsettled), substituted := w.substituted || r.spectra.any (fun e => decide (u < e.2)) }

/-- A firing done for tick u; after a LOCAL error the state is reset, and 96 firings are marked (R449). -/
def NodeRt.fired (r : NodeRt) (u : Nat) (loc : List Int) : NodeRt :=
  if r.localError then { r with next := u + 1, loc := [], anchor := (u + 1, 0), unsettled := 96, localError := false }
  else { r with next := u + 1, loc := loc, unsettled := r.unsettled - 1, spectra := r.spectra.filter (fun e => decide (u < e.2)) }

/-- Some node is faulted (R448). -/
def Graph.anyFaulted (g : Graph) : Bool := g.nodes.any (fun (e : Nat × NodeRt) => e.2.faulted)

/-- What the firing of a work item for tick u sees. -/
def Graph.fireIn (g : Graph) (c : EngCtx) (item u : Nat) : FireIn :=
  let n := g.active.nodeOf item
  let i := item / 2
  let gu := g.asOf c i u
  let ports := if n.fig.split then (if item % 2 = 1 then [0] else (List.range n.fig.ins).drop 1) else List.range n.fig.ins
  let inp := g.active.into item
  { op := n.op
    size := n.size
    xs := ports.map fun p => match inp.find? (fun e => decide (e.2.dstPort = p)) with
      | some e => (match g.headAt e.1 e.2 u with | some b => b.word | none => StreamWord.zero)
      | none => StreamWord.zero
    par := fun k => gu.slotAt c.free n k u
    mix := if n.op = 7 then gu.mixAt c.free n u else []
    loc := (g.rt i).loc
    phase := if n.op = 20 then gu.phaseAt n i u else gu.phaseAt n i u % 2 ^ 32
    tick := c.tick + u - c.h
    u := u
    shared := fun p => tabGet (fun _ => StreamWord.zero) g.shared ((g.rt i).base + p)
    data := fun k => if (g.rt i).noSpectrum n (u) k then 0 else g.active.dataWord n k
    free := c.free }

/-- The conditions of R117 for the next firing of an item, its tick apart. -/
def Graph.fed (g : Graph) (item : Nat) : Bool :=
  let t := g.nextOf item
  (g.active.into item).all (fun e => (g.headAt e.1 e.2 t).isSome) &&
  (decide (item % 2 = 1) || (g.active.outOf (item / 2)).all (fun e => e.2.toTerm || decide ((g.queue e.1).length < 4))) &&
  !g.firing item

/-- The run-ahead conditions of R140, R142, R148 and R149. -/
def Graph.mayLead (g : Graph) (c : EngCtx) (item : Nat) : Bool :=
  let u := g.nextOf item
  let n := g.active.nodeOf item
  let f := n.fig
  decide (item % 2 = 0) && f.ahead && !g.suspended && decide (u - c.h ≤ min n.raMax c.limit) &&
  decide ((g.rt (item / 2)).grants < 2) && !(g.active.outOf (item / 2)).any (fun e => e.2.toTerm) &&
  (match c.bar with | some k => decide (u < k) | none => true) &&
  (!f.split || decide ((g.fireIn c item u).newestRead < c.h))

/-- A work item is ready (R117, R140). -/
def Graph.isReady (g : Graph) (c : EngCtx) (item : Nat) : Bool :=
  g.fed item && decide ((g.rt (item / 2)).lost ≠ some c.h) && (decide (g.nextOf item = c.h) || (decide (c.h < g.nextOf item) && g.mayLead c item))

/-- The FABRIC cycle reached, counted over the heats (R120). -/
def Graph.fabric (g : Graph) (c : EngCtx) : Nat := 2048 * c.h + g.cycle / 4

/-- The ready work items, with those that became ready now entered at this FABRIC cycle (R121). -/
def Graph.refresh (g : Graph) (c : EngCtx) : Graph :=
  { g with ready := (g.active.items.filter (g.isReady c)).foldl (fun t i =>
      tabPut t i (match tabFind g.ready i with | some k => k | none => g.fabric c)) [] }

/-- Age order of ready work items (R121). Of the two parts of a SPLIT node with equal keys the read part, item 2n, is the older (DESIGN
CHOICE, log entry 67). -/
def Graph.older (g : Graph) (a b : Nat × Nat) : Bool :=
  let ta := g.nextOf a.1
  let tb := g.nextOf b.1
  if ta ≠ tb then decide (ta < tb) else if a.2 ≠ b.2 then decide (a.2 < b.2) else decide (a.1 < b.1)

/-- The oldest ready item for which a test holds. -/
def Graph.oldest (g : Graph) (ok : Nat → Bool) : Option Nat :=
  (g.ready.filter (fun p => ok p.1)).foldl (fun (b : Option (Nat × Nat)) p => match b with
    | some q => if g.older p q then some p else b
    | none => some p) none |>.map (fun p => p.1)

/-- The FABRIC cycle of the next grant with the grants in it: at most 8 to a cycle (R120). -/
def Graph.grantSlot (g : Graph) (c : EngCtx) : Nat × Nat :=
  let f := g.fabric c
  if g.granted.1 < f then (f, 1) else if g.granted.2 < 8 then (g.granted.1, g.granted.2 + 1) else (g.granted.1 + 1, 1)

/-- Grant an item to runner q (R120-R122, R143): its state follows it, and its inputs are read. -/
def Graph.grant (g : Graph) (c : EngCtx) (q item : Nat) : Graph :=
  let i := item / 2
  let w := decide (item % 2 = 1)
  let u := g.nextOf item
  let slot := g.grantSlot c
  { g with
    granted := slot
    runners := tabSet (fun _ => none) g.runners q (some {
      node := i, write := w, made := u, ahead := u - c.h, epoch := g.epoch, heat := c.h,
      start := min 8191 (max g.cycle (4 * slot.1 - 8192 * c.h)), moved := decide ((g.rt i).home ≠ q), words := (g.fireIn c item u).xs })
    nodes := tabMod (fun _ => {}) g.nodes i (fun r => { r with
      home := q, grants := if w then r.grants else r.grants + 1, grantsW := if w then r.grantsW + 1 else r.grantsW })
    ready := tabDel g.ready item }

/-- Runner q asks for work (R121). -/
def Graph.ask (g : Graph) (c : EngCtx) (q : Nat) : Graph :=
  let own := fun i => decide ((g.rt (i / 2)).home = q)
  let com := fun i => decide (g.nextOf i = c.h)
  match g.oldest (fun i => com i && own i) with
  | some i => g.grant c q i
  | none => match g.oldest com with
    | some i => g.grant c q i
    | none => match g.oldest own with
      | some i => g.grant c q i
      | none => match g.oldest (fun _ => true) with
        | some i => g.grant c q i
        | none => g

/-- Blocked runners are woken with the ready work, the oldest first: the item's home if it is blocked, else the lowest (R121). -/
def Graph.wakeAll (c : EngCtx) : Nat → Graph → Graph
  | 0, g => g
  | k + 1, g =>
    match g.oldest (fun _ => true) with
    | none => g
    | some i =>
      let h := (g.rt (i / 2)).home
      let idle := (List.range 16).filter (fun q => (g.runner q).isNone)
      if idle.contains h then Graph.wakeAll c k (g.grant c h i)
      else match idle with
        | q :: _ => Graph.wakeAll c k (g.grant c q i)
        | [] => g

/-- The dispatcher after an event of this cycle. DESIGN CHOICE (log entry 62): the runner that completes asks before the items that its
completion makes ready wake blocked runners; the spec orders only the requests of one cycle (R120, R121). -/
def Graph.dispatch (g : Graph) (c : EngCtx) (asking : Option Nat) : Graph :=
  let g := g.refresh c
  let g := match asking with | some q => g.ask c q | none => g
  Graph.wakeAll c 16 g

/-- Write a trace record (R158): a full buffer of 4,096 loses its oldest, or stops under STOP_WHEN_FULL. -/
def Graph.record (g : Graph) (c : EngCtx) (r : TraceRec) : Graph :=
  let en := c.trace.testBit 0 && (!c.trace.testBit 2 || decide (field c.trace 16 12 = r.node % 4096))
  if !en then g
  else if g.trace.length < 4096 then { g with trace := g.trace ++ [r] }
  else if c.trace.testBit 1 then g
  else { g with trace := g.trace.drop 1 ++ [r] }

/-- The trace record of a firing (R158). -/
def Firing.record (f : Firing) (c : EngCtx) (q cycle : Nat) (flags : Nat) : TraceRec :=
  { tick := (c.tick + f.made - c.h) % 2 ^ 32
    node := f.node + 4096 * b2n f.write
    runner := q
    ahead := f.ahead
    tflags := flags + 4 * b2n f.moved
    start := f.start
    cycles := min 0xFFFF ((c.h - f.heat) * 8192 + cycle - f.start)
    epoch := f.epoch }

/-- Serial order of epochs (R147). -/
def epochBefore (a b : Nat) : Bool := decide (1 ≤ (b + 256 - a % 256) % 256 ∧ (b + 256 - a % 256) % 256 ≤ 127)

/-- A firing is dropped by the floor of its node (R147). -/
def Graph.dropped (g : Graph) (f : Firing) : Bool :=
  match (g.rt f.node).floor with
  | some (e, t, _) => epochBefore f.epoch e && decide (t ≤ f.made)
  | none => false

/-- The batons of tick t at the inputs of an item, by edge. -/
def Graph.takes (g : Graph) (item t : Nat) : List (Nat × Baton) :=
  (g.active.into item).filterMap (fun e => (g.headAt e.1 e.2 t).map (fun b => (e.1, b)))

/-- Take the batons of tick t off the inputs of an item. -/
def Graph.consume (g : Graph) (item t : Nat) : Graph :=
  (g.active.into item).foldl (fun g e => match g.headAt e.1 e.2 t with
    | some b => { g with
        queues := if (g.keptAt e.1).isEmpty then tabSet (fun _ => []) g.queues e.1 ((g.queue e.1).drop 1) else g.queues
        kept := tabSet (fun _ => []) g.kept e.1 ((g.keptAt e.1).drop 1)
        delivered := if e.2.pipeline then tabPut g.delivered e.1 b.word else g.delivered }
    | none => g) g

/-- Slots of the matching store in use (R118, R139). -/
def Graph.occupancy (g : Graph) : Nat := (g.queues.map (fun p => p.2.length)).foldl (· + ·) 0

/-- The word that waits on the pipeline edge into output terminal j (R115): as the graph starts, a baton of value 0 with UNSETTLED set. -/
def Graph.heldAt (g : Graph) (j : Nat) : StreamWord := tabGet (fun _ => { StreamWord.zero with unsettled := true }) g.termHeld j
def Graph.hold (g : Graph) (j : Nat) (w : StreamWord) : Graph :=
  { g with termHeld := tabSet (fun _ => { StreamWord.zero with unsettled := true }) g.termHeld j w }

/-- The sink effect of an edge into an output terminal (R115, R123): a pipeline edge delivers the baton of the tick before. -/
def Graph.placeTerm (g : Graph) (flow t : Nat) (e : EdgeRec) (w : StreamWord) : Graph :=
  let j := e.dst - 0xC000
  let g1 := if e.pipeline then g.hold j w else g
  { g1 with sinks := g1.sinks ++ [.terminal flow t j (if e.pipeline then g.heldAt j else w)] }

/-- Place the outputs of a node for tick t: a baton on each edge, a sink effect for each output terminal (R117, R123). SLOTS_PEAK follows
every slot in use, provisional batons' too (R139; DESIGN CHOICE beside R145, log entry 67). -/
def Graph.placeOuts (g : Graph) (c : EngCtx) (i t epoch : Nat) (outs : List StreamWord) : Graph :=
  let prov := decide (c.h < t)
  let g := (g.active.outOf i).foldl (fun g e =>
    let w := { outs.getD e.2.srcPort StreamWord.zero with provisional := prov }
    if e.2.toTerm then g.placeTerm (g.active.nodeOf (2 * i)).flow t e.2 w
    else { g with queues := tabSet (fun _ => []) g.queues e.1 (g.queue e.1 ++ [{ made := t, word := w, ahead := t - c.h, epoch := epoch }]) }) g
  { g with slotsPeak := max g.slotsPeak g.occupancy }

/-- Sink effects of a firing other than its outputs. -/
def Graph.placeEffects (g : Graph) (i t : Nat) (o : FireOut) : Graph :=
  let flow := (g.active.nodeOf (2 * i)).flow
  { g with sinks := g.sinks ++
      (match o.write with | some (p, w) => [.shared flow t i ((g.rt i).base + p) w] | none => []) ++
      (match o.meter with | some (m, w) => [.meter flow t m w] | none => []) }

/-- What the firing f gives (R143): with its inputs as read at the grant. -/
def Graph.result (g : Graph) (c : EngCtx) (f : Firing) : FireOut :=
  let inp := { g.fireIn c (2 * f.node + b2n f.write) f.made with xs := f.words }
  if f.write then fireWrite inp else fire inp

/-- The firing on runner q completes at a RUN cycle (R117, R143, R147, R153). -/
def Graph.complete (g : Graph) (c : EngCtx) (q cycle : Nat) (f : Firing) : Graph :=
  let item := 2 * f.node + b2n f.write
  let g := { g with runners := tabSet (fun _ => none) g.runners q none, cycle := max g.cycle cycle }
  if f.late then
    (g.modRt f.node (fun r => { r with loc := if f.write then r.loc else f.lateLoc })).record c (f.record c q cycle 2)
  else if f.void || g.dropped f then
    { g with squashed := satAdd 32 g.squashed 1 }.record c (f.record c q cycle 1)
  else
    let o := g.result c f
    let outs := o.outs.map ((g.rt f.node).outWord f.made)
    let took := g.takes item f.made
    let g := g.consume item f.made
    let g := g.modRt f.node (fun r =>
      if f.write then { r with nextW := f.made + 1 } else r.fired f.made o.loc)
    let g := if f.write then g else g.placeOuts c f.node f.made f.epoch outs
    let g := g.placeEffects f.node f.made o
    let rec_ := f.record c q cycle (8 * b2n (outs.any (fun w => w.substituted)))
    if c.h < f.made then { g with leads := g.leads ++ [{ node := f.node, made := f.made, inputs := took, rec_ := rec_ }] }
    else { g with finishNow := max g.finishNow cycle }.record c rec_

/-- Run-ahead is barred from this tick on by a pending swap (R149). -/
def State.swapBar (s : State) : Option Nat :=
  match s.cfg.armed with
  | some (p, t) => (match p.kind with | .swap => some (s.clock.now + (t - s.tickNat)) | _ => none)
  | none => match s.cfg.check with
    | some p => (match p.kind with | .swap => some (s.clock.now + max 1 (p.named - s.tickNat)) | _ => none)
    | none => none

/-- The engine's view of the state. -/
def State.eng (s : State) : EngCtx :=
  { h := s.clock.now, tick := s.tickNat, limit := field (s.dir 0x1C00) 0 4, bar := s.swapBar, trace := s.dir 0x1C01, free := s.free }

/-- The firing that a completion report at a RUN cycle is about: of a runner that runs one in Run, not before its grant. Requests come by
FABRIC cycle, and those of one cycle in ascending runner number (R120). -/
def State.completing (s : State) (q cycle : Nat) : Option Firing :=
  let fab := 2048 * s.clock.now + cycle / 4
  let inTurn := decide (s.graph.asked.1 < fab) || (decide (s.graph.asked.1 = fab) && decide (s.graph.asked.2 ≤ q))
  if s.inRun && decide (s.graph.cycle / 4 ≤ cycle / 4 ∧ cycle < 8192) && inTurn then
    (s.graph.runner q).filter (fun f => decide (f.heat < s.clock.now) || decide (f.start ≤ cycle))
  else none

/-- Runner q has asked at a RUN cycle. -/
def Graph.served (g : Graph) (c : EngCtx) (q cycle : Nat) : Graph := { g with asked := (2048 * c.h + cycle / 4, q + 1) }

/-- NODE_FIRING_COMPLETE (R117, R120-R122, R143, R147, R153, R158): the runner that completes asks at once. -/
def execNodeFiringComplete (runner : Fin 16) (cycle : Nat) (s : State) : Host.Outcome State Fault Refusal :=
  .next { s with graph := match s.completing runner.val cycle with
    | some f => ((s.graph.served s.eng runner.val cycle).complete s.eng runner.val cycle f).dispatch s.eng (some runner.val)
    | none => s.graph }

/-- Nodes reached from node n along edges, pipeline edges included (R146). -/
def GraphImage.cone (i : GraphImage) (n : Nat) : List Nat :=
  arcReach ((i.edges.filter (fun e => !e.fromTerm && !e.toTerm)).map (fun e => (e.src, e.dst))) i.nodes.length [n]

/-- A provisional baton that stands. -/
def isAhead (h : Nat) (b : Baton) : Bool := decide (h < b.made)

/-- Node n has run-ahead results of a tick at or after k that stand, those that a consumer has taken included (R146); n none: any node. -/
def Graph.holdsLead (g : Graph) (k : Nat) (n : Option Nat) : Bool :=
  g.leads.any fun l => decide (k ≤ l.made) && !(g.active.outOf l.node).isEmpty && (match n with | some i => decide (l.node = i) | none => true)

/-- A result of the cone from tick t on is squashed (R147). -/
def LeadRec.dead (t : Nat) (cone : Nat → Bool) (l : LeadRec) : Bool := cone l.node && decide (t ≤ l.made)

/-- An operand that a squashed firing took is kept for the firing that computes the tick again (R147), unless it is itself squashed. It takes
no place in the edge's queue, which holds at most four (R118). DEDUCED (log entry 62). -/
def Graph.putBack (g : Graph) (h t : Nat) (cone : Nat → Bool) (x : Nat × Baton) : Graph :=
  let gone := match g.active.edges[x.1]? with | some r => !r.fromTerm && cone r.src | none => true
  if gone && isAhead h x.2 && decide (t ≤ x.2.made) then g
  else
    let b := if isAhead h x.2 then x.2 else { x.2 with ahead := 0, word := { x.2.word with provisional := false } }
    { g with kept := tabMod (fun _ => []) g.kept x.1 (fun l => b :: l) }

/-- The batons that a false start at tick t deletes from what an edge out of the cone holds (R147). -/
def Graph.unlead (g : Graph) (h t : Nat) (cone : Nat → Bool) (q : Tab (List Baton)) : Tab (List Baton) :=
  g.active.edgeList.foldl (fun q x => if !x.2.fromTerm && cone x.2.src then
    tabMod (fun _ => []) q x.1 (fun l => l.filter (fun b => !(isAhead h b && decide (t ≤ b.made)))) else q) q

/-- A false start (R147): the epoch advances, the provisional batons of the cone from tick t on are deleted, the floors set, and what the
squashed firings took from others is kept for their ticks, the latest first. A ready item that has no tick to compute again keeps its age
(R121). -/
def Graph.squash (g : Graph) (c : EngCtx) (t : Nat) (cone : Nat → Bool) : Graph :=
  let e := (g.epoch + 1) % 256
  let gone := g.leads.filter (LeadRec.dead t cone)
  let g1 := { g with
    epoch := e
    heatStarts := g.heatStarts + 1
    falseStarts := satAdd 16 g.falseStarts 1
    squashed := satAdd 32 g.squashed gone.length
    queues := g.unlead c.h t cone g.queues
    kept := g.unlead c.h t cone g.kept
    nodes := (List.range g.active.nodes.length).foldl (fun m i => if cone i then
      tabMod (fun _ => ({} : NodeRt)) m i (fun r => { r with floor := some (e, t, c.h), next := if t < r.next then max t (c.h + 1) else r.next }) else m) g.nodes
    ready := g.ready.filter (fun p => !(cone (p.1 / 2) && decide (p.1 % 2 = 0 ∧ t < g.nextOf p.1)))
    leads := g.leads.filter (fun l => !l.dead t cone) }
  let g2 := gone.reverse.foldl (fun g l => l.inputs.foldl (fun g x => g.putBack c.h t cone x) g) g1
  gone.foldl (fun g l => g.record c { l.rec_ with tflags := l.rec_.tflags ||| 1 }) g2

/-- A cause of a false start (R146, R148): the ninth in a heat deletes all run-ahead and suspends it until the next boundary. -/
def Graph.falseStart (g : Graph) (c : EngCtx) (t : Nat) (cone : Nat → Bool) : Graph :=
  if g.suspended then g
  else if g.heatStarts < 8 then g.squash c t cone
  else { g.squash c (c.h + 1) (fun _ => true) with suspended := true }

/-- A cause acts, and the dispatcher makes the nodes ready again (R147). -/
def Graph.causeStart (g : Graph) (c : EngCtx) (t : Nat) (n : Option Nat) (cone : Nat → Bool) : Graph :=
  if g.holdsLead t n then (g.falseStart c t cone).dispatch c none else g

/-- A swap is accepted for tick k (R149): a run-ahead firing for that tick or a later one that is still in progress does not stand either. -/
def Graph.voidAhead (g : Graph) (k : Nat) : Graph :=
  { g with runners := g.runners.map fun p => (p.1, p.2.map (fun f => { f with void := f.void || decide (f.heat < f.made ∧ k ≤ f.made) })) }

/-- Apply the events whose tick has come, in order, to the active bank and to a shadow bank of the same image (R126). -/
def Graph.applyDue (g : Graph) (c : EngCtx) : Graph :=
  let due := g.events.filter (fun e => decide (e.key ≤ c.tick))
  let same := g.shadowSame
  let g1 := due.foldl (fun g e => g.putEvent c.free c.h e) g
  { g1 with
    events := g.events.filter (fun e => !decide (e.key ≤ c.tick))
    nodeShadow := if same then due.foldl (fun t e => match g.active.nodes[e.node]? with
        | some n => (List.range e.values.length).foldl (fun t k =>
            if e.noShadow.contains (e.slot + k) ∨ n.pCount ≤ e.slot + k then t
            else tabSet (fun _ => 0) t (n.pFirst + e.slot + k) (e.values.getD k 0)) t
        | none => t) g.nodeShadow
      else g.nodeShadow }

/-- The position that a storing operator writes for tick u (R162, R163, R168). -/
def writePos (op n u : Nat) : Nat :=
  if op = 10 then u % n else if op = 37 then u % ((convK n + 2) * convP n) else u % (splitD op n + 1)

/-- A node that writes shared sample memory. -/
def NodeRec.stores (n : NodeRec) : Bool := n.fig.sink && decide (n.op ≠ 38)

/-- Flows that are late at the end of heat h (R151). -/
def Graph.lateFlows (g : Graph) (h : Nat) : List Nat :=
  ((g.active.items.filter (fun i => decide (g.nextOf i ≤ h))).map (fun i => (g.active.nodeOf i).flow)).eraseDups

/-- The late flows' sink effects are replaced (R152). -/
def Graph.substitute (g : Graph) (h : Nat) (late : List Nat) : List SinkEffect :=
  g.sinks.filter (fun x => match x with
    | .terminal f m _ _ => !(late.contains f && decide (m = h))
    | .shared f m _ _ _ => !(late.contains f && decide (m = h))
    | .meter f m _ _ => !(late.contains f && decide (m = h))) ++
  (g.active.edgeList.filterMap fun e =>
    let f := (g.active.nodeOf (2 * e.2.src)).flow
    if e.2.toTerm && late.contains f then
      some (.terminal f h (e.2.dst - 0xC000) { tabGet (fun _ => StreamWord.zero) g.termOut (e.2.dst - 0xC000) with substituted := true })
    else none) ++
  ((List.range g.active.nodes.length).filterMap fun i =>
    let n := g.active.nodeOf (2 * i)
    if n.stores && late.contains n.flow then
      some (.shared n.flow h i ((g.rt i).base + writePos n.op n.size h) { (g.rt i).lastWrite with substituted := true })
    else none)

/-- A firing of a late flow that is in progress: its LOCAL state will stand, and its outputs are discarded (R153). -/
def Graph.lateFiring (g : Graph) (c : EngCtx) (f : Firing) : Firing :=
  if f.late then f else { f with late := true, lateLoc := (g.result c f).loc }

/-- The pipeline edge e has delivered its word for heat h, whether or not its consumer has taken it (R153). -/
def Graph.deliverLeft (g : Graph) (h : Nat) (e : Nat × EdgeRec) : Graph :=
  match g.headAt e.1 e.2 h with
  | some b => if e.2.pipeline && !e.2.toTerm then { g with delivered := tabPut g.delivered e.1 b.word } else g
  | none => g

/-- The batons on an edge whose work for heat h is ended (R153) go. -/
def Graph.ended (g : Graph) (h : Nat) (isLate : Nat → Bool) (q : Tab (List Baton)) : Tab (List Baton) :=
  g.active.edgeList.foldl (fun q e =>
    if e.2.toTerm || !isLate e.2.dst then q
    else tabMod (fun _ => []) q e.1 (fun l => l.filter (fun b =>
      decide (h < e.2.due b) && !(decide (b.made = h) && !e.2.fromTerm && decide ((g.active.nodeOf (2 * e.2.src)).flow = (g.active.nodeOf (2 * e.2.dst)).flow))))) q

/-- The work of the late flows for heat h is ended (R153). A firing that was never granted writes no trace record: only one in progress does,
as it completes (R158; DESIGN CHOICE, log entry 67). -/
def Graph.endLate (g0 : Graph) (c : EngCtx) (late : List Nat) : Graph :=
  let h := c.h
  let g := g0.active.edgeList.foldl (fun g e => g.deliverLeft h e) g0
  let isLate := fun i => late.contains (g.active.nodeOf (2 * i)).flow
  { g with
    runners := g.runners.map (fun p => (p.1, p.2.map (fun f => if isLate f.node && decide (f.made ≤ h) then g.lateFiring c f else f)))
    ready := g.ready.filter (fun p => !isLate (p.1 / 2) || decide (h < g.nextOf p.1))
    nodes := (List.range g.active.nodes.length).foldl (fun t i => if isLate i then
      tabMod (fun _ => ({} : NodeRt)) t i (fun r => { r with next := max r.next (h + 1), nextW := max r.nextW (h + 1) }) else t) g.nodes
    queues := g.ended h isLate g.queues
    kept := g.ended h isLate g.kept }

/-- Pipeline edges without their baton of heat h repeat what they delivered (R153): `lost` are the items that had not fired for it. -/
def Graph.refillPipes (g : Graph) (h : Nat) (lost : List Nat) : Graph :=
  g.active.edgeList.foldl (fun g e =>
    if !e.2.pipeline then g
    else if e.2.toTerm then
      (let j := e.2.dst - 0xC000
       if lost.contains (2 * e.2.src) then g.hold j { g.heldAt j with substituted := true } else g)
    else if h + 1 < g.nextOf (g.active.taker e.2) then g
    else
      { g with queues := tabMod (fun _ => []) g.queues e.1 (fun l => if (g.keptAt e.1 ++ l).any (fun b => decide (b.made = h)) then l
          else { made := h, word := { tabGet (fun _ => StreamWord.zero) g.delivered e.1 with substituted := true }, epoch := g.epoch } :: l) }) g

/-- Release one sink effect (R123). -/
def Graph.releaseOne (g : Graph) : SinkEffect → Graph
  | .terminal _ _ j w => { g with termOut := tabSet (fun _ => StreamWord.zero) g.termOut j w }
  | .shared _ _ i p w =>
    { g.modRt i (fun r => { r with lastWrite := w }) with shared := tabSet (fun _ => StreamWord.zero) g.shared p w }
  | .meter .. => g

/-- The end of heat h: late flows are judged and ended (R151-R153), and every sink effect is released (R123). -/
def Graph.closeHeat (g : Graph) (c : EngCtx) : Graph :=
  let late := g.lateFlows c.h
  let fx := if late.isEmpty then g.sinks else g.substitute c.h late
  let lost := g.active.items.filter (fun i => decide (g.nextOf i ≤ c.h))
  let g1 := if late.isEmpty then g else (g.endLate c late).refillPipes c.h lost
  let g2 := fx.foldl (fun g x => g.releaseOne x) g1
  { g2 with
    sinks := []
    finishLast := g.finishNow
    finishPeak := max g.finishPeak g.finishNow
    stumbles := satAdd 16 g.stumbles late.length
    lastStumbleTick := if late.isEmpty then g.lastStumbleTick else BitVec.ofNat 32 c.tick
    lastStumbleFlow := late.getLastD g.lastStumbleFlow }

/-- Words that the release of heat h gives to meter slots (R123, R167). -/
def Graph.meterWords (g : Graph) (h : Nat) : List (Nat × StreamWord) :=
  (g.substitute h (g.lateFlows h)).filterMap fun x => match x with | .meter _ _ m w => some (m, w) | _ => none

/-- A baton of tick h is committed as heat h opens (R144). -/
def Baton.commit (h : Nat) (b : Baton) : Baton :=
  if b.made = h then { b with ahead := 0, word := { b.word with provisional := false } } else b

/-- The queue of an edge as heat h opens in an epoch: its batons of tick h are committed (R144), and an input terminal's sample arrives
(R114, R116). -/
def openQueue (h epoch : Nat) (terms : Nat → StreamWord) (q : Tab (List Baton)) (e : Nat × EdgeRec) : Tab (List Baton) :=
  tabMod (fun _ => []) q e.1 (fun l => l.map (Baton.commit h) ++
    (if e.2.fromTerm && !e.2.toTerm then [{ made := h, word := terms (e.2.src - 0x8000), epoch := epoch }] else []))

/-- A floor lasts nine heats, the longest that a run-ahead result of before it can (R147, R148). -/
def NodeRt.floorAt (r : NodeRt) (h : Nat) : Option (Nat × Nat × Nat) := r.floor.filter (fun f => decide (h < f.2.2 + 9))

/-- The opening of heat h (R127, R144): what was computed ahead for it is committed, its counts start, and ready work is granted.
`terms` gives the sample of each input terminal. All of them arrive at RUN cycle 0, of the 0 to 256 of R127 (DESIGN CHOICE, log entry
67). -/
def Graph.openHeat (g : Graph) (c : EngCtx) (terms : Nat → StreamWord) : Graph :=
  let done := g.leads.filter (fun l => decide (l.made ≤ c.h))
  let g1 := { g with
    cycle := 0
    finishNow := 0
    heatStarts := 0
    suspended := false
    leads := g.leads.filter (fun l => decide (c.h < l.made))
    nodes := (List.range g.active.nodes.length).foldl (fun t i => tabMod (fun _ => {}) t i (fun r => { r with grants := 0, grantsW := 0, floor := r.floorAt c.h })) g.nodes
    queues := g.active.edgeList.foldl (openQueue c.h g.epoch terms) g.queues
    kept := g.kept.map (fun (e : Nat × List Baton) => (e.1, e.2.map (Baton.commit c.h))) }
  let g2 := done.foldl (fun g l => g.record c l.rec_) g1
  { g2 with slotsPeak := max g2.slotsPeak g2.occupancy }.dispatch c none

/-- Bases of the nodes' shared words, in 8-byte words from 0 in node order (R122). -/
def sharedBases : Nat → List NodeRec → List Nat
  | _, [] => []
  | b, n :: ns => b :: sharedBases (b + ceilDiv n.fig.s 8) ns

/-- Run-time state of a graph whose first heat is h (R115, R122, R132, R133): nothing in flight, a zero baton with UNSETTLED on
each pipeline edge, all state at zero. -/
def Graph.start (g : Graph) (img : GraphImage) (words : Tab Word) (h : Nat) : Graph :=
  let bases := sharedBases 0 img.nodes
  { g with
    active := img
    nodeActive := words
    queues := img.edgeList.foldl (fun q e => if e.2.pipeline && !e.2.toTerm then
      tabPut q e.1 [{ made := h - 1, word := { sample := 0, unsettled := true }, epoch := g.epoch }] else q) []
    kept := []
    nodes := (List.range img.nodes.length).foldl (fun t i =>
      let n := img.nodeOf (2 * i)
      tabSet (fun _ => ({} : NodeRt)) t i {
        home := if n.home = 0xFF then i % 16 else n.home, next := h, nextW := h,
        anchor := (h, (tabGet (fun _ => (0 : Word)) words (n.pFirst + 1)).toNat), base := bases.getD i 0 }) []
    runners := []
    ready := []
    cycle := 0
    sinks := []
    termOut := []
    ramps := []
    shared := []
    delivered := []
    termHeld := []
    leads := []
    suspended := false
    heatStarts := 0 }

/-- Node parameters of an incoming bank take effect at tick h on an unchanged image (R133, R156). -/
def Graph.takeWords (g : Graph) (words : Tab Word) (free h : Nat) : Graph :=
  (List.range g.active.nodes.length).foldl (fun g i =>
    let n := g.active.nodeOf (2 * i)
    (List.range n.pCount).foldl (fun g k =>
      let v := tabGet (fun _ => (0 : Word)) words (n.pFirst + k)
      if tabGet (fun _ => (0 : Word)) g.nodeActive (n.pFirst + k) = v then g else g.putSlot free i k h v) g) g

/-- The graph at a bank swap or ARM at tick h (R133, R417): `restart` is an ARM, whose graph starts anew. The shadow bank is
refilled from the new active one. A later shadow write still keeps an event off its shadow slot after the swap has taken it (DESIGN
CHOICE, log entry 67). -/
def Graph.swapped (g : Graph) (free h : Nat) (restart : Bool) : Graph :=
  match g.shadow with
  | none => g
  | some img =>
    let g1 := if !restart && sameImage img g.active then g.takeWords g.nodeShadow free h else g.start img g.nodeShadow h
    { g1 with nodeShadow := g1.nodeActive, held := 0 }

/-- Status words of R139 and R159. -/
def Graph.status (g : Graph) (limit : Nat) : List Nat :=
  [g.active.id, min 8191 g.finishLast + 8192 * min 8191 g.finishPeak, min 16383 g.slotsPeak + 16384 * g.events.length,
   g.falseStarts + 65536 * g.stumbles, g.lastStumbleTick.toNat,
   g.lastStumbleFlow + 64 * b2n g.suspended + 128 * limit + 2048 * g.epoch, g.squashed]

/-- STICKY_CLEAR of the graph group (R139, R159). -/
def Graph.clear (g : Graph) : Graph :=
  { g with finishPeak := 0, slotsPeak := 0, falseStarts := 0, stumbles := 0, squashed := 0, lastStumbleTick := 0, lastStumbleFlow := 0 }

end Sys2Proof.Machine
end

