-- ==== Sys2Proof/Machine/LogBook.lean ====
section
/-! DEFINITION. The marathon log in MRAM (R456-R459). -/
namespace Sys2Proof.Machine

/-- The committed image in force (R458). -/
def State.logImage (s : State) : LogImage := if s.log.image1 then s.mram.log1 else s.mram.log0

/-- TEMP_EXTREMES is kept as one more than its value, 0 for a die not yet converted (R456). -/
def isExtreme (ofs : Nat) : Bool := decide (0x1C0 ≤ ofs ∧ ofs < 0x1CC)

/-- Two extremes merged: the highest in [15:0], the lowest in [31:16], signed. -/
def mergeExtreme (a b : Nat) : Nat :=
  if a = 0 then b
  else if b = 0 then a
  else
    let hi := max (sfield (a - 1) 0 16) (sfield (b - 1) 0 16)
    let lo := min (sfield (a - 1) 16 16) (sfield (b - 1) 16 16)
    1 + (hi % 65536).toNat + 65536 * (lo % 65536).toNat

/-- A counter with the live count added (R456, R458). -/
def mergeCount (ofs a b : Nat) : Nat := if isExtreme ofs then mergeExtreme a b else satAdd 32 a b

/-- The counts as a commit now would write them. -/
def State.logCounts (s : State) : Tab Nat :=
  s.log.live.foldl (fun t (e : Nat × Nat) => tabMod (fun _ => 0) t e.1 (fun v => mergeCount e.1 v e.2)) s.logImage.counts

/-- A commit with its cause (R456, R458): into the older image, which is then the one in force. -/
def State.logCommit (s : State) (cause : Nat) : State :=
  let img : LogImage := { valid := true, seq := (s.logImage.seq + 1) % 2 ^ 32, info := cause + 8 * b2n s.mram.logRestarted, counts := s.logCounts }
  { s with
    mram := if s.log.image1 then { s.mram with log0 := img } else { s.mram with log1 := img }
    log := { s.log with live := [], sinceCommit := 0, due := false, image1 := !s.log.image1 } }

/-- A commit that the MRAM can take (R339). -/
def State.logCommitIf (s : State) (cause : Nat) : State := if s.mramBlocked then s else s.logCommit cause

/-- The bytes 0x000 to 0x4CF of the image as R459 returns it. -/
def State.logBody (s : State) : List Byte :=
  let c := s.logCounts
  [0x4B, 0x4D, 0x4C, 0x31] ++ leBytes 2 1 ++ leBytes 2 1236 ++ leBytes 4 s.logImage.seq ++ leBytes 4 s.logImage.info ++
    (List.range 304).flatMap (fun i =>
      let ofs := 16 + 4 * i
      let v := tabGet (fun _ => 0) c ofs
      leBytes 4 (if isExtreme ofs then v - 1 else v))
/-- The whole image of 1,236 bytes (R456, R459). -/
def State.logBytes (s : State) : List Byte := s.logBody ++ leBytes 4 (crc32c s.logBody)

/-- At boot the valid image with the higher COMMIT_SEQ is taken; with none the log begins again from 0 (R458). -/
def State.logBoot (s : State) : State :=
  let v0 := s.mram.log0.valid
  let v1 := s.mram.log1.valid
  if v0 || v1 then { s with log := { s.log with image1 := v1 && (!v0 || decide (s.mram.log0.seq < s.mram.log1.seq)) } }
  else { s with
    mram := { s.mram with logRestarted := true, log0 := {}, log1 := {} }
    log := { s.log with image1 := false } }

/-- LOG_COMMIT (R37, R458): every 10 minutes of POWER_ON_S, or one that fell due during a control processor restart, in which it
waits. -/
def execLogCommit (s : State) : Host.Outcome State Fault Refusal :=
  let periodic := decide (600 ≤ s.log.sinceCommit)
  .next (
    if !(periodic || s.log.due) || s.mramBlocked || s.asleep || s.power.inReset then s
    else if !s.ctl.running then { s with log := { s.log with due := true } }
    else s.logCommit (if s.log.due then 3 else 0))

end Sys2Proof.Machine
end

