-- ==== Sys2Proof/Machine/Sessions.lean ====
section
/-! DEFINITION. Sessions, lockouts and the ledger across restarts (R391-R394, R405, R408). -/
namespace Sys2Proof.Machine

/-- ORIGIN of a binding as the ledger holds it (R406). -/
def Binding.origin16 (b : Binding) : Nat := if b.port = 2 ∨ b.port = 3 then b.origin + 1024 * b.oport else 0

/-- A session ends (R394, R405, R406): its claims go with it, a kind 2 record is made with the arrival tick of the request that ends it, and
ATTN_CAUSE bit 17 is set for a claim lost. -/
def State.endSession (s : State) (x : Session) (reason opcode tick : Nat) : State :=
  { s with
    ctl := { s.ctl with sessions := s.ctl.sessions.filter (fun y => decide (y.number ≠ x.number)) }.record (BitVec.ofNat 48 tick) x.binding.port 2 x.number
      opcode reason 0 x.binding.origin16 0
    bus := if x.claims ≠ 0 ∧ reason ≠ 0 ∧ reason ≠ 6 then s.bus.raise s.inbandMask 17 else s.bus }

/-- Every session of a list ends for one reason. -/
def State.endSessions (s : State) (l : List Session) (reason opcode tick : Nat) : State :=
  l.foldl (fun s x => s.endSession x reason opcode tick) s

/-- The lockout delay after f failures, in ticks (R393). -/
def lockoutTicks (f : Nat) : Nat := if f < 5 then 0 else 96000 * min (2 ^ (f - 5)) 3600

/-- SEQ after the highest mirrored one (R408). -/
def Mram.nextSeq (m : Mram) : BitVec 32 := match m.mirror with | r :: _ => r.seq + 1 | [] => 1

/-- The control memory as a boot leaves it (R393, R408): the ledger is read back from the mirror, and the failure counts from MRAM. -/
def Mram.control (m : Mram) : Control := { ledger := m.mirror, seq := m.nextSeq, fails := m.fails }

/-- SESSION_IDLE_TIMEOUT (R394, R410). -/
def execSessionIdleTimeout (number : BitVec 16) (s : State) : Host.Outcome State Fault Refusal :=
  .next (match s.ctl.sessions.find? (fun x => decide (x.number = number)) with
    | some x =>
      if x.lastPacket + 96000 * field (s.dir 0x1A00) 0 16 ≤ s.clock.now then
        let s1 := s.endSession x 1 0 s.tickNat
        { s1 with ctl := { s1.ctl with expired := x.binding :: s1.ctl.expired } }
      else s
    | none => s)

/-- CHALLENGE_EXPIRE (R392): the pending challenges of a port that are 10 s old lapse. -/
def execChallengeExpire (port : Fin 5) (s : State) : Host.Outcome State Fault Refusal :=
  .next { s with ctl := { s.ctl with
    challenges := s.ctl.challenges.filter (fun c => !(decide (c.binding.port = port.val) && decide (c.made + 960000 ≤ s.clock.now))) } }

/-- LOCKED_OUT_END (R393). -/
def execLockedOutEnd (port : Fin 5) (s : State) : Host.Outcome State Fault Refusal :=
  let t := tabGet (fun _ => 0) s.ctl.lockedUntil port.val
  .next { s with ctl := { s.ctl with lockedUntil := if t ≤ s.clock.now then tabSet (fun _ => 0) s.ctl.lockedUntil port.val 0 else s.ctl.lockedUntil } }

/-- LEDGER_MIRROR (R339, R408): the newest 1,024 records are in the MRAM ring. -/
def execLedgerMirror (s : State) : Host.Outcome State Fault Refusal :=
  .next { s with mram := if s.mramBlocked || s.power.inReset || !s.ctl.running then s.mram else { s.mram with mirror := s.ctl.ledger.take 1024 } }

end Sys2Proof.Machine
end

