-- ==== Sys2Proof/Machine/Mute.lean ====
section
/-! DEFINITION. The mute points of the inputs (R44) and of the outputs (R194): raised-cosine curves over sprint samples. -/
namespace Sys2Proof.Machine

/-- The number of the sprint sample now in progress, from the start of tick count 0 (R27: 128 to a tick). -/
def State.samp (s : State) : Nat := 128 * s.clock.now + s.clock.phase

/-- The gain of a curve at sprint sample k; before its start, the gain it left (R194). -/
def Curve.value (c : Curve) (k : Nat) : Nat :=
  if k < c.start then c.g0
  else if c.rising then c.g0 + (unity - c.g0) * (unity - fallAt (k - c.start) c.len) / unity
  else c.g0 * fallAt (k - c.start) c.len / unity

/-- The gain of a mute point at sprint sample k. -/
def MutePoint.value (m : MutePoint) (k : Nat) : Nat :=
  match m.curve with
  | some c => c.value k
  | none => m.gain

/-- The gain reached: that of the sample before k. -/
def MutePoint.reached (m : MutePoint) (k : Nat) : Nat := m.value (k - 1)

/-- At zero gain: no curve runs and the gain is 0 (R44). -/
def MutePoint.atZero (m : MutePoint) : Bool := m.curve.isNone && decide (m.gain = 0)

/-- Begin a mute of n sprint samples at sample k from the gain reached (R194); at zero gain there is nothing to do, and
a mute that already falls keeps its curve unless the new one is shorter. -/
def MutePoint.fall (m : MutePoint) (k n : Nat) : MutePoint :=
  match m.curve with
  | some c =>
    if !c.rising && decide (c.len ≤ n) then m
    else { m with curve := some { rising := false, g0 := m.reached k, start := k, len := n } }
  | none => if m.gain = 0 then m else { m with curve := some { rising := false, g0 := m.gain, start := k, len := n } }

/-- Begin an unmute of n sprint samples at sample k from the gain reached (R194). -/
def MutePoint.rise (m : MutePoint) (k n : Nat) : MutePoint :=
  { m with curve := some { rising := true, g0 := m.reached k, start := k, len := n } }

/-- The curve has run to its end before sample k. -/
def MutePoint.over (m : MutePoint) (k : Nat) : Bool :=
  match m.curve with
  | some c => decide (c.start + c.len ≤ k)
  | none => false

/-- Settle the gain at the end of the curve. -/
def MutePoint.settle (m : MutePoint) : MutePoint :=
  match m.curve with
  | some c => { gain := if c.rising then unity else 0, curve := none }
  | none => m

/-- A mute curve is falling, or a rising one runs. -/
def MutePoint.falling (m : MutePoint) : Bool := match m.curve with | some c => !c.rising | none => false
def MutePoint.rising (m : MutePoint) : Bool := match m.curve with | some c => c.rising | none => false

end Sys2Proof.Machine
end

