-- ==== Sys2Proof/Machine/Inputs.lean ====
section
/-! DEFINITION. Analog inputs and preamplifiers (chapter 2): gain, mode, phantom and jack sequences. -/
namespace Sys2Proof.Machine

/-- One input, one of the pins JS4-JS11. -/
def State.inCh (s : State) (n : Nat) : InputCh := tabGet (fun _ => {}) s.inp.ch n
def State.inPin (s : State) (j : Nat) : JackPin := tabGet (fun _ => {}) s.inp.pins j

/-- Update one input. -/
def State.modIn (s : State) (n : Nat) (f : InputCh → InputCh) : State :=
  { s with inp := { s.inp with ch := tabMod (fun _ => {}) s.inp.ch n f } }

/-- Settle count of an input chain (R69): by CV_IN_PHASE and CV_IN_ORDER. -/
def State.inSettle (s : State) (n : Nat) : Nat :=
  if s.act (0x0418 + n) = 0 then (if s.dir (0x0400 + n) = 5 then 17 else 16) else 41

/-- A disturbance that follows the boundary of tick count t marks UNSETTLED on the next `settle` samples (R70). -/
def InputCh.disturb (c : InputCh) (t settle : Nat) : InputCh :=
  { c with unsettledTo := max c.unsettledTo (t + settle), disturbedAt := some (max t (c.disturbedAt.getD 0)) }

/-- The effective gain in units of 0.5 dB: A is 6 of them, T the rest (R42, R43). -/
def effGain (mode gain : Nat) : Nat :=
  let g := if mode = 1 then gain else if mode = 2 then min gain 2400 else 0
  g / 50

/-- The zero-crossing timeout in ticks (R45, R182). -/
def State.zcTimeout (s : State) : Nat := 96 * field (s.act 0x1100) 0 8

/-- Put a gain in force: a change of A disturbs the chain (R46). At a swap's boundary the sample that the boundary latches is the first
of the settle count (R70). -/
def InputCh.setGain (c : InputCh) (s : State) (n aStep trim : Nat) (atSwap : Bool := false) : InputCh :=
  if c.aStep = aStep then { c with trim := trim, wait := none }
  else { c with aStep := aStep, trim := trim, wait := none }.disturb (s.clock.now - b2n atSwap) (s.inSettle n)

/-- Take the effective gain of the active bank (R45): at once at zero gain, else at a zero crossing or the timeout, which runs
from the first pending change. -/
def InputCh.takeGain (c : InputCh) (s : State) (n : Nat) : InputCh :=
  let g := effGain c.mode (s.act (0x0318 + n))
  if c.aStep = g / 6 ∧ c.trim = g % 6 ∧ c.wait = none then c
  else if c.mute.atZero then c.setGain s n (g / 6) (g % 6) true
  else
    let d := match c.wait with | some w => w.deadline | none => s.clock.now + s.zcTimeout
    { c with wait := some { aStep := g / 6, trim := g % 6, deadline := d } }

/-- Any mute cause of R44 is present. -/
def InputCh.caused (c : InputCh) : Bool := c.causeMode || c.causePhantom || c.causeJack

/-- Mute for a cause whose curve is n ticks long, the shortest among the causes present (R44). -/
def InputCh.muteFor (c : InputCh) (s : State) (ticks : Nat) : InputCh :=
  { c with mute := c.mute.fall s.samp (128 * (if c.causeJack then min ticks 96 else ticks)) }

/-- A cause with an unmute of n ticks has cleared: unmute when none remains, over the longest of those cleared in this tick
(R44). -/
def InputCh.unmuteFor (c : InputCh) (s : State) (ticks : Nat) : InputCh :=
  let len := if c.clearAt = s.clock.now then max c.clearLen ticks else ticks
  let c := { c with clearLen := len, clearAt := s.clock.now }
  if c.caused then c else { c with mute := c.mute.rise s.samp (128 * len), seqUnmute := decide (ticks = 192) }

/-- An enabled pin that senses input n under auto-mute in the mode, and reads unplugged or settles after an insertion
(R56, R57). Of two pins with different AUTOMUTE the one that itself reads unplugged decides (DESIGN CHOICE, log entry 56). -/
def State.jackHolds (s : State) (pins : Tab JackPin) (n mode : Nat) : Bool :=
  (List.range 8).any fun j =>
    let cfg := s.dir (0x0340 + j)
    let p := tabGet (fun _ => {}) pins j
    decide (field cfg 0 4 = n) && cfg.testBit 4 && cfg.testBit 6 && (decide (mode = 2) || cfg.testBit 7) &&
      (!p.plugged || p.settleEnd.isSome)

/-- Input n reads plugged: no enabled pin that names it reads unplugged (R56). -/
def State.inPlugged (s : State) (n : Nat) : Bool :=
  (List.range 8).all fun j => !(decide (field (s.dir (0x0340 + j)) 0 4 = n) && (s.dir (0x0340 + j)).testBit 4) || (s.inPin j).plugged

/-- Bring the jack auto-mute cause up to date: a removal mutes over 96 ticks, an insertion unmutes over 960 (R57). -/
def InputCh.jackUpdate (c : InputCh) (s : State) (pins : Tab JackPin) (n : Nat) : InputCh :=
  let h := s.jackHolds pins n c.mode
  if h = c.causeJack then c
  else if h then { c with causeJack := true }.muteFor s 96
  else { c with causeJack := false }.unmuteFor s 960

/-- The phantom feed is on or coming up. -/
def InputCh.feedOn (c : InputCh) : Bool := decide (c.phantom = .ramping) || decide (c.phantom = .on)

/-- IN_PHANTOM of the active bank, for the inputs that have it (R53). -/
def State.wantsPhantom (s : State) (n : Nat) : Bool := decide (n < 16 ∧ s.act (0x0330 + n) = 1)

/-- A queued input whose enable is no longer wanted leaves the queue (R54). -/
def InputCh.unqueue (c : InputCh) (s : State) (n : Nat) : InputCh :=
  if c.phantom = .queued ∧ ¬ (s.wantsPhantom n ∧ s.act (0x0300 + n) = 1) then { c with phantom := .off } else c

/-- Bring a mode sequence that is not in the middle of a step to its next step (R47, R48): toward the target of the active
bank. At zero gain only. -/
def InputCh.advance (c : InputCh) (s : State) (n : Nat) : InputCh :=
  let want := s.act (0x0300 + n)
  let c := c.unqueue s n
  if c.mode ≠ want then
    if c.feedOn then { c with seqStep := 2, phClear := true }
    else if c.phantom = .discharging then { c with seqStep := 2, phRequeue := false }
    else
      let g := effGain want (s.act (0x0318 + n))
      let c := { c with
        mode := want
        aStep := g / 6
        trim := g % 6
        wait := none
        seqStep := 4
        phantom := .off
        phRequeue := false
        settleEnd := s.clock.now + 480 }
      let c := c.disturb (s.clock.now + 479) (s.inSettle n)
      c.jackUpdate s s.inp.pins n
  else if s.clock.now ≤ c.unsettledTo ∧ c.unsettledTo ≠ 0 then { c with seqStep := 5 }
  else if c.mode = 1 ∧ s.wantsPhantom n ∧ c.phantom ≠ .on then
    if c.phantom = .off then { c with seqStep := 6, phantom := .queued }
    else if c.phantom = .discharging then { c with seqStep := 6, phRequeue := true }
    else { c with seqStep := 6 }
  else if c.feedOn ∧ ¬ s.wantsPhantom n then { c with seqStep := 2, phClear := true }
  else if c.phantom = .discharging then { c with seqStep := 2, phRequeue := false }
  else
    let c := { c with causeMode := false, seqStep := if c.causePhantom || c.causeJack then 0 else 7 }
    c.unmuteFor s 192

/-- Start a mode sequence, or retarget one in its step 7 (R47, R48). A phantom sequence that runs goes on inside it: its mute is the
mode sequence's from here on (R44). -/
def InputCh.startSeq (c : InputCh) (s : State) (n : Nat) : InputCh :=
  let c := { c with causeMode := true, causePhantom := false, seqStep := 1 }.muteFor s 192
  if c.mute.atZero then c.advance s n else c

/-- A phantom enable outside a mode sequence (R53). An input enabled again in its DISCHARGE keeps PHANTOM_STATE DISCHARGING until
its end, and then reads QUEUED (DESIGN CHOICE, log entry 56). -/
def InputCh.enablePhantom (c : InputCh) (s : State) : InputCh :=
  match c.phantom with
  | .off => { c with phantom := .queued, causePhantom := true }.muteFor s 192
  | .discharging => { c with phRequeue := true }
  | .ramping => if c.phClear then { c with phRequeue := true } else c
  | .on => if c.phClear then { c with phRequeue := true } else c
  | .queued => c

/-- A phantom disable (R54): a queued input leaves the queue; one that ramps or is on has its bit cleared once it is muted. -/
def InputCh.disablePhantom (c : InputCh) (s : State) (n : Nat) : InputCh :=
  match c.phantom with
  | .queued =>
    if c.seqStep = 6 then { c with phantom := .off }.advance s n
    else { c with phantom := .off, causePhantom := false }.unmuteFor s 192
  | .discharging => { c with phRequeue := false, seqStep := if c.seqStep = 6 then 2 else c.seqStep }
  | .off => c
  | _ =>
    if c.seqStep = 6 then { c with seqStep := 2, phClear := true, phRequeue := false }
    else { c with phClear := true, phRequeue := false, causePhantom := true }.muteFor s 192

/-- What an input takes at the tick of a bank swap: mode, gain and phantom of the new active bank, against the values the
old one held (R45, R47, R48, R53, R54). -/
def InputCh.swapped (c : InputCh) (s : State) (n oldMode oldGain oldPh : Nat) : InputCh :=
  let changed := decide (s.act (0x0300 + n) ≠ oldMode) || decide (s.act (0x0318 + n) ≠ oldGain) ||
    decide (n < 16 ∧ s.act (0x0330 + n) ≠ oldPh)
  let c := c.takeGain s n
  if c.seqStep = 7 ∧ changed then c.startSeq s n
  else if c.seqStep ≠ 0 then
    if s.wantsPhantom n ∨ oldPh ≠ 1 then c else if c.seqStep = 6 then c.disablePhantom s n else c.unqueue s n
  else if c.mode ≠ s.act (0x0300 + n) then c.startSeq s n
  else if c.mode = 1 then
    if s.wantsPhantom n then c.enablePhantom s else c.disablePhantom s n
  else c

/-- INPUT_GAIN_ZERO_CROSSING: a waiting gain is made at a change of sign or a sample of value 0 at 3.072 MHz (R45, R46). -/
def zeroCrossed (prev now : Int) : Bool := decide (now = 0) || decide (prev < 0 ∧ 0 < now) || decide (0 < prev ∧ now < 0)

def execInputGainZeroCrossing (ch : Fin 16) (s : State) : Host.Outcome State Fault Refusal :=
  let a := tabGet (fun _ => ({} : AdcCh)) s.conv.adc ch.val
  .next (s.modIn ch.val fun c => match c.wait with
    | some w => if zeroCrossed a.cicPrev a.cicNow then c.setGain s ch.val w.aStep w.trim else c
    | none => c)

/-- INPUT_GAIN_ZC_TIMEOUT: the step is made at the end of the timeout (R45). -/
def execInputGainZcTimeout (ch : Fin 16) (s : State) : Host.Outcome State Fault Refusal :=
  .next (s.modIn ch.val fun c => match c.wait with
    | some w => if w.deadline ≤ s.clock.now then c.setGain s ch.val w.aStep w.trim else c
    | none => c)

/-- INPUT_MUTE_CURVE_END (R44): the gain settles; a gain change that waits is made at zero gain (R45); a mode sequence goes on
from step 1, or ends with step 7 (R47). A jack removal in step 7 turns its curve back; SEQ_RUNNING then stays 1 until the later unmute
ends (DESIGN CHOICE, log entry 56). -/
def execInputMuteCurveEnd (ch : Fin 16) (s : State) : Host.Outcome State Fault Refusal :=
  .next (s.modIn ch.val fun c =>
    if c.mute.over s.samp then
      let c := { c with mute := c.mute.settle }
      if c.mute.atZero then
        let c := match c.wait with | some w => c.setGain s ch.val w.aStep w.trim | none => c
        if c.seqStep = 1 then c.advance s ch.val else c
      else if c.seqStep = 7 then { c with seqStep := 0 } else c
    else c)

/-- ANALOG_SETTLE_END: step 4 of R47 ends. -/
def execAnalogSettleEnd (ch : Fin 16) (s : State) : Host.Outcome State Fault Refusal :=
  .next (s.modIn ch.val fun c => if c.seqStep = 4 ∧ c.settleEnd ≤ s.clock.now then c.advance s ch.val else c)

/-- The state of the phantom bit of an input after the frame that begins now (R51-R54): a disable clears it at zero gain, and
`pick` is the one input enabled in this frame; RAMP and DISCHARGE run from the latch, one tick on. -/
def InputCh.framed (c : InputCh) (s : State) (n : Nat) (pick : Option Nat) : InputCh :=
  if c.phClear ∧ c.mute.atZero then
    { c with
      phBit := false
      phClear := false
      phantom := .discharging
      phEnd := s.clock.now + 1 + 960 * field (s.dir 0x0348) 24 8 }
  else if pick = some n then
    { c with phBit := true, phantom := .ramping, phEnd := s.clock.now + 1 + 960 * field (s.dir 0x0348) 8 8 }
  else c

/-- The input that the frame beginning now may enable: the lowest queued one at zero gain, once STAGGER has passed since the
latch of the previous enable (R53). A lower one that still mutes does not hold it back (DESIGN CHOICE, log entry 56). -/
def State.phantomPick (s : State) : Option Nat :=
  let free := match s.inp.phantom.lastEnable with
    | some t => decide (t + 960 * field (s.dir 0x0348) 16 8 ≤ s.clock.now + 1)
    | none => true
  if free then (List.range 16).find? fun n => decide ((s.inCh n).phantom = .queued) && (s.inCh n).mute.atZero else none

/-- The inputs as the frame beginning now leaves them. -/
def State.framedInputs (s : State) : Tab InputCh :=
  (List.range 16).foldl (fun t n => tabMod (fun _ => {}) t n (fun c => c.framed s n s.phantomPick)) s.inp.ch

/-- The 16 bits of a frame, bit n for AINn, POLARITY applied (R51). -/
def State.frameBits (s : State) (t : Tab InputCh) : BitVec 16 :=
  let v := (List.range 16).foldl (fun a n => a + (if (tabGet (fun _ => {}) t n).phBit then 2 ^ n else 0)) 0
  if (s.dir 0x0348).testBit 0 then ~~~ BitVec.ofNat 16 v else BitVec.ofNat 16 v

/-- A change is ready for a frame (R52). -/
def State.phantomDue (s : State) : Bool :=
  s.phantomPick.isSome || (List.range 16).any (fun n => (s.inCh n).phClear && (s.inCh n).mute.atZero)

/-- The phantom pins during the sprint sample in progress (R51): PHS_CK has 16 periods of 8 sprint samples in the tick of a frame, low
and then high in each; PHS_D carries the bit for AIN15 in the first of them and that for AIN0 in the last; PHS_LE is high for one
period from the latch on. -/
def State.phsCk (s : State) : Bool :=
  s.inp.phantom.sending.isSome && decide (4 ≤ s.clock.phase % 8 ∧ s.clock.phase < 128)
def State.phsD (s : State) : Bool :=
  match s.inp.phantom.sending with | some w => decide (s.clock.phase < 128) && w.toNat.testBit (15 - s.clock.phase / 8) | none => false
def State.phsLe (s : State) : Bool := decide (s.inp.phantom.latchAt = some s.clock.now ∧ s.clock.phase < 8)

/-- What the phantom port does at the boundary that begins tick `now` (R51, R52): the frame that shifted is latched, and an all-off
frame that awaits its start begins. -/
def PhantomPort.boundary (p : PhantomPort) (now : Nat) (off : BitVec 16) : PhantomPort :=
  let p := match p.sending with | some w => { p with latched := w, latchAt := some now, sending := none } | none => p
  if p.allOff then { p with sending := some off, frameAt := some now, allOff := false } else p

/-- The bits of the all-off frame (R51, R52). -/
def State.offBits (s : State) : BitVec 16 := if (s.dir 0x0348).testBit 0 then 0xFFFF else 0

/-- PHANTOM_FRAME (R51, R52, R326): sent at a tick boundary when the state changes and every 960 ticks while the root runs, but in Rest and
Watch, where an exit has not ended; a second frame waits for the latch of the first. During the sequence of R333 the repeats carry the
all-off state. The 960 ticks of the repeat run from the latest frame of any kind (DESIGN CHOICE, log entry 56). -/
def execPhantomFrame (s : State) : Host.Outcome State Fault Refusal :=
  let repeats := match s.inp.phantom.frameAt with | some t => decide (t + 960 ≤ s.clock.now) | none => true
  let free := s.inp.phantom.sending.isNone && decide (s.clock.phase = 0)
  let go := !s.asleep && !s.power.inReset && s.clock.rootRunning && free && (s.phantomDue || repeats)
  .next { s with inp := { s.inp with
    ch := if go then s.framedInputs else s.inp.ch
    phantom := if go then
      { s.inp.phantom with
        sending := some (s.frameBits s.framedInputs)
        frameAt := some s.clock.now
        lastEnable := if s.phantomPick.isSome then some (s.clock.now + 1) else s.inp.phantom.lastEnable }
      else s.inp.phantom } }

/-- PHANTOM_RAMP_END (R53): the feed is on; the sequence goes on or the input unmutes. -/
def execPhantomRampEnd (ch : Fin 16) (s : State) : Host.Outcome State Fault Refusal :=
  .next (s.modIn ch.val fun c =>
    if c.phantom = .ramping ∧ c.phEnd ≤ s.clock.now then
      let c := { c with phantom := .on }
      if c.phClear then c
      else if c.seqStep = 6 then c.advance s ch.val
      else { c with causePhantom := false }.unmuteFor s 192
    else c)

/-- PHANTOM_DISCHARGE_END (R54): the input requeues, goes on with its mode sequence, or unmutes. -/
def execPhantomDischargeEnd (ch : Fin 16) (s : State) : Host.Outcome State Fault Refusal :=
  .next (s.modIn ch.val fun c =>
    if c.phantom = .discharging ∧ c.phEnd ≤ s.clock.now then
      if c.phRequeue then { c with phantom := .queued, phRequeue := false }
      else if c.seqStep = 2 then { c with phantom := .off }.advance s ch.val
      else if c.seqStep = 6 then { c with phantom := .off }
      else { c with phantom := .off, causePhantom := false }.unmuteFor s 192
    else c)

/-- A level change restarts the debounce of an enabled pin (R56). -/
def JackPin.change (p : JackPin) (level enabled : Bool) (now debounce : Nat) : JackPin :=
  { p with level := level, debounceEnd := if enabled then some (now + ms debounce) else none }

/-- INPUT_JACK_PIN_CHANGE (R56), in BOOT, RECOVERY, Idle and Run. -/
def execInputJackPinChange (pin : Fin 8) (level : Bool) (s : State) : Host.Outcome State Fault Refusal :=
  let cfg := s.dir (0x0340 + pin.val)
  .next { s with inp := { s.inp with
    pins := tabMod (fun _ => {}) s.inp.pins pin.val fun p =>
      if p.level = level then p
      else if s.asleep then { p with level := level }
      else p.change level (cfg.testBit 4) s.clock.now (field cfg 8 8) } }

/-- The end of a debounce gives the jack state (R56): the first one silently; the settle after an insertion begins (R57). -/
def JackPin.debounced (p : JackPin) (insertLevel : Bool) (now settle : Nat) : JackPin :=
  let plug := decide (p.level = insertLevel)
  { p with
    debounceEnd := none
    first := false
    plugged := plug
    settleEnd := if plug && !p.plugged && decide (settle ≠ 0) then some (now + ms settle) else if plug then p.settleEnd else none }

/-- Bring every input's jack cause up to date with the pins. -/
def State.jackInputs (s : State) (pins : Tab JackPin) (ch : Tab InputCh) : Tab InputCh :=
  (List.range 16).foldl (fun t n => tabMod (fun _ => {}) t n (fun c => c.jackUpdate s pins n)) ch

/-- The pins as the end of a debounce on pin j leaves them. -/
def State.pinsDebounced (s : State) (j : Nat) : Tab JackPin :=
  let cfg := s.dir (0x0340 + j)
  tabMod (fun _ => {}) s.inp.pins j fun p => p.debounced (cfg.testBit 5) s.clock.now (field cfg 16 8)

/-- A debounce on input pin j is due to end. -/
def State.inDebounceDue (s : State) (j : Nat) : Bool :=
  (s.dir (0x0340 + j)).testBit 4 && (match (s.inPin j).debounceEnd with | some t => decide (t ≤ s.clock.now) | none => false)

/-- INPUT_JACK_DEBOUNCE_END (R56, R57): a change of state sets ATTN_CAUSE bit 7 and is counted. -/
def execInputJackDebounceEnd (pin : Fin 8) (s : State) : Host.Outcome State Fault Refusal :=
  let due := s.inDebounceDue pin.val
  let p := s.inPin pin.val
  let plug := decide (p.level = (s.dir (0x0340 + pin.val)).testBit 5)
  let change := due && !p.first && decide (plug ≠ p.plugged)
  .next { s with
    inp := if due then { s.inp with pins := s.pinsDebounced pin.val, ch := s.jackInputs (s.pinsDebounced pin.val) s.inp.ch } else s.inp
    bus := if change then s.bus.raise s.inbandMask 7 else s.bus
    log := if change then s.log.add ((if plug then 0x94 else 0xC4) + 4 * (pin.val + 4)) 1 else s.log }

/-- INSERT_SETTLE_END (R57). -/
def execInsertSettleEnd (pin : Fin 8) (s : State) : Host.Outcome State Fault Refusal :=
  let due := match (s.inPin pin.val).settleEnd with | some t => decide (t ≤ s.clock.now) | none => false
  let pins := tabMod (fun _ => {}) s.inp.pins pin.val fun p => { p with settleEnd := none }
  .next { s with inp := if due then { s.inp with pins := pins, ch := s.jackInputs pins s.inp.ch } else s.inp }

/-- A write of JS_CFG j (R56): enabling a pin starts its first debounce, and until it ends the pin reads unplugged. A write that leaves
the pin enabled, another level or input included, keeps its jack state and starts no debounce (DESIGN CHOICE, log entry 56). -/
def State.jsCfgWritten (s : State) (j old : Nat) : State :=
  let cfg := s.dir (0x0340 + j)
  let pins := tabMod (fun _ => {}) s.inp.pins j fun p =>
    if cfg.testBit 4 && !old.testBit 4 then
      { p with first := true, plugged := false, settleEnd := none, debounceEnd := some (s.clock.now + ms (field cfg 8 8)) }
    else if cfg.testBit 4 then p
    else { p with first := true, plugged := false, settleEnd := none, debounceEnd := none }
  { s with inp := { s.inp with pins := pins, ch := s.jackInputs pins s.inp.ch } }

/-- The inputs at a bank swap or ARM tick: `old` is the bank that was active. -/
def State.inputsSwapped (s : State) (old : Tab PVal) : State :=
  { s with inp := { s.inp with
    ch := (List.range 24).foldl (fun t n => tabMod (fun _ => {}) t n
      (fun c => c.swapped s n (pGet old (0x0300 + n)) (pGet old (0x0318 + n)) (if n < 16 then pGet old (0x0330 + n) else 0))) s.inp.ch } }

/-- The input status word of R59. -/
def State.inputWord (s : State) (n : Nat) : Nat :=
  let c := s.inCh n
  let ph := if 16 ≤ n then 0 else if c.mode ≠ 1 then 5
    else match c.phantom with | .off => 0 | .queued => 1 | .ramping => 2 | .on => 3 | .discharging => 4
  let overNow := match c.overAt with | some t => decide (s.clock.now ≤ t + 960) | none => false
  c.mode + 4 * b2n (c.causeMode || c.causePhantom || (c.mute.rising && c.seqUnmute)) + 8 * b2n c.causeJack + 16 * b2n (s.inPlugged n) + 32 * ph +
    256 * c.aStep + 8192 * c.trim + 65536 * b2n overNow + 131072 * b2n c.overSticky + 262144 * b2n (decide (c.seqStep ≠ 0))

/-- STICKY_CLEAR of the input group (R59). -/
def State.clearInputs (s : State) : State :=
  { s with inp := { s.inp with
    ch := (List.range 24).foldl (fun t n => tabMod (fun _ => {}) t n (fun c => { c with overSticky := false })) s.inp.ch } }

end Sys2Proof.Machine
end

