-- ==== Sys2Proof/Machine/Levels.lean ====
section
/-! DEFINITION. Levels in dB: the exact floor in units of 0.01 dB of a ratio's level, found by powers of whole numbers. -/
namespace Sys2Proof.Machine

/-- The largest c below 2^k·2 - 1, built from bit k - 1 down, for which `ok` holds (it must hold of 0 and be downward closed). -/
def searchDown (ok : Nat → Bool) : Nat → Nat → Nat
  | 0, c => c
  | k + 1, c => searchDown ok k (if ok (c + 2 ^ k) then c + 2 ^ k else c)

/-- A GAIN code as an unsigned Q4.28 factor, 10^(g / 2,000) rounded to nearest (R172). -/
def gainQ28 (g : Int) : Nat :=
  if g ≤ -12000 then 0
  else searchDown (fun q => if 0 ≤ g then decide ((2 * q - 1) ^ 2000 ≤ 2 ^ 58000 * 10 ^ g.toNat)
                            else decide ((2 * q - 1) ^ 2000 * 10 ^ (-g).toNat ≤ 2 ^ 58000)) 33 0

/-- How far a/b lies below 1, in 1/m of a decade, floored: the largest c with 10^c·a^m ≤ b^m. -/
def decadesBelow (m a b : Nat) : Nat := searchDown (fun c => decide (10 ^ c * a ^ m ≤ b ^ m)) 16 0

/-- A level code in 0.01 dB below full scale of an amplitude a of full scale b (R79): 0 at or above full scale, 0xFFFF at or
below −655.35 dB; between two codes the rounding is free. `n` indexes the free rounding. -/
def levelCode (n a b : Nat) : Nat :=
  if a = 0 then 0xFFFF else if b ≤ a then 0
  else
    let c := decadesBelow 2000 a b
    min 0xFFFF (if 10 ^ c * a ^ 2000 = b ^ 2000 then c else if Config.roundUp n then c + 1 else c)

/-- The same for a power a of full-scale power b. -/
def powerCode (n a b : Nat) : Nat :=
  if a = 0 then 0xFFFF else if b ≤ a then 0
  else
    let c := decadesBelow 1000 a b
    min 0xFFFF (if 10 ^ c * a ^ 1000 = b ^ 1000 then c else if Config.roundUp n then c + 1 else c)

end Sys2Proof.Machine
end

