-- ==== Sys2Proof/Machine/Convert.lean ====
section
/-! DEFINITION. Conversion and the filter chain (chapter 3): modulators, CIC filters, detectors, quick-settle and PDM. -/
namespace Sys2Proof.Machine

def State.adcCh (s : State) (n : Nat) : AdcCh := tabGet (fun _ => {}) s.conv.adc n
def State.dacCh (s : State) (o : Nat) : DacCh := tabGet (fun _ => {}) s.conv.dac o
def State.pdmCh (s : State) (k : Nat) : PdmCh := tabGet (fun _ => {}) s.conv.pdm k

/-- Update one ADC channel. -/
def State.modAdc (s : State) (n : Nat) (f : AdcCh → AdcCh) : State :=
  { s with conv := { s.conv with adc := tabMod (fun _ => {}) s.conv.adc n f } }

/-- One step of a cascade of n integrators of w bits (R63, R64): the new registers, the last of which is the output. -/
def integrate (w : Nat) : Nat → List Int → Int → List Int
  | 0, _, _ => []
  | n + 1, regs, x =>
    let y := wrap w (regs.headD 0 + x)
    y :: integrate w n (regs.drop 1) y

/-- One step of a cascade of n combs of w bits: the new registers and the output. -/
def combStep (w : Nat) : Nat → List Int → Int → List Int × Int
  | 0, _, x => ([], x)
  | n + 1, regs, x =>
    let y := wrap w (x - regs.headD 0)
    let r := combStep w n (regs.drop 1) y
    (x :: r.1, r.2)

/-- One input of a decimator of order n by r with registers of w bits: the registers, and the output every r inputs. -/
def Cic.decimate (c : Cic) (n r w : Nat) (x : Int) : Cic × Option Int :=
  let i := integrate w n c.integ x
  if c.count + 1 < r then ({ c with integ := i, count := c.count + 1 }, none)
  else
    let k := combStep w n c.comb (i.getLastD 0)
    ({ integ := i, comb := k.1, count := 0 }, some k.2)

/-- A list of inputs of a decimator: the registers and the outputs, oldest first. -/
def Cic.decimateAll (n r w : Nat) : Cic → List Int → Cic × List Int
  | c, [] => (c, [])
  | c, x :: xs =>
    let a := c.decimate n r w x
    let b := Cic.decimateAll n r w a.1 xs
    (b.1, a.2.toList ++ b.2)

/-- One output of an interpolator of order n by 4 with a 32-bit input (R74): combs at the input rate when an input comes,
zeros between, integrators at the output rate, and the exact shift of the gain 4^(n−1). -/
def Cic.interpolate (c : Cic) (n : Nat) (x : Option Int) : Cic × Int :=
  let w := 32 + 2 * (n - 1)
  let k := match x with | some v => combStep w n c.comb v | none => (c.comb, 0)
  let i := integrate w n c.integ k.2
  ({ integ := i, comb := k.1, count := 0 }, i.getLastD 0 / 4 ^ (n - 1))

/-- Order of the core CIC of an input and of the first CIC of an output (R63, R73). -/
def State.inOrder (s : State) (n : Nat) : Nat := s.dir (0x0400 + n)
def State.outOrder (s : State) (o : Nat) : Nat := s.dir (0x0430 + o)

/-- Scale a CIC value of order n by r to a sample: 2^31 / (6.0·r^n), with trim and mute gain at the trim multiplier (R42,
R44, R63). -/
def scaleIn (free n r trim mute : Nat) (x : Int) : Int := looseQuot free (x * 2 ^ 31 * trim * mute) (6 * r ^ n * unity * unity)

/-- The sums of the last OVL_WINDOW quantiser outputs that end at each of the latest four, newest first, and the first of them that
exceeds the limit (R61). -/
def ovlSums (cfg : Nat) (w : List Int) : List Int := (List.range 4).map fun i => ((w.drop i).take (field cfg 0 4)).foldl (· + ·) 0
def ovlSum (cfg : Nat) (w : List Int) : Option Int := (ovlSums cfg w).find? fun x => decide (field cfg 4 8 * field cfg 0 4 < 16 * x.natAbs)
def overloaded (cfg : Nat) (w : List Int) : Bool := (ovlSum cfg w).isSome

/-- Full scale with the sign of the overload (R49), past the trim multiplier's mute point at a gain in units of 2^-32 (R44). -/
def fullScale (negative : Bool) (mute : Nat) : Int := (if negative then -(2 ^ 31) else 2 ^ 31 - 1) * mute / unity

/-- The overload of a modulator is negative (R49): by the sum that exceeds the limit, else by the latest sum. -/
def ovlNegative (cfg : Nat) (w : List Int) : Bool := decide ((ovlSum cfg w).getD ((ovlSums cfg w).headD 0) < 0)

/-- Taps of D1 to D5 (R65). -/
def firTaps : List Nat := [65, 23, 19, 27, 57]

/-- One input of a decimation chain by halves (R65): k is its place among the inputs of the stage in the tick, from 0; the stage makes an
output at every second one. `stage` counts from 1; the histories, and the output of the last stage when one falls due. -/
def firRun (linear : Bool) (droop : Nat) : Nat → List Nat → List (List Int) → Nat → Int → List (List Int) × Option Int
  | _, [], _, _, x => ([], some x)
  | i, t :: ts, hs, k, x =>
    let h := (x :: hs.headD []).take t
    if k % 2 = 0 then (h :: hs.drop 1, none)
    else
      let r := firRun linear droop (i + 1) ts (hs.drop 1) (k / 2) (fir h (Config.stage linear i droop h))
      (h :: r.1, r.2)

/-- Inputs that I4 to I1 span (R73): the taps of the stages of R65 in reverse, half of them for each of the two outputs. -/
def upTaps : List Nat := [14, 10, 12, 33]

/-- Output j of 32 in a tick of an interpolation chain (R73): stage `i` from 0 (I5) with the inputs it spans makes its output when j is a
multiple of 2^(4−i), and gives it to the next stage; the histories of the stages after, and the output of I1. -/
def upRun (linear : Bool) (order j : Nat) : Nat → List Int → List Nat → List (List Int) → List (List Int) × Int
  | i, h, [], _ => ([], fir h (Config.upStage linear i order (j % 2) h))
  | i, h, t :: ts, hs =>
    let due := decide (j % 2 ^ (4 - i) = 0)
    let next := if due then (fir h (Config.upStage linear i order (j / 2 ^ (4 - i) % 2) h) :: hs.headD []).take t else hs.headD []
    let r := upRun linear order j (i + 1) next ts (hs.drop 1)
    (next :: r.1, r.2)

/-- AIN n is in quick-settle mode (R82). -/
def State.quickMode (s : State) (n : Nat) : Bool := decide (16 ≤ n ∧ n < 24) && (s.dir 0x0480).testBit (n - 16)

/-- One sprint sample of an ADC channel: its four quantiser levels (R60) run through both CIC branches (R63), the core one with the
trim multiplier and the FIR chain (R65) unless a quick-settle filter stands in their place (R82). A bridge word that fails its parity
is replaced by the word before (R14). -/
def AdcCh.step (a : AdcCh) (s : State) (n : Nat) (sprintOrder : Nat) (levels : List Int) : AdcCh :=
  let lv := (List.range 4).map (fun i => max (-8) (min 8 (levels.getD i 0)))
  let c := s.inCh n
  let g := c.mute.value s.samp
  let no := s.inOrder n
  let core := if s.quickMode n then (a.core, []) else Cic.decimateAll no 16 (5 + 4 * no) a.core lv
  let spr := Cic.decimateAll sprintOrder 4 (5 + 2 * sprintOrder) a.sprint lv
  let w := scaleIn s.free sprintOrder 4 (trimOf c.trim) g (spr.2.headD 0)
  let chain := match core.2 with
    | x :: _ =>
      let y := if s.conv.failing.contains (n, true) then (a.chain.headD []).headD 0 else scaleIn s.free no 16 (trimOf c.trim) g x
      firRun (decide (s.act (0x0418 + n) = 1)) no 1 firTaps a.chain (s.clock.phase / 4) y
    | [] => (a.chain, none)
  { a with
    window := (lv.reverse ++ a.window).take 18
    core := core.1
    sprint := spr.1
    cicNow := core.2.headD a.cicNow
    cicPrev := if core.2.isEmpty then a.cicPrev else a.cicNow
    chain := chain.1
    chainOut := chain.2.getD a.chainOut
    sprintWord := if s.conv.failing.contains (n, false) then a.sprintWord else if a.inReset then fullScale a.overNeg g else sat32 w
    sprintSat := a.inReset || saturates 32 w }

/-- Length L of the sinc³ filter, and the modulator samples of a conversion (R80). -/
def qsL : Nat := 10880
def qsSamples : Nat := 32768

/-- One modulator sample of a quick-settle filter: the first 130 are discarded; the registers wrap at 46 bits (R63, R80). -/
def QuickSettle.feed (q : QuickSettle) (x : Int) : QuickSettle :=
  if q.count < 130 then { q with count := q.count + 1 }
  else
    let i1 := wrap 46 (q.i1 + x)
    let i2 := wrap 46 (q.i2 + i1)
    let i3 := wrap 46 (q.i3 + i2)
    let k := q.count + 1 - 130
    { q with
      count := q.count + 1
      i1 := i1
      i2 := i2
      i3 := i3
      at1 := if k = qsL - 2 then i3 else q.at1
      at2 := if k = 2 * qsL - 2 then i3 else q.at2 }

/-- The value of a completed conversion: the third difference over L of the third integrator (R80). -/
def QuickSettle.value (q : QuickSettle) : Int := wrap 46 (q.i3 - 3 * q.at2 + 3 * q.at1)

/-- A tick boundary where TICK is a multiple of 64 (R80): a completed conversion is kept, and the next one starts. -/
def QuickSettle.restart (q : QuickSettle) (free : Nat) (inReset : Bool) : QuickSettle :=
  let done := decide (q.count = qsSamples) && !q.spoiled
  { q with
    count := 0
    i1 := 0
    i2 := 0
    i3 := 0
    at1 := 0
    at2 := 0
    result := if done then word (sat32 (looseQuot free (q.value * 2 ^ 31) (6 * qsL ^ 3))) else q.result
    resultClip := if done then q.clip || saturates 32 (looseQuot free (q.value * 2 ^ 31) (6 * qsL ^ 3)) else q.resultClip
    clip := inReset
    fresh := done
    spoiled := false }

/-- QUICK_SETTLE_CONVERSION_END (R80, R82): the completed conversion is presented from the next tick. -/
def execQuickSettleConversionEnd (ch : Fin 24) (s : State) : Host.Outcome State Fault Refusal :=
  .next (s.modAdc ch.val fun a =>
    if a.quick.fresh && s.quickMode ch.val then { a with quick := { a.quick with held := a.quick.result, heldClip := a.quick.resultClip, valid := true, fresh := false } }
    else a)

/-- A disturbance of a channel spoils the conversion in progress (R82). -/
def AdcCh.spoil (a : AdcCh) : AdcCh := { a with quick := { a.quick with spoiled := true, valid := false, fresh := false } }

/-- A flagged modulator sample of an input (R49): the status bits. -/
def InputCh.overload (c : InputCh) (now : Nat) : InputCh := { c with overAt := some now, overSticky := true }

/-- The latest flagged modulator sample lies in the window of the sample captured at this boundary (R70), at the settle count in force. -/
def InputCh.clips (c : InputCh) (now settle : Nat) : Bool :=
  match c.overAt with | some t => decide (t < now ∧ now ≤ t + settle) | none => false

/-- The conversion in progress of a quick-settle filter holds a flagged modulator sample (R49). -/
def AdcCh.flagClip (a : AdcCh) : AdcCh := { a with quick := { a.quick with clip := true } }

/-- MODULATOR_OVERLOAD (R49, R61): `limit` says that the modulator is at its integrator limit, and resets itself; a sample taken in the
reset is flagged too. -/
def execModulatorOverload (ch : Fin 24) (limit : Bool) (s : State) : Host.Outcome State Fault Refusal :=
  let a0 := s.adcCh ch.val
  let hit := limit || a0.inReset || overloaded (s.dir 0x0481) a0.window
  let neg := if a0.inReset then a0.overNeg else ovlNegative (s.dir 0x0481) a0.window
  .next { s with
    inp := { s.inp with ch := tabMod (fun _ => {}) s.inp.ch ch.val fun c => if hit then c.overload s.clock.now else c }
    conv := { s.conv with adc := tabMod (fun _ => {}) s.conv.adc ch.val fun a =>
      if hit then { a.flagClip with inReset := a.inReset || limit, overNeg := neg, sprintWord := fullScale neg ((s.inCh ch.val).mute.value s.samp) }
      else a } }

/-- MODULATOR_RESET_END (R49, R61): the chain is marked for its settle count from the end of the reset, and CLIPPED over the window of its
last flagged sample. -/
def execModulatorResetEnd (ch : Fin 24) (s : State) : Host.Outcome State Fault Refusal :=
  let hit := (s.adcCh ch.val).inReset
  .next { s with
    inp := { s.inp with ch := tabMod (fun _ => {}) s.inp.ch ch.val fun c =>
      if hit then (c.overload s.clock.now).disturb s.clock.now (s.inSettle ch.val) else c }
    conv := { s.conv with adc := tabMod (fun _ => {}) s.conv.adc ch.val fun a => if hit then { a.flagClip with inReset := false }.spoil else a } }

/-- UNSETTLED_END (R47, R70): the marking has ended; a mode sequence in its step 5 goes on. -/
def execUnsettledEnd (ch : Fin 24) (s : State) : Host.Outcome State Fault Refusal :=
  .next (s.modIn ch.val fun c =>
    if c.unsettledTo < s.clock.now then
      let c := { c with unsettledTo := 0 }
      if c.seqStep = 5 then c.advance s ch.val else c
    else c)

/-- The coefficients α, a and r of R77, unsigned 32-bit fractions rounded to nearest, by code (R78). -/
def rmsCoef (k : Nat) : Nat := [44507033, 14887220, 4471595, 1491049, 447369, 149128, 44739, 14913].getD k 0
def attackCoef (k : Nat) : Nat := [424879186, 146571440, 44507033, 14887220, 4471595, 1491049, 447369, 149128].getD k 0
def releaseCoef (k : Nat) : Nat := [14887220, 4471595, 1491049, 447369, 149128, 44739, 14913, 4474].getD k 0

/-- A one-pole state of 64 bits moves toward x by a 32-bit fraction (R77). -/
def toward (free coef x m : Nat) : Nat :=
  (max 0 (min (2 ^ 64 - 1) ((m : Int) + looseQuot free (coef * ((x : Int) - m)) (2 ^ 32)))).toNat

/-- The window W of the peak detector in samples (R78), and the longest there is. -/
def peakWindow (cfg : Nat) : Nat := 96 * 2 ^ field cfg 9 3
def peakMax : Nat := 96 * 2 ^ 7

/-- Keep the peaks that some window can still show at sample k: only magnitudes that no later one reaches (R77, R78). -/
def peakPush (k mag : Nat) (l : List (Nat × Nat)) : List (Nat × Nat) :=
  (k, mag) :: l.filter (fun p => decide (mag < p.2 ∧ k < p.1 + peakMax))

/-- The three detectors at Fc take one sample, with the configuration in force, unless it is SUBSTITUTED (R77, R78). -/
def AdcCh.detect (a : AdcCh) (s : State) (n : Nat) (w : StreamWord) : AdcCh :=
  let cfg := s.dir (0x0468 + n)
  let x := w.int.natAbs
  if w.substituted then { a with unsettledNow := w.unsettled }
  else { a with
    taken := a.taken + 1
    peakW := peakWindow cfg
    peaks := peakPush (a.taken + 1) x a.peaks
    m := toward s.free (rmsCoef (field cfg 0 3)) (4 * x * x) a.m
    e := if a.e < x * 2 ^ 33 then toward s.free (attackCoef (field cfg 3 3)) (x * 2 ^ 33) a.e
         else toward s.free (releaseCoef (field cfg 6 3)) (x * 2 ^ 33) a.e
    unsettledNow := w.unsettled }

/-- The peak p of R77: over the last W samples taken. -/
def AdcCh.peak (a : AdcCh) : Nat := (a.peaks.filter (fun p => decide (a.taken < p.1 + a.peakW))).foldl (fun m p => max m p.2) 0

/-- The two detector words of R79. -/
def State.detectorWords (s : State) (n : Nat) : List Nat :=
  let a := s.adcCh n
  [levelCode s.free a.peak (2 ^ 31) + 65536 * powerCode s.free (2 * a.m) (2 ^ 64),
   levelCode s.free a.e (2 ^ 64) + 65536 * b2n a.unsettledNow]

/-- The stream word of AIN n captured at a boundary (R16, R65, R70, R82), before the high-pass filters. -/
def State.captureIn (s : State) (n : Nat) : StreamWord :=
  let a := s.adcCh n
  let c := s.inCh n
  let sub := s.conv.substituted.contains n
  if s.quickMode n then { sample := a.quick.held, unsettled := !a.quick.valid, clipped := a.quick.heldClip, substituted := sub }
  else
    let y := a.chainOut
    { sample := word (sat32 y)
      unsettled := decide (s.clock.now ≤ c.unsettledTo ∧ c.unsettledTo ≠ 0)
      clipped := saturates 32 y || a.inReset || c.clips s.clock.now (s.inSettle n)
      substituted := sub }

/-- A quick-settle filter starts: until its first complete conversion the stream holds its previous value (R82). -/
def AdcCh.hold (a : AdcCh) : AdcCh := { a with quick := { ({} : QuickSettle) with held := a.sample } }

/-- A channel's chain starts from cleared CIC and FIR state (R72): its first sample and the settle count that follows are marked. The
quantiser outputs that the overload test sums stay (R61). -/
def State.startChain (s : State) (n : Nat) : State :=
  { s with
    conv := { s.conv with adc := tabMod (fun _ => {}) s.conv.adc n fun a =>
      { a.hold with core := { count := 4 * (s.clock.phase % 4) }, sprint := {}, cicNow := 0, cicPrev := 0, chain := [], chainOut := 0 } }
    inp := { s.inp with ch := tabMod (fun _ => {}) s.inp.ch n fun c => c.disturb (s.clock.now + 1) (s.inSettle n) } }

/-- An output channel's chain starts from cleared state (R72). -/
def State.startOutChain (s : State) (o : Nat) : State :=
  { s with conv := { s.conv with dac := tabMod (fun _ => {}) s.conv.dac o fun d => { d with feed := [], up := [], first := {}, last := {} } } }

/-- Every chain starts from cleared state: entry to Idle from Rest or Watch, and the first lock (R72). -/
def State.startChains (s : State) : State :=
  (List.range 28).foldl (fun s o => s.startOutChain o) ((List.range 24).foldl (fun s n => s.startChain n) s)

/-- A change of CV_IN_PHASE at a swap marks the stream for the settle count of the new set, with the histories kept (R71); it disturbs
a quick-settle conversion too (R69, R82). -/
def State.phasesSwapped (s : State) (old : Tab PVal) : State :=
  let changed := (List.range 24).filter fun n => decide (s.act (0x0418 + n) ≠ pGet old (0x0418 + n))
  { s with
    inp := { s.inp with ch := changed.foldl (fun t n =>
      tabMod (fun _ => {}) t n (fun c => c.disturb (s.clock.now - 1) (s.inSettle n))) s.inp.ch }
    conv := { s.conv with adc := changed.foldl (fun t n => tabMod (fun _ => ({} : AdcCh)) t n AdcCh.spoil) s.conv.adc } }

/-- The tick count of the next boundary at which a conversion can start (R80): the next one with TICK at a multiple of 64. -/
def State.nextConv (s : State) : Nat := s.clock.now + (64 - s.tickNat % 64)

/-- The scan converts its next channel, from tick count `start` (R81). -/
def Conv.scanNext (v : Conv) (start : Nat) : Conv :=
  { v with current := some v.scan, startAt := start, scan := if v.scan < 13 then v.scan + 1 else 4, onAsk := false }

/-- A channel asked for is converted from tick count `start` (R81); MS0 to MS3 take turns. -/
def Conv.askNext (v : Conv) (k start : Nat) : Conv :=
  { v with current := some k, startAt := start, asked := v.asked.filter (fun a => decide (a ≠ k)) ++ [k], onAsk := decide (k < 4) }

/-- The scan starts where none runs and MEAS_ENABLE is 1 (R81). -/
def State.startMeas (s : State) : State :=
  { s with conv := if s.conv.current.isNone && (s.dir 0x0480).testBit 8 then s.conv.scanNext s.nextConv else s.conv }

/-- A write of CV_QS_CFG (R81, R82): a channel that enters quick-settle mode holds its value UNSETTLED until the first complete
conversion; the scan starts when MEAS_ENABLE sets. A channel that leaves the mode returns to its FIR chain at once, with what the chain
holds and no marking (DESIGN CHOICE, log entry 57). -/
def State.qsWritten (s : State) (old : Nat) : State :=
  let t := (List.range 8).foldl (fun t k =>
    if (s.dir 0x0480).testBit k && !old.testBit k then tabMod (fun _ => ({} : AdcCh)) t (16 + k) AdcCh.hold else t) s.conv.adc
  { s with conv := { s.conv with adc := t } }.startMeas

/-- Ask for conversions of a measurement channel (R81). Where no conversion is in progress it comes at the next start: at once where none is
booked, and before one of MS0 to MS3 that is booked and has not started, if it is a supply asked for on demand. -/
def State.askMeas (s : State) (k : Nat) : State :=
  let v := { s.conv with asked := if s.conv.asked.contains k then s.conv.asked else s.conv.asked ++ [k] }
  let waits := decide (4 ≤ k ∧ s.clock.now < s.conv.startAt) && (match s.conv.current with | some c => decide (c < 4) | none => false)
  { s with conv := if s.conv.current.isNone then v.askNext k s.nextConv else if waits then v.askNext k s.conv.startAt else v }

/-- The measurement word of a channel, whether it reads STALE, and its status word (R81): two scan periods are 1,280 ticks. -/
def State.meas (s : State) (k : Nat) : MeasWord := tabGet (fun _ => {}) s.conv.meas k
def State.measStale (s : State) (k : Nat) : Bool := !(s.meas k).valid || decide ((s.meas k).at_ + 1280 < s.clock.now)
def State.measStatus (s : State) (k : Nat) : Nat :=
  ((s.meas k).value % 2 ^ 24).toNat + 2 ^ 30 * b2n (s.measStale k) + 2 ^ 31 * b2n (s.meas k).valid

/-- The conversion after one that ended at tick count `now` (R80, R81): a supply asked for on demand comes next; MS0 to MS3 take every
second conversion in turn, the scan the others, or nothing where it is off. -/
def Conv.next (v : Conv) (enabled : Bool) (now : Nat) : Conv :=
  match v.asked.find? (fun k => decide (4 ≤ k)) with
  | some k => v.askNext k now
  | none => match v.asked with
    | k :: _ => if !v.onAsk then v.askNext k now else if enabled then v.scanNext now else v.askNext k (now + 64)
    | [] => if enabled then v.scanNext now else { v with current := none, onAsk := false }

/-- PDM channel k's clock: PDMCK0 for channels 0-3, PDMCK1 for 4-7 (R343). -/
def State.pdmClock (s : State) (k : Nat) : PdmClk := if k < 4 then s.wake.clk0 else s.wake.clk1
def State.pdmSettling (s : State) (k : Nat) : Bool := if k < 4 then s.wake.settle0.isSome else s.wake.settle1.isSome

/-- One bit of a PDM channel at 3.072 MHz (R83): order 4, by 32, 22 bits. -/
def PdmCh.step (p : PdmCh) (b : Bool) : PdmCh :=
  let r := p.cic.decimate 4 32 22 (if b then 1 else -1)
  { p with cic := r.1, taps := match r.2 with | some v => (v * 2 ^ 11 :: p.taps).take 9 | none => p.taps }

/-- Fields of WK_CFG, WK_DET and WK_PDM (R357). -/
def State.wkEnable (s : State) : Bool := (s.dir 0x1800).testBit 0
def State.wkSource (s : State) : Nat := field (s.dir 0x1800) 1 4
def State.wakeOnOnset (s : State) : Bool := (s.dir 0x1801).testBit 0
def State.fullPdm (s : State) (c : Nat) : Bool := (s.dir 0x1802).testBit c
def State.clkSettle (s : State) : Nat := ms (field (s.dir 0x1802) 8 8)

/-- The listening source is a PDM channel of clock c. -/
def State.listensOn (s : State) (c : Nat) : Bool := s.wake.listening && decide (s.wkSource < 8 ∧ s.wkSource / 4 = c)

/-- The rate and source that PDM clock c is to have (R344, R345): LOSC while the root is stopped in Watch, the root clock again once it runs. -/
def State.pdmWant (s : State) (c : Nat) : PdmClk :=
  match s.power.mode with
  | .run => if s.fullPdm c then .fast else if s.listensOn c then .slow else .stopped
  | .idle => if s.fullPdm c || s.listensOn c then .slow else .stopped
  | .watch => if s.listensOn c then (if s.clock.rootRunning then .slow else .losc) else .stopped
  | _ => .stopped

/-- Rate of a PDM clock in units of 768 kHz (R344). -/
def PdmClk.rate : PdmClk → Nat
  | .stopped => 0
  | .slow => 1
  | .losc => 1
  | .fast => 4

def Wake.clk (w : Wake) (c : Nat) : PdmClk := if c = 0 then w.clk0 else w.clk1
def Wake.settle (w : Wake) (c : Nat) : Option Nat := if c = 0 then w.settle0 else w.settle1

/-- The stream word of PDM channel k at a boundary (R83, R84): 0 marked UNSETTLED also while a change from 3.072 MHz waits (R345). -/
def State.capturePdm (s : State) (k : Nat) : StreamWord :=
  if s.pdmClock k = .fast ∧ s.pdmWant (k / 4) = .fast ∧ ¬ s.pdmSettling k then
    let y := fir (s.pdmCh k).taps (Config.pdmDroop (s.pdmCh k).taps)
    { sample := word (sat32 y), clipped := saturates 32 y, unsettled := decide (s.clock.now ≤ (s.pdmCh k).unsettledTo) }
  else { sample := 0, unsettled := true }

/-- One quantiser level of a DAC modulator (R60, R62): a word of 2^31 stands for 6.0 levels. The level differs from the nearest one to
the word with the error so far by a free step, and the error carries on, so that the mean of the levels is the word's (log entry 58). -/
def dacLevel (n : Nat) (err word : Int) : Int × Int :=
  let t := 6 * word + err
  let v := max (-8) (min 8 ((t + 2 ^ 30) / 2 ^ 31 + (Config.dacStep n % 3 : Nat) - 1))
  (v, t - v * 2 ^ 31)

/-- The levels of the words of a sprint sample, and the error after them. -/
def dacLevels : Nat → Int → List Int → List Int × Int
  | _, err, [] => ([], err)
  | n, err, w :: ws =>
    let a := dacLevel n err w
    let r := dacLevels (n + 1) a.2 ws
    (a.1 :: r.1, r.2)

/-- The final interpolator's order at sprint sample k (R103): the switches due by then are made, each from the steady state of the current
input. -/
def DacCh.switch (d : DacCh) (steady : Nat → Int → Cic) (k : Nat) : DacCh :=
  (d.switches.filter (fun p => decide (p.1 ≤ k))).foldl
    (fun d p => if d.lastOrder = p.2 then d else { d with lastOrder := p.2, last := steady p.2 d.lastIn })
    { d with switches := d.switches.filter (fun p => decide (k < p.1)) }

/-- Registers of an interpolator of order n in the steady state of an input x (R103). -/
def Cic.steady (n : Nat) (x : Int) : Cic :=
  { comb := x :: List.replicate (n - 1) 0, integ := List.replicate (n - 1) 0 ++ [x * 4 ^ (n - 1)], count := 0 }

/-- PAIR01 and PAIR23 join a stage to the lower one of its pair (R208). -/
def State.lowerOf (s : State) (n : Nat) : Nat :=
  let cfg := s.dir 0x0530
  if (n = 1 ∧ cfg.testBit 0) ∨ (n = 3 ∧ cfg.testBit 1) then n - 1 else n

/-- The lag of the carrier of stage n in sprint samples (R207): 90° is 4 of the 16 in a PWM period. A joined pair runs in phase, with the
lower member's lag. STAGGER_OFF takes the lag of a pair away too (DESIGN CHOICE, log entry 59). -/
def State.carrierLag (s : State) (n : Nat) : Nat := if (s.dir 0x0530).testBit 2 then 0 else 4 * s.lowerOf n

/-- The PWM period in which the carrier of stage n stands at the sprint sample in progress, counted from tick count 0 (R207). -/
def State.pwmPeriod (s : State) (n : Nat) : Nat := (s.samp + 16 - s.carrierLag n) / 16

/-- A new PWM edge word comes into force where a period of the stage's carrier begins (R14, R207). -/
def DacCh.pwm (d : DacCh) (s : State) (o : Nat) : DacCh :=
  if 24 ≤ o ∧ (s.samp + 16 - s.carrierLag (o - 24)) % 16 = 0 then { d with edges := (s.dacCh (24 + s.lowerOf (o - 24))).word, edgesPrev := d.edges } else d

/-- Sprint samples in the 10 s of the DC servo (R196). -/
def servoSamples : Nat := 122880000

/-- 0.1 mV at a line output, in 2^-31 level: 2.8 Vrms stand for 6.0 levels (R60, R195). -/
def lineTrim : Int := 325392

/-- The offset of line output o in 2^-31 level: a constant without a body, after the calibration within 0.1 mV (R196). -/
def lineOffset (calibrated : Bool) (o : Nat) : Int :=
  if calibrated then max (-lineTrim) (min lineTrim (Config.lineOffset true o)) else Config.lineOffset false o

/-- The legs of line output o and its servo after a sprint sample with these levels (R195, R196), in 2^-32 level about the common mode. The
analog offset is a constant without a body, before and after the calibration (DESIGN CHOICE, log entry 63); the servo integrates the
differential output, and its correction is the integral over 10 s. A buffer that is not connected leaves both legs at the common mode. -/
def DacCh.lineStep (d : DacCh) (s : State) (o : Nat) : DacCh :=
  let c := tabGet (fun _ => ({} : OutCh)) s.out.ch o
  let cfg := s.dir (0x0520 + o)
  let corr := if cfg.testBit 1 then 0 else looseQuot (s.free + o) d.servo servoSamples
  let y := 2 ^ 29 * d.levels.foldl (· + ·) 0 + lineOffset c.calibrated o - corr
  if 16 ≤ o then d
  else if !c.driving then { d with legs := (0, 0) }
  else { d with servo := if cfg.testBit 1 then d.servo else d.servo + y, legs := (y, if cfg.testBit 0 then 0 else -y) }

/-- One sprint sample of a DAC channel: interpolation to the summing node, the sum of R19, the mute point of R192, the final
interpolator (R73) and the modulator (R60, R62); a speaker's foldback acts at the mute point (R211). `spr` is the sprint path's word. -/
def DacCh.step (d : DacCh) (s : State) (o : Nat) (spr : Int) : DacCh :=
  let no := s.outOrder o
  let d := (d.switch Cic.steady s.samp).pwm s o
  let core := decide (s.clock.phase % 4 = 0)
  let u := upRun (decide (s.act (0x044C + o) = 1)) no (s.clock.phase / 4) 0 d.feed upTaps d.up
  let x := if core then some (if s.conv.failing.contains (24 + o, true) then d.coreWord else sat32 u.2) else none
  let first := d.first.interpolate no x
  let spr := if s.conv.failing.contains (24 + o, false) then d.sprintWord else spr
  let sum := spr + first.2
  let m := if s.jtag.drives then 0 else (tabGet (fun _ => ({} : OutCh)) s.out.ch o).mute.value s.samp
  let fold := if 24 ≤ o then gainQ28 (-(s.out.fold : Int)) else 2 ^ 28
  let y := looseQuot s.free (sat32 sum * m * fold) (unity * 2 ^ 28)
  let l0 := d.last.interpolate d.lastOrder (some y)
  let l1 := l0.1.interpolate d.lastOrder none
  let l2 := l1.1.interpolate d.lastOrder none
  let l3 := l2.1.interpolate d.lastOrder none
  let q := dacLevels (s.free + 4 * o) d.modErr [l0.2, l1.2, l2.2, l3.2]
  DacCh.lineStep { d with
    up := if core then u.1 else d.up
    coreWord := x.getD d.coreWord
    sprintWord := spr
    first := first.1
    last := l3.1
    lastIn := y
    word := BitVec.ofInt 32 l3.2
    levels := q.1
    modErr := q.2
    clipNow := d.clipNow || saturates 32 sum } s o

end Sys2Proof.Machine
end

