-- ==== Sys2Proof/Machine/SprintLane.lean ====
section
/-! DEFINITION. The sprint lane (chapter 4): programs, cells, crossfades, taps and the sprint part of the check. -/
namespace Sys2Proof.Machine

def State.cell (s : State) (n : Nat) : Cell := tabGet (fun _ => {}) s.sprint.cells n
def State.modCell (s : State) (n : Nat) (f : Cell → Cell) : State :=
  { s with sprint := { s.sprint with cells := tabMod (fun _ => {}) s.sprint.cells n f } }

/-- The 32-bit word of a cell image at a byte offset (R99). -/
def imgWord (t : Tab Byte) (ofs : Nat) : Nat := leNat (tabGetRun (fun _ => 0) t ofs 4)

/-- Bytes of a cell image, where cell n's image starts in a bank, and the image taken out of a bank. -/
def cellBytes : Nat := 2440
def cellBase (n : Nat) : Nat := cellBytes * n
def cellImage (t : Tab Byte) (n : Nat) : Tab Byte :=
  (t.filter (fun e => decide (cellBase n ≤ e.1 ∧ e.1 < cellBase (n + 1)))).map (fun e => (e.1 - cellBase n, e.2))

/-- The op words of a program, up to the first END (R92). -/
def cellOps (img : Tab Byte) : Nat → List Nat
  | 0 => []
  | k + 1 =>
    let w := imgWord img (4 * (31 - k))
    if k < 32 ∧ field w 0 8 ≠ 0 then w :: cellOps img k else []
def cellProgram (img : Tab Byte) : List Nat := cellOps img 32

/-- The op words that the check judges (R92, R100): the program and the END that ends it. -/
def cellChecked (img : Tab Byte) : List Nat :=
  let prog := cellProgram img
  if prog.length < 32 then prog ++ [imgWord img (4 * prog.length)] else prog

/-- Slots and COEF words of an operation by opcode (R92); none for a reserved opcode. -/
def opCost : Nat → Option (Nat × Nat)
  | 0 => some (0, 0) | 1 => some (1, 1) | 2 => some (1, 0) | 3 => some (4, 6) | 4 => some (2, 0) | 5 => some (1, 1)
  | 6 => some (1, 0) | 7 => some (1, 1) | 8 => some (1, 0) | 9 => some (1, 0) | 10 => some (2, 0) | _ => none

/-- A coefficient word, unsigned and signed. -/
def coefRaw (img : Tab Byte) (i : Nat) : Nat := imgWord img (0x080 + 4 * i)
def coef (img : Tab Byte) (i : Nat) : Int := signed (coefRaw img i) 32

/-- Entry i of table t (R97). -/
def tableEntry (img : Tab Byte) (t i : Nat) : Int := signed (imgWord img ((if t = 0 then 0x180 else 0x584) + 4 * i)) 32

/-- What a run of a program carries: the path value, the states, the DAC contributions, the tap, and whether an operation
saturated, at all and up to the TAP. -/
structure CellRun where
  v : Int
  ops : Tab SprintOp
  outs : List (Nat × Int) := []
  tap : Option Int := none
  clip : Bool := false
  tapClip : Bool := false

/-- Put a result through sat32 (R88). -/
def CellRun.put (r : CellRun) (x : Int) : CellRun :=
  { r with v := sat32 x, clip := r.clip || saturates 32 x, tapClip := r.tapClip || (r.tap.isNone && saturates 32 x) }

/-- One state update of R95, rounded once to the state LSB (21 fraction bits) and saturated to 56 bits: the old states, the
term b·x and the term a·y, with their shifts. -/
def biquadState (base mb x shb ma y sha : Int) : Int :=
  roundShift (base * 2 ^ 39 + mb * x * 2 ^ (31 - shb.toNat) - ma * y * 2 ^ (31 - sha.toNat)) 39

/-- BIQUAD (R95, R96). -/
def CellRun.biquad (r : CellRun) (img : Tab Byte) (i c : Nat) : CellRun :=
  let st := tabGet (fun _ => ({} : SprintOp)) r.ops i
  let sh := coefRaw img (c + 5)
  let x := r.v
  let y0 := roundShift (coef img c * x) 29 + roundShift st.s1 21
  let y := sat32 y0
  let n1 := biquadState (st.s1 + st.s2) (coef img (c + 1)) x (field sh 0 5) (coef img (c + 3)) y (field sh 16 5)
  let n2 := biquadState st.s2 (coef img (c + 2)) x (field sh 8 5) (coef img (c + 4)) y (field sh 24 5)
  let satur := saturates 32 y0 || saturates 56 n1 || saturates 56 n2
  { r with
    v := y
    ops := tabSet (fun _ => {}) r.ops i { st with s1 := sat 56 n1, s2 := sat 56 n2 }
    clip := r.clip || satur
    tapClip := r.tapClip || (r.tap.isNone && satur) }

/-- DROOP (R98): the exact product by shifts, rounded once. -/
def CellRun.droop (r : CellRun) (order i : Nat) : CellRun :=
  let st := tabGet (fun _ => ({} : SprintOp)) r.ops i
  let y := if order = 4 then roundShift (26 * st.v1 - 5 * (r.v + st.v2)) 4 else roundShift (94 * st.v1 - 15 * (r.v + st.v2)) 6
  { r.put y with ops := tabSet (fun _ => {}) r.ops i { st with v1 := r.v, v2 := st.v1 } }

/-- WSHAPE (R97). -/
def CellRun.shape (r : CellRun) (img : Tab Byte) (t : Nat) : CellRun :=
  let u := (r.v + 2 ^ 31).toNat
  let a := tableEntry img t (u / 2 ^ 24)
  r.put (a + roundShift ((tableEntry img t (u / 2 ^ 24 + 1) - a) * (u % 2 ^ 24 : Nat)) 24)

/-- One operation (R92), at op index i: f is the feed value, `reg` the output registers at the start of the sample (R93). -/
def CellRun.op (r : CellRun) (img : Tab Byte) (order : Nat) (f : Int) (reg : Nat → Int) (i w : Nat) : CellRun :=
  let c := field w 8 6
  match field w 0 8 with
  | 1 => r.put (roundShift (r.v * coef img c) 28)
  | 2 => r.put (-r.v)
  | 3 => r.biquad img i c
  | 4 => r.shape img (field w 16 4)
  | 5 => r.put (r.v + roundShift (reg (field w 16 4) * coef img c) 28)
  | 6 => { r with tap := some r.v }
  | 7 => { r with outs := r.outs ++ ((List.range 28).filter (fun o => (coefRaw img c).testBit o)).map (fun o => (o, r.v)) }
  | 8 => r.put (r.v + f)
  | 9 => r.put (roundShift (r.v * f) 31)
  | 10 => r.droop order i
  | _ => r

/-- Run the operations of a program from op index i. -/
def CellRun.run (img : Tab Byte) (order : Nat) (f : Int) (reg : Nat → Int) : Nat → List Nat → CellRun → CellRun
  | _, [], r => r
  | i, w :: ws, r => CellRun.run img order f reg (i + 1) ws (r.op img order f reg i w)

/-- The feed value of R94 at sprint sample j: a linear ramp with division toward zero. -/
def feedValue (prev now : Word) (j : Nat) : Int := prev.toInt + (((now.toInt - prev.toInt) * (j + 1 : Nat)).tdiv 128)

/-- SP_ORDER in force, and SP_CFG of a cell: ENABLE, SOURCE, XF_HARD (R89, R90). -/
def State.spOrder (s : State) : Nat := s.dir 0x0710
def spEnabled (cfg : Nat) : Bool := cfg.testBit 5
def spSource (cfg : Nat) : Nat := field cfg 0 5

/-- Run one datapath for a sprint sample: a program that is not enabled has every value 0 (R102). -/
def State.runPath (s : State) (n cfg : Nat) (img : Tab Byte) (ops : Tab SprintOp) : CellRun :=
  if spEnabled cfg then
    let a := s.adcCh (spSource cfg)
    let c := s.cell n
    CellRun.run img s.spOrder (feedValue c.feedPrev c.feedNow s.clock.phase)
      (fun m => if (s.cell m).fault then 0 else (s.cell m).out) 0 (cellProgram img) { v := a.sprintWord, ops := ops }
  else { v := 0, ops := [] }

/-- g_in of R102 at sample j of 256. -/
def fadeIn (j n : Nat) : Nat := unity - fallAt j n

/-- Sum of the contributions to one channel. -/
def outOf (outs : List (Nat × Int)) (o : Nat) : Int := (outs.filter (fun p => decide (p.1 = o))).foldl (fun a p => a + p.2) 0

/-- The weighted sum of the outgoing and the incoming value (R102). -/
def blend (free g : Nat) (old new : Int) : Int := looseQuot free ((unity - g : Nat) * old + (g : Int) * new) unity

/-- Settle count of a tap (R108). -/
def tapSettle (cfg : Nat) : Nat := if cfg.testBit 6 then 41 else 16

/-- A run gives its tap a saturated value (R108): it holds a TAP, and its input word or an operation up to the TAP was saturated. -/
def CellRun.clipsTap (r : CellRun) (inputSat : Bool) : Bool := r.tap.isSome && (r.tapClip || inputSat)

/-- One sprint sample of a cell: the crossfade of R102, the restart and fault fades of R109, the tap's CIC (R107), and the
status. Gives the cell and its weighted DAC contributions. -/
def State.stepCell (s : State) (n : Nat) : Cell × List (Nat × Int) :=
  let c := s.cell n
  let cfg := s.act (0x0700 + n)
  let img := cellImage s.cfg.cellsActive n
  let new := s.runPath n cfg img c.ops
  let old := match c.old with
    | some o => if c.fade < 256 then some (s.runPath n o.cfg o.image o.ops) else none
    | none => none
  let g := if old.isSome then fadeIn c.fade 256 else unity
  let ov := match old with | some r => r.v | none => 0
  let oo := match old with | some r => r.outs | none => []
  let ot := match old with | some r => r.tap | none => none
  let kr := match c.restart with | some j => fadeIn j 256 | none => unity
  let k := if c.fault then (if c.faultFade < 31 then kr * (Config.faultFade c.faultFade % (unity + 1)) / unity else 0) else kr
  let w := fun (a b : Int) => looseQuot s.free (blend s.free g a b * k) unity
  let outs := ((List.range 28).filter (fun o => new.outs.any (fun p => decide (p.1 = o)) || oo.any (fun p => decide (p.1 = o)))).map
    (fun o => (o, w (outOf oo o) (outOf new.outs o)))
  let tapped := ot.isSome || new.tap.isSome
  let tcic := if tapped then c.tapCic.decimate 4 4 40 (w (ot.getD 0) (new.tap.getD 0)) else (c.tapCic, none)
  let fir := match tcic.2 with
    | some x => firRun (cfg.testBit 6) 0 1 firTaps c.tapChain (s.clock.phase / 4) x
    | none => (c.tapChain, none)
  let clip := new.clip || (match old with | some r => r.clip | none => false)
  let tclip := new.clipsTap (s.adcCh (spSource cfg)).sprintSat ||
    (match c.old, old with | some o, some r => r.clipsTap (s.adcCh (spSource o.cfg)).sprintSat | _, _ => false)
  ({ c with
      ops := new.ops
      out := if c.fault then 0 else w ov new.v
      old := match c.old, old with | some o, some r => some { o with ops := r.ops } | o, _ => o
      fade := if c.old.isSome then min 256 (c.fade + 1) else c.fade
      faultFade := if c.fault then min 32 (c.faultFade + 1) else 0
      restart := match c.restart with | some j => if c.fault then some j else if j + 1 < 256 then some (j + 1) else none | none => none
      clipAt := if clip then some s.clock.now else c.clipAt
      clipSticky := c.clipSticky || clip
      tapCic := tcic.1
      tapChain := fir.1
      tapOut := fir.2.getD c.tapOut
      tapClippedTo := if tclip then max c.tapClippedTo (s.clock.now + tapSettle cfg) else c.tapClippedTo }, outs)

/-- The cells of the sprint lane after one sprint sample, and the contributions of this sample. -/
def State.stepCells (s : State) : Tab Cell × List (Nat × Int) :=
  (List.range 16).foldl (fun a n =>
    if spEnabled (s.act (0x0700 + n)) || (s.cell n).old.isSome || (s.cell n).fault then
      let r := s.stepCell n
      (tabSet (fun _ => {}) a.1 n r.1, a.2 ++ r.2)
    else (tabMod (fun _ => {}) a.1 n (fun c => { c with out := 0, restart := none }), a.2)) (s.sprint.cells, [])

/-- What reaches the summing nodes at this sample: the contributions of two samples before (R87). -/
def State.presented (s : State) : List (Nat × Int) := s.sprint.pipe.getD 2 []

/-- The stream word of tap n at a boundary (R107, R108). -/
def State.captureTap (s : State) (n : Nat) : StreamWord :=
  let cfg := s.act (0x0700 + n)
  let c := s.cell n
  let has := (cellProgram (cellImage s.cfg.cellsActive n)).any (fun w => decide (field w 0 8 = 6))
  if spEnabled cfg && has then
    let y := c.tapOut
    { sample := word (sat32 y)
      unsettled := decide (s.clock.now ≤ c.tapUnsettledTo ∧ c.tapUnsettledTo ≠ 0)
      clipped := saturates 32 y || decide (s.clock.now ≤ c.tapClippedTo ∧ c.tapClippedTo ≠ 0)
      substituted := c.tapSubst }
  else { sample := 0, unsettled := true }

/-- A disturbance of input `source` in the tick before this boundary marks the tap for its own settle count, under the window rule of R70
(R108). -/
def Cell.follow (c : Cell) (s : State) (source cfg : Nat) : Cell :=
  match (s.inCh source).disturbedAt with
  | some t => if s.clock.now ≤ t + 1 then { c with tapUnsettledTo := max c.tapUnsettledTo (t + tapSettle cfg) } else c
  | none => c

/-- The disturbances of a cell's source, and in a crossfade of the outgoing datapath's source too, mark its tap (R102, R108). -/
def Cell.follows (c : Cell) (s : State) (cfg : Nat) : Cell :=
  let c := if spEnabled cfg then c.follow s (spSource cfg) cfg else c
  match c.old with
  | some o => if spEnabled o.cfg && decide (c.fade < 256) then c.follow s (spSource o.cfg) cfg else c
  | none => c

/-- The taps at a boundary (R108). -/
def State.tapsFollow (s : State) : State :=
  { s with sprint := { s.sprint with cells := (List.range 16).foldl (fun t n =>
    tabMod (fun _ => {}) t n (fun c => c.follows s (s.act (0x0700 + n)))) s.sprint.cells } }

/-- A filter state: BIQUAD and DROOP hold one (R104). -/
def stateful (w : Nat) : Bool := decide (field w 0 8 = 3) || decide (field w 0 8 = 10)

/-- States carried from an outgoing to an incoming program (R104): same op index and same OPCODE. -/
def carryOps (old new : List Nat) (ops : Tab SprintOp) : Tab SprintOp :=
  ops.filter fun e => match old[e.1]?, new[e.1]? with | some a, some b => decide (field a 0 8 = field b 0 8) | _, _ => false

/-- Some state of the incoming program starts at zero (R108). -/
def startsZero (sameSource : Bool) (old new : List Nat) : Bool :=
  (List.range new.length).any fun i => match new[i]?, old[i]? with
    | some b, some a => stateful b && !(sameSource && decide (field a 0 8 = field b 0 8))
    | some b, none => stateful b
    | none, _ => false

/-- A cell at a bank swap (R102, R104-R106, R108). A fade that runs in a cell which the swap leaves unchanged runs on (DESIGN CHOICE, log
entry 60). -/
def Cell.swapped (c : Cell) (now cfg oldCfg : Nat) (img oldImg : Tab Byte) : Cell :=
  if cfg = oldCfg ∧ img = oldImg then c
  else
    let same := decide (spSource cfg = spSource oldCfg) && spEnabled oldCfg && spEnabled cfg
    let oldProg := if spEnabled oldCfg then cellProgram oldImg else []
    let newProg := if spEnabled cfg then cellProgram img else []
    let mark := spEnabled cfg && (startsZero same oldProg newProg || !spEnabled oldCfg || decide (cfg.testBit 6 ≠ oldCfg.testBit 6))
    { c with
      ops := if same then carryOps oldProg newProg c.ops else []
      old := if cfg.testBit 7 then none else some { image := oldImg, cfg := oldCfg, ops := c.ops }
      fade := if cfg.testBit 7 then 256 else 0
      tapUnsettledTo := if mark then max c.tapUnsettledTo (now + tapSettle cfg - 1) else c.tapUnsettledTo }

/-- Channel o is fed by an enabled cell of a bank (R90, R91). -/
def fedBySprint (cfg : Nat → Nat) (img : Tab Byte) (o : Nat) : Bool :=
  (List.range 16).any fun n => spEnabled (cfg n) && (cellProgram (cellImage img n)).any fun w =>
    decide (field w 0 8 = 7) && (coefRaw (cellImage img n) (field w 8 6)).testBit o

/-- The order of a channel's final interpolator (R73, R90). -/
def State.lastOrderOf (s : State) (o : Nat) : Nat :=
  if s.spOrder = 4 ∧ fedBySprint (fun n => s.act (0x0700 + n)) s.cfg.cellsActive o then 4 else 3

/-- At a swap with SP_ORDER at 4, a channel that gains or loses its sprint feed switches its final interpolator at sprint sample 256 from
the swap tick (R103). -/
def State.ordersSwapped (s : State) (old : Tab PVal) (oldImg : Tab Byte) : State :=
  { s with conv := { s.conv with dac := (List.range 28).foldl (fun t o =>
    let fed := fedBySprint (fun n => s.act (0x0700 + n)) s.cfg.cellsActive o
    if s.spOrder ≠ 4 ∨ fed = fedBySprint (fun n => pGet old (0x0700 + n)) oldImg o then t
    else tabMod (fun _ => {}) t o (fun d => { d with switches := d.switches ++ [(128 * s.clock.now + 256, if fed then 4 else 3)] })) s.conv.dac } }

/-- Channels take the orders in force at once, from the steady state of the current input, which R103 gives for a swap. -/
def State.switchOrders (s : State) : State :=
  { s with conv := { s.conv with dac := (List.range 28).foldl (fun t o =>
    if (s.dacCh o).lastOrder = s.lastOrderOf o then tabMod (fun _ => {}) t o (fun d => { d with switches := [] })
    else tabMod (fun _ => {}) t o (fun d =>
      { d with lastOrder := s.lastOrderOf o, switches := [], last := Cic.steady (s.lastOrderOf o) d.lastIn })) s.conv.dac } }

/-- The cells at a bank swap or ARM tick (R102-R106). -/
def State.cellsSwapped (s : State) (old : Tab PVal) (oldImg : Tab Byte) : State :=
  { s with sprint := { s.sprint with cells := (List.range 16).foldl (fun t n => tabMod (fun _ => {}) t n (fun c =>
      (c.follows s (pGet old (0x0700 + n))).swapped s.clock.now (s.act (0x0700 + n)) (pGet old (0x0700 + n)) (cellImage s.cfg.cellsActive n) (cellImage oldImg n))) s.sprint.cells } }

/-- SPRINT_CROSSFADE_END (R102): the outgoing datapath stops. The final interpolators switch by themselves at the same sprint sample
(DacCh.switch, R103). -/
def execSprintCrossfadeEnd (cell : Fin 16) (s : State) : Host.Outcome State Fault Refusal :=
  .next (if (s.cell cell.val).old.isSome && decide (256 ≤ (s.cell cell.val).fade) then
      s.modCell cell.val (fun c => { c with old := none })
    else s)

/-- An uncorrectable error in the active image of an enabled cell (R109): a cell that fades or is silent already goes on; one that fades in
after a restart fades out from the gain it has reached. -/
def Cell.fail (c : Cell) : Cell := if c.fault then c else { c with fault := true, faultFade := 0, faultSticky := true, tapSubst := true }

/-- A faulted cell restarts with zero states once its word is restored (R109). -/
def Cell.recover (c : Cell) (now cfg : Nat) : Cell :=
  { c with
    fault := false
    faultFade := 0
    ops := []
    old := none
    restart := some 0
    tapSubst := false
    tapUnsettledTo := max c.tapUnsettledTo (now + tapSettle cfg) }

/-- A write of SP_ORDER in Idle clears the sprint-branch CICs (R90); the final interpolators follow at once, loaded with the steady state
of their current input (DESIGN CHOICE, log entry 60). -/
def State.spOrderWritten (s : State) : State :=
  let s := { s with conv := { s.conv with
    adc := (List.range 24).foldl (fun t n => tabMod (fun _ => {}) t n (fun a => { a with sprint := {} })) s.conv.adc } }
  s.switchOrders

/-- Slots of a program (R92). -/
def slotsOf (prog : List Nat) : Nat := prog.foldl (fun a w => a + (match opCost (field w 0 8) with | some p => p.1 | none => 0)) 0

/-- The sprint status word of R112. FADING reads 1 during the fade-in after a restart too (R109; DESIGN CHOICE, log entry 60). SLOTS_USED of a cell that is not enabled, whose image no check has seen, stays in its range. -/
def State.sprintWordOf (s : State) (n : Nat) : Nat :=
  let cfg := s.act (0x0700 + n)
  let c := s.cell n
  let clip := match c.clipAt with | some t => decide (s.clock.now ≤ t + 960) | none => false
  let fading := (c.old.isSome && decide (c.fade < 256)) || (c.fault && decide (c.faultFade < 32)) || (c.restart.isSome && !c.fault)
  b2n (spEnabled cfg) + 2 * b2n fading + 4 * b2n clip + 8 * b2n c.clipSticky + 16 * b2n c.fault + 32 * b2n c.faultSticky +
    64 * spSource cfg + 2048 * min 32 (slotsOf (cellProgram (cellImage s.cfg.cellsActive n)))

/-- STICKY_CLEAR of the sprint group (R112). -/
def State.clearSprint (s : State) : State :=
  { s with sprint := { s.sprint with cells := (List.range 16).foldl (fun t n =>
    tabMod (fun _ => {}) t n (fun c => { c with clipSticky := false, faultSticky := false })) s.sprint.cells } }

/-- An exact delta coefficient of R96 in units of 2^-60. -/
def deltaCoef (m : Int) (sh : Nat) : Int := m * 2 ^ (31 - sh)

/-- The stability test of R100 on the stored values. -/
def stableBiquad (img : Tab Byte) (c : Nat) : Bool :=
  let sh := coefRaw img (c + 5)
  let a1 := deltaCoef (coef img (c + 3)) (field sh 16 5)
  let a2 := deltaCoef (coef img (c + 4)) (field sh 24 5)
  decide (0 < a2 ∧ a2 < a1 ∧ a1 - a2 < 2 * 2 ^ 60 ∧ 2 * a1 - a2 < 4 * 2 ^ 60)

/-- What one op word is refused for (R100). -/
def checkOp (img : Tab Byte) (w : Nat) : Option Nat :=
  match opCost (field w 0 8) with
  | none => some 0x93
  | some p =>
    let c := field w 8 6
    let arg := field w 16 4
    let argOk := match field w 0 8 with | 4 => decide (arg ≤ 1) | 5 => true | _ => decide (arg = 0)
    if field w 14 2 ≠ 0 ∨ field w 20 12 ≠ 0 ∨ !argOk then some 0x93
    else if 64 < c + p.2 then some 0x94
    else if field w 0 8 = 7 ∧ 2 ^ 28 ≤ coefRaw img c then some 0x93
    else if field w 0 8 = 3 ∧ coefRaw img (c + 5) &&& 0xE0E0E0E0 ≠ 0 then some 0x93
    else none

/-- What one enabled cell is refused for (R100). -/
def checkCell (cfg : Nat) (img : Tab Byte) : Option Nat :=
  let prog := cellProgram img
  if 23 < spSource cfg then some 0x98
  else match (cellChecked img).findSome? (checkOp img) with
    | some e => some e
    | none =>
      if 32 < slotsOf prog then some 0x90
      else if 1 < (prog.filter (fun w => decide (field w 0 8 = 6))).length then some 0x96
      else if prog.any (fun w => decide (field w 0 8 = 3) && !stableBiquad img (field w 8 6)) then some 0x97
      else none

/-- The cells that an enabled cell mixes in. -/
def mixesIn (cfg : Nat → Nat) (img : Tab Byte) (n : Nat) : List Nat :=
  if spEnabled (cfg n) then ((cellProgram (cellImage img n)).filter (fun w => decide (field w 0 8 = 5))).map (fun w => field w 16 4) else []

/-- Cells reached from a list of cells in at most k mix-ins. -/
def mixReach (next : Nat → List Nat) : Nat → List Nat → List Nat
  | 0, l => l
  | k + 1, l => mixReach next k ((l ++ l.flatMap next).eraseDups)

/-- Channels named by the OUT operations of a cell, with repeats. -/
def outsNamed (cfg : Nat → Nat) (img : Tab Byte) (n : Nat) : List Nat :=
  if spEnabled (cfg n) then
    ((cellProgram (cellImage img n)).filter (fun w => decide (field w 0 8 = 7))).flatMap fun w =>
      (List.range 28).filter fun o => (coefRaw (cellImage img n) (field w 8 6)).testBit o
  else []

/-- The sprint part of the consistency check (R100): the code and the cell. The record names the higher cell of a DAC channel fed twice and
the lowest cell of a mix cycle (DESIGN CHOICE, log entry 60). -/
def checkSprint (cfg : Nat → Nat) (img : Tab Byte) : Option (Nat × Nat) :=
  let cells := (List.range 16).filter (fun n => spEnabled (cfg n))
  let one := cells.findSome? fun n => match checkCell (cfg n) (cellImage img n) with | some e => some (e, n) | none => none
  let off := cells.find? fun n => (mixesIn cfg img n).any (fun m => !spEnabled (cfg m))
  let cyc := cells.find? fun n => (mixReach (mixesIn cfg img) 16 (mixesIn cfg img n)).contains n
  let twice := cells.find? fun n =>
    let mine := outsNamed cfg img n
    decide (mine.eraseDups.length < mine.length) ||
      (cells.filter (fun m => decide (m < n))).any (fun m => (outsNamed cfg img m).any (fun o => mine.contains o))
  match one with
  | some e => some e
  | none => match off with
    | some n => some (0x95, n)
    | none => match cyc with
      | some n => some (0x91, n)
      | none => match twice with
        | some n => some (0x92, n)
        | none => none

end Sys2Proof.Machine
end

