-- ==== Sys2Proof/Machine/Outputs.lean ====
section
/-! DEFINITION. Outputs, jacks and pop suppression (chapter 8). Outputs are numbered as in R85: 0-15 line, 16-23 headphones,
24-27 speakers. -/
namespace Sys2Proof.Machine

def State.outCh (s : State) (o : Nat) : OutCh := tabGet (fun _ => {}) s.out.ch o
def State.modOut (s : State) (o : Nat) (f : OutCh → OutCh) : State := { s with out := { s.out with ch := tabMod (fun _ => {}) s.out.ch o f } }
/-- Update the channels of a list. -/
def State.modOuts (s : State) (l : List Nat) (f : Nat → OutCh → OutCh) : State :=
  { s with out := { s.out with ch := l.foldl (fun t o => tabMod (fun _ => {}) t o (f o)) s.out.ch } }
def State.hpJack (s : State) (h : Nat) : HpJack := tabGet (fun _ => {}) s.out.jacks h
def State.hpPin (s : State) (j : Nat) : JackPin := tabGet (fun _ => {}) s.out.pins j
def State.gbyPin (s : State) (g : Nat) : GbyPin := tabGet (fun _ => {}) s.out.gby g

/-- Sprint samples in n milliseconds. -/
def msS (n : Nat) : Nat := 12288 * n

/-- Fields of OUT_CFG and of the POP, HP and SPK parameters (R218, R219). -/
def State.outEnabled (s : State) (o : Nat) : Bool := (s.act (0x0500 + o)).testBit 0
def State.outMuted (s : State) (o : Nat) : Bool := (s.act (0x0500 + o)).testBit 1
def State.unmuteRamp (s : State) (o : Nat) : Nat := msS (field (s.act (0x0500 + o)) 8 8)
def State.cmRamp (s : State) : Nat := ms (10 * field (s.dir 0x0605) 0 8)
def State.modeMute (s : State) : Nat := field (s.dir 0x0605) 8 8
def State.spkSoft (s : State) : Nat := msS (field (s.dir 0x0605) 16 8)
/-- The upper member of a joined pair (R208). -/
def State.pairUpper (s : State) (n : Nat) : Bool :=
  (decide (n = 1) && (s.dir 0x0530).testBit 0) || (decide (n = 3) && (s.dir 0x0530).testBit 1)
/-- The stages that act with stage n (R208). -/
def State.stages (s : State) (n : Nat) : List Nat :=
  if (n < 2 ∧ (s.dir 0x0530).testBit 0) ∨ (2 ≤ n ∧ (s.dir 0x0530).testBit 1) then [2 * (n / 2), 2 * (n / 2) + 1] else [n]

/-- Headphone of an output 16-23. -/
def hpOf (o : Nat) : Nat := (o - 16) / 2
def isLine (o : Nat) : Bool := decide (o < 16)
def isHp (o : Nat) : Bool := decide (16 ≤ o ∧ o < 24)
def isSpk (o : Nat) : Bool := decide (24 ≤ o)

/-- Bits of the causes of R193. -/
def cMode : Nat := 0
def cDisabled : Nat := 1
def cUser : Nat := 2
def cJack : Nat := 3
def cProtect : Nat := 4
def cLap : Nat := 5
def cGuard : Nat := 6

/-- Pins that sense headphone h under JS_HP_CFG (R201), and its RAMP. -/
def State.hpPins (s : State) (h : Nat) : List Nat := (List.range 4).filter (fun j => decide (field (s.dir (0x0600 + j)) 0 2 = h) && (s.dir (0x0600 + j)).testBit 4)
def State.hpRamp (s : State) (h : Nat) : Nat :=
  ((s.hpPins h).map (fun j => msS (10 * field (s.dir (0x0600 + j)) 16 8))).foldl max 0

/-- The mute curve of a cause on output o (R193): DC mutes over 10 ms, the other protections over one tick (R210). -/
def OutCh.muteLen (c : OutCh) (s : State) (o k : Nat) : Nat :=
  if k = cMode then msS s.modeMute
  else if k = cDisabled then (if isSpk o then msS 10 else msS 2)
  else if k = cJack then 128
  else if k = cProtect then (if c.prot = 4 then msS 10 else 128)
  else if k = cLap then msS 1
  else msS 2

/-- The unmute curve of a cause on output o (R193, R209). -/
def State.unmuteLen (s : State) (o k : Nat) : Nat :=
  if k = cJack then s.hpRamp (hpOf o)
  else if isSpk o ∧ (k = cProtect ∨ k = cDisabled) then s.spkSoft
  else s.unmuteRamp o

/-- A mute cause arrives (R194): the mute goes on over the shortest curve among the causes present. -/
def OutCh.raise (c : OutCh) (s : State) (o k : Nat) : OutCh :=
  if c.causes.getLsbD k then c
  else
    let causes := c.causes ||| BitVec.ofNat 7 (2 ^ k)
    let len := ((List.range 7).filter (fun i => causes.getLsbD i)).foldl (fun m i => min m (c.muteLen s o i)) (c.muteLen s o k)
    { c with causes := causes, mute := c.mute.fall s.samp len }

/-- A mute cause clears (R194): when none remains the unmute runs, over the longest curve of those cleared in this tick. -/
def OutCh.lower (c : OutCh) (s : State) (o k : Nat) : OutCh :=
  if c.causes.getLsbD k then
    let causes := c.causes &&& ~~~ BitVec.ofNat 7 (2 ^ k)
    let len := if c.clearAt = s.clock.now then max c.clearLen (s.unmuteLen o k) else s.unmuteLen o k
    { c with causes := causes, clearLen := len, clearAt := s.clock.now, mute := if causes = 0 then c.mute.rise s.samp len else c.mute }
  else c

/-- Set a cause to what it should be. -/
def OutCh.cause (c : OutCh) (s : State) (o k : Nat) (on : Bool) : OutCh := if on then c.raise s o k else c.lower s o k

/-- Output o should be enabled now: in Run, ENABLE in the active bank, and not held by a protection (R197, R200, R209). -/
def State.wantsOut (s : State) (o : Nat) : Bool :=
  s.inRun && s.power.leaving.isNone && s.outEnabled o && !(s.outCh o).latched && decide ((s.outCh o).prot &&& 0x3F = 0) &&
    !(isSpk o && s.pairUpper (o - 24))

/-- VSPK reads at least a level, in mV (R209, R220). -/
def State.vspkAtLeast (s : State) (mv : Int) : Bool := !s.measStale 10 && decide (mv ≤ (s.meas 10).value)

/-- Begin a line's or a headphone's enable sequence, or take it on from step 1 (R197, R200): DISABLED is present until it ends (R193). -/
def OutCh.begin (c : OutCh) (s : State) (o : Nat) : OutCh :=
  let ready := if isLine o then decide (s.out.bias = .up) else decide (s.out.pump = .ready)
  let c := { c with stopping := false }.raise s o cDisabled
  if ready then { c with step := 2, stepEnd := s.clock.now + (if isHp o && c.driving then 0 else 48) } else { c with step := 1 }

/-- Begin a speaker's precharge (R209). -/
def OutCh.beginSpk (c : OutCh) (s : State) : OutCh :=
  if s.vspkAtLeast 7500 then { c with step := 2, stepEnd := s.clock.now + ms 2, began := some s.clock.now, stopping := false }
  else { c with step := 1, stopping := false }

/-- The speaker channels that start in this tick start in order of n, 1 ms apart (R209). -/
def State.rankSpk (s : State) : State :=
  let starts := [24, 25, 26, 27].filter (fun o => decide ((s.outCh o).step = 2) && decide ((s.outCh o).began = some s.clock.now))
  s.modOuts starts (fun o c => { c with stepEnd := s.clock.now + ms 2 + ms (starts.idxOf o) })

/-- The upper stage of a joined pair is driven from the lower one's edges, and stops with it (R208). -/
def State.pairFollow (s : State) : State :=
  s.modOuts ([25, 27].filter (fun o => s.pairUpper (o - 24))) (fun o c => { c with driving := (s.outCh (o - 1)).driving, step := 0, stopping := false })

/-- Begin the enable sequences of the outputs of a list (R197, R200, R209); the charge pump starts with the first headphone
(R199). -/
def State.beginOuts (s : State) (l : List Nat) : State :=
  let pump := if l.any isHp then (match s.out.pump with | .off => Pump.starting s.clock.now | p => p) else s.out.pump
  { s with out := { s.out with
    pump := pump
    ch := l.foldl (fun t o => tabMod (fun _ => {}) t o (fun c => if isSpk o then c.beginSpk s else c.begin s o)) s.out.ch } }.rankSpk

/-- The end of an output's enable sequence: DISABLED clears (R197, R200, R209). -/
def OutCh.enabled (c : OutCh) (s : State) (o : Nat) : OutCh := { c with step := 0 }.lower s o cDisabled

/-- Begin a disable sequence (R197, R200, R209). -/
def OutCh.disable (c : OutCh) (s : State) (o : Nat) : OutCh :=
  let c := { c with step := 0 }.raise s o cDisabled
  if isHp o then c else if c.mute.atZero then { c with driving := false, stopping := false } else { c with stopping := c.driving }

/-- ENABLE and MUTE taken at a bank swap (R218): `old` is the bank that was active. In Run the sequences start at the swap tick. -/
def State.outputsSwapped (s : State) (old : Nat → Nat) : State :=
  let s1 := s.modOuts (List.range 28) (fun o c => c.cause s o cUser (s.outMuted o))
  if s.inRun then
    let s2 := s1.modOuts ((List.range 28).filter (fun o => !s.outEnabled o && (old (0x0500 + o)).testBit 0)) (fun o c => c.disable s o)
    (s2.beginOuts ((List.range 28).filter (fun o => s.outEnabled o && !(old (0x0500 + o)).testBit 0 && s2.wantsOut o && !(s2.outCh o).stopping))).pairFollow
  else s1

/-- The JACK cause of a channel (R193, R203): its headphone reads unplugged or is being measured, or its leg is SHORT. -/
def State.jackHeld (s : State) (o : Nat) : Bool :=
  let h := hpOf o
  let k := s.hpJack h
  isHp o && !(s.hpPins h).isEmpty && (!k.plugged || decide (k.step ≠ .none) || (s.hpPins h).any (fun j => (s.hpPin j).first || (s.hpPin j).glitchEnd.isSome || k.keep) ||
    decide ((if o % 2 = 0 then k.classL else k.classR) = 0))

/-- The classification is awaited by an enabled pin (R200). -/
def State.awaitsClass (s : State) (h : Nat) : Bool := !(s.hpPins h).isEmpty && !(s.hpJack h).classed

/-- Bring the JACK causes of a headphone up to date; a channel that waited for the classification is enabled (R200). -/
def State.jackOuts (s : State) (h : Nat) : State :=
  s.modOuts [16 + 2 * h, 17 + 2 * h] fun o c =>
    let c := if c.step = 3 && !s.awaitsClass h then c.enabled s o else c
    c.cause s o cJack (s.jackHeld o)

/-- Every pin of a headphone reads plugged (R201). -/
def State.hpPlugged (s : State) (h : Nat) : Bool := (s.hpPins h).all (fun j => (s.hpPin j).plugged && !(s.hpPin j).first)

def State.modJack (s : State) (h : Nat) (f : HpJack → HpJack) : State := { s with out := { s.out with jacks := tabMod (fun _ => {}) s.out.jacks h f } }
def State.modHpPin (s : State) (j : Nat) (f : JackPin → JackPin) : State := { s with out := { s.out with pins := tabMod (fun _ => {}) s.out.pins j f } }

/-- The pin is in use, and the headphone it senses. -/
def State.hpPinOn (s : State) (j : Nat) : Bool := (s.dir (0x0600 + j)).testBit 4
def State.hpPinFor (s : State) (j : Nat) : Nat := field (s.dir (0x0600 + j)) 0 2
def State.hpDebounce (s : State) (j : Nat) : Nat := ms (field (s.dir (0x0600 + j)) 8 8)

/-- OUTPUT_CURVE_END (R194): the gain settles; a disable sequence ends, and an output wanted again starts anew. -/
def execOutputCurveEnd (o : Fin 28) (s : State) : Host.Outcome State Fault Refusal :=
  let due := (s.outCh o.val).mute.over s.samp
  let s1 := s.modOut o.val fun c =>
    if due then
      let c := { c with mute := c.mute.settle }
      if c.mute.atZero && c.stopping then { c with driving := false, stopping := false } else c
    else c
  .next (if due && (s.outCh o.val).stopping && s1.wantsOut o.val then (s1.pairFollow.beginOuts [o.val]) else s1.pairFollow)

/-- The bias ramp has ended upward: lines that wait go on (R197). -/
def OutCh.biasUp (c : OutCh) (s : State) : OutCh := if c.step = 1 then { c with step := 2, stepEnd := s.clock.now + 48 } else c

/-- CM_BIAS_RAMP_END (R197). -/
def execCmBiasRampEnd (s : State) : Host.Outcome State Fault Refusal :=
  let up := match s.out.bias with | .rising _ _ e => decide (e ≤ s.clock.now) | _ => false
  let dn := match s.out.bias with | .falling _ _ e => decide (e ≤ s.clock.now) | _ => false
  .next { s with out := { s.out with
    bias := if up then .up else if dn then .down else s.out.bias
    ch := if up then (List.range 16).foldl (fun t o => tabMod (fun _ => {}) t o (fun c => c.biasUp s)) s.out.ch else s.out.ch } }

/-- LINE_BUFFER_CONNECT (R196, R197): the buffer drives; calibration runs at the first enable after entry to Idle. -/
def execLineBufferConnect (l : Fin 16) (s : State) : Host.Outcome State Fault Refusal :=
  .next (s.modOut l.val fun c =>
    if c.step = 2 ∧ c.stepEnd ≤ s.clock.now then
      let c := { c with driving := true }
      if (s.dir (0x0520 + l.val)).testBit 2 && !c.calibrated then { c with step := 3, stepEnd := s.clock.now + 480 } else c.enabled s l.val
    else c)

/-- LINE_OFFSET_CAL_END (R196): the offset is trimmed, and the servo integrator is preloaded with the result. -/
def execLineOffsetCalEnd (l : Fin 16) (s : State) : Host.Outcome State Fault Refusal :=
  let due := decide ((s.outCh l.val).step = 3 ∧ (s.outCh l.val).stepEnd ≤ s.clock.now)
  let s1 := s.modOut l.val (fun c => { c with calibrated := true }.enabled s l.val)
  .next (if due then
    { s1 with conv := { s1.conv with dac := tabMod (fun _ => ({} : DacCh)) s1.conv.dac l.val (fun d => { d with servo := servoSamples * lineOffset true l.val }) } }
  else s)

/-- CHARGE_PUMP_READY (R199, R200): CP_FAULT and its PROTECT clear, and headphones that wait are preset. -/
def execChargePumpReady (s : State) : Host.Outcome State Fault Refusal :=
  let hit := (match s.out.pump with | .starting _ => true | _ => false) && s.power.valid.getLsbD 6
  .next { s with out := { s.out with
    pump := if hit then .ready else s.out.pump
    cpFault := if hit then false else s.out.cpFault
    ch := if hit then (List.range 8).foldl (fun t i => tabMod (fun _ => {}) t (16 + i) (fun c =>
        let c := if c.prot = 0 then c.lower s (16 + i) cProtect else c
        if c.step = 1 then { c with step := 2, stepEnd := s.clock.now + 48 } else c)) s.out.ch
      else s.out.ch } }

/-- CHARGE_PUMP_START_TIMEOUT (R199): not ready within 10 ms. -/
def execChargePumpStartTimeout (s : State) : Host.Outcome State Fault Refusal :=
  let hit := match s.out.pump with | .starting t => decide (t + 960 ≤ s.clock.now) | _ => false
  .next { s with
    out := { s.out with
      pump := if hit then .failed s.clock.now else s.out.pump
      cpFault := s.out.cpFault || hit
      ch := if hit then (List.range 8).foldl (fun t i => tabMod (fun _ => {}) t (16 + i) (fun c => c.raise s (16 + i) cProtect)) s.out.ch else s.out.ch }
    bus := if hit then s.bus.raise s.inbandMask 8 else s.bus }

/-- CHARGE_PUMP_RETRY (R199): one second after a failed start. -/
def execChargePumpRetry (s : State) : Host.Outcome State Fault Refusal :=
  .next { s with out := { s.out with
    pump := match s.out.pump with | .failed t => if t + 96000 ≤ s.clock.now then .starting s.clock.now else s.out.pump | p => p } }

/-- A headphone channel is both enabled and plugged (R199): a removal ends that at once (R204, R205). -/
def State.pumpWanted (s : State) : Bool :=
  (List.range 8).any fun i => s.outEnabled (16 + i) &&
    ((s.hpPins (i / 2)).isEmpty || ((s.hpJack (i / 2)).plugged && !(s.hpPins (i / 2)).any (fun j => (s.hpPin j).glitchEnd.isSome)))

/-- Since when no headphone has been both enabled and plugged: brought up to date at each boundary (R199). -/
def Outputs.watchPump (u : Outputs) (wanted : Bool) (now : Nat) : Outputs :=
  { u with pumpIdle := if wanted then none else match u.pumpIdle with | some t => some t | none => some now }

/-- The pump stops and the headphone drivers disconnect (R199, R200). -/
def Outputs.pumpStop (u : Outputs) : Outputs :=
  { u with
    pump := .off
    ch := (List.range 8).foldl (fun t i => tabMod (fun _ => {}) t (16 + i) (fun c => { c with driving := false, rejoin := false, step := if c.step = 0 then 0 else 1 })) u.ch }

/-- CHARGE_PUMP_IDLE_STOP (R199): after CP_IDLE with no headphone both enabled and plugged. -/
def execChargePumpIdleStop (s : State) : Host.Outcome State Fault Refusal :=
  let hit := (match s.out.pumpIdle with | some t => decide (t + ms (100 * field (s.dir 0x0604) 0 8) ≤ s.clock.now) | none => false) &&
    (match s.out.pump with | .off => false | _ => true) && !s.pumpWanted
  .next { s with out := if hit then s.out.pumpStop else s.out }

/-- HP_DRIVER_CONNECT (R200, R202): step 2 ends for both channels of a headphone; during steps 3 to 5 of R202 no driver connects. -/
def execHpDriverConnect (h : Fin 4) (s : State) : Host.Outcome State Fault Refusal :=
  .next (s.modOuts [16 + 2 * h.val, 17 + 2 * h.val] fun o c =>
    if c.step = 2 ∧ c.stepEnd ≤ s.clock.now ∧ (s.hpJack h.val).step = .none then
      let c := { c with driving := true }
      if s.awaitsClass h.val then { c with step := 3 } else c.enabled s o
    else c)

/-- Trips and retries within the last 60 s. -/
def recent (now : Nat) (l : List Nat) : List Nat := l.filter (fun t => decide (now < t + 5760000))

/-- HP_OVERCURRENT (R200): both channels mute over one tick; the third trip within 60 s holds until the next ARM. -/
def execHpOvercurrent (h : Fin 4) (s : State) : Host.Outcome State Fault Refusal :=
  let o := 16 + 2 * h.val
  let hit := (s.outCh o).driving || (s.outCh (o + 1)).driving
  .next { s with
    out := { s.out with ch := if hit then [o, o + 1].foldl (fun t k => tabMod (fun _ => {}) t k (fun c =>
        let l := s.clock.now :: recent s.clock.now c.trips
        let held := decide (3 ≤ l.length)
        { c with
          prot := c.prot ||| 64
          protSticky := true
          trips := l
          latched := c.latched || held
          retryAt := if held then none else some (s.clock.now + 96000) }.raise s k cProtect)) s.out.ch else s.out.ch }
    bus := if hit then s.bus.raise s.inbandMask 8 else s.bus
    log := if hit then s.log.add 0x90 1 else s.log }

/-- Measure a headphone's load: step 3 of R202. Drivers disconnect. -/
def State.measureHp (s : State) (h : Nat) : State :=
  let s1 := s.modJack h (fun k => { k with step := .rise (s.clock.now + ms 20), readL := [], readR := [], classed := false })
  let s2 := s1.modOuts [16 + 2 * h, 17 + 2 * h] (fun _ c => { c with driving := false, rejoin := c.driving || c.rejoin })
  s2.jackOuts h

/-- HP_OC_REMEASURE (R200): one second after a trip. -/
def execHpOcRemeasure (h : Fin 4) (s : State) : Host.Outcome State Fault Refusal :=
  let o := 16 + 2 * h.val
  let due := match (s.outCh o).retryAt with | some t => decide (t ≤ s.clock.now) | none => false
  let meas := !(s.hpPins h.val).isEmpty && (s.hpJack h.val).plugged
  let s1 := if due && meas then (s.modJack h.val (fun k => { k with repeats := 0 })).measureHp h.val else s
  .next (if due then s1.modOuts [o, o + 1] (fun k c =>
      let c := { c with prot := c.prot &&& ~~~ 64, retryAt := none }
      if s.out.cpFault then c else c.lower s k cProtect) else s)

/-- The drivers reconnect after a measurement (R202). -/
def OutCh.reconnect (c : OutCh) : OutCh := { c with driving := c.driving || c.rejoin, rejoin := false }

/-- A removal (R204): within one tick, without debounce. A measurement is abandoned (R205). -/
def State.removeHp (s : State) (j : Nat) : State :=
  let h := s.hpPinFor j
  let measuring := decide ((s.hpJack h).step ≠ .none)
  let s1 := s.modHpPin j (fun p => { p with level := !p.level, debounceEnd := none, glitchEnd := some (s.clock.now + s.hpDebounce j) })
  let s2 := (s1.modJack h (fun k =>
    { k with step := .none, keep := false, classL := if measuring then 4 else k.classL, classR := if measuring then 4 else k.classR })).modOuts
      [16 + 2 * h, 17 + 2 * h] (fun _ c => c.reconnect)
  let s3 := { s2 with conv := { s2.conv with asked := if measuring then s2.conv.asked.filter (fun k => decide (k ≠ h)) else s2.conv.asked } }
  (s3.jackOuts h).raise 7

/-- HP_JACK_PIN_CHANGE (R201, R204): in Rest and Watch the pins are sampled otherwise (R336). -/
def execHpJackPinChange (pin : Fin 4) (level : Bool) (s : State) : Host.Outcome State Fault Refusal :=
  let p := s.hpPin pin.val
  let plug := decide (level = (s.dir (0x0600 + pin.val)).testBit 5)
  .next (
    if p.level = level then s
    else if s.asleep || !s.hpPinOn pin.val then s.modHpPin pin.val (fun p => { p with level := level })
    else if p.first then s.modHpPin pin.val (fun p => { p with level := level, debounceEnd := some (s.clock.now + s.hpDebounce pin.val) })
    else if plug then
      let s1 := s.modHpPin pin.val (fun p => { p with level := level, debounceEnd := some (s.clock.now + s.hpDebounce pin.val), glitchEnd := none })
      if p.glitchEnd.isSome then s1.modJack (s.hpPinFor pin.val) (fun k => { k with keep := k.classed || !(s.dir (0x0600 + pin.val)).testBit 24 }) else s1
    else if p.plugged && p.debounceEnd.isNone then s.removeHp pin.val
    else if p.plugged then
      s.modHpPin pin.val (fun p => { p with level := level, debounceEnd := none, glitchEnd := some (s.clock.now + s.hpDebounce pin.val) })
    else s.modHpPin pin.val (fun p => { p with level := level, debounceEnd := none }))

/-- An insertion after its debounce (R199, R200, R202): the load is measured, or the class is UNMEASURED with MEASURE at 0; an enabled
headphone whose driver a stop of the pump has disconnected is enabled again, which starts a pump that is off. -/
def State.insertHp (s : State) (j : Nat) : State :=
  let h := s.hpPinFor j
  if !s.hpPlugged h then s.jackOuts h
  else
    let measure := (s.dir (0x0600 + j)).testBit 24
    let s1 := s.modJack h (fun k =>
      { k with plugged := true, keep := false, repeats := 0, classL := 4, classR := 4, mono := false, short := false, low := false, classed := !measure })
    let off := match s1.out.pump with | .off => true | _ => false
    let idle := fun (c : OutCh) => !c.driving && !c.rejoin && decide (c.step = 0)
    let s2 := s1.beginOuts ([16 + 2 * h, 17 + 2 * h].filter (fun o => s1.wantsOut o && (off || idle (s1.outCh o))))
    if measure then s2.measureHp h else s2.jackOuts h

/-- HP_JACK_DEBOUNCE_END (R201, R202, R204). -/
def execHpJackDebounceEnd (pin : Fin 4) (s : State) : Host.Outcome State Fault Refusal :=
  let j := pin.val
  let h := s.hpPinFor j
  let p := s.hpPin j
  let due := s.hpPinOn j && (match p.debounceEnd with | some t => decide (t ≤ s.clock.now) | none => false)
  let plug := decide (p.level = (s.dir (0x0600 + j)).testBit 5)
  let s1 := s.modHpPin j (fun p => { p with debounceEnd := none, first := false, plugged := plug, glitchEnd := none })
  .next (
    if !due then s
    else if (s.hpJack h).keep then (s1.modJack h (fun k => { k with keep := false })).jackOuts h
    else if p.first then (if plug then s1.insertHp j else s1.jackOuts h)
    else if plug then { (s1.insertHp j).raise 7 with log := (s1.insertHp j).log.add (0x94 + 4 * j) 1 }
    else s1)

/-- HP_TEST_CURRENT_UP (R202): the readings begin. -/
def execHpTestCurrentUp (h : Fin 4) (s : State) : Host.Outcome State Fault Refusal :=
  let due := match (s.hpJack h.val).step with | .rise e => decide (e ≤ s.clock.now) | _ => false
  .next (if due then (s.modJack h.val (fun k => { k with step := .readings, readL := [], readR := [] })).askMeas h.val else s)

/-- A conversion of MSh gives one reading, legs L and R alternately, 4 each (R202). -/
def State.hpReading (s : State) (h : Nat) (v : Int) : State :=
  match (s.hpJack h).step with
  | .readings =>
    let k := s.hpJack h
    let k1 := if k.readL.length ≤ k.readR.length then { k with readL := k.readL ++ [v.toNat] } else { k with readR := k.readR ++ [v.toNat] }
    let done := decide (k1.readL.length = 4 ∧ k1.readR.length = 4)
    let s1 := s.modJack h (fun _ => if done then { k1 with step := .fall (s.clock.now + ms 20) } else k1)
    { s1 with conv := { s1.conv with asked := if done then s1.conv.asked.filter (fun c => decide (c ≠ h)) else s1.conv.asked } }
  | _ => s

/-- The readings of a leg differ by more than 10 % (R202). -/
def unstable (l : List Nat) : Bool := decide (11 * l.foldl min (l.headD 0) < 10 * l.foldl max 0)

/-- The class of a leg from the sum of its four readings, 400 to the ohm (R203). -/
def legClass (sum : Nat) : Nat := if sum < 4800 then 0 else if sum ≤ 320000 then 1 else if sum ≤ 2000000 then 2 else 3

/-- The legs classed (R203): an unstable leg after the third failure is HIGH. Both use the range of the lower impedance (R198): a SHORT leg's is
the high one. -/
def HpJack.classify (k : HpJack) (free : Nat) : HpJack :=
  let sl := k.readL.foldl (· + ·) 0
  let sr := k.readR.foldl (· + ·) 0
  let cl := if unstable k.readL then 2 else legClass sl
  let cr := if unstable k.readR then 2 else legClass sr
  { k with
    step := .none
    classL := cl
    classR := cr
    zL := (looseQuot free sl 400).toNat
    zR := (looseQuot free sr 400).toNat
    mono := decide (cl = 0) != decide (cr = 0)
    short := decide (cl = 0) && decide (cr = 0)
    classed := true
    low := decide (cl ≠ 0 ∧ cr ≠ 0) && ((decide (cl = 1) && decide (sl < 12800)) || (decide (cr = 1) && decide (sr < 12800))) }

/-- HP_TEST_CURRENT_DOWN (R202, R203): steps 3-5 repeat at most twice; then the legs are classed and the drivers reconnect. -/
def execHpTestCurrentDown (h : Fin 4) (s : State) : Host.Outcome State Fault Refusal :=
  let k := s.hpJack h.val
  let due := match k.step with | .fall e => decide (e ≤ s.clock.now) | _ => false
  let again := (unstable k.readL || unstable k.readR) && decide (k.repeats < 2)
  let k1 := k.classify s.free
  let s1 := (s.modJack h.val (fun _ => k1)).modOuts [16 + 2 * h.val, 17 + 2 * h.val] (fun _ c =>
    if s.out.pump = .ready then c.reconnect else { c with rejoin := false })
  .next (
    if !due then s
    else if again then (s.modJack h.val (fun k => { k with repeats := k.repeats + 1 })).measureHp h.val
    else if k1.short then (s1.jackOuts h.val).raise 8 else s1.jackOuts h.val)

/-- HP_GLITCH_TIMEOUT (R204): a removal that lasts DEBOUNCE clears PLUGGED and the classification, and is counted. -/
def execHpGlitchTimeout (pin : Fin 4) (s : State) : Host.Outcome State Fault Refusal :=
  let h := s.hpPinFor pin.val
  let due := match (s.hpPin pin.val).glitchEnd with | some t => decide (t ≤ s.clock.now) | none => false
  let s1 := s.modHpPin pin.val (fun p => { p with glitchEnd := none, plugged := false })
  let s2 := (s1.modJack h (fun _ => { plugged := false })).jackOuts h
  .next (if due then { s2 with log := s2.log.add (0xC4 + 4 * pin.val) 1 } else s)

/-- A write of JS_HP_CFG j (R201): enabling a pin starts its first debounce; the headphones' states follow the pins. -/
def State.jsHpWritten (s : State) (j old : Nat) : State :=
  let on := s.hpPinOn j
  let was := old.testBit 4
  let s1 := s.modHpPin j (fun p =>
    if on && !was then { p with first := true, plugged := false, glitchEnd := none, debounceEnd := some (s.clock.now + s.hpDebounce j) }
    else if on then p else { p with first := true, plugged := false, glitchEnd := none, debounceEnd := none })
  (List.range 4).foldl (fun s h =>
    let s := if (s.hpPins h).isEmpty then s.modJack h (fun _ => {})
      else if s.hpPlugged h then s else s.modJack h (fun _ => { plugged := false })
    s.jackOuts h) s1

/-- A stage is active: in its sequence, driving or stopping. -/
def OutCh.active (c : OutCh) : Bool := decide (c.step ≠ 0) || c.driving

/-- Stage n runs: the pair that it belongs to is active (R208). -/
def State.stageRuns (s : State) (n : Nat) : Bool := (s.stages n).any (fun k => (s.outCh (24 + k)).active)

/-- Trip a stage with protection k of R210 (0 OC, 1 BRIDGE, 2 DC, 3 UV, 4 OV, 5 THERM): the mute, the stop, the recovery. DC, UV and THERM
stop the stage at the end of the mute, at once where it is muted. -/
def OutCh.trip (c : OutCh) (s : State) (n k : Nat) : OutCh :=
  let retries := recent s.clock.now c.trips
  let oc := decide (k ≤ 1)
  let held := decide (k = 2) || (oc && decide (field (s.dir 0x0530) 16 2 ≤ retries.length))
  let c1 := { c with prot := c.prot ||| BitVec.ofNat 7 (2 ^ k), protSticky := true, step := 0 }.raise s (24 + n) cProtect
  let c2 := c1.raise s (24 + n) cDisabled
  let mutes := decide (k = 2 ∨ k = 3 ∨ k = 5) && c2.driving && !c2.mute.atZero
  { c2 with
    driving := mutes
    stopping := mutes
    latched := c.latched || held
    trips := retries
    retryAt := if oc && !held then some (s.clock.now + ms (100 * field (s.dir 0x0530) 8 8)) else c.retryAt
    clearSince := if k = 3 ∨ k = 4 then some s.clock.now else c.clearSince }

/-- Stages tripped, with ATTN_CAUSE bit 8 and the trip counts of the log (R210): a joined pair is one channel. -/
def State.tripSpk (s : State) (l : List Nat) (k : Nat) : State :=
  let hit := l.filter (fun n => s.stageRuns n && !((s.outCh (24 + n)).prot.getLsbD k))
  let all := (hit.flatMap s.stages).eraseDups
  State.pairFollow { s with
    out := { s.out with ch := all.foldl (fun t n => tabMod (fun _ => {}) t (24 + n) (fun c => c.trip s n k)) s.out.ch }
    bus := if hit.isEmpty then s.bus else s.bus.raise s.inbandMask 8
    log := if hit.isEmpty then s.log else s.log.add (0x78 + 4 * k) (hit.filter (fun n => !s.pairUpper n || !(hit.contains (n - 1)))).length }

/-- SPK_PRECHARGE_END (R208, R209): the stage starts switching, a joined one with it; DISABLED clears and the unmute runs. -/
def execSpkPrechargeEnd (spk : Fin 4) (s : State) : Host.Outcome State Fault Refusal :=
  .next (s.modOut (24 + spk.val) fun c =>
    if c.step = 2 ∧ c.stepEnd ≤ s.clock.now then { c with driving := true }.enabled s (24 + spk.val) else c).pairFollow

/-- SPK_OVERCURRENT, SPK_DC_TRIP (R210). -/
def execSpkOvercurrent (spk : Fin 4) (s : State) : Host.Outcome State Fault Refusal := .next (s.tripSpk [spk.val] 0)
def execSpkDcTrip (spk : Fin 4) (s : State) : Host.Outcome State Fault Refusal :=
  .next (if (s.dir 0x0530).testBit 3 then s else s.tripSpk [spk.val] 2)

/-- SPK_UNDERVOLTAGE, SPK_OVERVOLTAGE, SPK_THERMAL_TRIP (R210): every stage. -/
def execSpkUndervoltage (s : State) : Host.Outcome State Fault Refusal := .next (s.tripSpk [0, 1, 2, 3] 3)
def execSpkOvervoltage (s : State) : Host.Outcome State Fault Refusal := .next (s.tripSpk [0, 1, 2, 3] 4)
def execSpkThermalTrip (s : State) : Host.Outcome State Fault Refusal := .next (s.tripSpk [0, 1, 2, 3] 5)

/-- The protections of a stage that SPK_RETRY may end (R210): OC and BRIDGE after RETRY, UV and OV no sooner than 100 ms after VSPK was
last seen out of bounds. The power die compares VSPK and its temperature itself: that the levels are met, the command says. -/
def State.spkRecovered (s : State) (c : OutCh) : BitVec 7 :=
  let oc : BitVec 7 := match c.retryAt with | some t => if t ≤ s.clock.now then 3 else 0 | none => 0
  let v : BitVec 7 := match c.clearSince with | some t => if t + 9600 ≤ s.clock.now then 24 else 0 | none => 0
  oc ||| v ||| 32

/-- SPK_RETRY (R210): the stage restarts under R209 once nothing holds it. -/
def execSpkRetry (spk : Fin 4) (s : State) : Host.Outcome State Fault Refusal :=
  let o := 24 + spk.val
  let c := s.outCh o
  let left := c.prot &&& ~~~ s.spkRecovered c
  let due := decide (c.prot ≠ 0) && decide (left = 0) && !c.latched
  let s1 := s.modOuts ((s.stages spk.val).map (24 + ·)) (fun k c =>
    { c with prot := 0, retryAt := none, clearSince := none, trips := if c.retryAt.isSome then s.clock.now :: c.trips else c.trips }.lower s k cProtect)
  let lead := if s.pairUpper spk.val then o - 1 else o
  .next (if due then (if s1.wantsOut lead then s1.beginOuts [lead] else s1) else s)

/-- VSPK_DECOUPLING_CONNECT (R327). -/
def execVspkDecouplingConnect (s : State) : Host.Outcome State Fault Refusal :=
  .next { s with out := { s.out with
    decoupled := s.out.decoupled || (match s.out.vspkSince with | some t => decide (t + 960 ≤ s.clock.now) | none => false) } }

/-- VSPK is seen below 7.5 V by a stage under UV, or above 19.0 V by one under OV (R210): its 100 ms count anew. -/
def OutCh.vspk (c : OutCh) (now : Nat) (mv : Int) : OutCh :=
  if (c.prot.getLsbD 3 && decide (mv < 7500)) || (c.prot.getLsbD 4 && decide (19000 < mv)) then { c with clearSince := some now } else c

/-- A conversion of MS10 (R209, R210, R327): stages that wait for VSPK precharge. -/
def State.vspkRead (s : State) (mv : Int) : State :=
  let s1 := s.modOuts [24, 25, 26, 27] (fun _ c => c.vspk s.clock.now mv)
  let s2 := { s1 with out := { s1.out with
    vspkSince := if 7500 < mv then (match s1.out.vspkSince with | some t => some t | none => some s.clock.now) else none } }
  s2.beginOuts ([24, 25, 26, 27].filter (fun o => decide ((s2.outCh o).step = 1) && decide (7500 ≤ mv)))

/-- VSPK has risen to 7.5 V, its release level (R210, R319, R327). -/
def State.vspkBack (s : State) : State :=
  let s1 := s.modOuts [24, 25, 26, 27] (fun _ c => if c.prot.getLsbD 3 then { c with clearSince := some s.clock.now } else c)
  { s1 with out := { s1.out with vspkSince := match s1.out.vspkSince with | some t => some t | none => some s.clock.now } }

/-- A conversion of MS13 sets the foldback target (R211): 1 dB for each °C above FOLD_START, at most FOLD_MAX. Foldback is entered with
the first reduction. -/
def State.foldRead (s : State) (t : Int) : State :=
  let target := (max 0 (min (100 * (field (s.dir 0x0531) 8 8 : Int)) (t - 100 * (field (s.dir 0x0531) 0 8 : Int)))).toNat
  let entered := decide (0 < target) && !s.out.folding
  { s with
    out := { s.out with foldTarget := target, folding := s.out.folding || entered }
    bus := if entered then s.bus.raise s.inbandMask 15 else s.bus }

/-- The foldback follows its target at 10 dB/s: 0.01 dB in 96 ticks (R211). -/
def Outputs.foldTick (u : Outputs) (now : Nat) : Outputs :=
  if now % 96 ≠ 0 then u
  else if u.fold < u.foldTarget then { u with fold := u.fold + 1 } else if u.foldTarget < u.fold then { u with fold := u.fold - 1 } else u

/-- Foldback ends once no reduction is left (R211). -/
def State.foldEnd (s : State) : State :=
  if s.out.folding ∧ s.out.fold = 0 ∧ s.out.foldTarget = 0 then
    { s with
      out := { s.out with folding := false }
      bus := s.bus.raise s.inbandMask 15 }
  else s

/-- Fields of GBY_CFG (R215). -/
def State.gbyCfg (s : State) (g : Nat) : Nat := s.dir (0x0608 + g)
def State.gbyOn (s : State) (g : Nat) : Bool := (s.gbyCfg g).testBit 32
def State.guards (s : State) (g o : Nat) : Bool := s.gbyOn g && (s.gbyCfg g).testBit o

/-- The first condition of R216 that fails, as LAST_CAUSE codes it (R221); 0: healthy. -/
def State.gbyFails (s : State) (g : Nat) : Nat :=
  let v := s.gbyCfg g
  if !s.inRun || s.power.leaving.isSome then 1
  else if s.power.pfw then 2
  else if !s.synth.lock then 3
  else if v.testBit 33 && (List.range 28).any (fun o => s.guards g o && (s.outCh o).causes.getLsbD cProtect) then 4
  else if v.testBit 36 && s.dpll.expiredNow then 7
  else if v.testBit 37 && (s.cell (field v 38 4)).fault then 8
  else (s.gbyPin g).trip

/-- The GUARD cause of output o (R193): some enabled pin that guards it is not in the processed state, or settles, or pre-mutes. -/
def State.guarded (s : State) (o : Nat) : Bool :=
  (List.range 4).any fun g => s.guards g o && (!(s.gbyPin g).high || (s.gbyPin g).settleEnd.isSome || (s.gbyPin g).preEnd.isSome)

/-- Bring the GUARD causes up to date. -/
def State.guardOuts (s : State) : State := s.modOuts (List.range 28) (fun o c => c.cause s o cGuard (s.guarded o))

def State.modGby (s : State) (g : Nat) (f : GbyPin → GbyPin) : State := { s with out := { s.out with gby := tabMod (fun _ => {}) s.out.gby g f } }

/-- The recovery that a cause asks for (R217): 0 the next ARM, 1 AUTO_RESTORE may, 2 the clearing of the warning. -/
def gbyRecovery (cause : Nat) : Nat := if cause = 1 then 0 else if cause = 2 then 2 else 1

/-- The pin goes low: ATTN_CAUSE bit 8 and BYPASS_STICKY (R217). -/
def State.gbyLow (s : State) (g : Nat) : State :=
  (s.modGby g (fun p => { p with high := false, preEnd := none, settleEnd := none, sticky := true })).raise 8

/-- The pin goes high, and its guarded outputs stay muted for SETTLE (R216). -/
def State.gbyHigh (s : State) (g : Nat) : State :=
  (s.modGby g (fun p => { p with high := true, preEnd := none, settleEnd := some (s.clock.now + ms (field (s.gbyCfg g) 48 8)), sticky := true, recovery := 1, trip := 0 })).raise 8

/-- A pin stops being healthy (R217): the pre-mute of 2 ms begins; while it settles it goes low at once. -/
def State.gbyLose (s : State) (g cause : Nat) : State :=
  let p := s.gbyPin g
  if !p.high || p.preEnd.isSome then s
  else
    let s1 := s.modGby g (fun p => { p with lastCause := cause, recovery := gbyRecovery cause, trip := 0, healthySince := none, preEnd := some (s.clock.now + ms 2) })
    if p.settleEnd.isSome then (s1.gbyLow g).guardOuts else s1.guardOuts

/-- GBY_HEALTH_LOSS (R216, R217). -/
def execGbyHealthLoss (g : Fin 4) (s : State) : Host.Outcome State Fault Refusal :=
  .next (if s.gbyOn g.val && decide (s.gbyFails g.val ≠ 0) then s.gbyLose g.val (s.gbyFails g.val) else s)

/-- GBY_PREMUTE_END (R217). -/
def execGbyPremuteEnd (g : Fin 4) (s : State) : Host.Outcome State Fault Refusal :=
  .next (match (s.gbyPin g.val).preEnd with
    | some t => if t ≤ s.clock.now then (s.gbyLow g.val).guardOuts else s
    | none => s)

/-- Since when the pins are healthy: brought up to date at each boundary (R217). -/
def State.gbyWatch (s : State) : State :=
  { s with out := { s.out with gby := (List.range 4).foldl (fun t g => tabMod (fun _ => {}) t g (fun p =>
      { p with
        trip := if p.high then p.trip else 0
        healthySince := if s.gbyOn g && (!p.high || p.preEnd.isSome) && decide (s.gbyFails g = 0 ∨ (s.gbyFails g = p.trip)) then (match p.healthySince with | some t => some t | none => some s.clock.now) else none })) s.out.gby } }

/-- An automatic restore of a pin is due (R216, R217). -/
def State.gbyDue (s : State) (g : Nat) : Bool :=
  let p := s.gbyPin g
  s.gbyOn g && !p.high && decide (s.gbyFails g = 0) && decide (p.recovery = 1) && (s.gbyCfg g).testBit 42 &&
    (match p.healthySince with | some t => decide (t + ms (100 * field (s.gbyCfg g) 56 8) ≤ s.clock.now) | none => false)

/-- GBY_RESTORE (R216, R217). -/
def execGbyRestore (g : Fin 4) (s : State) : Host.Outcome State Fault Refusal :=
  .next (if s.gbyDue g.val then (s.gbyHigh g.val).guardOuts else s)

/-- GBY_SETTLE_END (R216). -/
def execGbySettleEnd (g : Fin 4) (s : State) : Host.Outcome State Fault Refusal :=
  .next (match (s.gbyPin g.val).settleEnd with
    | some t => if t ≤ s.clock.now then (s.modGby g.val (fun p => { p with settleEnd := none })).guardOuts else s
    | none => s)

/-- A momentary fault of R215 on the pins that watch for it: bit 34 a stumble (cause 5), bit 35 an uncorrectable error (cause 6). -/
def Outputs.fault (u : Outputs) (cfg : Nat → Nat) (bit cause : Nat) : Outputs :=
  { u with gby := (List.range 4).foldl (fun t g => tabMod (fun _ => {}) t g (fun p =>
      if (cfg g).testBit bit && p.high && p.preEnd.isNone then { p with trip := cause } else if (cfg g).testBit bit then { p with healthySince := none } else p)) u.gby }

/-- A write of GBY_CFG (R215): a disabled pin is held low. -/
def State.gbyWritten (s : State) (g : Nat) : State :=
  let s1 := if !s.gbyOn g && (s.gbyPin g).high then (s.gbyLow g).modGby g (fun p => { p with healthySince := none }) else s
  s1.guardOuts

/-- The guard pins at the ARM tick (R216). -/
def State.gbyArm (s : State) : State :=
  let s1 := (List.range 4).foldl (fun s g =>
    if !s.gbyOn g || (s.gbyPin g).high then s
    else
      let f := s.gbyFails g
      if f = 0 then s.gbyHigh g else s.modGby g (fun p => { p with lastCause := f, recovery := gbyRecovery f, healthySince := none })) s
  s1.guardOuts

/-- The outputs at the ARM tick (R210, R212): MODE clears, latched trips are released, and the enable sequences start. -/
def State.outputsArm (s : State) : State :=
  let s1 := s.modOuts (List.range 28) (fun o c =>
    let c :=
      if c.latched then
        let c := { c with latched := false, prot := 0, trips := [], retryAt := none, clearSince := none }
        if isHp o && s.out.cpFault then c else c.lower s o cProtect
      else c
    c.lower s o cMode)
  s1.gbyArm.beginOuts ((List.range 28).filter s1.wantsOut)

/-- Leaving Run (R212, R217): every output mutes over MODE_MUTE, and the guard pins pre-mute. -/
def State.outputsLeave (s : State) : State :=
  let s1 := s.modOuts (List.range 28) (fun o c => c.raise s o cMode)
  (List.range 4).foldl (fun s g => s.gbyLose g 1) s1

/-- The outputs in Idle (R212): speakers stop, line buffers disconnect, headphones stay connected. -/
def State.outputsIdle (s : State) : State :=
  s.modOuts (List.range 28) (fun o c =>
    let c := { c with step := 0, stopping := false }.raise s o cDisabled
    if isHp o then c else { c with driving := false })

/-- LAST_LAP_SPEAKER_STOP (R213): 1 ms after the warning every speaker stage stops. -/
def execLastLapSpeakerStop (s : State) : Host.Outcome State Fault Refusal :=
  let due := match s.out.lapAt with | some t => decide (t + 96 ≤ s.clock.now) | none => false
  .next (if due then s.modOuts [24, 25, 26, 27] (fun o c => { c with driving := false, stopping := false, step := 0 }.raise s o cDisabled) else s)

/-- The last lap begins (R213): every output mutes over 1 ms; every guard pin goes to bypass 2 ms after the warning. -/
def State.lastLap (s : State) : State :=
  let s1 := s.modOuts (List.range 28) (fun o c => c.raise s o cLap)
  let s2 := { s1 with out := { s1.out with lapAt := some s.clock.now, lapClear := none } }
  (List.range 4).foldl (fun s g => s.gbyLose g 2) s2

/-- LASTLAP clears (R213). -/
def State.lapEnd (s : State) : State :=
  { s with out := { s.out with lapAt := none, lapClear := none } }.modOuts (List.range 28) (fun o c => c.lower s o cLap)

/-- LAST_LAP_CLEAR (R213): the warning has been clear for 100 ms: outputs in Run unmute, speakers restart, and guard pins that
went low for the warning restore. -/
def execLastLapClear (s : State) : Host.Outcome State Fault Refusal :=
  let due := !s.power.pfw && s.out.lapAt.isSome && (match s.out.lapClear with | some t => decide (t + 9600 ≤ s.clock.now) | none => false)
  let s2 := s.lapEnd
  let s3 := (List.range 4).foldl (fun s g => if s.gbyOn g && !(s.gbyPin g).high && decide ((s.gbyPin g).recovery = 2) && decide (s.gbyFails g = 0) then s.gbyHigh g else s) s2
  .next (if due then s3.guardOuts.beginOuts ([24, 25, 26, 27].filter (fun o => s3.wantsOut o && !(s3.outCh o).active)) else s)

/-- STATE of an output word (R221): OFF is an output with ENABLE 0 whose mute has ended. -/
def OutCh.stateCode (c : OutCh) (enabled : Bool) : Nat :=
  if c.latched then 7 else if c.causes.getLsbD cProtect then 6 else if c.step ≠ 0 then 1
  else if c.mute.falling then 5 else if !enabled then 0 else if c.mute.rising then 3 else if c.causes ≠ 0 then 2 else 4

/-- The 36 output words of R221. -/
def State.outputWord (s : State) (o : Nat) : Nat :=
  let c := s.outCh o
  c.stateCode (s.outEnabled o) + 8 * c.causes.toNat + 1024 * c.prot.toNat + 2 ^ 17 * b2n c.protSticky + 2 ^ 18 * (if isSpk o then (looseQuot s.free s.out.fold 100).toNat else 0) +
    2 ^ 23 * b2n (isHp o && s.out.cpFault)
def State.jackWord (s : State) (h : Nat) : Nat :=
  let k := s.hpJack h
  let plugged := (s.hpPins h).isEmpty || k.plugged
  min 1023 k.zL + 2 ^ 10 * min 1023 k.zR + 2 ^ 20 * k.classL + 2 ^ 23 * k.classR + 2 ^ 26 * b2n plugged + 2 ^ 27 * b2n (decide (k.step ≠ .none)) +
    2 ^ 28 * b2n k.mono + 2 ^ 29 * b2n k.short + 2 ^ 30 * b2n k.low
def State.gbyWord (s : State) (g : Nat) : Nat :=
  let p := s.gbyPin g
  b2n p.high + 2 * b2n (s.gbyOn g && decide (s.gbyFails g = 0)) + 4 * b2n p.preEnd.isSome + 8 * b2n p.settleEnd.isSome + 16 * p.lastCause + 256 * b2n p.sticky
def State.outputWords (s : State) : List Nat :=
  (List.range 28).map s.outputWord ++ (List.range 4).map s.jackWord ++ (List.range 4).map s.gbyWord

/-- STICKY_CLEAR of the output group (R221). -/
def State.clearOutputs (s : State) : State :=
  { s with out := { s.out with
    ch := (List.range 28).foldl (fun t o => tabMod (fun _ => {}) t o (fun c => { c with protSticky := false })) s.out.ch
    gby := (List.range 4).foldl (fun t g => tabMod (fun _ => {}) t g (fun p => { p with sticky := false })) s.out.gby } }

/-- Parameters of blocks 0x05 and 0x06 (R218, R219). -/
def outputParams : List Nat := (List.range 28).map (· + 0x0500) ++ (List.range 16).map (· + 0x0520) ++ [0x0530, 0x0531] ++ (List.range 4).map (· + 0x0600) ++ [0x0604, 0x0605] ++
  (List.range 4).map (· + 0x0608)

/-- What the refusal record of 0x82 names (R220): an output or a guard pin by its parameter; another parameter of the blocks by its ID, which
the rule does not say (DESIGN CHOICE, log entry 63). -/
def outputObject (id : Nat) : Nat × Nat × Nat :=
  if id < 0x0520 then (0x82, 8, id - 0x0500) else if id < 0x0530 then (0x82, 8, id - 0x0520) else if 0x0608 ≤ id then (0x82, 9, id - 0x0608) else (0x82, 1, id)

/-- The output part of the check (R220): the code, KIND and INDEX. `bank` reads the bank checked and the STATIC parameters; `vspk`
says that an enabled speaker is to be judged against VSPK, and `low` that it reads below 7.5 V. -/
def checkOutputs (bank : Nat → Nat) (img : Tab Byte) (vspk low : Bool) : Option (Nat × Nat × Nat) :=
  let upper := fun n => (decide (n = 1) && (bank 0x0530).testBit 0) || (decide (n = 3) && (bank 0x0530).testBit 1)
  let named := fun n => (List.range 2048).any (fun k => (bank (0x0800 + k)).testBit 48 && decide (field (bank (0x0800 + k)) 16 16 = 0x0118 + n))
  let outs := (List.range 16).flatMap (fun c => outsNamed (fun n => bank (0x0700 + n)) img c)
  let en := fun o => (bank (0x0500 + o)).testBit 0
  let gby := fun g => (bank (0x0608 + g)).testBit 32
  match outputParams.find? (fun id => !paramFieldsOk id (bank id)) with
  | some id => some (outputObject id)
  | none => match [1, 3].find? (fun n => upper n && (named n || outs.contains (24 + n) || en (24 + n))) with
  | some n => some (0x81, 8, 24 + n)
  | none => match [24, 25, 26, 27].find? (fun o => vspk && low && en o) with
  | some o => some (0x80, 8, o)
  | none => match [0, 1, 2, 3].find? (fun g => gby g && decide (field (bank (0x0608 + g)) 0 28 = 0)) with
  | some g => some (0x83, 9, g)
  | none => match [0, 1, 2, 3].find? (fun g => gby g && (bank (0x0608 + g)).testBit 37 && !spEnabled (bank (0x0700 + field (bank (0x0608 + g)) 38 4))) with
  | some g => some (0x84, 9, g)
  | none => none

end Sys2Proof.Machine
end

