-- ==== Sys2Proof/Machine/Ports.lean ====
section
/-! DEFINITION. The serial audio ports: frames, exchanges, slips, rates, guns and masks (chapter 9). -/
namespace Sys2Proof.Machine

/-- Parameters of port p (R243). -/
def State.pFmt (s : State) (p : Nat) : Nat := s.dir (0x1400 + p)
def State.pClk (s : State) (p : Nat) : Nat := s.dir (0x1406 + p)
def State.pGroup (s : State) (p : Nat) : Nat := field (s.dir (0x1418 + p)) 0 3
def State.portOn (s : State) (p : Nat) : Bool := (s.pClk p).testBit 0
def State.portSync (s : State) (p : Nat) : Nat := field (s.pClk p) 1 2
def State.portRaw (s : State) (p : Nat) : Bool := (s.pClk p).testBit 3
def State.portFill (s : State) (p : Nat) : Nat := field (s.pClk p) 4 4

/-- Fields of PORT_FMT (R243): SLOTS, SW, DW, and the clock roles. -/
def fmtSlots (v : Nat) : Nat := field v 4 5 + 1
def fmtSw (v : Nat) : Nat := 16 + 8 * field v 9 2
def fmtDw (v : Nat) : Nat := match field v 11 2 with | 0 => 16 | 1 => 20 | 2 => 24 | _ => 32
def fmtBck (v : Nat) : Bool := v.testBit 2
def fmtFs (v : Nat) : Bool := v.testBit 3
/-- A master of both clocks: its frames start at tick boundaries, and it is never STOPPED or MISMATCH (R225, R226, R234). -/
def fmtFull (v : Nat) : Bool := fmtBck v && fmtFs v

/-- The exchange period in ticks, and the frames of an exchange (R229). -/
def exTicks (sync : Nat) : Nat := if sync = 1 then 2 else 1
def exFrames (sync : Nat) : Nat := if sync = 3 then 2 else 1

/-- One port, and an update of it. -/
def State.port (s : State) (p : Nat) : Port := tabGet (fun _ => {}) s.ports.port p
def Ports.mod (x : Ports) (p : Nat) (f : Port → Port) : Ports := { x with port := tabMod (fun _ => {}) x.port p f }
def State.modPort (s : State) (p : Nat) (f : Port → Port) : State := { s with ports := s.ports.mod p f }

/-- STATE of R234. -/
def State.portState (s : State) (p : Nat) : Nat :=
  if !s.portOn p || !s.awake then 0 else if s.inIdle then 1 else (s.port p).state

/-- The DW data bits of a received slot as a stream sample (R222, R223). -/
def rxSample (fmt v : Nat) : Word :=
  let dw := fmtDw fmt
  let d := if field fmt 0 2 = 2 then v % 2 ^ dw else (v >>> (fmtSw fmt - dw)) % 2 ^ dw
  BitVec.ofNat 32 (d * 2 ^ (32 - dw))

/-- A stream sample rounded to DW bits, half up, saturated, and placed in its slot (R222, R223). -/
def txBits (fmt : Nat) (w : Word) : Word :=
  let dw := fmtDw fmt
  let d := (sat dw (roundShift w.toInt (32 - dw)) % (2 : Int) ^ dw).toNat
  BitVec.ofNat 32 (if field fmt 0 2 = 2 then d else d * 2 ^ (fmtSw fmt - dw))

/-- A stream word marked SUBSTITUTED. -/
def subst (w : StreamWord) : StreamWord := { w with substituted := true }

/-- What the stream of an input slot presents (R170, R234). -/
def State.portStream (s : State) (p k : Nat) : StreamWord :=
  if decide (2 ≤ s.portState p) && (s.port p).maskIn.testBit k then (s.port p).present.getD k StreamWord.zero else StreamWord.zero

/-- The word of a slot in a received frame. -/
def Port.at_ (q : Port) (i k : Nat) : StreamWord :=
  match q.ringIn.find? (fun f => decide (f.index = i)) with
  | some f => f.samples.getD k StreamWord.zero
  | none => subst (q.present.getD k StreamWord.zero)

/-- The samples of a slot's ring up to frame i, newest first. -/
def Port.ringTo (q : Port) (i k : Nat) : List Int :=
  (q.ringIn.filter (fun f => decide (f.index ≤ i))).map (fun f => (f.samples.getD k StreamWord.zero).int)

/-- The halfband stages of R229 over what their taps span: 63 taps at 96 kHz, 51 taps at 192 kHz, samples newest first. -/
def upIn1 (phase : Nat) (h : List Int) : Int := fir (h.take 32) (Config.halfIn1 phase (h.take 32))
def downOut1 (h : List Int) : Int := fir (h.take 63) (Config.halfOut1 (h.take 63))
def downIn3 (h : List Int) : Int := fir (h.take 51) (Config.halfIn3 (h.take 51))
def upOut3 (frame : Nat) (h : List Int) : Int := fir (h.take 26) (Config.halfOut3 frame (h.take 26))

/-- The failing words of the slots found are those of frame i: each becomes the sample before it in its ring, SUBSTITUTED (R228). -/
def Port.patch (q : Port) (i : Nat) : Port :=
  let before := match q.ringIn.find? (fun f => decide (f.index + 1 = i)) with | some f => f.samples | none => []
  { q with
    badSlots := []
    ringIn := if q.badSlots.isEmpty then q.ringIn else q.ringIn.map (fun f =>
      if f.index = i then { f with samples := q.badSlots.foldl (fun l k => l.set k (subst (before.getD k StreamWord.zero))) f.samples } else f) }

/-- The converter's internal side runs at Fc / 2 for a port rate, in 1/1,024 Hz, below 12 kHz, and at Fc otherwise (R232). -/
def asrcHalf (rate : Nat) : Bool := decide (rate < 12288000)

/-- The group delay of a converter, the ring included, in whole root cycles (R232): 32 or 5 periods of the lower rate, and 20.833 µs. -/
def asrcDelay (cfg rate : Nat) : Nat :=
  (if cfg.testBit 2 then 5 else 32) * 3145728000 * 1024 / min rate (if asrcHalf rate then 49152000 else 98304000) + 65536

/-- What exchange j gives a slot (R229): at SYNC 1 in the exchange's tick `phase`. -/
def Port.input (q : Port) (sync : Nat) (raw : Bool) (j phase k : Nat) : StreamWord :=
  if sync = 3 then
    if raw then q.at_ (2 * j) k
    else
      let a := q.at_ (2 * j) k
      let b := q.at_ (2 * j + 1) k
      let y := downIn3 (q.ringTo (2 * j + 1) k)
      { b with sample := word (sat32 y), substituted := a.substituted || b.substituted, clipped := saturates 32 y }
  else if sync = 1 && !raw then
    let y := upIn1 phase (q.ringTo j k)
    { q.at_ j k with sample := word (sat32 y), clipped := saturates 32 y }
  else q.at_ j k

/-- The core sample of a tick in an output ring; before the first, zero. -/
def Port.core (q : Port) (t : Int) (k : Nat) : StreamWord :=
  match q.ringOut.find? (fun o => decide ((o.tick : Int) = t)) with
  | some o => o.samples.getD k StreamWord.zero
  | none => StreamWord.zero

/-- The core samples of a slot complete before tick t, newest first. -/
def Port.coreTo (q : Port) (t : Int) (k : Nat) : List Int :=
  (q.ringOut.filter (fun o => decide ((o.tick : Int) < t))).map (fun o => (o.samples.getD k StreamWord.zero).int)

/-- The sample that frame f carries in a slot (R229, R230): m is the boundary m_j of its exchange. -/
def Port.output (q : Port) (sync : Nat) (raw : Bool) (f : Nat) (m : Int) (k : Nat) : StreamWord :=
  if sync = 1 then
    if raw then q.core (m - 2) k else { q.core (m - 1) k with sample := word (sat32 (downOut1 (q.coreTo m k))) }
  else if sync = 3 && !raw then { q.core (m - 1) k with sample := word (sat32 (upOut3 (f % 2) (q.coreTo m k))) }
  else q.core (m - 1) k

/-- The internal samples of a slot that a converter to a port sees, newest first (R232): below 12 kHz those at Fc/2 behind the halfband. -/
def Port.asrcWindow (q : Port) (now k : Nat) : List Int :=
  if asrcHalf q.rate then
    (List.range (q.ringOut.length / 2)).map (fun i => downOut1 (q.coreTo ((now - now % 2 : Nat) - (2 * i : Nat) : Int) k))
  else q.coreTo now k

/-- The lead λ_j of an exchange at boundary b, in root cycles; one not ended has a negative lead (R230). -/
def Port.lead (q : Port) (j b : Nat) : Int :=
  match tabFind q.ends j with
  | some f => 32768 * (b : Int) - f
  | none => -1

/-- The trigger that a port has reached at exchange j, due at boundary b (R231): false SLOW, true FAST. An exchange that has not ended
reaches SLOW at b. One microsecond is 3,145.728 root cycles. -/
def State.portTrigger (s : State) (p j b : Nat) : Option Bool :=
  let l := 1000 * (s.port p).lead j b
  let e := 32768000 * (exTicks (s.portSync p) : Int)
  if (tabFind (s.port p).ends j).isNone ∧ s.clock.now < b then none
  else if l < 3145728 then some false
  else if (2 * (s.portFill p : Int) - 2) * e - 3145728 < l then some true else none

/-- Synchronous members of port p's group that run (R240). -/
def State.slipMates (s : State) (p : Nat) : List Nat :=
  (List.range 6).filter fun m =>
    s.portOn m && decide (s.portSync m ≠ 0) && decide (s.pGroup m = s.pGroup p) && (s.port m).nextP.isSome && decide ((s.port m).state ≤ 2)

/-- A group slip waits for port m's exchange j (R240). -/
def Port.owes (q : Port) (j : Nat) : Option (Nat × Bool) := q.groupSlips.find? (fun g => decide (g.1 ≤ j))

/-- Members in step with port p: they exchange with it, and judge their exchanges together (R240). -/
def State.inStep (s : State) (p : Nat) : List Nat :=
  (s.slipMates p).filter fun m =>
    decide (m = p) || (decide ((s.port m).nextP = (s.port p).nextP) && decide ((s.port m).exchange = (s.port p).exchange) &&
      !(s.port m).afterGroup && (s.port m).groupSlips.isEmpty)

/-- The slip of port p at exchange j, due at boundary b (R240, R241): FAST, and a group slip. Of members that reach opposite triggers the
lowest port decides. -/
def State.slipAt (s : State) (p j b : Nat) (alone : Bool) : Option (Bool × Bool) :=
  match (s.port p).owes j with
  | some g => some (g.2, true)
  | none =>
    if !(s.dir 0x1424).testBit (s.pGroup p) || alone then (s.portTrigger p j b).map (fun f => (f, false))
    else ((s.inStep p).findSome? (fun m => s.portTrigger m j b)).map (fun f => (f, true))
def State.portSlip (s : State) (p b : Nat) : Option (Bool × Bool) := s.slipAt p (s.port p).exchange b (s.port p).afterGroup

/-- P of exchange i as it now stands, from exchange j at boundary b on: the slips of the exchanges that have ended count (R230, R231). -/
def State.planned (s : State) (p i : Nat) : Nat → Nat → Nat → Bool → Nat
  | 0, _, b, _ => b
  | n + 1, j, b, alone =>
    let e := exTicks (s.portSync p)
    if i ≤ j then b
    else match s.slipAt p j b alone with
      | none => State.planned s p i n (j + 1) (b + e) false
      | some (false, g) => State.planned s p i n (j + 1) (b + 2 * e) g
      | some (true, g) => if i = j + 1 then b else State.planned s p i n (j + 2) (b + e) g

/-- m_j of the exchange that frame f belongs to (R230). A slip of an exchange acts in the output direction on the frames that start once
that exchange has ended: its own have been sent by then (DEDUCED, log entry 64). -/
def State.releaseAt (s : State) (p : Nat) (q : Port) (n f : Nat) : Int :=
  let e := exTicks (s.portSync p)
  let i := f / exFrames (s.portSync p)
  let b : Int := if i ≤ q.exchange then (n : Int) - ((q.exchange - i : Nat) : Int) * e
    else (s.modPort p (fun _ => q)).planned p i (i + 1 - q.exchange) q.exchange n q.afterGroup
  b - (2 * (s.portFill p : Int) - 1) * e

/-- The word that a converter gives slot k of the frame in progress (R232, R233). -/
def State.asrcOut (s : State) (q : Port) (k : Nat) : StreamWord :=
  let cfg := s.dir 0x1600
  let newest := 32768 * (if asrcHalf q.rate then s.clock.now - s.clock.now % 2 else s.clock.now)
  let pos := (q.lastStart.getD 0 : Int) - newest - asrcDelay cfg q.rate + q.asrcOfs
  { q.core ((s.clock.now : Int) - 1) k with
    sample := word (sat32 (fir (q.asrcWindow s.clock.now k) (Config.asrc (s.free + k) cfg q.rate pos (q.asrcWindow s.clock.now k))))
    unsettled := !q.asrcLocked }

/-- The internal sample that a converter gives input slot k at this boundary (R232). -/
def State.asrcIn (s : State) (p : Nat) (q : Port) (k : Nat) : Int :=
  let cfg := s.dir 0x1600
  let pos := (32768 * s.clock.now : Int) - q.lastStart.getD 0 - asrcDelay cfg q.rate - q.asrcOfs
  fir (q.ringTo q.frame k) (Config.asrc (s.free + 64 * p + k) cfg q.rate pos (q.ringTo q.frame k))

/-- The core words that the frame in progress carries by slot (R230, R232, R234); none: nothing is sent, as between a gun and P_0
(R237). -/
def State.portWords (s : State) (p : Nat) (q : Port) : Option (List StreamWord) :=
  let sync := s.portSync p
  let l := List.range (fmtSlots (s.pFmt p))
  if q.state = 4 then some (l.map (fun _ => StreamWord.zero))
  else if q.state ≠ 2 ∨ q.gunAt.isSome then none
  else if sync = 0 then some (l.map (s.asrcOut q))
  else match q.nextP with
    | some n => some (l.map (q.output sync (s.portRaw p) q.frame (s.releaseAt p q n q.frame)))
    | none => none

/-- What DO carries (R223): the enabled slots driven, the others high-impedance. -/
def State.portSend (s : State) (p : Nat) (q : Port) : Port :=
  { q with
    sent := (match s.portWords p q with
    | some l => (List.range l.length).map fun k =>
        if q.maskOut.testBit k then some (txBits (s.pFmt p) (l.getD k StreamWord.zero).sample) else none
    | none => [])
    sentSub := match s.portWords p q with | some l => l.map (fun w => w.substituted) | none => [] }

/-- SUBSTITUTED samples that a frame has sent on the slots that the mask drove (R24, R245). -/
def Port.sentSubst (q : Port) : Nat := ((List.range q.sentSub.length).filter (fun k => q.maskOut.testBit k && q.sentSub.getD k false)).length
def State.countSent (s : State) (p : Nat) : State :=
  { s with
    ports := s.ports.mod p (fun q => { q with sentSub := [] })
    log := if (s.port p).sentSubst = 0 then s.log else s.log.add (0x54 + 4 * p) (s.port p).sentSubst }

/-- A short frame, or a long one (R227). -/
def frameShort (fmt : Nat) (w : PortWire) : Bool :=
  !fmtFs fmt && (decide (w.clocks < fmtSlots fmt * fmtSw fmt) || (!w.midOk && decide (field fmt 0 2 ≠ 3)))
def frameLong (fmt : Nat) (w : PortWire) : Bool := !fmtFs fmt && decide (fmtSlots fmt * fmtSw fmt < w.clocks)

/-- The samples of a frame that ended (R223, R227): slots not completed repeat, marked SUBSTITUTED. -/
def Port.received (q : Port) (fmt : Nat) (w : PortWire) : List StreamWord :=
  let whole := if fmtFs fmt then fmtSlots fmt else min (fmtSlots fmt) (w.clocks / fmtSw fmt)
  (List.range (fmtSlots fmt)).map fun k =>
    if k < whole then
      match w.slots[k]? with
      | some v => { sample := rxSample fmt v }
      | none => subst (q.lastIn.getD k StreamWord.zero)
    else subst (q.lastIn.getD k StreamWord.zero)

/-- The input streams of a port hold the last sample of each slot, marked SUBSTITUTED (R234, R237). -/
def Port.hold (q : Port) : Port := { q with present := (List.range 32).map (fun k => subst (q.present.getD k StreamWord.zero)) }

/-- Begin to wait for frame 0 and P_0 of a gun at tick count g (R239): the frame index is reset, and the streams hold; an input mask
not yet presented waits for frame 0. -/
def Port.gun (q : Port) (g : Nat) (alone : Bool) : Port :=
  { q.hold with
    gunAt := some g
    alone := alone
    started := true
    counting := false
    frame := 0
    nextP := none
    exchange := 0
    ends := []
    end0 := none
    ringIn := []
    groupSlips := []
    afterGroup := false
    asrcHist := []
    asrcSlip := none
    asrcOfs := 0
    maskInAt := match q.maskInAt.getLast? with | some e => [(0, e.2)] | none => []
    aligned := q.aligned && !alone
    lastValid := 32768 * g
    sent := []
    sentSub := [] }

/-- The estimator of an ASRC port acquires again (R233). -/
def Port.reacquire (q : Port) : Port := { q with asrcLocked := false, acquireFrom := none }

/-- A port leaves STOPPED or MISMATCH: it restarts as a group of one (R234). -/
def Port.restart (q : Port) (now : Nat) : Port := { (q.gun (now + 1) true).reacquire with state := 2 }

/-- A frame that has ended was short or long: one frame error, in every state (R227). -/
def Port.countErr (q : Port) (bad : Bool) : Port :=
  if bad && q.lastStart.isSome then { q with frameErrs := satAdd 16 q.frameErrs 1, frameErrSticky := true } else q

/-- A frame of the port has ended at root-cycle time t (R227, R228, R230). An ASRC port that has not begun to convert counts its frames
from the first complete one (R239). -/
def Port.frameEnd (q : Port) (fmt sync t : Nat) (w : PortWire) : Port :=
  let bad := frameShort fmt w || frameLong fmt w
  let got := q.received fmt w
  let last := decide ((q.frame + 1) % exFrames sync = 0)
  let q1 := if q.counting then
      { q with
        ringIn := ({ index := q.frame, samples := got } :: q.ringIn).take 280
        ends := if last then (tabPut q.ends (q.frame / exFrames sync) t).filter (fun e => decide (q.exchange ≤ e.1)) else q.ends
        end0 := if last && decide (q.frame / exFrames sync = 0) then some t else q.end0 }
    else q
  let q2 := if decide (sync = 0) && bad && q1.gunAt.isSome then { q1 with counting := false, ringIn := [] } else q1
  { q2.countErr bad with
    lastIn := if q.lastStart.isSome then got else q.lastIn
    lastValid := if bad then q1.lastValid else max q1.lastValid t
    acquireFrom := if sync = 0 ∧ !bad ∧ q1.counting ∧ q1.acquireFrom.isNone then some (t / 32768) else q1.acquireFrom
    aligned := q1.aligned || (decide (sync = 0) && !bad && q1.counting && q1.gunAt.isSome && !q1.alone)
    state := if sync = 0 ∧ !bad ∧ q1.counting ∧ q1.state = 1 then 2 else q1.state
    gunAt := if sync = 0 ∧ !bad ∧ q1.counting then none else q1.gunAt }

/-- A frame of the port starts at root-cycle time t (R227, R239, R242): frame 0 takes a mask staged while the port was not RUNNING, on the
input side from its presentation. -/
def Port.frameStart (q : Port) (t : Nat) : Port :=
  if q.counting then { q with frame := q.frame + 1, lastStart := some t }
  else match q.gunAt with
    | some g =>
      if 32768 * g ≤ t then
        match q.staged with
        | some (i, o) => { q with frame := 0, counting := true, lastStart := some t, maskInAt := q.maskInAt ++ [(0, i)], maskOut := o, staged := none, stagedNext := false, maskFrame := 0 }
        | none => { q with frame := 0, counting := true, lastStart := some t }
      else { q with lastStart := some t }
    | none => { q with lastStart := some t }

/-- An FS edge for the rate measurement (R235). -/
def Port.edge (q : Port) (t : Nat) : Port :=
  match q.edgeFirst with
  | some _ => { q with edgeLast := some t, edgeCount := q.edgeCount + 1 }
  | none => { q with edgeFirst := some t, edgeLast := some t, edgeCount := 0 }

/-- The synchronous members that await P_0 with port p (R239): those of its group at its gun, or the port alone. -/
def State.starters (s : State) (p : Nat) : List Nat :=
  (List.range 6).filter fun m =>
    decide (m = p) || (s.portOn m && decide (s.portSync m ≠ 0) && decide (s.pGroup m = s.pGroup p) && !(s.port m).alone && !(s.port p).alone &&
      decide ((s.port m).gunAt = (s.port p).gunAt) && decide ((s.port m).state ≤ 2))

/-- P_0 of R239 once exchange 0 of every member has ended. -/
def State.firstP (s : State) (p : Nat) : Option Nat :=
  (s.starters p).foldl (fun r m => match r, (s.port m).end0 with
    | some b, some f => some (max b (ceilDiv (f + (2 * s.portFill m - 3) * exTicks (s.portSync m) * 16384) 32768))
    | _, _ => none) (some 0)

/-- Set P_0 of port p's gun when it is known (R239). -/
def State.settleStart (s : State) (p : Nat) : State :=
  if s.portSync p ≠ 0 ∧ (s.port p).gunAt.isSome ∧ (s.port p).nextP.isNone then
    match s.firstP p with
    | some b => { s with ports := (s.starters p).foldl (fun x m => x.mod m (fun q => { q with nextP := some b, exchange := 0 })) s.ports }
    | none => s
  else s

/-- PORT_FRAME_START (R225, R227, R234, R235). -/
def execPortFrameStart (p : Fin 6) (frame : PortWire) (s : State) : Host.Outcome State Fault Refusal :=
  let fmt := s.pFmt p.val
  let t := 32768 * s.clock.now + (if fmtFull fmt then 0 else frame.at_.val)
  let q := if fmtBck fmt then s.port p.val else (s.port p.val).edge t
  let bad := frameShort fmt frame || frameLong fmt frame
  let q1 := (q.frameEnd fmt (s.portSync p.val) t frame).frameStart t
  let q2 := if q1.state = 3 ∧ !bad ∧ q1.lastStart.isSome then q1.restart s.clock.now else q1
  let s1 := (s.countSent p.val).modPort p.val (fun _ => s.portSend p.val q2)
  .next (
    if !s.portOn p.val || !s.awake then s
    else if s.inIdle then s.modPort p.val (fun _ => { q.countErr bad with lastStart := some t })
    else { s1.settleStart p.val with free := s.free + 32 })

/-- The mask in force once exchange j is presented (R242). -/
def Port.presentMask (q : Port) (sync j : Nat) : Port :=
  let due := q.maskInAt.filter (fun e => decide (e.1 / exFrames sync ≤ j))
  { q with
    maskIn := match due.getLast? with | some e => e.2 | none => q.maskIn
    maskInAt := q.maskInAt.filter (fun e => !decide (e.1 / exFrames sync ≤ j)) }

/-- Present exchange j (R228, R230): a ring word of it that fails parity is replaced first. -/
def Port.presentEx (q0 : Port) (sync : Nat) (raw again : Bool) (slots j : Nat) : Port :=
  let q := q0.patch (exFrames sync * j)
  let l := (List.range slots).map fun k => if again then subst (q.input sync raw j 0 k) else q.input sync raw j 0 k
  { q.presentMask sync j with present := l }

/-- The status of a slip at exchange j (R231, R241, R245). -/
def Port.slipped (q : Port) (sync j : Nat) (fast group : Bool) : Port :=
  { q with
    slips := satAdd 16 q.slips 1
    slipSticky := true
    lastFast := fast
    lastGroup := group
    lastSlipFrame := exFrames sync * j % 2 ^ 32
    aligned := q.aligned && group
    afterGroup := group
    groupSlips := q.groupSlips.filter (fun g => !decide (g.1 ≤ j)) }

/-- Exchange the samples due at boundary b (R230, R231). -/
def Port.exchangeAt (q : Port) (sync : Nat) (raw : Bool) (slots b : Nat) (slip : Option (Bool × Bool)) : Port :=
  let j := q.exchange
  let q0 := { q with nextP := some (b + exTicks sync), gunAt := none, state := 2, aligned := q.aligned || (q.gunAt.isSome && !q.alone) }
  match slip with
  | some (true, g) => { (q0.slipped sync j true g).presentEx sync raw false slots (j + 1) with exchange := j + 2 }
  | some (false, g) => (q0.slipped sync j false g).presentEx sync raw true slots (j - 1)
  | none => { q0.presentEx sync raw false slots j with exchange := j + 1, afterGroup := false }

/-- The exchange of port p that is due (R230, R231, R240): a group slip at exchange j waits for each other member's own exchange j. -/
def State.portExchange (s : State) (p : Nat) : State :=
  match (s.port p).nextP with
  | none => s
  | some b =>
    if s.clock.now < b then s
    else
      let slip := s.portSlip p b
      let j := (s.port p).exchange
      let mates := match slip, (s.port p).owes j with
        | some (f, true), none => (s.slipMates p).map (fun m => (m, f))
        | _, _ => []
      let marked := mates.foldl (fun x (e : Nat × Bool) => x.mod e.1 (fun q =>
        if decide (q.exchange ≤ j) && q.groupSlips.all (fun g => decide (g.1 ≠ j)) then { q with groupSlips := q.groupSlips ++ [(j, e.2)] } else q)) s.ports
      { s with
        ports := marked.mod p (fun q => q.exchangeAt (s.portSync p) (s.portRaw p) (fmtSlots (s.pFmt p)) b slip)
        log := if slip.isSome then s.log.add (0x3C + 4 * p) 1 else s.log
        bus := if slip.isSome then s.bus.raise s.inbandMask 6 else s.bus }

/-- An exchange of port p is due. -/
def State.exchangeDue (s : State) (p : Nat) : Bool :=
  s.inRun && s.portOn p && decide (s.portSync p ≠ 0) && decide ((s.port p).state ≤ 2) &&
    (match (s.port p).nextP with | some b => decide (b ≤ s.clock.now) | none => false)

/-- What a converter gives the input streams at this boundary (R228, R231-R233): UNSETTLED before the lock; every slot at a SLOW slip
repeats, marked SUBSTITUTED. -/
def Port.asrcOpen (q0 : Port) (s : State) (p : Nat) : Port :=
  let q := q0.patch (q0.frame - 1)
  let slots := List.range (fmtSlots (s.pFmt p))
  let new := slots.map (s.asrcIn p q)
  let hist := if !asrcHalf q.rate then [] else if s.clock.now % 2 = 0 then (new :: q.asrcHist).take 32 else q.asrcHist
  let value := fun k => if asrcHalf q.rate then upIn1 (s.clock.now % 2) (hist.map (fun l => l.getD k 0)) else new.getD k 0
  { q.presentMask 0 (q.frame - 1) with
    asrcHist := hist
    asrcSlip := none
    present := slots.map fun k =>
      if q.asrcSlip = some false then subst (q.present.getD k StreamWord.zero)
      else { q.at_ (q.frame - 1) k with sample := word (sat32 (value k)), unsettled := !q.asrcLocked } }

/-- What a tick brings the ports beside exchanges: the second sample of an exchange at SYNC 1, and the ASRC samples, UNSETTLED
before the lock (R229, R232, R233). -/
def State.portsOpen (s : State) : State :=
  { s with
    ports := (List.range 6).foldl (fun x p => x.mod p (fun q =>
      let sync := s.portSync p
      let slots := List.range (fmtSlots (s.pFmt p))
      if !s.inRun || q.state ≠ 2 || q.gunAt.isSome then q
      else if sync = 1 && !s.portRaw p && decide (q.nextP = some (s.clock.now + 1)) then
        { q with present := slots.map fun k => { q.present.getD k StreamWord.zero with sample := (q.input 1 false (q.exchange - 1) 1 k).sample } }
      else if sync = 0 && !q.ringIn.isEmpty then q.asrcOpen s p
      else q)) s.ports
    free := s.free + 512 }

/-- The core samples released at a boundary enter the output rings (R228, R230): tick n's. -/
def State.portsFeed (s : State) (sinks : Nat → StreamWord) : Ports :=
  (List.range 6).foldl (fun x p => x.mod p (fun q =>
    if !s.inRun || !s.portOn p then q
    else { q with ringOut := ({ tick := s.clock.now,
                                samples := (List.range (fmtSlots (s.pFmt p))).map (fun k => sinks (portOutStream p k)) } :: q.ringOut).take 900 })) s.ports

/-- PORT_STOPPED (R226, R234): no valid frame for 256 ticks. The members of its group that have waited for it start with frame 0 at the next
boundary, as at a gun (DESIGN CHOICE, log entry 64: R239 gives no P_0 for a group with a silent member). -/
def execPortStopped (p : Fin 6) (s : State) : Host.Outcome State Fault Refusal :=
  let q := s.port p.val
  let due := s.inRun && s.portOn p.val && q.started && !fmtFull (s.pFmt p.val) && decide (q.state ≠ 3) &&
    decide (q.lastValid + 32768 * 256 ≤ 32768 * s.clock.now)
  let s1 := (s.countSent p.val).modPort p.val (fun q =>
    { q.hold with state := 3, nextP := none, gunAt := none, counting := false, sent := [] })
  let waits := decide (s.portSync p.val ≠ 0) && q.gunAt.isSome && q.nextP.isNone
  .next (if !due then s
    else if waits then (s.starters p.val).foldl (fun s m => if m = p.val then s else s.modPort m (fun q => q.gun (s.clock.now + 1) false)) s1
    else s1)

/-- The nominal frame rate of a class in Hz (R235). -/
def classRate : Nat → Nat
  | 2 => 8000 | 3 => 11025 | 4 => 12000 | 5 => 16000 | 6 => 22050 | 7 => 24000 | 8 => 32000 | 9 => 44100 | 10 => 48000
  | 11 => 64000 | 12 => 88200 | 13 => 96000 | 14 => 128000 | 15 => 176400 | 16 => 192000 | 17 => 352800 | 18 => 384000 | _ => 0

/-- The rate lies within n ppm of a class's nominal rate; RATE is in 1/1,024 Hz. -/
def nearClass (rate c n : Nat) : Bool :=
  decide (2 ≤ c) && decide ((((rate : Int) - 1024 * classRate c).natAbs) * 1000000 ≤ n * 1024 * classRate c)

/-- The class of a rate, from the class before (R235). -/
def classOf (rate old : Nat) : Nat :=
  if nearClass rate old 1500 then old
  else match ((List.range 17).map (· + 2)).find? (fun c => nearClass rate c 1000) with
    | some c => c
    | none => 1

/-- The class that a synchronous port is to have, 48, 96 or 192 kHz (R229, R234). -/
def syncClass (sync : Nat) : Nat := if sync = 1 then 10 else if sync = 2 then 13 else 16

/-- The measured rate is not one that the port can carry (R234). -/
def State.mismatched (s : State) (p rate cls : Nat) : Bool :=
  !fmtBck (s.pFmt p) &&
  (if s.portSync p = 0 then decide (rate < 8000 * 1024 ∨ 384000 * 1024 < rate) else decide (cls ≠ syncClass (s.portSync p)))

/-- The RATE, CLASS and DEV of a report (R235): a port that drives BCK reads its nominal rate; with no class there is no nominal
rate, and DEV is a free value. -/
def State.rateOf (s : State) (p : Nat) (q : Port) : Nat × Nat × Int :=
  if fmtBck (s.pFmt p) then (1024 * classRate (syncClass (s.portSync p)), syncClass (s.portSync p), 0)
  else
    let stopped := match q.lastStart with | some t => decide (t + 32768 * 256 ≤ 32768 * s.clock.now) | none => true
    if stopped then (0, 0, sat 16 (Config.freeInt s.free))
    else
      let rate := match q.edgeFirst, q.edgeLast with
        | some a, some b => if a < b then (looseQuot s.free (q.edgeCount * 3145728000 * 1024 : Nat) (b - a)).toNat else q.rate
        | _, _ => q.rate
      let c := classOf rate q.cls
      (rate, c, if 2 ≤ c then max (-32767) (min 32767 (looseQuot (s.free + 1) (((rate : Int) - 1024 * classRate c) * 1000000) (1024 * classRate c)))
                else sat 16 (Config.freeInt s.free))

/-- Rate attention is due (R236). -/
def State.rateAttn (s : State) (p : Nat) (q : Port) (cls : Nat) (dev : Int) : Bool :=
  let mon := s.dir (0x141E + p)
  (mon.testBit 16 && decide (cls ≠ q.cls)) ||
    (decide (field mon 0 16 ≠ 0) && decide (2 ≤ cls) && decide (field mon 0 16 < (dev - q.attnDev).natAbs))

/-- A slip of an ASRC ring (R231, R233): always alone; the converter moves by one frame. -/
def Port.asrcSlipped (q : Port) (j : Nat) (fast : Bool) : Port :=
  let period : Int := (3145728000 * 1024 / q.rate : Nat)
  { q.slipped 0 j fast false with asrcSlip := some fast, asrcOfs := q.asrcOfs + (if fast then -period else period) }

/-- A port at a rate report (R233-R236). -/
def State.portReport (s : State) (p : Nat) (q : Port) : Port :=
  let r := s.rateOf p q
  let jump := decide (q.rate ≠ 0) && decide (1000 * q.rate < ((r.1 : Int) - q.rate).natAbs * 1000000)
  let q1 := { q with
    rate := r.1
    cls := r.2.1
    dev := r.2.2
    attnDev := if s.rateAttn p q r.2.1 r.2.2 then r.2.2 else q.attnDev
    edgeFirst := if r.2.1 = 0 then none else q.edgeLast
    edgeCount := 0 }
  let q2 := if s.portSync p = 0 ∧ (jump ∨ r.2.1 ≠ q.cls) then q1.reacquire else q1
  let q3 := if s.portSync p = 0 ∧ jump ∧ q.state = 2 ∧ (Config.asrcSlip s.free = 1 ∨ Config.asrcSlip s.free = 2) then
      q2.asrcSlipped (q.frame) (decide (Config.asrcSlip s.free = 2)) else q2
  let bad := s.mismatched p r.1 r.2.1
  if !s.inRun || !q.started || r.2.1 = 0 then q3
  else if q.state = 4 then (if bad then q3 else q3.restart s.clock.now)
  else if q.state = 3 then q3
  else if bad then
    { q3.hold with
      state := 4
      nextP := none
      gunAt := none
      counting := false
      sent := (List.range (fmtSlots (s.pFmt p))).map (fun k => if q3.maskOut.testBit k then some 0 else none) }
  else q3

/-- RATE_REPORT (R235, R236): at each tick boundary where TICK is a multiple of 9,600, in Idle and Run. -/
def execRateReport (s : State) : Host.Outcome State Fault Refusal :=
  let on := (List.range 6).filter s.portOn
  let attn := on.any (fun p => s.rateAttn p (s.port p) (s.rateOf p (s.port p)).2.1 (s.rateOf p (s.port p)).2.2)
  let slips := on.filter (fun p => decide ((s.portReport p (s.port p)).slips ≠ (s.port p).slips))
  let b1 := if attn then s.bus.raise s.inbandMask 5 else s.bus
  .next (
    if s.awake && decide (s.tickNat % 9600 = 0) then
      { s with
        ports := on.foldl (fun x p => x.mod p (s.portReport p)) s.ports
        bus := if slips.isEmpty then b1 else b1.raise s.inbandMask 6
        log := slips.foldl (fun l p => l.add (0x3C + 4 * p) 1) s.log
        free := s.free + 2 }
    else s)

/-- ASRC_LOCK (R233). -/
def execAsrcLock (p : Fin 6) (s : State) : Host.Outcome State Fault Refusal :=
  .next (s.modPort p.val fun q => { q with asrcLocked := q.asrcLocked || (decide (s.portSync p.val = 0) && q.acquireFrom.isSome) })

/-- A gun reaches port p at this boundary (R237, R239): a port at a wrong rate goes to MISMATCH. -/
def State.gunPort (s : State) (p : Nat) (q : Port) : Port :=
  let g := q.gun s.clock.now false
  if !s.portOn p then q
  else if 0 < q.cls ∧ s.mismatched p q.rate q.cls then { g with state := 4, gunAt := none }
  else if q.state = 3 then { g with gunAt := none } else { g with state := max 1 q.state }

/-- The starting gun for a mask of groups (R237, R239). -/
def State.gun (s : State) (mask : Nat) : Ports :=
  (List.range 6).foldl (fun x p => if mask.testBit (s.pGroup p) then x.mod p (s.gunPort p) else x) s.ports

/-- Guns whose tick has come: those of START_GROUP and START_N, and system guns (R237, R238, R274). -/
def State.gunsDue (s : State) : Nat :=
  (s.ports.guns.filter (fun g => decide (g.2.1 ≤ s.tickNat))).foldl (fun m g => m ||| g.1) 0 |||
  (s.link.guns.filter (fun g => decide (g.tick ≤ s.tickNat))).foldl (fun m g => m ||| g.mask) 0

/-- Fire the guns that are due (R239): a frame cut at the gun is counted as far as it was sent. -/
def State.gunFire (s0 : State) : State :=
  let s := (List.range 6).foldl (fun (s : State) p => if s0.inRun && s0.gunsDue.testBit (s0.pGroup p) then s.countSent p else s) s0
  { s with
    ports := { (if s.inRun then s.gun s.gunsDue else s.ports) with guns := s.ports.guns.filter (fun g => !decide (g.2.1 ≤ s.tickNat)) }
    link := { s.link with guns := s.link.guns.filter (fun g => !decide (g.tick ≤ s.tickNat)) } }

/-- A port as it enters Run (R234): WAITING. -/
def Port.enterRun (q : Port) : Port :=
  { q with
    state := 1
    started := false
    aligned := false
    gunAt := none
    alone := false
    counting := false
    frame := 0
    ringIn := []
    ringOut := []
    lastIn := []
    ends := []
    end0 := none
    nextP := none
    exchange := 0
    present := []
    sent := []
    sentSub := []
    bckOut := false
    fsOut := false
    maskIn := match q.maskInAt.getLast? with | some e => e.2 | none => q.maskIn
    maskInAt := []
    badSlots := []
    asrcHist := []
    asrcSlip := none
    asrcOfs := 0
    groupSlips := []
    afterGroup := false
    asrcLocked := false
    acquireFrom := none }

/-- The ports at the ARM tick (R225, R237): an enabled port drives the clocks of its roles, and ports with AUTO_START start as if a gun had
fired. -/
def State.portsArm (s : State) : State :=
  { s with ports := (List.range 6).foldl (fun x p => x.mod p (fun q =>
      let w := { q.enterRun with bckOut := s.portOn p && fmtBck (s.pFmt p), fsOut := s.portOn p && fmtFs (s.pFmt p) }
      if (s.dir (0x1418 + p)).testBit 3 then s.gunPort p w else w)) s.ports }

/-- The ports as the device leaves Run (R225): no port drives, and guns not fired lapse; the falling edges that a pin-fired gun shuts out
(R238) stay so. -/
def State.portsLeave (s0 : State) : State :=
  let s := (List.range 6).foldl State.countSent s0
  { s with ports := { (List.range 6).foldl (fun x p => x.mod p (fun q => { q.enterRun with state := 0 })) s.ports with guns := [], lastPinGun := s.ports.lastPinGun.filter (fun t => decide (t ≤ s.clock.now)) } }

/-- A write of a mask of port p (R242): staged; written again before it takes effect, it replaces. -/
def State.portMaskWritten (s : State) (p : Nat) : State :=
  s.modPort p fun q => { q with
    staged := some (s.dir (0x140C + p), s.dir (0x1412 + p))
    stagedAt := max (32768 * s.clock.now) (match q.lastStart with | some t => t | none => 0)
    stagedNext := !s.inRun || decide (q.state ≠ 2) }

/-- Two bit clocks of port p in root cycles, rounded up (R242). -/
def State.twoBits (s : State) (p : Nat) : Nat :=
  let bits := fmtSlots (s.pFmt p) * fmtSw (s.pFmt p)
  match s.portSync p with
  | 0 => if (s.port p).rate = 0 then 0 else ceilDiv (2 * 3145728000 * 1024) ((s.port p).rate * bits)
  | k => ceilDiv (65536 * exTicks k) (exFrames k * bits)

/-- MASK_TAKE_EFFECT (R242): at the first frame start at least two bit clocks after the write, from which frame F the masks act. -/
def execMaskTakeEffect (p : Fin 6) (s : State) : Host.Outcome State Fault Refusal :=
  let q := s.port p.val
  let due := s.inRun && decide (q.state = 2) && q.counting && !q.stagedNext &&
    (match q.lastStart with | some t => decide (q.stagedAt + s.twoBits p.val ≤ t ∧ q.stagedAt < t) | none => false)
  .next (match q.staged with
    | some (i, o) =>
      if due then s.modPort p.val (fun q =>
        s.portSend p.val { q with staged := none, maskOut := o, maskFrame := q.frame, maskInAt := q.maskInAt ++ [(q.frame, i)] })
      else s
    | none => s)

/-- The rate measurement of a port begins anew where its FS was not timestamped (R235): PORT_CLK is written with ENABLE 0, or the device
slept. -/
def Port.unmeasured (q : Port) : Port := { q with edgeFirst := none, edgeLast := none, edgeCount := 0 }
def State.portClkWritten (s : State) (p : Nat) : State := if s.portOn p then s else s.modPort p Port.unmeasured
def State.portsUnmeasured (s : State) : State := (List.range 6).foldl (fun s p => s.modPort p Port.unmeasured) s

/-- Status words of the ports (R245). -/
def State.portWordsOf (s : State) (p : Nat) : List Nat :=
  let q := s.port p
  [q.rate,
   (q.dev % 65536).toNat + 2 ^ 16 * q.cls + 2 ^ 21 * s.portState p + 2 ^ 24 * b2n q.aligned + 2 ^ 25 * b2n q.asrcLocked +
     2 ^ 26 * b2n q.staged.isSome + 2 ^ 27 * b2n q.slipSticky + 2 ^ 28 * b2n q.frameErrSticky + 2 ^ 29 * b2n q.lastFast + 2 ^ 30 * b2n q.lastGroup,
   q.frame % 2 ^ 32, q.maskFrame % 2 ^ 32, q.slips + 65536 * q.frameErrs, q.lastSlipFrame]
def State.portStatus (s : State) : List Nat := (List.range 6).flatMap s.portWordsOf

/-- STICKY_CLEAR of the port group (R245). -/
def State.clearPorts (s : State) : State :=
  { s with ports := (List.range 6).foldl (fun x p => x.mod p (fun q =>
      { q with slipSticky := false, frameErrSticky := false, slips := 0, frameErrs := 0 })) s.ports }

/-- A mask value has no bit at or above SLOTS (R243). -/
def maskFits (bank : Nat → Nat) (p v : Nat) : Bool := decide (v < 2 ^ fmtSlots (bank (0x1400 + p)))

/-- The rate of a synchronous port in Hz. -/
def syncRate (sync : Nat) : Nat := classRate (syncClass sync)

/-- One port against the rules of R244: its code. -/
def checkPort (bank : Nat → Nat) (p : Nat) : Option Nat :=
  let f := bank (0x1400 + p)
  let sync := field (bank (0x1406 + p)) 1 2
  let bits := fmtSlots f * fmtSw f
  let pow2 := [32, 64, 128, 256, 512, 1024].contains bits
  if (decide (field f 0 2 ≠ 3) && decide (fmtSlots f % 2 = 1)) || decide (fmtSw f < fmtDw f) ||
     (decide (field f 0 2 ≠ 3) && decide (field f 15 3 ≠ 0)) then some 0x61
  else if (bank (0x1406 + p)).testBit 3 && decide (sync = 0 ∨ sync = 2) then some 0x65
  else if fmtBck f && (decide (sync = 0) || !pow2 || decide (49152000 < syncRate sync * bits)) then some 0x62
  else if !fmtBck f && decide (sync ≠ 0) && decide (49152000 < syncRate sync * bits) then some 0x63
  else none

/-- The port part of the check (R244): the code, KIND and INDEX; the second pass is over enabled ports. -/
def checkPorts (bank : Nat → Nat) : Option (Nat × Nat × Nat) :=
  let on := (List.range 6).filter (fun p => (bank (0x1406 + p)).testBit 0)
  let sync := fun p => field (bank (0x1406 + p)) 1 2
  let grp := fun p => field (bank (0x1418 + p)) 0 3
  let fieldBad := fun id =>
    if 0x140C ≤ id ∧ id < 0x1418 then (if maskFits bank ((id - 0x140C) % 6) (bank id) then none else some 0x66)
    else if paramFieldsOk id (bank id) then none else some 0x61
  match ((List.range 37).map (· + 0x1400) ++ [0x1600]).findSome? (fun id => (fieldBad id).map (fun c => (c, 1, id))) with
  | some r => some r
  | none => match on.findSome? (fun p => (checkPort bank p).map (fun c => (c, 10, p))) with
  | some r => some r
  | none => match (List.range 8).find? (fun g => (bank 0x1424).testBit g &&
      on.any (fun a => on.any (fun b => decide (grp a = g ∧ grp b = g) && decide (sync a ≠ 0 ∧ sync b ≠ 0) && decide (sync a ≠ sync b)))) with
  | some g => some (0x64, 11, g)
  | none =>
    let pool := (on.filter (fun p => decide (sync p = 0)))
    let total := fun (l : List Nat) => (l.map (fun p => fmtSlots (bank (0x1400 + p)))).foldl (· + ·) 0
    match pool.find? (fun p => decide (128 < total (pool.filter (fun m => decide (m ≤ p))))) with
    | some p => some (0x60, 10, p)
    | none => none

end Sys2Proof.Machine
end

