-- ==== Sys2Proof/Machine/Link.lean ====
section
/-! DEFINITION. Muythlink: link-up, frames, slots, alignment, topology, breaks and healing (chapter 10). -/
namespace Sys2Proof.Machine

/-- Ticks are 524,288 units of 1/16 root period. -/
def linkTick : Nat := 524288

/-- Fields of LINK_CFG (R275). -/
def State.linkOn (s : State) (x : Nat) : Bool := (s.dir 0x1700).testBit x && s.awake
def State.pacePrio (s : State) : Nat := field (s.dir 0x1700) 2 8
def State.revMax (s : State) : Nat := field (s.dir 0x1700) 10 2

/-- Update a LINK port of the state. -/
def State.modLink (s : State) (x : Nat) (f : LinkPort → LinkPort) : State := { s with link := s.link.modPort x f }

/-- An entry of a slot image (R261): TX[i] at 2i, RX[i] at 0x400 + 2i. -/
def slotEntry (img : Tab Byte) (ofs : Nat) : Nat :=
  (tabGet (fun _ => (0 : Byte)) img ofs).toNat + 256 * (tabGet (fun _ => (0 : Byte)) img (ofs + 1)).toNat
def txEntry (img : Tab Byte) (i : Nat) : Nat := slotEntry img (2 * i)
def rxEntry (img : Tab Byte) (i : Nat) : Nat := slotEntry img (0x400 + 2 * i)
def eSlot (v : Nat) : Nat := field v 0 9
def eDir (v : Nat) : Nat := field v 9 2
def eOn (v : Nat) : Bool := v.testBit 11
/-- OWNED of a TX entry, CONSUME of an RX entry. -/
def eFlag (v : Nat) : Bool := v.testBit 12
/-- The entry works in direction d: 0 A→B, 1 B→A; DIR 2 is both. -/
def eUses (v d : Nat) : Bool := eOn v && decide (eDir v = d ∨ eDir v = 2)

/-- The changes of L that stand by receive sample n, L in force for it, and whether it repeats: L grew within so many ticks (R264). -/
def Link.lDue (l : Link) (n : Nat) : List (Nat × Nat) := l.lNext.filter (fun e => decide (e.1 ≤ n))
def State.linkL (s : State) (n : Nat) : Nat := match (s.link.lDue n).getLast? with | some e => e.2 | none => s.link.l
def repeatsAt (n : Nat) : Nat → List (Nat × Nat) → Bool
  | _, [] => false
  | l, e :: r => decide (n < e.1 + (e.2 - l)) || repeatsAt n e.2 r
def State.linkRepeats (s : State) (n : Nat) : Bool :=
  repeatsAt n s.link.l (s.link.lDue n) ||
    (match s.link.lOld with | some (t, l) => decide (t ≤ n) && decide (n < t + (s.link.l - l)) | none => false)

/-- A change of L is to come at TICK t: one named for the same TICK before is replaced (R264). -/
def Link.lAhead (l : Link) (t v : Nat) : Link :=
  { l with lNext := l.lNext.filter (fun e => decide (e.1 < t)) ++ (t, v) :: l.lNext.filter (fun e => decide (t < e.1)) }

/-- The slot image that serves frame m, and the one that serves receive sample n (R265). -/
def State.txImage (s : State) (m : Nat) : Tab Byte :=
  match s.link.rxOld.find? (fun o => decide (m < o.1)) with | some o => o.2 | none => s.cfg.linkActive
def State.rxImage (s : State) (n : Nat) : Tab Byte :=
  match s.link.rxOld.find? (fun o => decide (n < o.1 + s.linkL n)) with | some o => o.2 | none => s.cfg.linkActive

/-- The link part of a bank swap (R265): `old` is the image that was active. -/
def State.linkSwapped (s : State) (old : Tab Byte) : State :=
  if old = s.cfg.linkActive then s
  else { s with link := { s.link with rxOld := (s.link.rxOld.filter (fun o => decide (s.tickNat < o.1 + 128))) ++ [(s.tickNat, old)] } }

/-- What a TX entry sends in frame m (R262). -/
def State.txSample (s : State) (m i : Nat) : StreamWord :=
  match s.link.txHist.find? (fun e => decide (e.1 = m)) with
  | some e => tabGet (fun _ => StreamWord.zero) e.2 i
  | none => StreamWord.zero

/-- Slots, crossed slots and collisions after the TX entries of direction d were placed in frame m (R262, R268): `owned` says that
only OWNED entries may place, for a hop of revision 1. -/
def State.placeSlots (s : State) (m d : Nat) (owned : Bool) (slots : Tab StreamWord) (cross : List Nat) : Tab StreamWord × List Nat × Nat :=
  let img := s.txImage m
  (List.range 512).foldl (fun r i =>
    let v := txEntry img i
    if !eUses v d then r
    else if eFlag v then (tabPut r.1 (eSlot v) (s.txSample m i), r.2.1.filter (fun k => decide (k ≠ eSlot v)), r.2.2)
    else if (tabFind r.1 (eSlot v)).isSome then (r.1, r.2.1, r.2.2 + 1)
    else if owned then r
    else (tabPut r.1 (eSlot v) (s.txSample m i), r.2.1.filter (fun k => decide (k ≠ eSlot v)), r.2.2)) (slots, cross, 0)

/-- Slots that the RX entries of direction d free as frame m passes (R263). -/
def State.consumed (s : State) (m d : Nat) : List Nat :=
  let img := s.rxImage (m + s.link.l)
  ((List.range 512).map (rxEntry img)).filterMap (fun v => if eUses v d && eFlag v then some (eSlot v) else none)

/-- When a topology entry came last (R253). -/
def TopoEntry.seen (e : TopoEntry) : Nat := max (e.atA.getD 0) (e.atB.getD 0)

/-- The table's devices of this device's own segment: those of its system that come by an UP port (R266, R267). -/
def Link.peers (l : Link) : List TopoEntry :=
  l.topo.filter (fun e => decide (e.ann.identity = l.identity) && ((e.atA.isSome && decide (l.a.state = 5)) || (e.atB.isSome && decide (l.b.state = 5))))

/-- The port toward the pacesetter in a chain, as the table has it (R257). -/
def Link.paceSide (l : Link) : Option Nat :=
  (l.topo.find? (fun e => decide (e.ann.id.val = l.pace))).bind (fun e => if (l.port e.port).state = 5 then some e.port else none)

/-- The upstream port (R257): in a chain the one toward the pacesetter, in a ring the one whose partner reports the lower HOPS. And HOPS of this
device (R251): 0 at the pacesetter, one more than the upstream partner's, or unknown. -/
def Link.upstream (l : Link) : Option Nat :=
  if l.isPace then none
  else if !l.ring && l.paceSide.isSome then l.paceSide
  else if l.a.state = 5 ∧ (l.b.state ≠ 5 ∨ l.a.hops ≤ l.b.hops) then some 0
  else if l.b.state = 5 then some 1 else none
def Link.hops (l : Link) : Nat :=
  if l.isPace then 0 else match l.upstream with
    | some x => if (l.port x).hops < 2046 then (l.port x).hops + 1 else 2047
    | none => 2047

/-- The port whose far end this device aligns to (R260, R266): one over which it joins, or its upstream port. -/
def Link.target (l : Link) : Option Nat :=
  if l.a.state = 4 ∧ l.a.joins then some 0 else if l.b.state = 4 ∧ l.b.joins then some 1 else l.upstream

/-- The gun fields of a frame sent with label m (R274): this device's own gun, unless the frame carries one of a lower source. -/
def State.gunFields (s : State) (m : Nat) (f : LinkFrame) : LinkFrame :=
  match s.link.guns.find? (fun g => decide (g.src = s.devId)) with
  | some g =>
    if m < g.tick ∧ g.tick ≤ m + 255 ∧ (f.gunMask.val = 0 ∨ s.devId ≤ f.gunSrc.val) then
      { f with gunMask := Fin.ofNat 256 g.mask, gunDelta := Fin.ofNat 256 (g.tick - m), gunSrc := Fin.ofNat 1024 g.src }
    else f
  | none => f

/-- The cells of a frame leaving port y (R272): one waiting cell into a free place. -/
def LinkPort.putCell (p : LinkPort) (cells : List LinkCell) : List LinkCell × List LinkCell :=
  let full := cells.filter (fun c => c.full)
  match p.outbox with
  | c :: t => if full.length < 4 then (full ++ [c], t) else (full, p.outbox)
  | [] => (full, [])

/-- What a hop agreed at revision 1 carries (R268): every VALID 1, CROSSED and HEAL 0. -/
def asRevision1 (f : LinkFrame) : LinkFrame :=
  { f with heal := false, crossed := [], slots := (List.range 512).map (fun k => (k, (tabFind f.slots k).getD StreamWord.zero)) }

/-- Send a frame from port y at time t of the root counter (R251, R266, R268, R272). -/
def State.sendFrame (s : State) (y t : Nat) (f : LinkFrame) : State :=
  let p := s.link.port y
  let up := decide (p.state = 5)
  let c := if 3 ≤ p.state then p.putCell f.cells else ((f.cells.filter (fun c => c.hopLocal)), p.outbox)
  let g := { (s.gunFields f.label.toNat f) with
    sender := Fin.ofNat 1024 s.devId
    sendPort := Fin.ofNat 2 y
    hops := Fin.ofNat 2048 s.link.hops
    revMax := Fin.ofNat 16 s.revMax
    tTx := BitVec.ofNat 32 t
    echoTx := BitVec.ofNat 32 p.echoTx
    echoRx := BitVec.ofNat 32 p.echoRx
    slots := if up then f.slots else []
    crossed := if up then f.crossed else []
    cells := c.1 }
  s.modLink y (fun p => { p with sent := some (if p.rev = 1 then asRevision1 g else g), outbox := c.2 })

/-- Count a frame error on a port (R248, R249). -/
def LinkPort.err (p : LinkPort) (n : Nat) : LinkPort := { p with frameErrs := satAdd 16 p.frameErrs n, frameErrSticky := true }

/-- SKEW_TRIM in ps. -/
def State.skew (s : State) (x : Nat) : Int := sfield (s.dir (0x1702 + x)) 16 16

/-- The reported hop delay in 0.01 ns: the mean of the measurements (R259), from twice the delays in 1/16 root periods. -/
def hopDelayOf (free : Nat) (skew : Int) (l : List Int) : Nat :=
  if l.isEmpty then 0
  else (looseQuot free (l.foldl (· + ·) 0 * 10 ^ 12 + skew * l.length * 50331648000) (20 * l.length * 50331648000)).toNat

/-- The mark of a frame (R248): marks in sequence on the way to frame lock; a lost or misplaced frame of a locked port is an error. -/
def LinkPort.mark (p : LinkPort) (f : LinkFrame) : LinkPort :=
  if f.markOk then
    let n := f.label.toNat % 16
    { p with markLabel := some n, lostRun := 0, markRun := if p.markLabel = some ((n + 15) % 16) then min 8 (p.markRun + 1) else 1 }
  else
    let q := { p with markLabel := none, markRun := 0, lostRun := min 2 (p.lostRun + 1) }
    if p.locked then q.err 1 else q

/-- The timing of a frame received at port x at time t (R251, R259), with its L and K (R250). -/
def LinkPort.timing (p : LinkPort) (free : Nat) (skew : Int) (f : LinkFrame) (t s : Nat) : LinkPort :=
  let d := signed (((t : Int) - f.echoTx.toNat - (f.tTx.toNat - f.echoRx.toNat)) % 2 ^ 32).toNat 32
  let ds := (d :: p.delays).take 64
  { p with
    delays := ds
    hopDelay := hopDelayOf free skew ds % 2 ^ 20
    echoTx := f.tTx.toNat
    echoRx := t % 2 ^ 32
    hops := f.hops.val
    sysL := if f.good then f.l.val else p.sysL
    sysK := if f.good then f.k.val else p.sysK
    from_ := if f.good then f.origin.val else p.from_
    arrivals := if f.good then (s :: p.arrivals).take 64 else p.arrivals }

/-- The boundary error against the partner in 10 ps (R260), positive where this device's root is ahead: its phase at the arrival, less the
partner's phase when the mark left and the hop delay. -/
def boundaryError (free hop t tTx : Nat) : Int :=
  looseQuot free (signed (((t : Int) - tTx) % linkTick).toNat 19 * 10 ^ 8) 50331648 - hop

/-- A mark from the port that this device aligns to (R260). -/
def Link.measure (l : Link) (free x t : Nat) (f : LinkFrame) : Link :=
  if l.target = some x then
    let e := boundaryError free (l.port x).hopDelay t f.tTx.toNat
    { l with
      alignErr := sat 16 e
      near := if e.natAbs ≤ 200 then min 96 (l.near + 1) else 0
      far := if 300 < e.natAbs then min 4 (l.far + 1) else 0 }
  else l

/-- A system gun in a received frame (R274): taken before its tick, counted at or after it. -/
def State.takeGun (s : State) (f : LinkFrame) : State :=
  let g := f.label.toNat + f.gunDelta.val
  let mine : SysGun := { mask := f.gunMask.val, tick := g, src := f.gunSrc.val }
  let seen := (s.link.gunsSeen.filter (fun h => decide (s.tickNat < h.tick + 256))) ++ [mine]
  if f.gunMask.val = 0 ∨ !f.good ∨ s.link.gunsSeen.contains mine ∨ f.gunSrc.val = s.devId then s
  else if g ≤ s.tickNat then { s with link := { s.link with gunsSeen := seen, lateGuns := s.link.lateGuns + 1 } }
  else { s with link := { s.link with gunsSeen := seen, guns := s.link.guns ++ [mine], gunClash := s.link.gunClash || !s.link.guns.isEmpty } }

/-- RING at the pacesetter with K in force (R256, R269, R271): its own frames come back on both ports; after the label from which the ring
formed, a frame of another origin says that it is broken. -/
def Link.ringSeen (l : Link) (f : LinkFrame) (self : Nat) : Bool :=
  if l.a.state = 5 ∧ l.b.state = 5 ∧ l.a.from_ = self ∧ l.b.from_ = self then true
  else l.ring && !(decide (f.origin.val ≠ self) && decide (l.ringFrom ≤ f.label.toNat))

/-- The system fields that the upstream port brings (R250, R254, R269): a device that the other side of a break has elected acts as pacesetter
from here on; a device with a hop that is not UP is in no ring. An L that no cell named a tick for repeats or skips from here on, but not
the L of a frame sent before the latest change (R264). -/
def State.adopt (s : State) (x : Nat) (f : LinkFrame) : State :=
  if f.good && decide (s.link.upstream = some x) then
    let new := s.link.lNext.isEmpty && decide (s.link.l ≠ f.l.val) && s.link.lOld.all (fun o => decide (o.1 ≤ f.label.toNat))
    let me := decide (f.pace.val = s.devId) && decide (s.pacePrio < 255)
    { s with link := { s.link with
      pace := f.pace.val
      isPace := me
      acting := me
      aligned := s.link.aligned && !me
      ring := f.ring && decide (s.link.a.state = 5) && decide (s.link.b.state = 5)
      k := f.k.val
      l := if new then f.l.val else s.link.l
      lOld := if new then some (s.tickNat, s.link.l) else s.link.lOld } }
  else if f.good && s.link.isPace && decide (0 < s.link.k) then { s with link := { s.link with ring := s.link.ringSeen f s.devId } }
  else s

/-- The cells of a frame that go on from this device (R272). -/
def State.passing (s : State) (f : LinkFrame) : List LinkCell :=
  f.cells.filter (fun c => c.full && c.good && !c.hopLocal &&
    (if c.bcast then decide (c.src.val ≠ s.devId) else decide (c.dst.val ≠ s.devId)))

/-- The whole packet that a LINK_ASSIGN_ID cell carries (R273): 24 bytes, in one cell. -/
def assignCell (b : List Byte) : Bool :=
  decide (b.length = 24 ∧ le b 0 1 = 0x4B ∧ le b 2 2 = 0x0802 ∧ le b 6 2 = 12 ∧ le b 16 2 < 1024) && decide (crc32c (b.take 20) = le b 20 4)

/-- Cells that cross a hop without slots (R266, R273): between port x and the other one, either of them BLOCKED or ALIGNING. -/
def State.carryCells (s : State) (x : Nat) (f : LinkFrame) : State :=
  let half := fun (n : Nat) => decide (n = 3 ∨ n = 4)
  let p := s.link.port x
  let q := s.link.port (1 - x)
  if (half p.state && decide (3 ≤ q.state)) || (half q.state && decide (3 ≤ p.state)) then s.modLink (1 - x) (fun q => { q with outbox := q.outbox ++ s.passing f }) else s

/-- A frame passes from port x to port y, with its cells consumed and its slots freed and placed (R249, R252, R262, R263, R272). -/
def State.passFrame (s : State) (x t : Nat) (f : LinkFrame) : State :=
  let y := 1 - x
  let m := f.label.toNat
  let keep := s.passing f
  let freed := if f.good then f.slots.filter (fun e => !(s.consumed m x).contains e.1) else f.slots
  let r := s.placeSlots m x (decide ((s.link.port x).rev = 1)) freed f.crossed
  let late := Config.forwardTime s.free % 4027
  let s1 := { s with
    free := s.free + 1
    link := { s.link.modPort y (fun p => { p with fwdDelay := (looseQuot s.free (late * 10 ^ 7) 50331648).toNat % 4096 }) with
      collisions := s.link.collisions + r.2.2
      collision := s.link.collision || decide (0 < r.2.2) } }
  s1.sendFrame y (t + late) { f with slots := r.1, crossed := r.2.1, cells := keep }

/-- The pacesetter's retiming point is in the path (R256, R258, R269). -/
def Link.retimes (l : Link) : Bool := l.isPace && decide (0 < l.k)

/-- A frame kept for the retiming point (R258), with its cells taken and its slots freed. -/
def State.keepFrame (s : State) (x : Nat) (f : LinkFrame) : State :=
  let g := { f with
    cells := s.passing f
    slots := if f.good then f.slots.filter (fun e => !(s.consumed f.label.toNat x).contains e.1) else [] }
  { s with link :=
      if x = 0 then { s.link with retimeAB := (g :: s.link.retimeAB).take 16 } else { s.link with retimeBA := (g :: s.link.retimeBA).take 16 } }

/-- The port's own part of a frame with a good mark (R249, R251, R259, R263). -/
def LinkPort.receive (p : LinkPort) (free : Nat) (skew : Int) (f : LinkFrame) (t sched : Nat) : LinkPort :=
  let q := p.timing free skew f t sched
  if !f.good then q.err 1
  else if p.state = 5 then
    { q with copies := ({ label := f.label.toNat, at_ := t, slots := f.slots, crossed := f.crossed } :: q.copies).take 128 }
  else q

/-- LINK_FRAME_RECEIVED (R248, R249, R251, R252, R258-R263, R266, R272, R274): at a time within the tick in progress. -/
def execLinkFrameReceived (x : Fin 2) (frame : LinkFrame) (time : Nat) (s : State) : Host.Outcome State Fault Refusal :=
  let p := s.link.port x.val
  let y := 1 - x.val
  let t := linkTick * s.clock.now + time
  let sched := (linkTick * s.tickNat + time) - linkTick * (frame.label.toNat + 1)
  let s0 := s.modLink x.val (fun p => p.mark frame)
  let s1 := { s0.modLink x.val (fun p => p.receive s.free (s.skew x.val) frame t sched) with free := s.free + 2 }
  let s2 := { s1 with link := s1.link.measure (s.free + 1) x.val t frame }.carryCells x.val frame
  let s3 := (s2.takeGun frame).adopt x.val frame
  .next (
    if !s.linkOn x.val || decide (p.state = 0 ∨ p.state = 2) then s
    else if !frame.markOk || !p.locked then s0
    else if p.state ≠ 5 then s2
    else if s3.link.retimes then s3.keepFrame x.val frame
    else if (s3.link.port y).state = 5 && !(s3.link.port y).origin then s3.passFrame x.val t frame
    else s3)

/-- The header that this device writes as an origin or as the pacesetter (R250). -/
def State.header (s : State) (m : Nat) : LinkFrame :=
  { label := BitVec.ofNat 48 m
    origin := Fin.ofNat 1024 s.devId
    pace := Fin.ofNat 1024 s.link.pace
    l := Fin.ofNat 256 s.link.l
    k := Fin.ofNat 256 s.link.k
    ring := s.link.ring }

/-- The direction leaving at port y begins here (R255, R269). -/
def State.isOrigin (s : State) (y : Nat) : Bool :=
  (decide ((s.link.port (1 - y)).state ≠ 5) || (s.link.port y).origin) && !s.link.retimes

/-- LINK_FRAME_LAUNCH (R250, R252, R255, R262): the origin launches frame m at boundary m + 1 + S. -/
def execLinkFrameLaunch (x : Fin 2) (s : State) : Host.Outcome State Fault Refusal :=
  let p := s.link.port x.val
  let m := s.tickNat - 1 - p.sched / linkTick
  let r := s.placeSlots m (1 - x.val) false [] []
  let t := linkTick * s.clock.now + p.sched % linkTick + Config.launchTime s.free % 1007
  let s1 := { s.modLink x.val (fun p => { p with heal := p.heal - 1 }) with free := s.free + 1 }
  .next (
    if s.linkOn x.val && (decide (p.state = 1 ∨ p.state = 3 ∨ p.state = 4) || (decide (p.state = 5) && s.isOrigin x.val)) then
      s1.sendFrame x.val t { s.header m with slots := r.1, heal := decide (0 < p.heal) }
    else s)

/-- LINK_RETIME (R258): the pacesetter sends the frame labelled m at boundary m + 1 with the content it received as m − K. -/
def execLinkRetime (x : Fin 2) (s : State) : Host.Outcome State Fault Refusal :=
  let m := s.tickNat - 1
  let buf := if x.val = 1 then s.link.retimeAB else s.link.retimeBA
  let got := buf.find? (fun f => decide (f.label.toNat + s.link.k = m))
  let f : LinkFrame := match got with
    | some f =>
      let stay := f.slots.filter (fun (e : Nat × StreamWord) => !f.crossed.contains e.1)
      let gone := decide (f.gunDelta.val ≤ s.link.k)
      { s.header m with
        slots := stay
        crossed := stay.map (fun e => e.1)
        cells := f.cells
        gunMask := if gone then 0 else f.gunMask
        gunDelta := if gone then 0 else Fin.ofNat 256 (f.gunDelta.val - s.link.k)
        gunSrc := if gone then 0 else f.gunSrc
        heal := f.heal
        good := f.good }
    | none => s.header m
  let r := s.placeSlots m (1 - x.val) (decide ((s.link.port (1 - x.val)).rev = 1)) f.slots f.crossed
  let t := linkTick * s.clock.now + Config.launchTime s.free % 1007
  let s1 := { s with
    free := s.free + 1
    link := { s.link.modPort x.val (fun p => { p with heal := p.heal - 1 }) with
      collisions := s.link.collisions + r.2.2, collision := s.link.collision || decide (0 < r.2.2) } }
  .next (
    if s.linkOn x.val && decide ((s.link.port x.val).state = 5) && s.link.retimes then
      s1.sendFrame x.val t { f with slots := r.1, crossed := r.2.1, heal := f.heal || decide (0 < (s.link.port x.val).heal) }
    else s)

/-- The copy of a slot that belongs to tick t at one port (R263). -/
def LinkPort.copyOf (p : LinkPort) (k slot t : Nat) : Option (Nat × StreamWord) :=
  p.copies.findSome? fun c =>
    if (c.label = t ∧ !c.crossed.contains slot) ∨ (c.label = t + k ∧ c.crossed.contains slot) then
      (tabFind c.slots slot).map (fun w => (c.at_, w))
    else none

/-- The copy that an RX entry presents as receive sample n (R263). -/
def State.rxCopy (s : State) (v n : Nat) : Option StreamWord :=
  let t := n - s.linkL n
  let one := fun x => if (s.link.port x).state = 5 ∧ s.linkL n ≤ n then (s.link.port x).copyOf s.link.k (eSlot v) t else none
  match eDir v with
  | 0 => (one 0).map (·.2)
  | 1 => (one 1).map (·.2)
  | _ => match one 0, one 1 with
    | some a, some b => some (if a.1 ≤ b.1 then a.2 else b.2)
    | some a, none => some a.2
    | none, b => b.map (·.2)

/-- A stream word times a weight in units of 2^-32. -/
def scaleWord (free : Nat) (w : StreamWord) (g : Nat) : StreamWord := { w with sample := word (sat32 (looseQuot free (w.int * g) unity)) }

/-- One receive entry at a tick (R263, R264, R270). Samples after a time in which the port was not UP fade in as after a run (DESIGN
CHOICE, log entry 65). -/
def RxRun.step (r : RxRun) (free : Nat) (up again : Bool) (copy : Option StreamWord) : RxRun × Bool :=
  match copy with
  | some w =>
    let w := { w with substituted := w.substituted || again, provisional := false }
    if r.missing = 0 ∧ 8 ≤ r.fade then ({ good := w, word := w }, false)
    else
      let j := if 0 < r.missing then 0 else r.fade
      ({ good := w, missing := 0, fade := j + 1, word := scaleWord free w (unity - fallAt j 8) }, false)
  | none =>
    if !up then ({ r with word := subst StreamWord.zero, fade := 0 }, false)
    else
      let g := match r.missing with | 0 => 3221225472 | 1 => 1073741824 | _ => 0
      ({ r with missing := r.missing + 1, fade := 0, word := subst (scaleWord free r.good g) }, decide (r.missing = 0))

/-- The receive streams of the tick that opens (R263, R270): those of the enabled entries. -/
def State.rxRead (s : State) : State :=
  let n := s.tickNat
  let img := s.rxImage n
  let up := fun v => match eDir v with
    | 0 => decide (s.link.a.state = 5)
    | 1 => decide (s.link.b.state = 5)
    | _ => decide (s.link.a.state = 5 ∨ s.link.b.state = 5)
  let r := (List.range 512).foldl (fun (a : Tab RxRun × Nat) i =>
    let v := rxEntry img i
    if eOn v then
      let o := (tabGet (fun _ => ({} : RxRun)) s.link.rx i).step (s.free + i) (up v) (s.linkRepeats n) (s.rxCopy v n)
      (tabSet (fun _ => {}) a.1 i o.1, a.2 + b2n o.2)
    else (tabSet (fun _ => {}) a.1 i {}, a.2)) (s.link.rx, 0)
  { s with free := s.free + 512, link := { s.link with rx := r.1, lostRuns := satAdd 16 s.link.lostRuns r.2 } }

/-- A link receive stream (R8). -/
def State.rxStream (s : State) (i : Nat) : StreamWord := (tabGet (fun _ => ({} : RxRun)) s.link.rx i).word

/-- The link transmit samples of a heat, kept for the frames to come (R249, R262). -/
def State.linkFeed (s : State) (sinks : Nat → StreamWord) : Link :=
  let t := (List.range 512).foldl (fun t i => if eOn (txEntry s.cfg.linkActive i) then tabSet (fun _ => StreamWord.zero) t i (sinks (0x0600 + i)) else t) ([] : Tab StreamWord)
  { s.link with txHist := ((s.tickNat, t) :: s.link.txHist).take 128 }

/-- LINK_SIGNAL_DETECT (R266). -/
def execLinkSignalDetect (x : Fin 2) (present : Bool) (s : State) : Host.Outcome State Fault Refusal :=
  let p := s.link.port x.val
  .next (
    if !s.linkOn x.val then s
    else if present then (if p.state = 0 then s.modLink x.val (fun p => { p with state := 1, locked := false, markLabel := none, markRun := 0, lostRun := 0, delays := [], partner := none, rev := 0, blockReason := 0 }) else s)
    else if p.state ≠ 5 then s.modLink x.val (fun p => { p with state := 0, locked := false, rev := 0, blockReason := 0, joins := false }) else s)

/-- LINK_FRAME_LOCK (R248): after 8 consecutive marks. -/
def execLinkFrameLock (x : Fin 2) (s : State) : Host.Outcome State Fault Refusal :=
  .next (s.modLink x.val fun p => { p with locked := p.locked || (decide (p.state ≠ 0) && decide (p.markRun = 8)) })

/-- FRAME_LOCK_LOSS (R248): on a hop that is not UP, two frames lost. -/
def execFrameLockLoss (x : Fin 2) (s : State) : Host.Outcome State Fault Refusal :=
  .next (s.modLink x.val fun p =>
    if p.locked && decide (p.lostRun = 2) && decide (p.state = 1 ∨ p.state = 3 ∨ p.state = 4) then
      { p with state := 0, locked := false, rev := 0, blockReason := 0, joins := false }
    else p)

/-- A candidate for pacesetter as it ranks (R254): the priority, then the serial number. -/
def beats (a b : Nat × Nat) : Bool := decide (a.1 < b.1 ∨ (a.1 = b.1 ∧ a.2 < b.2))

/-- Rank of this device, and of the best of its segment without the devices that `out` leaves out (R254). -/
def State.ownRank (s : State) : Nat × Nat := (s.pacePrio, Config.serial.toNat)
def State.bestRank (s : State) (out : TopoEntry → Bool) : Nat × Nat :=
  ((s.link.peers.filter (fun e => !out e)).map (fun e => (e.ann.prio.val, e.ann.serial.toNat))).foldl (fun b r => if beats r b then r else b) s.ownRank

/-- Rank of the segment's pacesetter (R254, R267), whatever devices have joined it since. -/
def State.paceRank (s : State) : Nat × Nat :=
  if s.link.isPace then s.ownRank
  else match s.link.peers.find? (fun e => decide (e.ann.id.val = s.link.pace)) with
    | some e => (e.ann.prio.val, e.ann.serial.toNat)
    | none => s.ownRank

/-- The segment elects its pacesetter among the devices left (R254, R269). -/
def State.elect (s : State) (out : TopoEntry → Bool) : State :=
  let best := s.bestRank out
  let left := s.link.peers.filter (fun e => !out e)
  let id := if best = s.ownRank then s.devId else match left.find? (fun e => decide ((e.ann.prio.val, e.ann.serial.toNat) = best)) with
    | some e => e.ann.id.val
    | none => s.devId
  let me := decide (best = s.ownRank) && decide (best.1 < 255)
  { s with link := { s.link with pace := id, isPace := me, acting := me, aligned := s.link.aligned && !me } }

/-- What this device announces (R253); the revision of a hop that is UP (DEDUCED, log entry 65). -/
def State.ownAnn (s : State) : Announcement :=
  { id := Fin.ofNat 1024 s.devId
    serial := Config.serial
    prio := Fin.ofNat 256 s.pacePrio
    mode := BitVec.ofNat 8 s.modeByte
    hops := Fin.ofNat 2048 s.link.hops
    delayA := BitVec.ofNat 20 s.link.a.hopDelay
    delayB := BitVec.ofNat 20 s.link.b.hopDelay
    fwd := BitVec.ofNat 12 (max s.link.a.fwdDelay s.link.b.fwdDelay)
    revA := Fin.ofNat 4 (if s.link.a.state = 5 then s.link.a.rev else 0)
    revB := Fin.ofNat 4 (if s.link.b.state = 5 then s.link.b.rev else 0)
    identity := s.link.identity }

/-- The announcements of this device's segment, its own first. -/
def State.members (s : State) : List Announcement := s.ownAnn :: s.link.peers.map (fun e => e.ann)

/-- A sum over announcements. -/
def sumAnn (l : List Announcement) (f : Announcement → Nat) : Nat := (l.map f).foldl (· + ·) 0

/-- Forwarding delays in 0.01 ns of the devices that a frame goes on from. -/
def fwdSum (l : List Announcement) : Nat := sumAnn (l.filter (fun a => decide (a.revA.val ≠ 0) && decide (a.revB.val ≠ 0))) (fun a => 10 * a.fwd.toNat)

/-- Of the direction that enters at port x, in 0.01 ns: the delays on its way to this device, and those from here to its end. -/
def State.delaysOf (s : State) (x : Nat) : Nat × Nat :=
  let hop := fun (a : Announcement) => if x = 0 then a.delayA.toNat else a.delayB.toNat
  let side := fun y => (s.link.peers.filter (fun e => decide (e.port = y))).map (fun e => e.ann)
  (sumAnn (s.ownAnn :: side x) hop + fwdSum (side x), sumAnn (side (1 - x)) hop + fwdSum (side (1 - x)) + fwdSum [s.ownAnn])

/-- S of the direction that enters at port x, in 0.01 ns (R252, R264): its own where it begins here, or as the arrivals of its frames show,
less the 20 ns of a launch (DEDUCED, log entry 65). -/
def State.schedOf (s : State) (x : Nat) : Nat :=
  let p := s.link.port x
  let mean := ((p.arrivals.foldl (· + ·) 0) * 10 ^ 8) / (50331648 * max 1 p.arrivals.length)
  if p.state = 5 then mean - (s.delaysOf x).1 - 2000 else (s.link.port (1 - x)).sched * 10 ^ 8 / 50331648

/-- D_max of a chain in 0.01 ns (R264): hop and forwarding delays of a whole direction, and its S. -/
def State.chainDelay (s : State) : Nat :=
  let d := fun x => (s.delaysOf x).1 + (s.delaysOf x).2 + s.schedOf x
  max (d 0) (d 1)

/-- D_loop of R256 in 0.01 ns, and K. A closing hop that its far end has not announced has the delay that this device measures on LINKB. -/
def State.loopDelay (s : State) : Nat :=
  let l := s.members
  sumAnn l (fun a => if a.delayA = 0 then s.link.b.hopDelay else a.delayA.toNat) + sumAnn (l.filter (fun a => decide (a.id.val ≠ s.link.pace))) (fun a => 10 * a.fwd.toNat)
def State.ringK (s : State) : Nat := ceilDiv (3 * (s.loopDelay + 50000)) 3125000

/-- D_P of R264 in 0.01 ns: the loop from the pacesetter to the device before it, the greater of the two directions. -/
def State.ringDelay (s : State) : Nat :=
  let l := s.members.filter (fun a => decide (a.id.val ≠ s.link.pace))
  let last := fun (p : LinkPort) => match p.partner with | some i => i.id.val | none => 1024
  let fwd := fun (e : Nat) => sumAnn (l.filter (fun a => decide (a.id.val ≠ e))) (fun a => 10 * a.fwd.toNat)
  max (sumAnn l (fun a => a.delayA.toNat) + fwd (last s.link.a)) (sumAnn l (fun a => a.delayB.toNat) + fwd (last s.link.b))

/-- L_MIN of R264, T_F being 6.78 µs: with K = k of a ring or of a chain that has been one, 0 of a chain; with `more` delays of devices that
join. -/
def State.lMinOf (s : State) (k more : Nat) : Nat :=
  k + ceilDiv (3 * ((if k = 0 then s.chainDelay else s.ringDelay) + more + 678000)) 3125000 + 1
def State.lMin (s : State) : Nat := s.lMinOf s.link.k 0

/-- The partner is a device of this device's own segment: the hop closes a ring (R256). -/
def State.closes (s : State) (i : HopInfo) : Bool := s.link.peers.any (fun e => decide (e.ann.serial = i.serial))

/-- The system would exceed 1,024 devices; an ID would occur twice (R267). -/
def State.tooMany (s : State) (i : HopInfo) : Bool := !s.closes i && decide (1024 < s.link.peers.length + 1 + i.members.length + 1)
def State.idTwice (s : State) (i : HopInfo) : Bool :=
  ((i.id.val, i.serial) :: i.members).any (fun m => s.members.any (fun a => decide (a.id.val = m.1) && decide (a.serial ≠ m.2)))

/-- A device of this segment is in Run (R267). -/
def State.segLive (s : State) : Bool := s.inRun || s.link.peers.any (fun e => decide (field e.ann.mode.toNat 0 3 = 3))

/-- This segment's pacesetter loses the election of R254 to the partner's. -/
def State.outranked (s : State) (i : HopInfo) : Bool := beats (i.pacePrio.val, i.paceSerial.toNat) s.paceRank

/-- L in force is short of what the merged system needs (R264, R267): this segment's L, or the partner's where this segment joins. -/
def State.offsetShort (s : State) (x : Nat) (i : HopInfo) (join : Bool) : Bool :=
  let p := s.link.port x
  if join then decide (p.sysL < s.lMinOf p.sysK i.span) else decide (s.link.l < s.lMinOf s.link.k i.span)

/-- What a hop at port x becomes (R256, R267): the state, the block reason, and whether this side aligns to the other. -/
def State.judgeHop (s : State) (x : Nat) (i : HopInfo) : Nat × Nat × Bool :=
  let join := if s.segLive != i.live then i.live else s.outranked i
  if s.tooMany i then (3, 4, false)
  else if s.idTwice i then (3, 3, false)
  else if (s.bestRank (fun _ => false)).1 = 255 ∧ i.pacePrio.val = 255 then (3, 5, false)
  else if s.link.identity = i.identity then
    if s.closes i then (if s.link.l < s.lMinOf s.ringK 0 ∨ 15 < s.ringK then (3, 2, false) else (5, 0, false))
    else if BitVec.ofNat 48 s.tickNat ≠ i.tick then (3, 1, false)
    else if s.offsetShort x i false then (3, 2, false) else (4, 0, s.outranked i)
  else if s.segLive && i.live then (3, 1, false)
  else if s.offsetShort x i join then (3, 2, false)
  else (4, 0, join)

/-- One of the cells that this device sends of its own (R253, R256, R264). -/
def Link.ownCell (l : Link) (self : Nat) (hop : Bool) (bytes : List Byte) : LinkCell :=
  { first := true, last := true, bcast := !hop, hopLocal := hop, src := Fin.ofNat 1024 self, dst := 0, seq := Fin.ofNat 256 l.seq, seg := 0, data := bytes }

/-- Queue a broadcast cell in both directions (R253, R272, R273). -/
def Link.broadcast (l : Link) (self : Nat) (bytes : List Byte) : Link :=
  let put := fun (p : LinkPort) => if 3 ≤ p.state then { p with outbox := p.outbox ++ [l.ownCell self false bytes] } else p
  { l with a := put l.a, b := put l.b, seq := (l.seq + 1) % 256 }

/-- The cells that name the formation label C with K (R256), the TICK of a new L (R264), and the label at which an origin returns to
forwarding (R271), each with the system that it is of. Their bytes are a DESIGN CHOICE, log entry 65. -/
def formationBytes (system : BitVec 64) (c k : Nat) : List Byte := 0x46 :: leBytes 8 system.toNat ++ leBytes 8 c ++ leBytes 1 k
def offsetBytes (system : BitVec 64) (t l : Nat) : List Byte := 0x4C :: leBytes 8 system.toNat ++ leBytes 8 t ++ leBytes 1 l
def returnBytes (system : BitVec 64) (c : Nat) : List Byte := 0x52 :: leBytes 8 system.toNat ++ leBytes 8 c ++ leBytes 1 0

/-- Hop-local and broadcast cells of this device with the same bytes (R256, R271). -/
def Link.announce (l : Link) (self : Nat) (b : List Byte) : Link :=
  let put := fun (p : LinkPort) => if 3 ≤ p.state then { p with outbox := p.outbox ++ [l.ownCell self true b] } else p
  { l with a := put l.a, b := put l.b }.broadcast self b

/-- The pacesetter announces the formation label, in hop-local and broadcast cells (R256). -/
def State.announceRing (s : State) : State :=
  let c := s.tickNat + s.link.l + 2
  { s with link := { s.link with formAt := some c, formK := s.ringK }.announce s.devId (formationBytes s.link.identity c s.ringK) }

/-- An origin announces the label at which it returns to forwarding, if it waits for one (R271). -/
def State.announceReturn (s : State) (back : Option Nat) : State :=
  match back with | some c => { s with link := s.link.announce s.devId (returnBytes s.link.identity c) } | none => s

/-- A device measures its forwarding delay toward each port from the first link-up on (R259). -/
def LinkPort.forwards (p : LinkPort) (n : Nat) : LinkPort :=
  if p.fwdDelay = 0 then { p with fwdDelay := (looseQuot n (Config.forwardTime n % 4027 * 10 ^ 7) 50331648).toNat % 4096 } else p

/-- The hop at port x is UP (R255): the direction that leaves there begins here only while none enters at the other port, and the one
that enters there goes on, at once or from a label on. -/
def Link.hopUp (l : Link) (x : Nat) (back : Option Nat) (hold : Bool) : Link :=
  (l.modPort x (fun p => { p with state := 5, joins := false, origin := decide ((l.port (1 - x)).state ≠ 5) })).modPort (1 - x) (fun q =>
    if hold then { q with returnAt := back } else { q with origin := false, sched := 0 })

/-- LINK_TRAINING_DONE (R246, R256, R266-R268): after 64 delay measurements the hop is judged; a partner without a revision in 1-2 leaves
the port DOWN. A closing hop is UP: with K in force its origin returns to forwarding at a label ahead that it announces, else the pacesetter
announces C. -/
def execLinkTrainingDone (x : Fin 2) (info : HopInfo) (s : State) : Host.Outcome State Fault Refusal :=
  let p := s.link.port x.val
  let j := s.judgeHop x.val info
  let set := fun (l : Link) => (l.modPort (1 - x.val) (fun p => p.forwards s.free)).modPort x.val (fun p =>
    { p.forwards s.free with partner := some info, rev := min s.revMax info.revMax.val, state := j.1, blockReason := j.2.1, joins := j.2.2 })
  let back := if 0 < s.link.k then some (s.tickNat + s.link.l + 2) else none
  let s1 := { s with link := (set s.link).hopUp x.val back true }
  .next (
    if !s.linkOn x.val || decide (p.state ≠ 1) || !p.locked || decide (p.delays.length < 64) then s
    else if info.letterB = decide (x.val = 1) then s.modLink x.val (fun p => { p with state := 2, partner := some info })
    else if info.revMax.val = 0 ∨ 2 < info.revMax.val then s.modLink x.val (fun p => { p with state := 0, locked := false })
    else if j.1 ≠ 5 then { s with link := set s.link }
    else if s.link.isPace && decide (s.link.k = 0) then s1.announceRing.raise 12
    else (s1.announceReturn back).raise 12)

/-- The partner of a port is of the same system already (R267, R271). -/
def State.rejoins (s : State) (x : Nat) : Bool :=
  match (s.link.port x).partner with | some i => decide (i.identity = s.link.identity) | none => false

/-- This segment's pacesetter lost a rejoin: its phase is pulled to the winner's at no more than 100 ppm (R267). -/
def State.rejoining (s : State) : Bool := [0, 1].any (fun x => decide ((s.link.port x).state = 4) && (s.link.port x).joins && s.rejoins x)

/-- Every device of this segment is in Idle (R267). -/
def State.segIdle (s : State) : Bool := s.inIdle && s.link.peers.all (fun e => decide (field e.ann.mode.toNat 0 3 = 2))

/-- This device takes over a system (R254, R267): its pacesetter and identity; another system's TICK is loaded, and its own L and K
end. -/
def State.takeSystem (s : State) (pace : Nat) (identity : BitVec 64) (tick : BitVec 48) (l k : Nat) : State :=
  let s1 := { s with link := { s.link with identity := identity, pace := pace, isPace := false, acting := false } }
  if s.link.identity = identity then s1
  else { s1 with clock := { s1.clock with tick := tick }, link := { s1.link with l := l, k := k, lNext := [], lOld := none } }

/-- LINK_JOIN_ALIGN (R29, R254, R266, R267): the hop comes UP. The side that aligns waits for ALIGNED and takes over the system; a joiner
steps its phase and loads TICK once its whole segment is in Idle. A device behind the joining hop does so as it is told. -/
def execLinkJoinAlign (join : JoinInfo) (s : State) : Host.Outcome State Fault Refusal :=
  let due := [0, 1].filter (fun x => decide ((s.link.port x).state = 4))
  let up := fun (t : State) => (({ t with link := due.foldl (fun l x =>
    l.hopUp x (some (s.tickNat + s.link.l + 2)) (s.rejoins x)) t.link }).announceReturn
      (if due.any s.rejoins then some (s.tickNat + s.link.l + 2) else none)).raise 12
  .next (
    match due.find? (fun x => (s.link.port x).joins), join.system with
    | some x, _ =>
      match (s.link.port x).partner with
      | some i =>
        if s.link.aligned && (s.rejoins x || s.segIdle) then
          up (s.takeSystem i.pace.val i.identity join.tick (s.link.port x).sysL (s.link.port x).sysK)
        else s
      | none => s
    | none, none => if due.isEmpty then s else up s
    | none, some (p, i) => if (s.inIdle || decide (i = s.link.identity)) && due.isEmpty then s.takeSystem p.val i join.tick s.link.l s.link.k else s)

/-- A topology entry as the hop at port x breaks (R269): it comes by the other port only. -/
def TopoEntry.without (e : TopoEntry) (x : Nat) : TopoEntry :=
  let at_ := max (e.atA.getD 0) (e.atB.getD 0)
  if x = 0 then { e with atA := none, atB := some at_ } else { e with atA := some at_, atB := none }

/-- The port that lost an UP hop, and the other one, from which the direction that entered there begins now (R269), on the mean schedule
of its latest arrivals. -/
def LinkPort.broken (p : LinkPort) : LinkPort :=
  { p with state := 0, locked := false, rev := 0, joins := false, breaks := satAdd 16 p.breaks 1, hops := 2047, blockReason := 0, delays := [], hopDelay := 0 }
def LinkPort.begin_ (q : LinkPort) (sched : Nat) : LinkPort := { q with origin := true, sched := sched, heal := 256, returnAt := none }

/-- LINK_BREAK (R269): an UP hop lost two frames one after another (R248). The device becomes the origin of the direction that entered there,
on the schedule at which frames were arriving; without its pacesetter the segment elects. -/
def execLinkBreak (x : Fin 2) (s : State) : Host.Outcome State Fault Refusal :=
  let p := s.link.port x.val
  let y := 1 - x.val
  let n := p.arrivals.length
  let sched := if n = 0 then 0 else (looseQuot s.free (p.arrivals.foldl (· + ·) 0 : Nat) n).toNat
  let lost := fun (e : TopoEntry) => decide (e.port = x.val) && !e.both && !s.link.ring
  let s1 := { s with
    link := { ((s.link.modPort x.val LinkPort.broken).modPort y (fun q => q.begin_ sched)) with
      ring := false
      formAt := none
      topo := (s.link.topo.filter (fun e => !lost e)).map (fun e => e.without x.val) }
    dpll := if s.link.upstream = some x.val then { s.dpll with src := tabMod (fun _ => {}) s.dpll.src (8 + x.val) (fun r => { r with qstate := 4, dqReason := 6, dqSticky := true }) } else s.dpll
    log := s.log.add 0x38 1
    bus := s.bus.raise s.inbandMask 12 }
  let away := !s.link.isPace && s.link.topo.any (fun e => lost e && decide (e.ann.id.val = s.link.pace))
  .next (if p.state ≠ 5 ∨ p.lostRun < 2 then s else if away then s1.elect lost else s1)

/-- The bytes of an announcement cell, its fields in the order of R253. -/
def annBytes (a : Announcement) : List Byte :=
  leBytes 2 a.id.val ++ leBytes 8 a.serial.toNat ++ leBytes 1 a.prio.val ++ [a.mode] ++ leBytes 2 a.hops.val ++
    leBytes 4 a.delayA.toNat ++ leBytes 4 a.delayB.toNat ++ leBytes 2 a.fwd.toNat ++ leBytes 1 (a.revA.val + 16 * a.revB.val)

/-- LINK_ANNOUNCEMENT (R253): at each tick boundary where TICK is a multiple of 9,600. -/
def execLinkAnnouncement (s : State) : Host.Outcome State Fault Refusal :=
  .next (if s.awake && s.ctl.running && decide (s.tickNat % 9600 = 0) then { s with link := s.link.broadcast s.devId (annBytes s.ownAnn) } else s)

/-- Every device of the segment reports both hops: the chain has closed (R256). -/
def State.closed (s : State) : Bool := s.members.all (fun a => decide (a.revA.val ≠ 0) && decide (a.revB.val ≠ 0))

/-- One ID with two serial numbers stands in the table or is this device's own (R253). -/
def State.idClash (s : State) : Bool :=
  s.link.topo.any (fun e => decide (e.ann.id.val = s.devId) || s.link.topo.any (fun g => decide (e.ann.id = g.ann.id) && decide (e.ann.serial ≠ g.ann.serial)))

/-- An ID would still occur twice on a blocked hop, its partner's devices with the IDs that they have announced since (R267). -/
def State.idTwiceNow (s : State) (i : HopInfo) : Bool :=
  let now := fun (m : Nat × BitVec 64) => match s.link.topo.find? (fun e => decide (e.ann.serial = m.2)) with
    | some e => (e.ann.id.val, m.2)
    | none => m
  (((i.id.val, i.serial) :: i.members).map now).any (fun m => s.members.any (fun a => decide (a.id.val = m.1) && decide (a.serial ≠ m.2)))

/-- The conflict as the table stands; a hop blocked for one that is resolved trains again (R253, R267). -/
def State.judgeIds (s : State) : State :=
  let go := fun (p : LinkPort) =>
    if p.state = 3 ∧ p.blockReason = 3 ∧ !s.idClash ∧ !p.partner.any s.idTwiceNow then { p with state := 1, blockReason := 0 } else p
  { s with link := { s.link with conflict := s.idClash, a := go s.link.a, b := go s.link.b } }

/-- The table takes an announcement that came by port x (R253). -/
def Link.announced (l : Link) (x : Nat) (ann : Announcement) (now : Nat) : Link :=
  let old : TopoEntry := match l.topo.find? (fun e => decide (e.ann.serial = ann.serial)) with | some e => { e with ann := ann } | none => { ann := ann }
  let new := if x = 0 then { old with atA := some now, overA := ann.legs } else { old with atB := some now, overB := ann.legs }
  { l with topo := (l.topo.filter (fun e => decide (e.ann.serial ≠ ann.serial))) ++ [new] }

/-- An announcement brings a link topology change (R266, R269): a new device, or a hop that came UP or broke since. -/
def Link.newsOf (l : Link) (ann : Announcement) : Bool :=
  match l.topo.find? (fun e => decide (e.ann.serial = ann.serial)) with
  | some e => decide (e.ann.revA ≠ ann.revA ∨ e.ann.revB ≠ ann.revB)
  | none => true

/-- ANNOUNCEMENT_RECEIVED (R253, R256, R266, R267): the table takes it. A pacesetter that sees its chain closed announces the formation label,
unless the ring offset exceeds L. -/
def execAnnouncementReceived (x : Fin 2) (ann : Announcement) (s : State) : Host.Outcome State Fault Refusal :=
  let s1 := { s with link := s.link.announced x.val ann s.clock.now }.judgeIds
  let form := s1.link.isPace && !s1.link.ring && s1.link.formAt.isNone && decide (s1.link.k = 0) && s1.closed &&
    decide (s1.ringK ≤ 15 ∧ s1.lMinOf s1.ringK 0 ≤ s1.link.l)
  .next (
    if !s.linkOn x.val || decide ((s.link.port x.val).state < 3) || !s.ctl.running || decide (ann.serial = Config.serial) then s
    else (if form then s1.announceRing else s1).raiseIf (s.link.newsOf ann) 12)

/-- ANNOUNCEMENT_DROP (R253, R269): an entry that misses three announcements; if it was the pacesetter, the segment elects. -/
def execAnnouncementDrop (id : Fin 1024) (s : State) : Host.Outcome State Fault Refusal :=
  let gone := fun (e : TopoEntry) => decide (e.ann.id = id) && decide (e.seen + 3 * 9600 ≤ s.clock.now)
  let s1 := { s with link := { s.link with topo := s.link.topo.filter (fun e => !gone e) } }.judgeIds
  .next (
    if s.link.topo.any gone then
      (if id.val = s.link.pace && !s.link.isPace then (s1.elect (fun _ => false)).raise 12 else s1.raise 12)
    else s)

/-- RING_FORMATION (R256): from label C on the former origins forward, and the pacesetter retimes. -/
def execRingFormation (s : State) : Host.Outcome State Fault Refusal :=
  let due := match s.link.formAt with | some c => decide (c ≤ s.tickNat) | none => false
  let go := fun (p : LinkPort) => { p with origin := false, sched := 0 }
  .next (if due then { s with link := { s.link with formAt := none, ring := true, ringFrom := s.link.formAt.getD 0, k := s.link.formK, a := go s.link.a, b := go s.link.b } } else s)

/-- LINK_REPAIR_RETURN (R271): the origin at port x returns to forwarding. The system is a ring again only if K is in force, as the frames of
the pacesetter show that come round. -/
def execLinkRepairReturn (x : Fin 2) (s : State) : Host.Outcome State Fault Refusal :=
  let due := match (s.link.port x.val).returnAt with | some c => decide (c ≤ s.tickNat) | none => false
  let s1 := s.modLink x.val (fun p => { p with origin := false, sched := 0, heal := 0, returnAt := none })
  .next (if due then { s1 with link := { s1.link with ring := s1.link.ring && decide (0 < s.link.k) } } else s)

/-- LINK_ALIGNED_CHANGE (R260): ALIGNED is gained within ±2 ns for 96 ticks, and lost beyond ±3 ns for 4 or with nothing to align to. -/
def execLinkAlignedChange (gained : Bool) (s : State) : Host.Outcome State Fault Refusal :=
  let l := s.link
  .next { s with link := { l with
    aligned := if gained then l.aligned || (l.target.isSome && decide (l.near = 96)) else l.aligned && l.target.isSome && decide (l.far ≠ 4) } }

/-- LINK_OFFSET_CHANGE (R264): the new L is in force from its tick on. -/
def execLinkOffsetChange (s : State) : Host.Outcome State Fault Refusal :=
  .next (match s.link.lNext with
    | (t, l) :: r => if t ≤ s.tickNat then { s with link := { s.link with l := l, lNext := r, lOld := some (t, s.link.l) } } else s
    | [] => s)

/-- A system gun accepted by this device (R274): its tick is at least TICK + L + 2. -/
def State.sysGunTick (s : State) (g : Nat) : Nat := max g (s.tickNat + s.link.l + 2)
def State.sysGun (s : State) (mask tick : Nat) : State :=
  { s with link := { s.link with guns := s.link.guns ++ [{ mask := mask, tick := tick, src := s.devId }] } }

/-- START_N_EDGE (R238, R274): a gun at the second boundary after the edge; edges within 960 ticks of a pin-fired gun are ignored. -/
def execStartNEdge (s : State) : Host.Outcome State Fault Refusal :=
  let cfg := s.dir 0x1424
  let soon := match s.ports.lastPinGun with | some t => decide (s.clock.now < t + 960) | none => false
  let mask := field cfg 8 8
  .next (
    if !s.inRun || soon then s
    else if cfg.testBit 16 then
      (if s.link.guns.isEmpty then
        { s.sysGun mask (s.sysGunTick (s.tickNat + 2)) with ports := { s.ports with lastPinGun := some (s.clock.now + (s.sysGunTick (s.tickNat + 2) - s.tickNat)) } } else s)
    else { s with ports := { s.ports with guns := s.ports.guns ++ [(mask, s.tickNat + 2, false, 5)], lastPinGun := some (s.clock.now + 2) } })

/-- A cell is for this device (R272): it is the destination, the cell is broadcast by another, or it is hop-local. -/
def State.cellForUs (s : State) (c : LinkCell) : Bool :=
  c.full && c.good && (c.hopLocal || (if c.bcast then decide (c.src.val ≠ s.devId) else decide (c.dst.val = s.devId)))

/-- A whole packet's bytes, once every segment is there (R273). -/
def Reassembly.bytes (r : Reassembly) : Option (List Byte) :=
  match r.total with
  | some n => if (List.range n).all (fun i => (tabFind r.segs i).isSome) then some ((List.range n).flatMap (fun i => (tabFind r.segs i).getD [])) else none
  | none => none

/-- Take a segment (R272, R273): the first of a packet begins its reassembly, and one of its source that is not whole by then is
discarded. -/
def Link.segment (l : Link) (x : Nat) (c : LinkCell) : Link :=
  let is := fun (r : Reassembly) => decide (r.port = x) && decide (r.src = c.src.val) && decide (r.seq = c.seq.val)
  let old := match l.assembling.find? is with | some r => r | none => { port := x, src := c.src.val, seq := c.seq.val, segs := [], total := none }
  let base := if c.first then { old with segs := [], total := none } else old
  let r := { base with segs := tabPut base.segs c.seg.val c.data, total := if c.last then some (c.seg.val + 1) else base.total }
  let lost := fun (o : Reassembly) => c.first && decide (o.port = x) && decide (o.src = c.src.val) && o.bytes.isNone
  { l with assembling := l.assembling.filter (fun o => !is o && !lost o) ++ [r] }

/-- Take a link ID (R253, R273): sessions on ports 2 and 3 close, and the device announces. -/
def State.takeId (s : State) (id : Nat) : State :=
  let s1 := { s with link := { s.link with assigned := some id, pace := if s.link.isPace then id else s.link.pace } }.judgeIds
  { s1 with link := s1.link.broadcast id (annBytes s1.ownAnn) }

/-- Status words of the link (R277). -/
def State.linkPortWords (s : State) (x : Nat) : List Nat :=
  let p := s.link.port x
  let partner := match p.partner with | some i => i.id.val | none => 0
  [p.state + 8 * (p.rev % 4) + 32 * partner + 2 ^ 15 * p.blockReason + 2 ^ 18 * b2n (decide (s.link.upstream = some x)) + 2 ^ 19 * b2n p.frameErrSticky,
   p.hopDelay % 2 ^ 20 + 2 ^ 20 * (p.fwdDelay % 4096),
   p.frameErrs + 65536 * p.breaks]
def State.linkWords (s : State) : List Nat :=
  s.linkPortWords 0 ++ s.linkPortWords 1 ++
  [s.link.pace % 1024 + 1024 * b2n s.link.isPace + 2 ^ 11 * b2n s.link.ring + 2 ^ 12 * b2n s.link.aligned + 2 ^ 13 * (s.link.l % 64) +
     2 ^ 19 * (s.link.k % 16) + 2 ^ 23 * b2n s.link.collision + 2 ^ 24 * b2n s.link.gunClash,
   min 2047 (s.link.topo.length + 1) + 65536 * s.link.lostRuns,
   (s.link.alignErr % 65536).toNat]

/-- STICKY_CLEAR of the link group (R277). -/
def State.clearLink (s : State) : State :=
  let go := fun (p : LinkPort) => { p with frameErrSticky := false, frameErrs := 0, breaks := 0 }
  { s with link := { s.link with a := go s.link.a, b := go s.link.b, collision := false, gunClash := false, lostRuns := 0 } }

/-- The link as the device comes up in Idle: a system of its own (R254, R255, R267). -/
def State.linkStart (s : State) : State :=
  { s with link := { s.link with
    pace := s.devId, isPace := decide (s.pacePrio < 255), acting := false, identity := Config.serial, l := s.dir 0x1704 % 64, k := 0, ring := false } }

/-- A port as the root stops or its enable is withdrawn: DOWN (R246, R333). -/
def LinkPort.down (p : LinkPort) : LinkPort :=
  { p with state := 0, locked := false, rev := 0, blockReason := 0, joins := false, hops := 2047, outbox := [], copies := [], arrivals := [], delays := [],
           markLabel := none, markRun := 0, lostRun := 0, sysL := 4, sysK := 0,
           sent := none, origin := true, sched := 0, heal := 0, returnAt := none, partner := none }
def State.linkStop (s : State) : State :=
  { s with link := { s.link with
    a := s.link.a.down, b := s.link.b.down, ring := false, formAt := none, aligned := false, near := 0, far := 0, topo := [], assembling := [],
    guns := [], gunsSeen := [], retimeAB := [], retimeBA := [], rx := [], lNext := [], lOld := none, rxOld := [] } }

/-- A write of block 0x17 (R275): a disabled port goes down, and a device alone takes its own L and priority. -/
def State.linkWritten (s : State) : State :=
  let off := fun (x : Nat) (p : LinkPort) => if (s.dir 0x1700).testBit x then p else p.down
  let s1 := { s with link := { s.link with a := off 0 s.link.a, b := off 1 s.link.b } }
  if s1.link.a.state = 0 ∧ s1.link.b.state = 0 then { s1.linkStart with link := { s1.linkStart.link with topo := [] } } else s1

/-- The link part of the check (R276): the code, KIND and INDEX; `bank` reads the parameters, `img` is the slot image. -/
def checkLink (bank : Nat → Nat) (img : Tab Byte) : Option (Nat × Nat × Nat) :=
  let a := (bank 0x1700).testBit 0
  let b := (bank 0x1700).testBit 1
  let bad := fun v => decide (eDir v = 3) || decide (field v 13 3 ≠ 0)
  let needs := fun (tx : Bool) v => eOn v &&
    (match eDir v with | 0 => if tx then !b else !a | 1 => if tx then !a else !b | _ => !(a && b))
  let l := List.range 512
  let twice := fun i => l.any (fun j => decide (j < i) && eOn (txEntry img i) && eOn (txEntry img j) && decide (eSlot (txEntry img i) = eSlot (txEntry img j)) &&
    (decide (eDir (txEntry img i) = eDir (txEntry img j)) || decide (eDir (txEntry img i) = 2) || decide (eDir (txEntry img j) = 2)))
  match ((List.range 5).map (· + 0x1700)).find? (fun id => !paramFieldsOk id (bank id)) with
  | some id => some (0x74, 1, id)
  | none => match l.find? (fun i => bad (txEntry img i)) with
  | some i => some (0x71, 12, i)
  | none => match l.find? (fun i => bad (rxEntry img i)) with
  | some i => some (0x71, 13, i)
  | none => match l.find? (fun i => needs true (txEntry img i)) with
  | some i => some (0x73, 12, i)
  | none => match l.find? (fun i => needs false (rxEntry img i)) with
  | some i => some (0x73, 13, i)
  | none => match l.find? twice with
  | some i => some (0x72, 12, i)
  | none => none

end Sys2Proof.Machine
end

