-- ==== Sys2Proof/Machine/Clocks.lean ====
section
/-! DEFINITION. The master PLL, LOCK, numeric steering and the clock outputs (chapter 11). -/
namespace Sys2Proof.Machine

/-- The nominal word W0 in units of 2^-48 (R278), for f_XO in Hz. -/
def word0 (f : Nat) : Nat := (roundDiv (3145728000 * 2 ^ 48) f).toNat

/-- ΔS of R286, from s_now in 1/96 ppt. -/
def steerWord (w0 : Nat) (s : Int) : Int := roundDiv (w0 * s) (96 * 10 ^ 12)

/-- The bound of ±1,000 ppm on W (R278), and n ppm of W0. -/
def ppmOf (w0 n : Nat) : Nat := w0 * n / 10 ^ 6

/-- The word applied (R278). -/
def State.pllWord (s : State) : Int :=
  let w := word0 s.synth.xoFreq
  let d := s.dpll.delta + steerWord w s.synth.sNow
  let b := (ppmOf w 1000 : Int)
  w + max (-b) (min b d)

/-- s of CK_STEER in ppt, clamped to ±500 ppm (R286). -/
def steerClamp (s : Int) : Int := max (-500000000) (min 500000000 s)

/-- The device aligns to an upstream link partner: steering is ignored (R288). -/
def State.follows (s : State) : Bool := s.link.target.isSome

/-- The s that s_now moves toward, in ppt (R286-R288). -/
def State.steerGoal (s : State) : Int := if s.follows then 0 else steerClamp (signed (s.dir 0x0103) 32)

/-- How far s_now moves in a tick, in 1/96 ppt; none: at once (R287). -/
def slewStep (slew : Nat) : Option Int :=
  match slew with | 0 => some 100 | 1 => some 1000 | 2 => some 10000 | 3 => some 100000 | _ => none

/-- s_now a tick later (R287, R288). -/
def State.slewed (s : State) : Int :=
  let goal := 96 * s.steerGoal
  if s.follows then 0
  else match slewStep (field (s.dir 0x0104) 0 3) with
    | some d => if s.synth.sNow < goal then min goal (s.synth.sNow + d) else max goal (s.synth.sNow - d)
    | none => goal

/-- The comparison source of LOCK (R283, R307): the reference tracked, in a handoff the outgoing one up to its capture, or the XO. -/
def Dpll.compares (d : Dpll) : Option Nat :=
  if d.state = .tracking ∨ (d.state = .handoff ∧ d.outgoing = .tracking) then some d.current else none

/-- The steering at a tick boundary (R278, R287), and a change of the comparison source (R284). -/
def State.steerTick (s : State) : Synth :=
  let w := word0 s.synth.xoFreq
  let b := (ppmOf w 1000 : Int)
  { s.synth with
    sNow := s.slewed
    wordLimit := s.synth.wordLimit || decide (b ≤ (s.dpll.delta + steerWord w s.slewed).natAbs)
    compares := s.dpll.compares
    comparesAt := if s.dpll.compares = s.synth.compares then s.synth.comparesAt else s.clock.now }

/-- Set the steering to s ppt (R286): clamped, and the clamp noted. -/
def State.setSteer (s : State) (v : Int) : State :=
  { s with
    cfg := { s.cfg with direct := pSet s.cfg.direct 0x0103 (steerClamp v % 2 ^ 32).toNat }
    synth := { s.synth with clamped := decide (steerClamp v ≠ v) } }

/-- STEER_SLEW_START (R287): a slew named for a tick begins. -/
def execSteerSlewStart (s : State) : Host.Outcome State Fault Refusal :=
  let due := s.synth.steers.filter (fun e => decide (e.1 ≤ s.tickNat))
  let s1 := { s with synth := { s.synth with steers := s.synth.steers.filter (fun e => !decide (e.1 ≤ s.tickNat)) } }
  .next (match due.getLast? with | some e => s1.setSteer e.2.1 | none => s)

/-- STEER_SLEW_END (R287): s_now has reached s, as the tick boundary that brought it there left it: s_now is updated at boundaries alone, and
STEER_SLEWING is read from it. -/
def execSteerSlewEnd (s : State) : Host.Outcome State Fault Refusal := .next s

/-- LOCK is lost (R283, R285): ATTN_CAUSE bit 3, LOST_STICKY, LOCK_LOSSES and the log. -/
def State.loseLock (s : State) : State :=
  if s.synth.lock then
    { s with
      synth := { s.synth with lock := false, lostSticky := true, lockLosses := satAdd 16 s.synth.lockLosses 1 }
      log := s.log.add 0x34 1
      bus := s.bus.raise s.inbandMask 3 }
  else s

/-- XO_LOSS (R281): the root runs on open-loop. -/
def execXoLoss (s : State) : Host.Outcome State Fault Refusal :=
  .next (if s.synth.xoOk then
    { s.loseLock.raise 3 with synth := { s.loseLock.synth with xoOk := false, analogLock := false } }
  else s)

/-- XO_RECOVER (R281, R282): an exit starts its XO once every required supply is valid (R337). -/
def execXoRecover (s : State) : Host.Outcome State Fault Refusal :=
  .next { s with synth := { s.synth with xoOk := s.synth.xoOk || (!s.power.inReset && (!s.asleep || (s.power.exiting.isSome && s.power.supplied))) } }

/-- ANALOG_LOCK_SET (R282). -/
def execAnalogLockSet (s : State) : Host.Outcome State Fault Refusal :=
  .next { s with synth := { s.synth with analogLock := s.synth.analogLock || s.synth.xoOk } }

/-- The lock and the unlock window in ps, and LOCK_COUNT (R284). -/
def State.lockWin (s : State) : Nat := 1000 * 2 ^ field (s.dir 0x0102) 0 4
def State.unlockWin (s : State) : Nat :=
  if field (s.dir 0x0102) 4 4 = 0 then 2 * s.lockWin else 1000 * 2 ^ field (s.dir 0x0102) 4 4
def State.lockCount (s : State) : Nat := field (s.dir 0x0102) 16 16

/-- The nominal beat rate of a source as a fraction in Hz (R298). -/
def beatRate (bank : Nat → Nat) (cls : Nat → Nat) (n : Nat) : Nat × Nat :=
  if n < 2 then
    let v := bank (0x0210 + n)
    match field v 0 2 with | 0 => (classRate (field v 4 5), 1) | 1 => (96000, field v 15 17) | _ => (100000, 1)
  else if n < 8 then
    let y := field (bank (0x1406 + (n - 2))) 1 2
    (if y = 0 then classRate (cls (n - 2)) else syncRate y, 1)
  else (96000, 1)

/-- LOCK_COUNT comparisons fit into the time since the comparison source changed (R283, R284): beats of the reference tracked, or XO
cycles. A source that has changed in the tick in progress counts from here. -/
def State.lockCounted (s : State) : Bool :=
  let ticks := if s.dpll.compares = s.synth.compares then s.clock.now + 1 - s.synth.comparesAt else 1
  match s.dpll.compares with
  | some n => let r := beatRate s.dir (fun p => (s.port p).cls) n; decide (s.lockCount * 96000 * r.2 ≤ ticks * r.1)
  | none => decide (s.lockCount * 96000 ≤ ticks * s.synth.xoFreq)

/-- Comparisons have been made: PHASE_ERR is the latest error (R283, R297). -/
def State.compared (s : State) (errs : List Int) : State :=
  if errs.isEmpty || !s.synth.analogLock then s else { s with synth := { s.synth with phaseErr := sat 32 (errs.getLastD 0) } }

/-- LOCK_DECLARE (R29, R72, R282-R285): the latest phase errors in ps, oldest first, LOCK_COUNT of them within the window.
TICK counts from the first declaration on, and the root domains start. A gate of the entry to Rest or Watch ends with a declaration after the
wake (R292). -/
def execLockDeclare (errs : List Int) (s : State) : Host.Outcome State Fault Refusal :=
  let last := errs.reverse.take s.lockCount
  let ok := s.synth.analogLock && !s.synth.lock && decide (last.length = s.lockCount) && last.all (fun e => decide (e.natAbs ≤ s.lockWin)) && s.lockCounted
  let s1 := if s.clock.counting then s else s.startChains
  .next (if ok then
    { s1.raiseIf (!s.synth.quietLock) 3 with
      synth := { s.synth with lock := true, quietLock := false, sleepGate := if s.power.entering.isSome then s.synth.sleepGate else 0, phaseErr := sat 32 (errs.getLastD 0) }
      clock := { s.clock with counting := true, rootRunning := true } }
  else s.compared errs)

/-- LOCK_LOSS (R283, R285): four errors beyond the unlock window, or, with none given, ANALOG_LOCK has cleared. -/
def execLockLoss (errs : List Int) (s : State) : Host.Outcome State Fault Refusal :=
  let last := errs.reverse.take 4
  let out := decide (last.length = 4) && last.all (fun e => decide (s.unlockWin < e.natAbs))
  .next (
    if errs.isEmpty then { s.loseLock with synth := { s.loseLock.synth with analogLock := false } }
    else if s.synth.lock && out then { s.loseLock with synth := { s.loseLock.synth with phaseErr := sat 32 (errs.getLastD 0) } }
    else s.compared errs)

/-- A write of CK_XO_FREQ (R280): LOCK is lost, and the PLL relocks on the new W0. -/
def State.xoFreqWritten (s : State) (f : Nat) : State :=
  let s1 := s.loseLock
  { s1 with synth := { s1.synth with xoFreq := f } }

/-- The parameter of output o (R289): 0-3 CKO0-CKO3, 4 CKOD. -/
def State.ckOut (s : State) (o : Nat) : Nat := s.dir (0x0110 + o)
def State.ckOn (s : State) (o : Nat) : Bool := (s.ckOut o).testBit 0

/-- A gating condition of R292 holds for output o. -/
def State.gateWanted (s : State) (o : Nat) : Bool :=
  !s.synth.lock || ((s.ckOut o).testBit 6 && s.dpll.unreferenced) || ((s.ckOut o).testBit 7 && s.dpll.expiredNow) ||
  s.synth.writeGate.getLsbD o || s.synth.sleepGate.getLsbD o

/-- Set or clear one of five bits. -/
def setBit5 (b : BitVec 5) (o : Nat) (v : Bool) : BitVec 5 :=
  if v then b ||| BitVec.ofNat 5 (2 ^ o) else b &&& ~~~ BitVec.ofNat 5 (2 ^ o)

/-- The root cycle count c of R290, as near as the sprint sample in progress tells. -/
def State.rootCycle (s : State) : Nat := s.tickNat * 32768 + min 127 s.clock.phase * 256

/-- Of an output on the configuration v (R290): its period and high time in root cycles, and how far into its period root cycle c
lies; frame pulses under the alignment A. -/
def ckPeriod (v : Nat) : Nat := if v.testBit 1 then field v 40 17 * 32768 else field v 16 24
def ckHigh (v : Nat) : Nat := if v.testBit 1 then field v 57 7 * 32768 else field v 16 24 / 2
def ckPhase (v align c : Nat) : Nat :=
  let p := ckPeriod v
  (c + (if v.testBit 1 then p - align % p else 0)) % p

/-- The first rise of an output at root cycle c or later. -/
def ckRise (v align c : Nat) : Nat := c + (ckPeriod v - ckPhase v align c) % ckPeriod v

/-- What output o runs on, and the two instants of its latest gating (R293). -/
def Synth.out (y : Synth) (o : Nat) : Nat × Nat × Nat :=
  (tabGet (fun _ => 0) y.outs o, tabGet (fun _ => 0) y.stopAt o, tabGet (fun _ => 0) y.resumeAt o)

/-- CLOCK_OUTPUT_GATE (R292-R294): the output completes its current cycle, unless it has not resumed yet; a write that gated it is then
applied. -/
def execClockOutputGate (o : Fin 5) (s : State) : Host.Outcome State Fault Refusal :=
  let r := s.synth.out o.val
  let stop := if s.synth.gated.getLsbD o.val then r.2.1 else if s.rootCycle < r.2.2 then 0 else ckRise r.1 s.dpll.align s.rootCycle
  .next (if s.gateWanted o.val then
    { s with synth := { s.synth with
      gated := setBit5 s.synth.gated o.val true
      writeGate := setBit5 s.synth.writeGate o.val false
      stopAt := tabSet (fun _ => 0) s.synth.stopAt o.val stop } }
  else s)

/-- The fall of the high phase of output o in progress, on its schedule before it changes; 0 where it is low (R293, R312). -/
def State.ckFall (s : State) (o : Nat) : Nat :=
  let r := s.synth.out o
  let c := s.rootCycle
  let p := ckPhase r.1 s.dpll.align c
  if p < ckHigh r.1 ∧ r.2.2 ≤ c ∧ (!s.synth.gated.getLsbD o || c < r.2.1) then c - p + ckHigh r.1 else tabGet (fun _ => 0) s.synth.pulseTo o

/-- CLOCK_OUTPUT_RESUME (R293, R294): every gating condition has cleared: a rise at least 2 root cycles ahead, on the configuration
written last; a cycle that the gating lets complete comes first. -/
def execClockOutputResume (o : Fin 5) (s : State) : Host.Outcome State Fault Refusal :=
  let first := max (s.rootCycle + 2) (s.synth.out o.val).2.1
  .next (if s.ckOn o.val && !s.gateWanted o.val && s.synth.gated.getLsbD o.val then
    { s with synth := { s.synth with
      gated := setBit5 s.synth.gated o.val false
      outs := tabSet (fun _ => 0) s.synth.outs o.val (s.ckOut o.val)
      pulseTo := tabSet (fun _ => 0) s.synth.pulseTo o.val (s.ckFall o.val)
      riseFrom := tabSet (fun _ => 0) s.synth.riseFrom o.val first
      resumeAt := tabSet (fun _ => 0) s.synth.resumeAt o.val (ckRise (s.ckOut o.val) s.dpll.align first) } }
  else s)

/-- A write of CK_OUT or CK_OUTD (R292): the output is gated until the write has been applied. -/
def State.ckOutWritten (s : State) (o : Nat) : State :=
  { s with synth := { s.synth with writeGate := setBit5 s.synth.writeGate o (!s.synth.gated.getLsbD o) } }

/-- The level of output o at root cycle c (R290, R293). -/
def State.ckLevel (s : State) (o c : Nat) : Bool :=
  let r := s.synth.out o
  let wave := decide (ckPhase r.1 s.dpll.align c < ckHigh r.1)
  decide (c < tabGet (fun _ => 0) s.synth.pulseTo o) || (wave && decide (r.2.2 ≤ c) && (!s.synth.gated.getLsbD o || decide (c < r.2.1)))

/-- The frame-pulse outputs as the alignment changes to A (R312): a pulse in progress is completed, and the next one follows the new
schedule no sooner than a period after the latest; one that is being gated begins no more. -/
def State.realign (s : State) (a : Nat) : Synth :=
  if a = s.dpll.align then s.synth
  else (List.range 5).foldl (fun (y : Synth) o =>
    let r := y.out o
    let from_ := if s.rootCycle < r.2.2 then tabGet (fun _ => 0) y.riseFrom o else s.rootCycle - ckPhase r.1 s.dpll.align s.rootCycle + ckPeriod r.1
    if !r.1.testBit 1 || (y.gated.getLsbD o && decide (r.2.1 ≤ s.rootCycle)) then y
    else { y with
      pulseTo := tabSet (fun _ => 0) y.pulseTo o (s.ckFall o)
      riseFrom := tabSet (fun _ => 0) y.riseFrom o from_
      resumeAt := tabSet (fun _ => 0) y.resumeAt o (if y.gated.getLsbD o then r.2.1 else ckRise r.1 a (max s.rootCycle from_)) }) s.synth

/-- The nominal IOVDD nearest a measurement in 0.1 mV, in mV (R291). -/
def ioNominal (v : Int) : Nat := if v ≤ 21500 then 1800 else if v ≤ 29000 then 2500 else 3300

/-- The clock part of the check (R296): the code, KIND and INDEX. `io` is the measurement of MS8. -/
def checkClocks (bank : Nat → Nat) (io : Int) : Option (Nat × Nat × Nat) :=
  let bad := fun i =>
    let v := bank (0x0110 + i)
    let n := ioNominal io
    v.testBit 0 && (match field v 2 2 with | 0 => decide (n < 2100) | 1 => decide (n < 2800) | _ => decide (n ≠ 3300))
  match ((List.range 5).map (· + 0x0100) ++ (List.range 5).map (· + 0x0110)).find? (fun id => !paramFieldsOk id (bank id)) with
  | some id => some (0x18, 1, id)
  | none => match (List.range 4).find? bad with
  | some i => some (0x19, 1, 0x0110 + i)
  | none => none

/-- Status words of the clocks (R297): an output is gated only while it is enabled (R292). -/
def State.clockWords (s : State) : List Nat :=
  let y := s.synth
  [b2n y.lock + 2 * b2n y.analogLock + 4 * b2n y.xoOk + 8 * b2n y.lostSticky + 16 * b2n y.clamped + 32 * b2n s.follows +
     64 * b2n (decide (y.sNow ≠ 96 * steerClamp (signed (s.dir 0x0103) 32))) + 128 * b2n y.wordLimit +
     256 * (y.gated &&& (List.range 5).foldl (fun b o => setBit5 b o (s.ckOn o)) 0).toNat,
   (looseQuot s.free y.sNow 96 % 2 ^ 32).toNat, (y.phaseErr % 2 ^ 32).toNat, y.lockLosses]

/-- STICKY_CLEAR of the clock group (R297). -/
def State.clearClocks (s : State) : State := { s with synth := { s.synth with lostSticky := false, wordLimit := false, lockLosses := 0 } }

end Sys2Proof.Machine
end

