-- ==== Sys2Proof/Machine/Reference.lean ====
section
/-! DEFINITION. Reference selection, handoff and holdover (chapter 12). -/
namespace Sys2Proof.Machine

/-- Entry e of REF_PRIO (R300). -/
def State.refEntry (s : State) (e : Nat) : Nat := field (s.dir 0x0200) (4 * e) 4
def State.refNamed (s : State) (n : Nat) : Bool := (List.range 8).any (fun e => decide (s.refEntry e = n))

/-- One source, and an update of it. -/
def State.refSrc (s : State) (n : Nat) : RefSource := tabGet (fun _ => {}) s.dpll.src n
def Dpll.mod (d : Dpll) (n : Nat) (f : RefSource → RefSource) : Dpll := { d with src := tabMod (fun _ => {}) d.src n f }

/-- The link source of the upstream port (R301), or of the port over which this device joins (R266). -/
def State.linkSource (s : State) : Option Nat := s.link.target.map (· + 8)

/-- QSTATE as reported (R301, R303): a link source is QUALIFIED while its port is UP and upstream, and DISQUALIFIED by the loss of its frame lock;
one that a joiner acquires is QUALIFYING (DEDUCED, log entry 68). -/
def State.qstate (s : State) (n : Nat) : Nat :=
  if n < 8 then (if s.refNamed n then (s.refSrc n).qstate else 0)
  else if s.link.upstream = some (n - 8) ∧ (s.link.port (n - 8)).state = 5 then 3
  else if s.linkSource = some n then 2
  else if (s.refSrc n).qstate = 4 ∧ !(s.link.port (n - 8)).locked then 4 else 0

/-- The DPLL can follow a source (R301, R306): it is QUALIFIED, or the link source that the device aligns to. -/
def State.refGood (s : State) (n : Nat) : Bool := decide (s.qstate n = 3) || decide (s.linkSource = some n)

/-- A port can be a reference (R299). -/
def State.refPortOk (s : State) (n : Nat) : Bool :=
  n < 2 ||
    (let p := n - 2
     s.portOn p && !fmtBck (s.pFmt p) && !fmtFs (s.pFmt p) && decide (s.portState p = 1 ∨ s.portState p = 2) &&
     (decide (s.portSync p ≠ 0) || decide (2 ≤ (s.port p).cls)))

/-- The bandwidth of a BW code in mHz (R311). -/
def bandwidth (bw : Nat) : Nat :=
  if bw < 18 then [1, 2, 5, 10, 20, 50, 100, 200, 500].getD (bw % 9) 1 * (if bw < 9 then 1 else 1000)
  else [1, 2, 4].getD (bw - 18) 4 * 1000000

/-- The damping ζ of a DAMP code in 0.001 (R311). -/
def damping (d : Nat) : Nat := [500, 707, 1000, 2000, 5000].getD d 5000

/-- The nominal beat rate is below 20 times the bandwidth (R302, R317). -/
def tooNarrow (r : Nat × Nat) (mHz : Nat) : Bool := decide (1000 * r.1 < 20 * mHz * r.2)
def State.refNarrow (s : State) (n : Nat) : Bool := tooNarrow (beatRate s.dir (fun p => (s.port p).cls) n) s.dpll.bw

/-- A source is disqualified for a reason of R318. -/
def RefSource.disqualify (r : RefSource) (reason : Nat) : RefSource :=
  { r with qstate := 4, dqReason := reason, dqSticky := true, restorable := false }

/-- A QSTATE changed to or from QUALIFIED (R318). -/
def State.refChange (s : State) (n : Nat) (r : RefSource) : State :=
  let was := decide ((s.refSrc n).qstate = 3)
  { s with
    dpll := s.dpll.mod n (fun _ => r)
    bus := if was = decide (r.qstate = 3) then s.bus else s.bus.raise s.inbandMask 2 }

/-- The monitors run (R301, R305). -/
def State.monitored (s : State) (n : Nat) : Bool := s.awake && (if n < 8 then s.refNamed n else decide (s.linkSource = some n))

/-- REF_BEAT_MISSED (R302, R303): MISS_TOL + 1 in a row disqualify; four nominal periods without a beat are no signal. -/
def execRefBeatMissed (src : Fin 8) (s : State) : Host.Outcome State Fault Refusal :=
  let r := { s.refSrc src.val with misses := (s.refSrc src.val).misses + 1, missSticky := true }
  let tol := field (s.dir 0x0202) 24 2
  let r1 := if tol < r.misses ∧ (r.qstate = 2 ∨ r.qstate = 3) then r.disqualify 1 else r
  let r2 := if 4 ≤ r1.misses then { r1 with qstate := 1, restorable := false, offsets := [] } else r1
  let s1 := s.refChange src.val r2
  .next (if s.monitored src.val then { s1 with dpll := { s1.dpll with secBad := s1.dpll.secBad || decide (s.dpll.current = src.val) } } else s)

/-- REF_SIGNAL_SEEN (R303): a beat; a source without signal, or disqualified for its activity, qualifies from here. -/
def execRefSignalSeen (src : Fin 8) (s : State) : Host.Outcome State Fault Refusal :=
  let r := { s.refSrc src.val with misses := 0 }
  let begins := decide (r.qstate = 1) || (decide (r.qstate = 4) && decide (r.dqReason = 1))
  let r1 := if !begins then r
    else if !s.refPortOk src.val then r.disqualify 5
    else if s.refNarrow src.val then r.disqualify 4
    else { r with qstate := 2, since := s.clock.now, cls := (s.port (src.val - 2)).cls }
  .next (if s.monitored src.val then s.refChange src.val r1 else s)

/-- A SYNC 0 port's class is not the one that its source began to qualify with (R299). -/
def State.refMoved (s : State) (n : Nat) : Bool :=
  decide (2 ≤ n) && decide (s.portSync (n - 2) = 0) && decide ((s.port (n - 2)).cls ≠ (s.refSrc n).cls)

/-- The cause of R302 that a report shows, as DQ_REASON codes it; 0: none. -/
def State.reportCause (s : State) (n : Nat) (ppb drift : Int) : Nat :=
  let win := field (s.dir 0x0203) 16 8
  let lim := field (s.dir 0x0203) 0 16
  if 1000 * field (s.dir 0x0202) 8 8 < ppb.natAbs then 2
  else if lim ≠ 0 ∧ 10 * win * lim < drift.natAbs then 3
  else if s.refNarrow n then 4
  else if !s.refPortOk n || s.refMoved n then 5
  else 0

/-- REF_FREQ_REPORT (R301-R303): the offset in ppb at a tick boundary where TICK is a multiple of 9,600. -/
def execRefFreqReport (src : Fin 10) (ppb : Int) (s : State) : Host.Outcome State Fault Refusal :=
  let n := src.val
  let r := s.refSrc n
  let win := field (s.dir 0x0203) 16 8
  let offs := (ppb :: r.offsets).take (10 * win + 1)
  let diff := if offs.length = 10 * win + 1 then ppb - offs.getLastD 0 else 0
  let r1 := { r with offset := ppb, offsets := offs, drift := if offs.length = 10 * win + 1 then looseQuot s.free diff (10 * win) else r.drift }
  let cause := s.reportCause n ppb diff
  let r2 := if n ≥ 8 then r1
    else if r.qstate = 1 then r
    else if r.qstate = 2 ∨ r.qstate = 3 then
      (if cause ≠ 0 then r1.disqualify cause
       else if r.qstate = 2 ∧ 1000 * field (s.dir 0x0202) 0 8 < ppb.natAbs then { r1 with since := s.clock.now } else r1)
    else if r.qstate = 4 then
      (if (cause = 0 ∨ (cause = 5 ∧ s.refPortOk n)) ∧ r.misses = 0 then { r1 with qstate := 2, since := s.clock.now, cls := (s.port (n - 2)).cls } else r1)
    else r1
  .next (if s.monitored n && decide (s.tickNat % 9600 = 0) then { s.refChange n r2 with free := s.free + 1 } else s)

/-- ACCEPT_TIME_END (R303, R304). -/
def execAcceptTimeEnd (src : Fin 8) (s : State) : Host.Outcome State Fault Refusal :=
  let r := s.refSrc src.val
  let due := s.monitored src.val && decide (r.qstate = 2) && decide (r.since + 9600 * field (s.dir 0x0202) 16 8 ≤ s.clock.now)
  .next (if due then s.refChange src.val { r with qstate := 3, dqReason := r.dqReason, qualifiedAt := s.clock.now, restorable := decide (field (s.dir 0x0201) 8 8 = 0) } else s)

/-- WTR_END (R304). -/
def execWtrEnd (src : Fin 8) (s : State) : Host.Outcome State Fault Refusal :=
  let r := s.refSrc src.val
  let due := decide (r.qstate = 3) && decide (r.qualifiedAt + 96000 * field (s.dir 0x0201) 8 8 ≤ s.clock.now) && s.awake
  .next (if due then { s with dpll := s.dpll.mod src.val (fun r => { r with restorable := true }) } else s)

/-- The seconds of the history that the held value is the mean of (R313), and whether the window itself held one. -/
def Dpll.heldSeconds (d : Dpll) (now avg guard_ : Nat) : List Int × Bool :=
  let te := now - 96000 * guard_
  let ts := max (te - 96000 * avg) d.lastCapture
  let inWin := d.history.filter (fun h => decide (h.at_ ≤ te ∧ ts + 96000 ≤ h.at_ ∧ 96000 * guard_ ≤ now))
  let all := d.history.filter (fun h => decide (d.lastCapture + 96000 ≤ h.at_))
  if inWin.isEmpty then (all.map (fun h => h.mean), false) else (inWin.map (fun h => h.mean), true)

/-- The mean of a list, without a stated rounding. -/
def meanOf (free : Nat) (l : List Int) : Int := looseQuot free (l.foldl (· + ·) 0) l.length

/-- The held ΔD of R313, SHORT_HISTORY and e0 of R314 in halves of a ppb. -/
def State.held (s : State) : Int × Bool × Nat :=
  let h := s.dpll.heldSeconds s.clock.now (field (s.dir 0x0205) 0 9) (field (s.dir 0x0205) 9 10)
  let spread := h.1.foldl max (h.1.headD 0) - h.1.foldl min (h.1.headD 0)
  (if h.1.isEmpty then s.dpll.delta else meanOf s.free h.1, !h.2,
   max 2 (looseQuot s.free (spread * 10 ^ 9) (word0 s.synth.xoFreq)).toNat)

/-- Holdover is entered (R313, R318): the held value takes effect in this tick. -/
def State.enterHoldover (s : State) : State :=
  { s with
    dpll := { s.dpll with
      state := .holdover, current := 15, target := 15, measured := none, delta := s.held.1, shortHistory := s.held.2.1, e0 := s.held.2.2,
      hoAt := s.clock.now, theta0 := (s.meas 11).value, hoSticky := true }
    bus := s.bus.raise s.inbandMask 2 }

/-- The outgoing side of a handoff holds over for the rest of MEASURE (R308). -/
def State.outgoingHolds (s : State) : State :=
  { s with
    dpll := { s.dpll with
      outgoing := .holdover, current := 15, delta := s.held.1, shortHistory := s.held.2.1, e0 := s.held.2.2, hoAt := s.clock.now,
      theta0 := (s.meas 11).value, hoSticky := true }
    bus := s.bus.raise s.inbandMask 2 }

/-- A handoff starts or is retargeted (R307, R308). -/
def State.startHandoff (s : State) (target : Nat) (revertive : Bool) : State :=
  { s with
    dpll := { s.dpll with
      state := .handoff, target := target, measured := none, revertive := revertive,
      outgoing := if s.dpll.state = .handoff then s.dpll.outgoing else s.dpll.state }
    bus := s.bus.raise s.inbandMask 2 }

/-- The rank of a source in the table; a source not named ranks last (R300). -/
def State.refRank (s : State) (n : Nat) : Nat := ((List.range 8).find? (fun e => decide (s.refEntry e = n))).getD 8

/-- The first entry whose source is QUALIFIED (R306); 15: none. -/
def State.refSel (s : State) : Nat :=
  match (List.range 8).find? (fun e => decide (s.refEntry e < 8) && decide (s.qstate (s.refEntry e) = 3)) with
  | some e => s.refEntry e
  | none => 15

/-- Sources whose beat rate is too low for the bandwidth in force, and port sources for which R299 has stopped to hold, are disqualified at
once (R302). -/
def State.refPorts (s : State) : State :=
  (List.range 8).foldl (fun s n =>
    if !s.refNamed n || !decide ((s.refSrc n).qstate = 2 ∨ (s.refSrc n).qstate = 3) then s
    else if s.refNarrow n then s.refChange n ((s.refSrc n).disqualify 4)
    else if !s.refPortOk n || s.refMoved n then s.refChange n ((s.refSrc n).disqualify 5) else s) s

/-- A link source that has become QUALIFIED or is so no more (R301, R318). -/
def State.linkQualified (s : State) : State :=
  let now := (s.linkSource).filter (fun n => decide (s.qstate n = 3))
  { s with
    dpll := { s.dpll with linkWas := now }
    bus := if now = s.dpll.linkWas then s.bus else s.bus.raise s.inbandMask 2 }

/-- A force on a source that is no longer qualified ends (R315), and so does any force once the device aligns to a link partner (R301; DEDUCED,
log entry 68). -/
def State.refForced (s : State) : State :=
  let stays := match s.dpll.force with
    | some (1, n) => decide (s.qstate n = 3) && s.linkSource.isNone
    | some _ => s.linkSource.isNone
    | none => true
  if stays then s else { s with dpll := { s.dpll with force := none }, bus := s.bus.raise s.inbandMask 2 }

/-- The target of R306, and whether the change is revertive. -/
def State.refTarget (s : State) : Nat × Bool :=
  let d := s.dpll
  let sel := s.refSel
  match s.linkSource with
  | some l => (l, false)
  | none =>
    match d.force with
    | some (1, n) => (n, false)
    | _ =>
      if !s.refGood d.current ∨ d.current = 15 then (sel, false)
      else if (s.dir 0x0201).testBit 0 && decide (sel ≠ 15) && decide (s.refRank sel < s.refRank d.current) && (s.refSrc sel).restorable then (sel, true)
      else (d.current, false)

/-- The selection with no handoff in progress (R306): an outgoing source that is disqualified is held over from here (R307, R308). -/
def State.refChoose (s : State) : State :=
  let t := s.refTarget
  let lost := decide (s.dpll.state = .tracking) && (decide (s.dpll.current = 15) || !s.refGood s.dpll.current)
  if t.1 = 15 then (if lost then s.enterHoldover else s)
  else if t.1 ≠ s.dpll.current then (if lost then (s.startHandoff t.1 t.2).outgoingHolds else s.startHandoff t.1 t.2)
  else s

/-- The first entry whose source is QUALIFIED, in a revertive handoff restorable (R308); 15: none. -/
def State.refAbove (s : State) (revertive : Bool) : Nat :=
  match (List.range 8).find? (fun e => decide (s.refEntry e < 8) && decide (s.qstate (s.refEntry e) = 3) &&
      (!revertive || (s.refSrc (s.refEntry e)).restorable)) with
  | some e => s.refEntry e
  | none => 15

/-- A handoff in progress meets the events of R308. -/
def State.refDuring (s : State) : State :=
  let d := s.dpll
  let t := d.target
  let sel := s.refAbove d.revertive
  let outBad := decide (d.outgoing = .tracking) && (decide (d.current = 15) || !s.refGood d.current)
  let better := match s.linkSource, d.force with
    | some l, _ => if l = t then none else some l
    | none, some (1, n) => if n = t then none else some n
    | none, _ => if sel ≠ 15 ∧ s.refRank sel < s.refRank t then some sel else none
  if !s.refGood t then
    { s with dpll := { d with state := d.outgoing, target := 15, measured := none }, bus := s.bus.raise s.inbandMask 2 }.refChoose
  else
    let s1 := match better with | some n => s.startHandoff n d.revertive | none => s
    if outBad then s1.outgoingHolds else s1

/-- REF_SELECTION at a tick boundary (R306). A forced holdover or free-run stays until it is released (R315). -/
def State.refSelect (s : State) : State :=
  let s1 := s.refPorts.linkQualified.refForced
  let idle := match s1.dpll.force with | some (k, _) => decide (k ≠ 1) && s1.linkSource.isNone | none => false
  if !s1.awake || idle then s1
  else if s1.dpll.state = .handoff then s1.refDuring else s1.refChoose

/-- HANDOFF_MEASURE_DONE (R307): the eight incoming beat times less the outgoing tracked phase, in root periods, each taken modulo
the nominal period into [−½, +½) period; and the mean pulse position of R312. -/
def execHandoffMeasureDone (beats : List Int) (pulse : Int) (s : State) : Host.Outcome State Fault Refusal :=
  .next (if s.dpll.state = .handoff ∧ s.awake ∧ beats.length = 8 then
    { s with dpll := { s.dpll with measured := some (meanOf s.free beats, pulse), measuredAt := s.clock.now }, free := s.free + 1 } else s)

/-- PULL in units of 2^-48 of W, and ΔD within it (R309). -/
def State.pull (s : State) : Int :=
  let p := field (s.dir 0x0204) 8 12
  ppmOf (word0 s.synth.xoFreq) (if s.rejoining then min 100 p else p)
def State.pulled (s : State) (d : Int) : Int := max (-s.pull) (min s.pull d)

/-- The frame-pulse alignment A at a capture of source n (R312). -/
def State.alignAt (s : State) (n : Nat) (pulse : Int) : Nat :=
  let v := s.dir (0x0210 + n)
  if n < 2 ∧ field v 0 2 = 1 ∧ v.testBit 3 then
    ((pulse + signed (s.dir (0x0212 + n)) 64) % (field v 15 17 * 32768 : Nat)).toNat
  else s.dpll.align

/-- HANDOFF_CAPTURE (R307, R312, R318): at the first tick boundary after the eighth beat. -/
def execHandoffCapture (s : State) : Host.Outcome State Fault Refusal :=
  let n := s.dpll.target
  .next (match s.dpll.state, s.dpll.measured with
    | .handoff, some (phi, pulse) =>
      if s.clock.now ≤ s.dpll.measuredAt || !s.awake then s
      else { s with
        synth := s.realign (s.alignAt n pulse)
        dpll := { s.dpll with
          state := .tracking, current := n, target := 15, measured := none, buildOut := phi,
          delta := s.pulled (roundDiv (word0 s.synth.xoFreq * (s.refSrc n).offset) (10 ^ 9)),
          loopSum := s.pulled (roundDiv (word0 s.synth.xoFreq * (s.refSrc n).offset) (10 ^ 9)),
          lastCapture := s.clock.now, secBad := true, switches := satAdd 16 s.dpll.switches 1, switchSticky := true,
          shortHistory := false, align := s.alignAt n pulse }
        log := s.log.add 0x2C 1
        bus := s.bus.raise s.inbandMask 2 }
    | _, _ => s)

/-- The DPLL at a tick boundary (R303, R305, R309, R311, R313): the type-2 loop's output while a source is tracked, coasting over its missed
beats, and the mean of the second. BW and DAMP act from here. -/
def State.dpllTick (s : State) : State :=
  let d := s.dpll
  let loop := s.awake && (decide (d.state = .tracking) || (decide (d.state = .handoff) && decide (d.outgoing = .tracking))) &&
    (decide (8 ≤ d.current) || decide ((s.refSrc d.current).misses = 0))
  let sum := d.loopSum + Config.loopTerm true d.bw d.damp s.free
  let out := sum + Config.loopTerm false d.bw d.damp s.free
  let on := decide (d.state = .tracking) && s.synth.lock
  let ho := decide (d.state = .holdover) || decide (d.state = .expired)
  let d1 := { d with
    delta := if loop then s.pulled out else d.delta
    loopSum := if loop then sum else d.loopSum
    bw := if s.linkSource.isSome then bandwidth 15 else bandwidth (field (s.dir 0x0204) 0 5)
    damp := if s.linkSource.isSome then damping 4 else damping (field (s.dir 0x0204) 5 3)
    pullLimit := d.pullLimit || (loop && decide (s.pull ≤ out.natAbs)) }
  { s with
    dpll := { d1 with
      secSum := if on then d.secSum + d1.delta else 0
      secTicks := if on then d.secTicks + 1 else 0
      secBad := on && d.secBad }
    log := if s.awake && ho && decide (d.hoAt < s.clock.now) && decide ((s.clock.now - d.hoAt) % 96000 = 0) then s.log.add 0x30 1 else s.log
    free := s.free + 1 }

/-- HOLDOVER_HISTORY_RECORD (R313): each second of tracking with LOCK; one with a capture or a missed beat is not recorded. -/
def execHoldoverHistoryRecord (s : State) : Host.Outcome State Fault Refusal :=
  let d := s.dpll
  .next (if d.state = .tracking ∧ s.synth.lock ∧ s.awake ∧ 96000 ≤ d.secTicks then
    { s with
      dpll := { d with
        history := if d.secBad then d.history else ({ at_ := s.clock.now, mean := looseQuot s.free d.secSum d.secTicks } :: d.history).take 1024
        secSum := 0
        secTicks := 0
        secBad := false }
      free := s.free + 1 }
  else s)

/-- The DPLL holds over (R308, R313): also through the handoff that would end it; and for how many ticks, up to the stop of the root (R305). -/
def Dpll.holds (d : Dpll) : Bool :=
  let ho := fun (x : DpllState) => decide (x = .holdover) || decide (x = .expired)
  ho d.state || (decide (d.state = .handoff) && ho d.outgoing)
def State.hoTime (s : State) : Nat := s.dpll.stoppedAt.getD s.clock.now - s.dpll.hoAt

/-- e(t) of R314 times 2 · 100 · 86,400 · 96,000, in ppb. -/
def State.hoError (s : State) : Nat :=
  let t := s.hoTime
  s.dpll.e0 * 829440000000 + field (s.dir 0x0207) 0 16 * t * 200 +
    field (s.dir 0x0207) 16 16 * ((s.meas 11).value - s.dpll.theta0).natAbs * 16588800000

/-- HOLDOVER_EXPIRE (R314, R318): holdover expires also while a handoff out of it measures. -/
def execHoldoverExpire (s : State) : Host.Outcome State Fault Refusal :=
  let t := s.hoTime
  let f := field (s.dir 0x0206) 0 16
  let m := field (s.dir 0x0206) 16 16
  let due := (decide (f ≠ 0) && decide (f * 1658880000000 < s.hoError)) || (decide (m ≠ 0) && decide (96000 * 60 * m < t))
  .next (if s.dpll.state = .holdover && s.awake && due then
    { s with
      dpll := { s.dpll with state := .expired, expSticky := true }
      bus := (s.bus.raise s.inbandMask 4).raise s.inbandMask 2 }
  else if s.dpll.state = .handoff && decide (s.dpll.outgoing = .holdover) && s.awake && due then
    { s.raise 4 with dpll := { s.dpll with outgoing := .expired, expSticky := true } }
  else s)

/-- A force takes effect, unless R301 applies (R315): 0 release, 1 a source, 2 holdover, 3 free-run. -/
def State.forceTo (s : State) (action src : Nat) : State :=
  let s1 := s.raiseIf s.dpll.force.isSome 2
  if s.linkSource.isSome && decide (action ≠ 0) then s else
  match action with
  | 0 => { s1 with dpll := { s.dpll with force := none } }
  | 1 => { s1 with dpll := { s.dpll with force := some (1, src) } }
  | 2 => { s1.enterHoldover with dpll := { s1.enterHoldover.dpll with force := some (2, 0) } }
  | _ => { s1.raiseIf (decide (s.dpll.state ≠ .freerun)) 2 with dpll := { s.dpll with
      force := some (3, 0), state := .freerun, current := 15, target := 15, measured := none, delta := 0 } }

/-- Forces whose tick has come act before the selection of that boundary (R306, R315). -/
def State.forceDue (s : State) : Bool := s.awake && s.dpll.forceNext.any (fun e => decide (e.1 ≤ s.tickNat))
def State.forcesAct (s : State) : State :=
  let due := s.dpll.forceNext.filter (fun e => decide (e.1 ≤ s.tickNat))
  let s1 := { s with dpll := { s.dpll with forceNext := s.dpll.forceNext.filter (fun e => !decide (e.1 ≤ s.tickNat)) } }
  if s.forceDue then due.foldl (fun s e => s.forceTo e.2.1 e.2.2.1) s1 else s

/-- FORCE_ACT (R315). -/
def execForceAct (s : State) : Host.Outcome State Fault Refusal := .next s.forcesAct

/-- A source without signal, its history kept (R305, R316, R318). -/
def RefSource.restart (r : RefSource) : RefSource := { missSticky := r.missSticky, dqSticky := r.dqSticky, dqReason := r.dqReason }

/-- The DPLL on entry to Idle from BOOT, Rest or Watch (R305, R312, R315). -/
def Dpll.start (d : Dpll) : Dpll :=
  { d with
    src := (List.range 10).foldl (fun t n => tabMod (fun _ => {}) t n RefSource.restart) d.src
    state := .freerun, current := 15, target := 15, measured := none, outgoing := .freerun, buildOut := 0, delta := 0,
    force := none, forceNext := [], history := [], secSum := 0, secTicks := 0, secBad := false, lastCapture := 0, align := 0, shortHistory := false,
    loopSum := 0, linkWas := none, stoppedAt := none }

/-- Starting the DPLL changes its state, its source, the QUALIFIED state of a source or ends a force (R318). -/
def Dpll.startNews (d : Dpll) : Bool :=
  decide (d.state ≠ .freerun) || decide (d.current ≠ 15) || d.force.isSome || (List.range 8).any (fun n => decide ((tabGet (fun _ => ({} : RefSource)) d.src n).qstate = 3))

/-- A write of block 0x02 (R316): qualification restarts for the sources whose REF_WCK or table entry changed. -/
def State.refWritten (s : State) (id old : Nat) : State :=
  let v := s.dir id
  let hit := fun n =>
    if id = 0x0200 then (List.range 8).any (fun e => decide (field old (4 * e) 4 ≠ field v (4 * e) 4) && decide (field old (4 * e) 4 = n ∨ field v (4 * e) 4 = n))
    else decide (id = 0x0210 + n) && decide (n < 2) && decide (old ≠ v)
  ((List.range 8).filter hit).foldl (fun s n => s.refChange n (s.refSrc n).restart) s

/-- Status words of the references (R318). -/
def State.refWordsOf (s : State) (n : Nat) : List Nat :=
  let r := s.refSrc n
  let wtr := decide (n < 8) && decide (s.qstate n = 3) && !r.restorable
  [s.qstate n + 8 * r.dqReason + 64 * b2n wtr + 128 * b2n r.restorable + 256 * b2n r.missSticky + 512 * b2n r.dqSticky +
     65536 * (sat 16 r.drift % 65536).toNat,
   (r.offset % 2 ^ 32).toNat]
def dpllCode : DpllState → Nat | .freerun => 0 | .handoff => 1 | .tracking => 2 | .holdover => 3 | .expired => 4
def State.refWords (s : State) : List Nat :=
  let d := s.dpll
  (List.range 10).flatMap s.refWordsOf ++
  [dpllCode d.state + 8 * d.current + 128 * (if d.state = .handoff then d.target else 15) + 2 ^ 11 * b2n d.force.isSome + 2 ^ 12 * b2n d.shortHistory +
     2 ^ 13 * b2n d.pullLimit + 2 ^ 14 * b2n d.hoSticky + 2 ^ 15 * b2n d.expSticky + 2 ^ 16 * b2n d.switchSticky,
   if d.holds then s.hoTime / 96000 else 0,
   if d.holds then (looseQuot s.free s.hoError 1658880000000).toNat else 0,
   (looseQuot s.free (d.delta * 10 ^ 9) (word0 s.synth.xoFreq) % 2 ^ 32).toNat,
   d.switches]

/-- STICKY_CLEAR of the reference group (R318). -/
def State.clearRefs (s : State) : State :=
  { s with dpll := { (List.range 10).foldl (fun d n => d.mod n (fun r => { r with missSticky := false, dqSticky := false })) s.dpll with
      pullLimit := false, hoSticky := false, expSticky := false, switchSticky := false, switches := 0 } }

/-- REF_FP_OFFSET lies within ± one frame (R316). -/
def fpOffsetOk (bank : Nat → Nat) (w : Nat) : Bool :=
  decide ((signed (bank (0x0212 + w)) 64).natAbs ≤ 32768 * field (bank (0x0210 + w)) 15 17)

/-- The reference part of the check (R317): the code, KIND and INDEX. At ARM, `usable` says that the DPLL is TRACKING with LOCK. -/
def checkRefs (bank : Nat → Nat) (arm usable : Bool) : Option (Nat × Nat × Nat) :=
  let entry := fun e => field (bank 0x0200) (4 * e) 4
  let l := (List.range 8).filter (fun e => decide (entry e ≠ 15))
  let bad := fun id => !paramFieldsOk id (bank id) || (decide (0x0212 ≤ id) && !fpOffsetOk bank (id - 0x0212))
  let foreign := fun e => decide (2 ≤ entry e) &&
    (let p := entry e - 2
     !(bank (0x1406 + p)).testBit 0 || fmtBck (bank (0x1400 + p)) || fmtFs (bank (0x1400 + p)))
  let slow := fun e =>
    !(decide (2 ≤ entry e) && decide (field (bank (0x1406 + (entry e - 2))) 1 2 = 0)) &&
    tooNarrow (beatRate bank (fun _ => 0) (entry e)) (bandwidth (field (bank 0x0204) 0 5))
  match ((List.range 8).map (· + 0x0200) ++ (List.range 4).map (· + 0x0210)).find? bad with
  | some id => some (0x03, 1, id)
  | none => match l.find? (fun e => l.any (fun f => decide (f < e) && decide (entry f = entry e))) with
  | some e => some (0x05, 14, e)
  | none => match l.find? foreign with
  | some e => some (0x06, 14, e)
  | none =>
    if field (bank 0x0202) 8 8 ≤ field (bank 0x0202) 0 8 then some (0x04, 1, 0x0202)
    else if field (bank 0x0204) 8 12 < field (bank 0x0202) 8 8 then some (0x02, 1, 0x0204)
    else match l.find? slow with
    | some e => some (0x07, 14, e)
    | none => if arm && (bank 0x0201).testBit 1 && !usable then some (0x01, 16, 0) else none

end Sys2Proof.Machine
end

