-- ==== Sys2Proof/Machine/Wake.lean ====
section
/-! DEFINITION. The listening source, the wake chain, the history ring, templates and the handover (chapter 14). -/
namespace Sys2Proof.Machine

/-- The supplies that the listening source needs in Watch are valid (R321, R353). -/
def State.listenFed (s : State) : Bool :=
  if s.wkSource = 8 then s.power.valid.getLsbD 3 && s.power.valid.getLsbD 4 else s.power.valid.getLsbD 5

/-- Listening should run (R334, R348, R353). -/
def State.wantsListen (s : State) : Bool :=
  s.wkEnable &&
    (match s.power.mode with
     | .watch => s.listenFed
     | .idle | .run => (match s.power.entering with | some (.rest, _) => false | _ => true)
     | _ => false)

/-- Listening starts (R348): START_IDX is the next index, and nothing before it is available. -/
def Wake.listen (w : Wake) : Wake :=
  { w with listening := true, startIdx := w.widx, ring := [], group := [], cic := {}, taps := [], floor := none, framesOver := 0, episode := none }

/-- Listening stops, and with it an episode and the wake stream (R353, R354). -/
def Wake.deaf (w : Wake) : Wake := { w with listening := false, episode := none, framesOver := 0, handover := none, caughtUp := false }

/-- An episode that R353 counts as lost. -/
def State.loseEpisode (s : State) : State :=
  if s.wake.episode.isSome then
    { s with
      wake := { s.wake with lostSticky := true, lostRest := satAdd 16 s.wake.lostRest 1 }
      log := s.log.add 0xF8 1 }
  else s

/-- Bring listening up to date with the mode, the supplies and WK_CFG (R348, R353). -/
def State.listenUpdate (s : State) : State :=
  if s.wantsListen = s.wake.listening then s
  else if s.wantsListen then { s with wake := s.wake.listen }
  else { s.loseEpisode with wake := s.loseEpisode.wake.deaf }

/-- A write of a WAKE parameter restarts listening (R348). -/
def State.wakeWritten (s : State) : State :=
  { s with wake := if s.wantsListen then s.wake.deaf.listen else if s.wake.listening then s.wake.deaf else s.wake }

/-- The mode changed with WIDX where it is (R352). -/
def State.markMode (s : State) : State := { s with wake := { s.wake with modeMarks := (s.wake.widx :: s.wake.modeMarks).take 64 } }

/-- The change waits (R345): a rate change to or from 3.072 MHz while stage 2 runs on the root clock, or a root clock that does not run. -/
def State.pdmWaits (s : State) (c : Nat) : Bool :=
  let a := s.wake.clk c
  let b := s.pdmWant c
  (s.wake.episode.isSome && s.clock.rootRunning && decide (a.rate ≠ b.rate ∧ 0 < a.rate * b.rate)) ||
    (decide (b = .slow ∨ b = .fast) && !s.clock.rootRunning)

/-- PDM_CLOCK_SWITCH (R344, R345): CLK_SETTLE runs from a change of rate. -/
def execPdmClockSwitch (c : Fin 2) (s : State) : Host.Outcome State Fault Refusal :=
  let a := s.wake.clk c.val
  let b := s.pdmWant c.val
  let settle := if b.rate = 4 ∨ (a.rate = 4 ∧ b.rate = 1) then some (s.clock.now + s.clkSettle)
    else if a.rate = b.rate then s.wake.settle c.val else none
  .next (if a = b || s.pdmWaits c.val then s
    else if c.val = 0 then { s with wake := { s.wake with clk0 := b, settle0 := settle, group := [] } }
    else { s with wake := { s.wake with clk1 := b, settle1 := settle, group := [] } })

/-- The channels of clock c with their chains cleared: 12 samples are marked from the first on (R84). -/
def State.startPdm (s : State) (c : Nat) : Tab PdmCh :=
  (List.range 4).foldl (fun t k => tabMod (fun _ => {}) t (4 * c + k) (fun _ => { unsettledTo := s.clock.now + 12 })) s.conv.pdm

/-- PDM_CLK_SETTLE_END (R84, R345): the full-quality chain starts. -/
def execPdmClkSettleEnd (c : Fin 2) (s : State) : Host.Outcome State Fault Refusal :=
  let due := match s.wake.settle c.val with | some t => decide (t ≤ s.clock.now) | none => false
  .next (if due then
    { s with
      wake := if c.val = 0 then { s.wake with settle0 := none } else { s.wake with settle1 := none }
      conv := { s.conv with pdm := if s.wake.clk c.val = .fast then s.startPdm c.val else s.conv.pdm } }
  else s)

/-- One value at 768 kHz enters the wake chain (R347): order 4, by 48, 29 bits, the compensator, and the scale 2^23 / (4·48^4);
each sample made is written to the ring (R348). -/
def Wake.feed (w : Wake) (free : Nat) (x : Int) : Wake :=
  let r := w.cic.decimate 4 48 29 x
  match r.2 with
  | none => { w with cic := r.1 }
  | some v =>
    let taps := (v :: w.taps).take 11
    { w with
      cic := r.1
      taps := taps
      ring := (sat 24 (looseQuot free (fir taps (Config.wakeDroop taps) * 32) 81) :: w.ring).take 32768
      widx := w.widx + 1 }

/-- A bit at 768 kHz, as the sum of four equal ones; a bit at 3.072 MHz, summed in groups of four (R347). -/
def Wake.slowBit (w : Wake) (free : Nat) (b : Bool) : Wake := w.feed free (if b then 4 else -4)
def Wake.fastBit (w : Wake) (free : Nat) (b : Bool) : Wake :=
  if w.group.length < 3 then { w with group := b :: w.group }
  else { w with group := [] }.feed free (((b :: w.group).map (fun (x : Bool) => if x then (1 : Int) else -1)).foldl (· + ·) 0)

/-- The bit of PDM channel k, or 8 of the AIN0 modulator, among the bits of the data pins, falling edge before rising (R343, R346): SWAP
exchanges the two channels of a pin. -/
def State.pdmBit (s : State) (pdm : List Bool) (k : Nat) : Bool :=
  pdm.getD (if k < 8 && (s.dir 0x1802).testBit (2 + k / 4) then k ^^^ 1 else k) false

/-- The bit of the listening source among the falling-edge and the rising-edge bit of its data pin, in Watch (R343, R346); the AIN0 modulator gives
the first. -/
def State.watchBit (s : State) (b : Bool × Bool) : Bool :=
  let k := s.wkSource
  if k < 8 && xor (decide (k % 2 = 1)) ((s.dir 0x1802).testBit (2 + k / 4)) then b.2 else b.1

/-- The wake chain in a sprint sample with the root running (R344, R346): 16 sprint samples to a bit at 768 kHz, 4 at 3.072 MHz. A clock that LOSC
still gives runs on at 768 kHz until the root takes over (R345, R353). -/
def State.wakeSample (s : State) (pdm : List Bool) : Wake :=
  let b := s.pdmBit pdm s.wkSource
  let clk := s.wake.clk (s.wkSource / 4)
  if !s.wake.listening then s.wake
  else if s.wkSource = 8 then (if s.clock.phase % 16 = 0 then s.wake.slowBit s.free b else s.wake)
  else match clk with
    | .slow | .losc => if s.clock.phase % 16 = 0 then s.wake.slowBit s.free b else s.wake
    | .fast => if s.clock.phase % 4 = 0 then s.wake.fastBit s.free b else s.wake
    | _ => s.wake

/-- How far the read position lags WIDX, in sixths of a sample (R354). -/
def Handover.lag (h : Handover) (widx : BitVec 32) : Int := 6 * ((widx - h.idx).toInt) - h.sixth

/-- The position one tick later: r sixths on while it catches up, one sixth when live (R354). -/
def Handover.next (h : Handover) : Handover :=
  let k := h.sixth + (if h.live then 1 else h.r)
  { h with idx := h.idx + BitVec.ofNat 32 (k / 6), sixth := k % 6 }

/-- The first whole position at or after the read position (R354). -/
def Handover.whole (h : Handover) : BitVec 32 := if h.sixth = 0 then h.idx else h.idx + 1

/-- p has reached WIDX − 8 (R354): the stream moves to the live rate; `tick` is the TICK at which p was presented. -/
def Wake.catchUp (w : Wake) (tick : Nat) : Wake :=
  match w.handover with
  | some h =>
    if !h.live && h.ran && decide (h.lag w.widx ≤ 48) then
      { w with
        handover := some { h with live := true }
        caughtUp := true
        hIndex := h.whole
        hTick := BitVec.ofNat 32 (tick + (if h.sixth = 0 then 0 else 6 - h.sixth)) }
    else w
  | none => w

/-- HANDOVER_CAUGHT_UP (R354). -/
def execHandoverCaughtUp (s : State) : Host.Outcome State Fault Refusal := .next { s with wake := s.wake.catchUp s.tickNat }

/-- The ring sample of an index; 0 where the ring holds none. -/
def Wake.at_ (w : Wake) (i : BitVec 32) : Int := w.ring.getD (w.widx - 1 - i).toNat 0

/-- The stream word of the read position (R354): exact at whole positions; the 73 taps span six samples before and six after. -/
def Wake.readAt (w : Wake) (h : Handover) : StreamWord :=
  if h.sixth = 0 then { sample := word (w.at_ h.idx * 256) }
  else
    let x := (List.range 13).map (fun k => w.at_ (h.idx + 6 - BitVec.ofNat 32 k))
    let y := fir x (Config.wakeInterp h.sixth x)
    { sample := word (sat32 y), clipped := saturates 32 y }

/-- The wake stream at a tick boundary (R354, R170): `tick` is TICK at this boundary. -/
def Wake.tick (w : Wake) (tick : Nat) : Wake :=
  let w1 := w.catchUp (tick - 1)
  match w1.handover with
  | some h =>
    let h1 := if h.ran then h.next else { h with ran := true }
    { w1 with handover := some h1, stream := w1.readAt h1 }
  | none => { w1 with stream := { sample := 0, unsettled := true } }

/-- The oldest index that a handover may start from while WIDX is `widx` (R354): START_IDX, or WIDX − 32,760 where that is later. -/
def Wake.oldest (w : Wake) (widx : BitVec 32) : BitVec 32 :=
  if (widx - w.startIdx).toNat ≤ 32760 then w.startIdx else widx - 32760

/-- The index S that a FROM leads to (R354), with WIDX as it will be at the start: 0xFFFF_FFFF is the start of the newest record, and an older one is raised. -/
def Wake.startFrom (w : Wake) (widx : BitVec 32) (frm : Nat) : BitVec 32 :=
  let f := if frm = 0xFFFFFFFF then (match w.records with | r :: _ => r.start | [] => w.oldest widx) else BitVec.ofNat 32 frm
  if (f - w.oldest widx).toInt < 0 then w.oldest widx else f

/-- A start or a stop acts (R354): a start from the index S that the reply gave, or from START_IDX where listening has started anew since then;
none stops the stream. -/
def Wake.hand (w : Wake) (frm : Option (BitVec 32)) (r : Nat) : Wake :=
  match frm with
  | some i =>
    { w with handover := some { idx := if (i - w.startIdx).toInt < 0 then w.startIdx else i, r := r }, caughtUp := false, hIndex := 0xFFFFFFFF }
  | none => { w with handover := none, caughtUp := false }

/-- Wake samples made by the boundary d ticks ahead (R348): one for every 48 values, of which there are 8 to a tick. -/
def State.samplesBy (s : State) (d : Nat) : Int := ((s.wake.cic.count : Int) - ceilDiv s.clock.phase 16 + 8 * d) / 48

/-- WIDX at the start of the tick `effect` (R348, R354). -/
def State.widxAt (s : State) (effect : Nat) : BitVec 32 := s.wake.widx + BitVec.ofInt 32 (s.samplesBy (effect - s.tickNat))

/-- How far p lags WIDX k ticks after a start from index i, which comes d ticks after the heat in progress (R348, R354). -/
def State.lagAfter (s : State) (i : BitVec 32) (r d k : Nat) : Int :=
  6 * ((s.wake.widx - i).toInt + s.samplesBy (d + k)) - (r * k : Nat)

/-- The tick count after the start at which p is expected to reach WIDX − 8, sought from k on among n (R354). -/
def State.seekReach (s : State) (i : BitVec 32) (r d : Nat) : Nat → Nat → Nat
  | 0, k => k
  | n + 1, k => if s.lagAfter i r d k ≤ 48 then k else s.seekReach i r d n (k + 1)

/-- The expected H and T_H of a start at a tick of effect from index i (R354). -/
def State.expectHand (s : State) (i : BitVec 32) (r effect : Nat) : BitVec 32 × Nat :=
  let d := effect - s.tickNat
  let k := s.seekReach i r d 32 ((s.lagAfter i r d 0 - 60).toNat / (r - 1))
  (i + BitVec.ofNat 32 (ceilDiv (r * k) 6), effect + k + (6 - (r * k) % 6) % 6)

/-- A HISTORY_HANDOVER with a tick that is due (R354). -/
def State.handoverDue (s : State) : Bool := s.wake.handoverNext.any (fun e => decide (e.1 ≤ s.tickNat))

/-- The requests for a tick act, the latest one last (R354). -/
def State.handoverAct (s : State) : State :=
  let due := s.wake.handoverNext.filter (fun e => decide (e.1 ≤ s.tickNat))
  let w0 := { s.wake with handoverNext := s.wake.handoverNext.filter (fun e => !decide (e.1 ≤ s.tickNat)) }
  { s with wake := due.foldl (fun (w : Wake) e => w.hand e.2.1 e.2.2.1) w0 }

/-- The core-rate version of the listening microphone is valid (R355). -/
def State.joinValid (s : State) : Bool :=
  s.wake.listening && s.clock.rootRunning && s.awake &&
    (if s.wkSource = 8 then !(s.captureIn 0).unsettled
     else decide (s.pdmClock s.wkSource = .fast) && !(s.capturePdm s.wkSource).unsettled)

/-- D_core of R355 in ns: 61.8 µs of a PDM channel (R83); the input end of R34 with the additions of R33 and R76 for AIN0. -/
def State.coreLatency (s : State) : Nat :=
  if s.wkSource < 8 then 61800
  else 23965 + (match (s.inCh 0).mode with | 1 => 35 | 2 => 25 | _ => 0) + (if s.act 0x0418 = 1 then 186000 else 0) +
    (match s.inOrder 0 with | 4 => 153 | 5 => 305 | _ => 0)

/-- JOIN_DELAY (R355): Fc has 10,416.7 ns to the tick. -/
def State.joinDelay (s : State) : Nat := (roundDiv (10 * (934900 - (s.coreLatency : Int))) 104167).toNat

/-- A byte of a template that has been written. -/
def Template.byte (t : Template) (k : Nat) : Option Byte := tabFind t.bytes k

/-- The slot is ready (R351). -/
def Template.judge (t : Template) : Bool :=
  match t.byte 0 with
  | some f =>
    let n := 8 + 16 * f.toNat
    let bs := (List.range (n + 4)).filterMap t.byte
    let thr := le bs 2 2
    decide (8 ≤ f.toNat ∧ f.toNat ≤ 128) && decide (bs.length = n + 4) && (bs.getD 1 0).getLsbD 0 && decide (1 ≤ thr ∧ thr ≤ 4800) &&
      !((bs.drop 8).take (n - 8)).contains 0x80 && decide (le bs n 4 = crc32c (bs.take n))
  | none => false

/-- A piece of a template (R351): none where it is refused. -/
def Wake.loadPiece (w : Wake) (slot ofs : Nat) (bytes : List Byte) : Option Wake :=
  let resv := decide (ofs ≤ 1 ∧ 1 < ofs + bytes.length) && decide (2 ≤ (bytes.getD (1 - ofs) 0).toNat)
  if 2060 < ofs + bytes.length ∨ resv then none
  else
    let old := tabGet (fun _ => ({} : Template)) w.templates slot
    let put := (List.range bytes.length).foldl (fun t k => tabPut t (ofs + k) (bytes.getD k 0)) (if ofs = 0 then [] else old.bytes)
    let t : Template := { bytes := put, ready := false }
    let t1 := { t with ready := t.judge }
    let drop := fun (e : Episode) => { e with slots := e.slots.filter (fun k => decide (k ≠ slot)) }
    some { w with
      templates := tabSet (fun _ => {}) w.templates slot t1
      episode := if t1.ready && decide (ofs ≠ 0) then w.episode else w.episode.map drop }

/-- A ready slot. -/
def Wake.ready (w : Wake) (k : Nat) : Bool := (tabGet (fun _ => ({} : Template)) w.templates k).ready

/-- The words of an event record (R358). -/
def WakeRec.words (r : WakeRec) : List Nat :=
  [r.start.toNat, r.end_.toNat, r.seq + 256 * r.template + 2048 * b2n r.late + 4096 * r.modeEnd + 65536 * r.distance]

/-- The 31 wake words (R358): the records oldest first, and zeros for records not yet made. JOIN_DELAY is a free value until valid. -/
def State.wakeWords (s : State) : List Nat :=
  let w := s.wake
  let recs := (w.records.reverse).flatMap WakeRec.words
  [b2n w.listening + 2 * b2n w.episode.isSome + 4 * b2n w.handover.isSome + 8 * b2n w.caughtUp +
     16 * b2n (decide (w.clk0 = .losc ∨ w.clk1 = .losc)) + 32 * b2n s.joinValid +
     64 * ((List.range 4).foldl (fun a k => a + (if w.ready k then 2 ^ k else 0)) 0) + 1024 * w.seq + 2 ^ 18 * b2n w.lostSticky,
   w.widx.toNat, w.startIdx.toNat, w.hIndex.toNat, w.hTick.toNat,
   (if s.joinValid then s.joinDelay else (Config.freeInt s.free % 65536).toNat), w.lostRest + 65536 * w.rejected] ++
  recs ++ List.replicate (24 - recs.length) 0

/-- STICKY_CLEAR of the wake group (R358). -/
def State.clearWake (s : State) : State := { s with wake := { s.wake with lostSticky := false, lostRest := 0, rejected := 0 } }

end Sys2Proof.Machine
end

