-- ==== Sys2Proof/Machine/Flags.lean ====
section
/-! DEFINITION. The flag bytes and words that the buses and packets show: attention, SESSION_STATE, BUS_FLAGS, the SPI status byte,
the register window, and the states of the balls (R5, R326, R364, R371-R374, R376, R378-R381). -/
namespace Sys2Proof.Machine

/-- A bus port by number: 0 SPI, 1 two-wire. -/
def Bus.port (b : Bus) (twi : Bool) : BusPort := if twi then b.twi else b.spi
def Bus.mod (b : Bus) (twi : Bool) (f : BusPort → BusPort) : Bus := if twi then { b with twi := f b.twi } else { b with spi := f b.spi }
def State.modBus (s : State) (twi : Bool) (f : BusPort → BusPort) : State := { s with bus := s.bus.mod twi f }

/-- ATTN_CAUSE as a bus reads it: bit 0 is its own reply FIFO's (R378). -/
def Bus.cause (b : Bus) (twi : Bool) : Nat := b.attn.toNat / 2 * 2 + b2n (!(b.port twi).replies.isEmpty)

/-- ATTN_N is pulled low (R336, R379): in Idle and Run for an enabled cause, released from step 2 of the sequence of R333 on, and by a wake
in Rest. -/
def State.attnLow (s : State) : Bool :=
  s.power.attnHeld ||
  (s.awake && !(s.power.entering.isSome && decide (s.power.entryStep = 2)) && !s.power.inReset && decide (s.bus.cause false &&& s.dir 0x1901 ≠ 0))

/-- A cause that in-band attention may repeat is set (R380). -/
def State.inbandSet (s : State) : Bool := decide (s.bus.cause true &&& s.inbandMask ≠ 0)

/-- An in-band pulse is due (R380): one falls due when a masked cause sets, or REPEAT after the last pulse. -/
def State.inbandDue (s : State) : Bool :=
  let rep := field (s.dir 0x1903) 8 8
  let again := match s.bus.lastPulse with | some t => decide (rep ≠ 0 ∧ t + 960 * rep ≤ s.clock.now) | none => false
  (s.dir 0x1903).testBit 0 && s.awake && (s.bus.pulseDue || (again && s.inbandSet && !s.bus.readSince))

/-- No device key is set (R392). -/
def Mram.unprovisioned (m : Mram) : Bool := m.key.all (fun b => decide (b = 0))

/-- Failed proofs are being delayed on a port (R393). -/
def State.lockedOut (s : State) (p : Nat) : Bool := decide (s.clock.now < tabGet (fun _ => 0) s.ctl.lockedUntil p)

/-- STATE of a binding (R372): 0 none, 1 opening, 2 open. -/
def Control.stateOf (c : Control) (b : Binding) : Nat :=
  if (c.sessionOf b).isSome then 2 else if c.challenges.any (fun x => decide (x.binding = b)) then 1 else 0

/-- SESSION_STATE (R372). -/
def State.sessionState (s : State) (b : Binding) : Nat :=
  s.ctl.stateOf b + 4 * b2n s.mram.unprovisioned + 8 * b2n (s.lockedOut b.port)

/-- BUS_FLAGS (R373). -/
def State.busFlags (s : State) (twi : Bool) : Nat := ((s.bus.port twi).flags.toNat) ||| (if twi && s.inbandDue then 128 else 0)

/-- MAILBOX_FREE and REPLY_READY (R365, R371, R381). -/
def State.mailFree (s : State) (twi : Bool) : Nat := if s.served then 2080 - (s.bus.port twi).mailQueued else 0
def State.replyReady (s : State) (twi : Bool) : Nat := if s.ctl.running then (s.bus.port twi).queued else 0

/-- The SPI status byte (R376). -/
def State.spiStatus (s : State) : Byte :=
  BitVec.ofNat 8 (b2n (decide (s.bus.cause false &&& s.dir 0x1901 ≠ 0)) + 2 * b2n (decide (1 ≤ s.replyReady false)) +
    4 * b2n (decide (1040 ≤ s.mailFree false)) + 8 * b2n (decide (s.power.mode = .boot) || !s.ctl.running) +
    16 * b2n s.bus.spi.lastRefused + 0xA0)

/-- The buses work (R326, R381). -/
def State.busAlive (s : State) : Bool := !s.power.inReset && !s.asleep

/-- A transaction is in progress. -/
def BusPort.active (p : BusPort) : Bool := decide (p.phase ≠ .idle)

/-- The ball groups of R326, and what a ball does. -/
inductive BallGroup where
  | ain (n : Nat) | vref | lout (l : Nat) | hp (k : Nat) | hpPump | spk (k : Nat) | bst (k : Nat) | gby (g : Nat) | phs | portBck (p : Nat) | portFs (p : Nat) | portDo (p : Nat) |
    link (x : Nat) | cko (o : Nat) | twoWire | miso | attn | js (j : Nat) | pdmck (c : Nat) |
    tdo
  deriving DecidableEq, Repr
inductive Ball where
  | highZ | low | biased | pulledUp | sampled | released | target | driven
  deriving DecidableEq, Repr

/-- A ball with the power on and the device not in reset, Rest or Watch (R326). -/
def State.ballAwake (s : State) : BallGroup → Ball
  | .ain _ => .biased
  | .vref => .biased
  | .lout l => if (s.out.ch.find? (fun e => decide (e.1 = l))).any (fun e => e.2.driving) then .driven else if s.out.bias = .down then .highZ else .biased
  | .hp k => if (s.out.ch.find? (fun e => decide (e.1 = 16 + k))).any (fun e => e.2.driving) then .driven
    else if (s.out.ch.find? (fun e => decide (e.1 = 16 + k))).any (fun e => decide (e.2.step ≠ 0)) then .low else .highZ
  | .hpPump => (match s.out.pump with | .starting _ => .driven | .ready => .driven | _ => .highZ)
  | .bst k => if (s.out.ch.find? (fun e => decide (e.1 = 24 + k))).any (fun e => e.2.driving || decide (e.2.step ≠ 0)) then .driven else .highZ
  | .spk k => if (s.out.ch.find? (fun e => decide (e.1 = 24 + k))).any (fun e => e.2.driving) then .driven else .highZ
  | .gby g => if (s.gbyPin g).high then .driven else .low
  | .phs => if s.inp.phantom.sending.isSome then .driven else .low
  | .portBck p => if (s.port p).bckOut then .driven else .highZ
  | .portFs p => if (s.port p).fsOut then .driven else .highZ
  | .portDo p => if (s.port p).sent.any Option.isSome then .driven else .highZ
  | .link x => if s.linkOn x then .driven else .biased
  | .cko o => if !s.ckOn o then .highZ else if s.synth.gated.getLsbD o then .low else .driven
  | .twoWire => if s.busAlive then .target else .highZ
  | .miso => if s.bus.spi.active then .driven else .highZ
  | .attn => if s.attnLow then .low else .released
  | .js j => if j < 4 then (if s.hpPinOn j then .pulledUp else .highZ) else if (s.dir (0x0340 + (j - 4))).testBit 4 then .pulledUp else .highZ
  | .pdmck c => if s.wake.clk c = .stopped then .low else .driven
  | .tdo => .highZ

/-- The state of a ball (R326). TDO shows its state between the shifts of the TAP: a command loads a whole register (R463). -/
def State.ball (s : State) (g : BallGroup) : Ball :=
  let listens := decide (s.power.mode = .watch) && s.wake.listening
  if s.power.inReset then (match g with | .gby _ => .low | _ => .highZ)
  else if s.asleep then
    (match g with
     | .ain n => if listens && decide (n = 0 ∧ s.wkSource = 8) then .biased else .highZ
     | .gby _ | .phs => .low
     | .attn => if s.power.attnHeld then .low else .released
     | .js j => if j < 4 && s.hpPinOn j then .sampled else .highZ
     | .pdmck c => if s.wake.clk c = .stopped then .low else .driven
     | _ => .highZ)
  else s.ballAwake g

/-- The fields of the register window: the one that holds an address, with its first address and its bytes (R371). -/
def State.windowField (s : State) (twi : Bool) (a : Nat) : Nat × List Byte :=
  let b : Binding := { port := b2n twi }
  if a < 0x0002 then (0x0000, leBytes 2 0x4B55)
  else if a < 0x0004 then (0x0002, leBytes 2 0x2428)
  else if a = 0x0004 then (a, [0x10])
  else if a = 0x0005 then (a, [1])
  else if a = 0x0006 then (a, [3])
  else if a = 0x0010 then (a, leBytes 1 s.modeByte)
  else if 0x0011 ≤ a ∧ a < 0x0015 then (0x0011, leBytes 4 (s.bus.cause twi))
  else if 0x0015 ≤ a ∧ a < 0x0019 then (0x0015, leBytes 4 (s.dir (if twi then 0x1902 else 0x1901)))
  else if a = 0x0020 then (a, leBytes 1 (s.sessionState b))
  else if 0x0030 ≤ a ∧ a < 0x0032 then (0x0030, leBytes 2 (s.busFlags twi))
  else if 0x0040 ≤ a ∧ a < 0x0042 then (0x0040, leBytes 2 (s.mailFree twi))
  else if a = 0x0042 ∧ s.power.mode = .boot then (0x0042, leBytes 1 (s.replyReady twi))
  else if s.power.mode = .boot then (a, [0])
  else if 0x0042 ≤ a ∧ a < 0x0044 then (0x0042, leBytes 2 (s.replyReady twi))
  else if 0x0300 ≤ a ∧ a < 0x0400 then (0x0300 + 4 * ((a - 0x0300) / 4), leBytes 4 (s.bus.mirror.getD ((a - 0x0300) / 4) 0).toNat)
  else if 0x0400 ≤ a ∧ a < 0x0800 then
    (0x0400 + 4 * ((a - 0x0400) / 4), leBytes 4 (tabGet (fun _ => ({} : MeterSt)) s.rout.meters ((a - 0x0400) / 4)).mirror.toNat)
  else (a, [0])

end Sys2Proof.Machine
end

