-- ==== Sys2Proof/Machine/Operands.lean ====
section
/-! DEFINITION. The operand forms of the packet opcodes: revision, session, LENGTH and claims (R386, R389, R391, R397, R404,
R407). -/
namespace Sys2Proof.Machine

/-- What R397 and R391 say of an opcode before it is executed: the revision that added it, whether it needs a session, and
whether it is recorded as a change (R407). -/
structure OpRow where
  code : Nat
  rev : Nat := 1
  session : Bool := true
  change : Bool := true
  deriving DecidableEq, Repr

/-- The opcodes of R397. -/
def opTable : List OpRow :=
  [ { code := 0x0001, session := false, change := false },
    { code := 0x0002, session := false, change := false },
    { code := 0x0003, session := false, change := false },
    { code := 0x0004, session := false, change := false },
    { code := 0x0005 },
    { code := 0x0006, session := false, change := false },
    { code := 0x0101, change := false },
    { code := 0x0102 },
    { code := 0x0103 },
    { code := 0x0104 },
    { code := 0x0105 },
    { code := 0x0106, change := false },
    { code := 0x0107 },
    { code := 0x0108, change := false },
    { code := 0x0201 },
    { code := 0x0202 },
    { code := 0x0203 },
    { code := 0x0204 },
    { code := 0x0301 },
    { code := 0x0302, change := false },
    { code := 0x0303, rev := 3 },
    { code := 0x0304, rev := 3, change := false },
    { code := 0x0401, session := false, change := false },
    { code := 0x0402 },
    { code := 0x0403 },
    { code := 0x0501, rev := 2 },
    { code := 0x0502, rev := 2 },
    { code := 0x0601 },
    { code := 0x0602 },
    { code := 0x0603 },
    { code := 0x0604 },
    { code := 0x0605, rev := 3, change := false },
    { code := 0x0606, change := false },
    { code := 0x0701 },
    { code := 0x0702 },
    { code := 0x0801, change := false },
    { code := 0x0802 },
    { code := 0x0803 },
    { code := 0x0804 },
    { code := 0x0805, change := false },
    { code := 0x0901 },
    { code := 0x0902 } ]

/-- The row of an opcode; none: undefined. -/
def opRow (op : Nat) : Option OpRow := opTable.find? (fun r => decide (r.code = op))

/-- The LENGTH of an opcode with a fixed one. -/
def fixedLength (op : Nat) : Option Nat :=
  if op = 0x0002 ∨ op = 0x0204 ∨ op = 0x0701 ∨ op = 0x0702 ∨ op = 0x0803 ∨ op = 0x0902 then some 16
  else if op = 0x0003 then some 32
  else if op = 0x0005 then some 40
  else if op = 0x0004 ∨ op = 0x0006 ∨ op = 0x0201 ∨ op = 0x0202 ∨ op = 0x0302 ∨ op = 0x0604 then some 0
  else if op = 0x0001 ∨ op = 0x0101 ∨ op = 0x0203 ∨ op = 0x0303 ∨ op = 0x0304 ∨ op = 0x0402 ∨ op = 0x0403 ∨ op = 0x0602 ∨ op = 0x0801 then some 4
  else if op = 0x0104 ∨ op = 0x0106 ∨ op = 0x0401 ∨ op = 0x0501 ∨ op = 0x0502 ∨ op = 0x0601 ∨ op = 0x0605 then some 8
  else if op = 0x0108 ∨ op = 0x0606 ∨ op = 0x0805 then some 6
  else if op = 0x0802 then some 12
  else none

/-- The length is in a closed range. -/
def lenIn (n a b : Nat) : Bool := decide (a ≤ n ∧ n ≤ b)

/-- LENGTH suits the opcode (R386 step 7, R396, R397, R432, R439). -/
def lengthOk (op : Nat) (p : List Byte) : Bool :=
  let n := p.length
  match fixedLength op with
  | some l => decide (n = l)
  | none =>
    if op = 0x0102 then
      (let id := le p 0 2
       if paramDefined id then decide (n = 4 + paramWidth id) else decide (n = 8 ∨ n = 12))
    else if op = 0x0103 then decide (8 ≤ n ∧ n = 8 + le p 2 2 * le p 4 1)
    else if op = 0x0105 then decide (16 ≤ n ∧ n = 16 + 4 * le p 4 2)
    else if op = 0x0107 then lenIn n 8 1024
    else if op = 0x0804 then lenIn n 6 1024
    else lenIn n 5 1024

/-- The claim bits of the parameter blocks that a run of IDs touches (R404). -/
def blockClaims (first count : Nat) : Nat :=
  (List.range 29).foldl (fun m b => if first / 256 ≤ b ∧ b ≤ (first + count - 1) / 256 ∧ 0 < count then m + 2 ^ b else m) 0

/-- The claim bits that a request needs (R404). -/
def claimMask (op : Nat) (p : List Byte) : Nat :=
  if op = 0x0102 then blockClaims (le p 0 2) 1
  else if op = 0x0103 then blockClaims (le p 0 2) (le p 2 2)
  else if op = 0x0005 then 2 ^ 26
  else if op = 0x0303 then 2 ^ 28
  else if op = 0x0702 then 2 ^ 1
  else if op = 0x0701 then 2 ^ 2
  else if op = 0x0901 ∨ op = 0x0902 then 2 ^ 24
  else if op = 0x0301 ∨ op = 0x0105 then 2 ^ 32
  else if op = 0x0107 then 2 ^ 33
  else if op = 0x0802 ∨ op = 0x0803 ∨ op = 0x0804 then 2 ^ 34
  else if op = 0x0104 ∨ op = 0x0201 ∨ op = 0x0202 ∨ op = 0x0203 ∨ op = 0x0204 then 2 ^ 35
  else if op = 0x0601 ∨ op = 0x0602 ∨ op = 0x0603 ∨ op = 0x0604 then 2 ^ 36
  else if op = 0x0402 ∨ op = 0x0403 then 2 ^ 37
  else 0

/-- The claim bits that have a meaning (R404). -/
def claimBits : Nat := 2 ^ 29 - 1 + (2 ^ 38 - 2 ^ 32)

/-- The lowest bit set, of 64. -/
def lowestBit (v : Nat) : Nat := ((List.range 64).find? (fun k => v.testBit k)).getD 0

/-- The opcodes that RECOVERY serves (R331). -/
def recoveryOp (op : Nat) : Bool :=
  decide (op = 0x0001 ∨ op = 0x0002 ∨ op = 0x0003 ∨ op = 0x0004 ∨ op = 0x0401 ∨ op = 0x0603 ∨ op = 0x0604)

/-- A TICK field: [63:48] must be 0 (R396). -/
def tickField (p : List Byte) (ofs : Nat) : Nat := le p ofs 8
def tickOk (t : Nat) : Bool := decide (t < 2 ^ 48)

/-- Bytes that must be 0. -/
def zeros (p : List Byte) (ofs n : Nat) : Bool := decide (le p ofs n = 0)

/-- The values of a NODE_PARAM_WRITE or of a parameter run. -/
def valuesOf (p : List Byte) (ofs width count : Nat) : List Nat := (List.range count).map (fun i => le p (ofs + width * i) width)

end Sys2Proof.Machine
end

