-- ==== Sys2Proof/Machine/Crypto.lean ====
section
/-! DEFINITION. The standards that R392, R395 and R426 name: SHA-256, HMAC-SHA-256, and AES Key Wrap (unwrapping)
with a 256-bit key-encryption key. The manual names them; their definitions are the published standards. -/
namespace Sys2Proof.Machine

/-- 32-bit addition. -/
def add32 (a b : Nat) : Nat := (a + b) % 2 ^ 32

/-- 32-bit rotation right. -/
def rotr32 (x n : Nat) : Nat := (x >>> n) ||| ((x <<< (32 - n)) % 2 ^ 32)

/-- Round constants of SHA-256. -/
def shaK : List Nat :=
  [0x428A2F98, 0x71374491, 0xB5C0FBCF, 0xE9B5DBA5, 0x3956C25B, 0x59F111F1, 0x923F82A4, 0xAB1C5ED5,
   0xD807AA98, 0x12835B01, 0x243185BE, 0x550C7DC3, 0x72BE5D74, 0x80DEB1FE, 0x9BDC06A7, 0xC19BF174,
   0xE49B69C1, 0xEFBE4786, 0x0FC19DC6, 0x240CA1CC, 0x2DE92C6F, 0x4A7484AA, 0x5CB0A9DC, 0x76F988DA,
   0x983E5152, 0xA831C66D, 0xB00327C8, 0xBF597FC7, 0xC6E00BF3, 0xD5A79147, 0x06CA6351, 0x14292967,
   0x27B70A85, 0x2E1B2138, 0x4D2C6DFC, 0x53380D13, 0x650A7354, 0x766A0ABB, 0x81C2C92E, 0x92722C85,
   0xA2BFE8A1, 0xA81A664B, 0xC24B8B70, 0xC76C51A3, 0xD192E819, 0xD6990624, 0xF40E3585, 0x106AA070,
   0x19A4C116, 0x1E376C08, 0x2748774C, 0x34B0BCB5, 0x391C0CB3, 0x4ED8AA4A, 0x5B9CCA4F, 0x682E6FF3,
   0x748F82EE, 0x78A5636F, 0x84C87814, 0x8CC70208, 0x90BEFFFA, 0xA4506CEB, 0xBEF9A3F7, 0xC67178F2]

/-- Initial hash value of SHA-256. -/
def shaInit : List Nat :=
  [0x6A09E667, 0xBB67AE85, 0x3C6EF372, 0xA54FF53A, 0x510E527F, 0x9B05688C, 0x1F83D9AB, 0x5BE0CD19]

/-- The next message-schedule word from the last sixteen, newest first. -/
def shaNextW (w : List Nat) : Nat :=
  let w2 := w.getD 1 0
  let w7 := w.getD 6 0
  let w15 := w.getD 14 0
  let w16 := w.getD 15 0
  let s0 := rotr32 w15 7 ^^^ rotr32 w15 18 ^^^ (w15 >>> 3)
  let s1 := rotr32 w2 17 ^^^ rotr32 w2 19 ^^^ (w2 >>> 10)
  add32 (add32 w16 s0) (add32 w7 s1)

/-- The 64 schedule words of a block, newest first. -/
def shaSchedule (block : List Nat) : List Nat :=
  (List.range 48).foldl (fun w _ => shaNextW w :: w) block.reverse

/-- One round on the eight working words. -/
def shaRound (v : List Nat) (kw : Nat × Nat) : List Nat :=
  match v with
  | [a, b, c, d, e, f, g, h] =>
    let s1 := rotr32 e 6 ^^^ rotr32 e 11 ^^^ rotr32 e 25
    let ch := (e &&& f) ^^^ ((e ^^^ 0xFFFFFFFF) &&& g)
    let t1 := add32 (add32 (add32 h s1) (add32 ch kw.1)) kw.2
    let s0 := rotr32 a 2 ^^^ rotr32 a 13 ^^^ rotr32 a 22
    let mj := (a &&& b) ^^^ (a &&& c) ^^^ (b &&& c)
    [add32 t1 (add32 s0 mj), a, b, c, add32 d t1, e, f, g]
  | v => v

/-- One block into the hash. -/
def shaBlock (h : List Nat) (block : List Nat) : List Nat :=
  let ws := (shaSchedule block).reverse
  List.zipWith add32 h ((List.zip shaK ws).foldl shaRound h)

/-- Cut a list into pieces of n, at most fuel of them. -/
def chunks {α : Type} (n : Nat) : Nat → List α → List (List α)
  | 0, _ => []
  | _ + 1, [] => []
  | fuel + 1, l => l.take n :: chunks n fuel (l.drop n)

/-- The padded message of SHA-256. -/
def shaPad (m : List Byte) : List Byte :=
  let l := m.length
  m ++ [0x80#8] ++ List.replicate ((119 - l % 64) % 64) 0#8 ++ beBytes 8 (8 * l)

/-- SHA-256 of a byte string. -/
def sha256 (m : List Byte) : List Byte :=
  let p := shaPad m
  let blocks := (chunks 64 (p.length / 64) p).map (fun b => (chunks 4 16 b).map beNat)
  (blocks.foldl shaBlock shaInit).flatMap (beBytes 4)

/-- HMAC-SHA-256 with a key of at most 64 bytes (K is 32 bytes, R392). -/
def hmacSha256 (key m : List Byte) : List Byte :=
  let k := key ++ List.replicate (64 - key.length) 0#8
  sha256 (k.map (· ^^^ 0x5C#8) ++ sha256 (k.map (· ^^^ 0x36#8) ++ m))

/-- Doubling in the field of AES. -/
def aesX (a : Nat) : Nat := if a < 128 then 2 * a else ((2 * a) ^^^ 0x11B) % 256

/-- The S-box of AES, sixteen rows of sixteen. -/
def aesSboxRows : List (List Nat) :=
  [ [0x63, 0x7C, 0x77, 0x7B, 0xF2, 0x6B, 0x6F, 0xC5, 0x30, 0x01, 0x67, 0x2B, 0xFE, 0xD7, 0xAB, 0x76],
    [0xCA, 0x82, 0xC9, 0x7D, 0xFA, 0x59, 0x47, 0xF0, 0xAD, 0xD4, 0xA2, 0xAF, 0x9C, 0xA4, 0x72, 0xC0],
    [0xB7, 0xFD, 0x93, 0x26, 0x36, 0x3F, 0xF7, 0xCC, 0x34, 0xA5, 0xE5, 0xF1, 0x71, 0xD8, 0x31, 0x15],
    [0x04, 0xC7, 0x23, 0xC3, 0x18, 0x96, 0x05, 0x9A, 0x07, 0x12, 0x80, 0xE2, 0xEB, 0x27, 0xB2, 0x75],
    [0x09, 0x83, 0x2C, 0x1A, 0x1B, 0x6E, 0x5A, 0xA0, 0x52, 0x3B, 0xD6, 0xB3, 0x29, 0xE3, 0x2F, 0x84],
    [0x53, 0xD1, 0x00, 0xED, 0x20, 0xFC, 0xB1, 0x5B, 0x6A, 0xCB, 0xBE, 0x39, 0x4A, 0x4C, 0x58, 0xCF],
    [0xD0, 0xEF, 0xAA, 0xFB, 0x43, 0x4D, 0x33, 0x85, 0x45, 0xF9, 0x02, 0x7F, 0x50, 0x3C, 0x9F, 0xA8],
    [0x51, 0xA3, 0x40, 0x8F, 0x92, 0x9D, 0x38, 0xF5, 0xBC, 0xB6, 0xDA, 0x21, 0x10, 0xFF, 0xF3, 0xD2],
    [0xCD, 0x0C, 0x13, 0xEC, 0x5F, 0x97, 0x44, 0x17, 0xC4, 0xA7, 0x7E, 0x3D, 0x64, 0x5D, 0x19, 0x73],
    [0x60, 0x81, 0x4F, 0xDC, 0x22, 0x2A, 0x90, 0x88, 0x46, 0xEE, 0xB8, 0x14, 0xDE, 0x5E, 0x0B, 0xDB],
    [0xE0, 0x32, 0x3A, 0x0A, 0x49, 0x06, 0x24, 0x5C, 0xC2, 0xD3, 0xAC, 0x62, 0x91, 0x95, 0xE4, 0x79],
    [0xE7, 0xC8, 0x37, 0x6D, 0x8D, 0xD5, 0x4E, 0xA9, 0x6C, 0x56, 0xF4, 0xEA, 0x65, 0x7A, 0xAE, 0x08],
    [0xBA, 0x78, 0x25, 0x2E, 0x1C, 0xA6, 0xB4, 0xC6, 0xE8, 0xDD, 0x74, 0x1F, 0x4B, 0xBD, 0x8B, 0x8A],
    [0x70, 0x3E, 0xB5, 0x66, 0x48, 0x03, 0xF6, 0x0E, 0x61, 0x35, 0x57, 0xB9, 0x86, 0xC1, 0x1D, 0x9E],
    [0xE1, 0xF8, 0x98, 0x11, 0x69, 0xD9, 0x8E, 0x94, 0x9B, 0x1E, 0x87, 0xE9, 0xCE, 0x55, 0x28, 0xDF],
    [0x8C, 0xA1, 0x89, 0x0D, 0xBF, 0xE6, 0x42, 0x68, 0x41, 0x99, 0x2D, 0x0F, 0xB0, 0x54, 0xBB, 0x16] ]

/-- The inverse S-box of AES. -/
def aesSboxInvRows : List (List Nat) :=
  [ [0x52, 0x09, 0x6A, 0xD5, 0x30, 0x36, 0xA5, 0x38, 0xBF, 0x40, 0xA3, 0x9E, 0x81, 0xF3, 0xD7, 0xFB],
    [0x7C, 0xE3, 0x39, 0x82, 0x9B, 0x2F, 0xFF, 0x87, 0x34, 0x8E, 0x43, 0x44, 0xC4, 0xDE, 0xE9, 0xCB],
    [0x54, 0x7B, 0x94, 0x32, 0xA6, 0xC2, 0x23, 0x3D, 0xEE, 0x4C, 0x95, 0x0B, 0x42, 0xFA, 0xC3, 0x4E],
    [0x08, 0x2E, 0xA1, 0x66, 0x28, 0xD9, 0x24, 0xB2, 0x76, 0x5B, 0xA2, 0x49, 0x6D, 0x8B, 0xD1, 0x25],
    [0x72, 0xF8, 0xF6, 0x64, 0x86, 0x68, 0x98, 0x16, 0xD4, 0xA4, 0x5C, 0xCC, 0x5D, 0x65, 0xB6, 0x92],
    [0x6C, 0x70, 0x48, 0x50, 0xFD, 0xED, 0xB9, 0xDA, 0x5E, 0x15, 0x46, 0x57, 0xA7, 0x8D, 0x9D, 0x84],
    [0x90, 0xD8, 0xAB, 0x00, 0x8C, 0xBC, 0xD3, 0x0A, 0xF7, 0xE4, 0x58, 0x05, 0xB8, 0xB3, 0x45, 0x06],
    [0xD0, 0x2C, 0x1E, 0x8F, 0xCA, 0x3F, 0x0F, 0x02, 0xC1, 0xAF, 0xBD, 0x03, 0x01, 0x13, 0x8A, 0x6B],
    [0x3A, 0x91, 0x11, 0x41, 0x4F, 0x67, 0xDC, 0xEA, 0x97, 0xF2, 0xCF, 0xCE, 0xF0, 0xB4, 0xE6, 0x73],
    [0x96, 0xAC, 0x74, 0x22, 0xE7, 0xAD, 0x35, 0x85, 0xE2, 0xF9, 0x37, 0xE8, 0x1C, 0x75, 0xDF, 0x6E],
    [0x47, 0xF1, 0x1A, 0x71, 0x1D, 0x29, 0xC5, 0x89, 0x6F, 0xB7, 0x62, 0x0E, 0xAA, 0x18, 0xBE, 0x1B],
    [0xFC, 0x56, 0x3E, 0x4B, 0xC6, 0xD2, 0x79, 0x20, 0x9A, 0xDB, 0xC0, 0xFE, 0x78, 0xCD, 0x5A, 0xF4],
    [0x1F, 0xDD, 0xA8, 0x33, 0x88, 0x07, 0xC7, 0x31, 0xB1, 0x12, 0x10, 0x59, 0x27, 0x80, 0xEC, 0x5F],
    [0x60, 0x51, 0x7F, 0xA9, 0x19, 0xB5, 0x4A, 0x0D, 0x2D, 0xE5, 0x7A, 0x9F, 0x93, 0xC9, 0x9C, 0xEF],
    [0xA0, 0xE0, 0x3B, 0x4D, 0xAE, 0x2A, 0xF5, 0xB0, 0xC8, 0xEB, 0xBB, 0x3C, 0x83, 0x53, 0x99, 0x61],
    [0x17, 0x2B, 0x04, 0x7E, 0xBA, 0x77, 0xD6, 0x26, 0xE1, 0x69, 0x14, 0x63, 0x55, 0x21, 0x0C, 0x7D] ]

/-- A byte through a box. -/
def aesBox (rows : List (List Nat)) (a : Nat) : Nat := (rows.getD (a / 16) []).getD (a % 16) 0

/-- The key schedule of AES-256: words of four bytes, newest first. -/
def aesSchedule (key : List Nat) : List (List Nat) :=
  (List.range 52).foldl (fun ws n =>
    let i := n + 8
    let prev := ws.getD 0 []
    let t := if i % 8 = 0 then
        let r := (prev.drop 1 ++ prev.take 1).map (aesBox aesSboxRows)
        (r.headD 0 ^^^ 2 ^ (i / 8 - 1)) :: r.drop 1
      else if i % 8 = 4 then prev.map (aesBox aesSboxRows) else prev
    List.zipWith (· ^^^ ·) (ws.getD 7 []) t :: ws) (chunks 4 8 key).reverse

/-- Inverse shift of the rows of a 16-byte block held column by column. -/
def aesInvShift (b : List Nat) : List Nat :=
  (List.range 16).map (fun i => b.getD (((i / 4 + 4 - i % 4) % 4) * 4 + i % 4) 0)

/-- 9, 11, 13 and 14 times a byte in the field of AES. -/
def aesTimes (m a : Nat) : Nat :=
  let a2 := aesX a
  let a4 := aesX a2
  let a8 := aesX a4
  a8 ^^^ (if m = 9 then a else if m = 11 then a2 ^^^ a else if m = 13 then a4 ^^^ a else a4 ^^^ a2)

/-- Inverse mix of one column. -/
def aesInvMix (c : List Nat) : List Nat :=
  match c with
  | [a, b, c, d] =>
    [aesTimes 14 a ^^^ aesTimes 11 b ^^^ aesTimes 13 c ^^^ aesTimes 9 d, aesTimes 9 a ^^^ aesTimes 14 b ^^^ aesTimes 11 c ^^^ aesTimes 13 d,
     aesTimes 13 a ^^^ aesTimes 9 b ^^^ aesTimes 14 c ^^^ aesTimes 11 d, aesTimes 11 a ^^^ aesTimes 13 b ^^^ aesTimes 9 c ^^^ aesTimes 14 d]
  | c => c

/-- Decrypt one block with AES-256, given the words of the schedule. -/
def aesDecrypt (ws : List (List Nat)) (block : List Nat) : List Nat :=
  let rk := fun r => (slice' ws (4 * r)).flatten
  let b := List.zipWith (· ^^^ ·) block (rk 14)
  (List.range 14).foldl (fun b n =>
    let x := List.zipWith (· ^^^ ·) ((aesInvShift b).map (aesBox aesSboxInvRows)) (rk (13 - n))
    if n = 13 then x else ((chunks 4 4 x).map aesInvMix).flatten) b
where
  /-- Four consecutive words of the schedule. -/
  slice' (ws : List (List Nat)) (i : Nat) : List (List Nat) := (ws.drop i).take 4

/-- Undo one step of AES Key Wrap: the register A and the n blocks, for step counter t on block i (from 0). -/
def unwrapStep (ws : List (List Nat)) (s : List Nat × List (List Nat)) (ti : Nat × Nat) : List Nat × List (List Nat) :=
  let a := List.zipWith (· ^^^ ·) s.1 ((beBytes 8 ti.1).map BitVec.toNat)
  let d := aesDecrypt ws (a ++ s.2.getD ti.2 [])
  (d.take 8, s.2.set ti.2 (d.drop 8))

/-- AES Key Wrap undone on 40 bytes with the default initial value (R395): the 32-byte key, or nothing when the integrity check fails. -/
def keyUnwrap (kek wrapped : List Byte) : Option (List Byte) :=
  let w := wrapped.map BitVec.toNat
  let order := (List.range 24).map (fun k => (24 - k, 3 - k % 4))
  let r := order.foldl (unwrapStep (aesSchedule (kek.map BitVec.toNat)).reverse) (w.take 8, chunks 8 4 (w.drop 8))
  if r.1 = List.replicate 8 0xA6 then some (r.2.flatten.map (BitVec.ofNat 8)) else none

end Sys2Proof.Machine
end

