-- ==== Sys2Proof/Machine/Power.lean ====
section
/-! DEFINITION. Supplies, resets, boot, modes, the sequences into and out of Rest and Watch, and the power-fail warning
(chapter 13). -/
namespace Sys2Proof.Machine

/-- The pins of a table with nothing known of them but their level. -/
def pinLevels (t : Tab JackPin) (n : Nat) : Tab JackPin :=
  (List.range n).foldl (fun u j => tabSet (fun _ => {}) u j { level := (tabGet (fun _ => ({} : JackPin)) t j).level }) []

/-- The address code of the digits of ADR0 to ADR4 (R360). -/
def addressCode (d : Straps) : Nat := d.d0.val + 4 * d.d1.val + 16 * d.d2.val + 64 * d.d3.val + 256 * d.d4.val

/-- A whole-device reset (R29, R322-R324): only MRAM, the TAP, the supplies, the pins' levels and, where it is kept, the AON domain
survive. LAST_RESET is 0 VAON, 1 another supply, 2 RESET_N. -/
def State.deviceReset (s : State) (cause supply : Nat) (aonLost : Bool) : State :=
  { clock := { now := s.clock.now }
    power := {
      valid := s.power.valid
      resetLow := s.power.resetLow
      inReset := true
      lastReset := cause
      resetSupply := if cause = 1 then supply else s.power.resetSupply
      lastWake := if aonLost then 0 else s.power.lastWake
      wakeJs := if aonLost then 0 else s.power.wakeJs }
    mram := s.mram
    jtag := s.jtag
    log := { image1 := s.log.image1 }
    ctl := { s.mram.control with lockedUntil := s.ctl.lockedUntil }
    bus := { straps := s.bus.straps, code := s.bus.code }
    synth := { quietLock := s.synth.quietLock }
    inp := { pins := pinLevels s.inp.pins 8 }
    out := { pins := pinLevels s.out.pins 4, vspkSince := s.out.vspkSince, decoupled := s.out.decoupled }
    wake := if aonLost then {} else { s.wake.deaf with clk0 := .stopped, clk1 := .stopped, settle0 := none, settle1 := none }
    free := s.free
    pending := s.pending }

/-- The start of a boot (R330, R359-R361, R412, R458): the address pins are sampled, and the device record and the log are read. -/
def State.bootBegin (s : State) : State :=
  let code := addressCode s.bus.straps
  let addr7 := (s.dev 0x1900).testBit 0
  let resv := addr7 && (decide (code % 128 < 8) || decide (0x78 ≤ code % 128))
  let s1 := s.logBoot
  { s1 with
    power := { s1.power with inReset := false, mode := .boot, verified := false }
    synth := { s1.synth with xoFreq := s.dev 0x0100 }
    bus := { s1.bus with
      code := code
      addr7 := addr7
      addrReserved := resv
      twi := { s1.bus.twi with flags := if resv then s1.bus.twi.flags ||| 64 else s1.bus.twi.flags } } }

/-- The exit from Rest as it boots (R324, R337): the AON domain, TICK and the cause stand, and the rest of the device starts anew. -/
def State.restBoot (s : State) : State :=
  let r := s.deviceReset 3 0 false
  { r with
    clock := { r.clock with tick := s.clock.tick }
    power := { r.power with
      lastWake := s.power.lastWake, wakeJs := s.power.wakeJs, wake := s.power.wake, exiting := s.power.exiting, attnHeld := s.power.attnHeld,
      bootFromRest := true }
    log := s.log }.bootBegin

/-- A boot that waits for its supplies begins (R320, R330, R337). -/
def State.tryBoot (s : State) : State :=
  if !s.power.supplied then s
  else if s.power.inReset then (if s.power.resetLow then s else s.bootBegin)
  else match s.power.exiting with
    | some .rest => if s.power.mode = .rest then s.restBoot else s
    | some .watch => if s.power.mode = .watch ∧ s.power.retentionLost then s.restBoot else s
    | _ => s

/-- SUPPLY_POR_ASSERT (R199, R210, R322): supplies in the order of R319. -/
def execSupplyPorAssert (supply : Fin 8) (s : State) : Host.Outcome State Fault Refusal :=
  let i := supply.val
  let s1 := { s with
    power := { s.power with valid := s.power.valid &&& ~~~ BitVec.ofNat 8 (2 ^ i) }
    jtag := if i = 0 ∨ i = 5 then .idcode else s.jtag }
  .next (
    if i = 0 then s1.deviceReset 0 0 true
    else if i = 6 then
      (match s.out.pump with
       | .off => s1
       | .failed _ => s1
       | _ => { s1.raise 8 with out := { s1.out with
           pump := .failed s.clock.now
           cpFault := true
           ch := (List.range 8).foldl (fun t k => tabMod (fun _ => {}) t (16 + k) (fun c =>
             ({ c with driving := false, rejoin := false, step := if c.step ≠ 0 ∨ (c.driving || c.rejoin) && !c.causes.getLsbD cDisabled then 1 else 0 }.raise s (16 + k) cProtect).raise s (16 + k) cDisabled)) s1.out.ch } })
    else if i = 7 then
      let s2 := s1.tripSpk [0, 1, 2, 3] 3
      { s2 with out := { s2.out with vspkSince := none, decoupled := false } }
    else if s.power.inReset then s1
    else match s.power.mode with
      | .rest => s1
      | .watch =>
        let s2 := if i = 1 ∨ i = 5 then { s1 with power := { s1.power with retentionLost := true } } else s1
        s2.listenUpdate
      | _ => s1.deviceReset 1 (i - 1) false)

/-- SUPPLY_POR_RELEASE (R320, R330, R337, R359): the last required supply lets a reset, or an exit that waits, go on. The operand is what
the address pins show; a boot samples it, and one that a wake starts later samples what was last reported (log entry 69). -/
def execSupplyPorRelease (supply : Fin 8) (straps : Straps) (s : State) : Host.Outcome State Fault Refusal :=
  let s1 := { s with
    power := { s.power with valid := s.power.valid ||| BitVec.ofNat 8 (2 ^ supply.val) }
    bus := { s.bus with straps := straps } }
  let s2 := if supply.val = 7 then s1.vspkBack else s1
  .next (s2.listenUpdate.tryBoot)

/-- RESET_N_LOW (R323). -/
def execResetNLow (s : State) : Host.Outcome State Fault Refusal :=
  let r := s.deviceReset 2 0 true
  .next { r with power := { r.power with resetLow := true } }

/-- RESET_N_RISE (R323). -/
def execResetNRise (straps : Straps) (s : State) : Host.Outcome State Fault Refusal :=
  .next ({ s with power := { s.power with resetLow := false }, bus := { s.bus with straps := straps } }.tryBoot)

/-- The IMAGE_LEN of a firmware image (R426), and whether its signature holds over the SHA-256 of what precedes it (R331, R426, R429). -/
def stageLen (t : Tab Byte) : Nat := leNat (tabGetRun (fun _ => 0) t 0x14 4)
def fwSigned (t : Tab Byte) : Bool :=
  let body := tabGetRun (fun _ => 0) t 0 (stageLen t)
  Config.signatureOk (sha256 (body.take (stageLen t - 64))) (body.drop (stageLen t - 64))

/-- A firmware bank, and the verdict of R331 on it: the bank that the device was delivered with, whose image the manual does not give,
passes while MRAM holds it (DEDUCED, log entry 70). -/
def Mram.bank (m : Mram) (one : Bool) : FwBank := if one then m.bank1 else m.bank0
def FwBank.passes (b : FwBank) : Bool := decide (b.version ≠ 0) && !b.spoiled && (b.delivered || fwSigned b.image)

/-- The boot record of the ledger (R406, R408). -/
def State.bootRecord (s : State) : State := { s with ctl := s.ctl.record s.clock.tick 0 4 0 0 s.power.lastReset 0 0 0 }

/-- A bank has passed (R330, R331): the firmware starts, with the converter chains in cleared state. -/
def State.firmwareStarts (s : State) (bank : Nat) : State :=
  { s with power := { s.power with verified := true, bootBank := bank, fallback := decide (bank = 1) } }.startChains

/-- FIRMWARE_VERIFY (R324, R331, R339): the active bank, then the other one, then RECOVERY. A boot that ends in RECOVERY counts its power
cycle there. The active-bank word is written once MRAM may be. -/
def execFirmwareVerify (s : State) : Host.Outcome State Fault Refusal :=
  let a := s.mram.active1
  let go := decide (s.power.mode = .boot) && !s.power.inReset && !s.power.verified && s.synth.lock
  .next (
    if !go then s
    else if (s.mram.bank a).passes then s.firmwareStarts 0
    else if (s.mram.bank (!a)).passes then
      (if s.mramBlocked then s else { s with mram := { s.mram with active1 := !a } }.firmwareStarts 1)
    else { s.bootRecord with
      power := { s.power with mode := .recovery, bootBank := 2, fallback := false }
      log := if s.power.bootFromRest || s.power.bootFromRecovery then s.log else s.log.add 0x14 1 })

/-- Phantom sequences and mode sequences that R333 broke off go on (R53, R335): an input that wants its feed and has no sequence to bring
it runs its enable; one in the unmute of a mode sequence turns back to step 6 (R48). -/
def InputCh.feedReturn (c : InputCh) (s : State) (n : Nat) : InputCh :=
  if c.seqStep = 2 ∨ c.seqStep = 6 then c.advance s n
  else if c.mode = 1 ∧ s.wantsPhantom n ∧ c.phantom ≠ .on then
    (if c.seqStep = 0 then c.enablePhantom s else if c.seqStep = 7 then c.startSeq s n else c)
  else c
def State.inputsReturn (s : State) : State :=
  { s with inp := { s.inp with ch := (List.range 16).foldl (fun t n => tabMod (fun _ => {}) t n (fun c => c.feedReturn s n)) s.inp.ch } }

/-- What the all-off frame of R52 does to an input: a feed that is coming up or waits to go down is discharged from its latch on, at most two
ticks on (R54), and its mute ends with the discharge; a queued input leaves the queue and unmutes; a discharge in progress goes on. A feed that was on is OFF at
once, without a mute or a DISCHARGE of its own, and may be enabled again after the sequence (DESIGN CHOICE, log entry 56). -/
def InputCh.phantomOff (c : InputCh) (s : State) : InputCh :=
  match c.phantom with
  | .off => c
  | .queued =>
    let c := { c with phantom := .off }
    if c.causePhantom then { c with causePhantom := false }.unmuteFor s 192 else c
  | .discharging => { c with phRequeue := false }
  | .on =>
    if c.phClear then { c with phBit := false, phClear := false, phRequeue := false, phantom := .discharging, phEnd := s.clock.now + 2 + 960 * field (s.dir 0x0348) 24 8 }
    else { c with phBit := false, phRequeue := false, phantom := .off }
  | .ramping =>
    { c with phBit := false, phClear := false, phRequeue := false, phantom := .discharging, phEnd := s.clock.now + 2 + 960 * field (s.dir 0x0348) 24 8 }

/-- The all-off phantom frame of R52 is due: every feed goes off; STAGGER still counts from the latch of the previous enable (R53). -/
def State.phantomOff (s : State) : State :=
  { s with inp := { s.inp with
    ch := (List.range 16).foldl (fun t n => tabMod (fun _ => {}) t n (fun c => c.phantomOff s)) s.inp.ch
    phantom := { s.inp.phantom with allOff := true } } }

/-- Entry to Idle from BOOT, or by an exit from Rest or Watch (R72, R81, R197, R253, R305, R328): what starts afresh, after an exit the chains
too. The measurement scan starts here, not in BOOT or RECOVERY (DESIGN CHOICE, log entry 57). -/
def State.idleEntry (s : State) (exit : Bool) : State :=
  let s1 := (if exit then s.startChains else s).startMeas
  let s2 := { s1 with
    power := { s1.power with mode := .idle }
    dpll := s1.dpll.start
    synth := { s1.synth with sleepGate := 0 }
    out := { s1.out with
      bias := .rising 0 s1.clock.now (s1.clock.now + s1.cmRamp)
      ch := (List.range 16).foldl (fun t l => tabMod (fun _ => {}) t l (fun c => { c with calibrated := false })) s1.out.ch } }
  (s2.raiseIf s.dpll.startNews 2).portsUnmeasured.linkStart.markMode.listenUpdate

/-- The jack pins JS0-JS3 as an exit finds them (R205, R337): an insertion that woke the device goes on from step 2 of R202, also
where a boot has left JS_HP_CFG at its default; any other
change since the entry is debounced or ends its jack as after a pin change. -/
def State.jacksReturn (s : State) (wakePin : Option Nat) : State :=
  (List.range 4).foldl (fun (s : State) j =>
    let p := s.hpPin j
    let plug := decide (p.level = (s.dir (0x0600 + j)).testBit 5)
    if wakePin = some j then
      let s1 := s.modHpPin j (fun p => { p with first := false, plugged := true, debounceEnd := none, glitchEnd := none })
      { (s1.insertHp j).raise 7 with log := (s1.insertHp j).log.add (0x94 + 4 * j) 1 }
    else if !s.hpPinOn j || decide (plug = p.plugged) then s
    else s.modHpPin j (fun p =>
      if plug then { p with debounceEnd := some (s.clock.now + s.hpDebounce j) } else { p with glitchEnd := some (s.clock.now + s.hpDebounce j) })) s

/-- A pin JS4-JS11 whose level changed while the device slept is debounced again (R56, R326). -/
def State.pinsReturn (s : State) : State :=
  let go := fun (j : Nat) (p : JackPin) =>
    let cfg := s.dir (0x0340 + j)
    if cfg.testBit 4 && decide (p.plugged ≠ decide (p.level = cfg.testBit 5)) then { p with debounceEnd := some (s.clock.now + ms (field cfg 8 8)) }
    else p
  { s with inp := { s.inp with pins := (List.range 8).foldl (fun t j => tabMod (fun _ => {}) t j (go j)) s.inp.pins } }

/-- The end of an exit in Idle (R336, R337): ATTN_CAUSE bit 9, WOKEN and the cause; RESUME of R332 acts: `slot0` says that the
configuration was lost. -/
def State.exitDone (s : State) (slot0 : Bool) : State :=
  let cause := s.power.wake
  let s1 := { s.raise 9 with power := { s.power with
    woken := true
    exiting := none
    wake := none
    attnHeld := false
    retentionLost := false
    autorunDue := if (s.dev 0x0000).testBit 1 then (if slot0 then 1 else 2) else 0
    autorun := (s.dev 0x0000).testBit 1
    lastWake := match cause with | some c => c.code | none => s.power.lastWake
    wakeJs := match cause with | some c => c.js | none => s.power.wakeJs } }
  s1.jacksReturn (match cause with | some c => if c.code = 2 then some c.js else none | none => none)

/-- The end of a boot in Idle (R324, R330-R332, R408): defaults in both banks; one power cycle unless the boot ends Rest or follows a
commit in RECOVERY; AUTORUN after a reset. -/
def State.bootIdle (s : State) : State :=
  let go := decide (s.power.mode = .boot) && s.power.verified && s.synth.lock && !s.power.inReset
  let rest := s.power.bootFromRest
  let rec_ := s.power.bootFromRecovery
  let s1 := { s.bootRecord with cfg := {} }
  let s2 := s1.idleEntry rest
  let auto := !rest && !rec_ && (s.dev 0x0000).testBit 0
  let s3 := { s2 with
    power := { s2.power with
      bootFromRest := false, bootFromRecovery := false, woken := false, autorunDue := if auto then 1 else 0, autorun := auto,
      refusedAtBoot := false, bootReason := 0 }
    log := if rest || rec_ then s2.log else s2.log.add 0x14 1 }
  let s4 := s3.raiseIf s.power.fallback 13
  if !go then s else if s.power.exiting.isSome then s4.exitDone true else s4

/-- BOOT_IDLE_REACHED (R330). -/
def execBootIdleReached (s : State) : Host.Outcome State Fault Refusal := .next s.bootIdle

/-- EXIT_COMPLETE (R337): from Rest, or from Watch with retention lost, a boot ends; from Watch the configuration stands. -/
def execExitComplete (s : State) : Host.Outcome State Fault Refusal :=
  .next (match s.power.exiting with
    | some .watch =>
      if s.power.mode = .boot then s.bootIdle
      else if s.power.mode = .watch ∧ s.synth.lock ∧ s.power.supplied ∧ ¬ s.power.retentionLost then
        ((s.idleEntry true).inputsReturn.pinsReturn).exitDone false
      else s
    | some .rest => s.bootIdle
    | _ => s)

/-- The level of the bias in 2^-32 of the common-mode voltage (R197). -/
def Bias.level (b : Bias) (now : Nat) : Nat :=
  match b with
  | .down => 0
  | .up => unity
  | .rising g a e => if e ≤ now then unity else g + (unity - g) * (now - a) / (e - a)
  | .falling g a e => if e ≤ now then 0 else g - g * (now - a) / (e - a)

/-- The line bias rises again from the level that the ramp-down reached, at its rate (R335); a ramp-down that began below the full level took
CM_RAMP too (DESIGN CHOICE, log entry 71). -/
def State.biasBack (s : State) : Bias :=
  let l := s.out.bias.level s.clock.now
  match s.out.bias with
  | .falling g a e => .rising l s.clock.now (s.clock.now + (if g = 0 then s.cmRamp else ((unity - l) * (e - a) + g - 1) / g))
  | .down => .rising 0 s.clock.now (s.clock.now + s.cmRamp)
  | b => b

/-- A wake source acts (R333, R335-R337): in Rest and Watch the exit begins; in the sequence of R333 the device returns to Idle. -/
def State.wakeUp (s : State) (c : WakeCause) : State :=
  match s.power.mode with
  | .rest =>
    if s.power.exiting.isSome then s
    else { s with power := { s.power with exiting := some .rest, wake := some c, attnHeld := true } }.tryBoot
  | .watch =>
    if s.power.exiting.isSome then s
    else ({ s with power := { s.power with exiting := some .watch, wake := some c } }.markMode).tryBoot
  | .idle =>
    match s.power.entering with
    | none => s
    | some _ =>
      let s1 := { s.raise 9 with
        power := { s.power with entering := none, entryStep := 0, woken := true, lastWake := c.code, wakeJs := c.js, wake := none }
        synth := { s.synth with sleepGate := 0 }
        out := { s.out with bias := s.biasBack } }
      (s1.linkStart.inputsReturn.markMode).listenUpdate
  | _ => s

/-- The mode that a wake source must find: Rest or Watch, or the sequence into them (R333, R336). -/
def State.wakeable (s : State) (watchOnly : Bool) : Bool :=
  let ok := fun (m : Mode) => decide (m = .watch) || (decide (m = .rest) && !watchOnly)
  ok s.power.mode || (match s.power.entering with | some (m, _) => ok m | none => false)

/-- WAKE_N, REST_TIMER and BUS_WAKE (R336), each under its enable in DEV_WAKE; the timer TIMER seconds after the end of the entry. -/
def execWakeN (s : State) : Host.Outcome State Fault Refusal :=
  .next (if s.wakeable false && (s.dir 0x0002).testBit 0 then s.wakeUp { code := 1 } else s)
def execRestTimer (s : State) : Host.Outcome State Fault Refusal :=
  .next (if s.asleep && (s.dir 0x0002).testBit 5 && decide (s.power.enteredAt + 96000 * field (s.dir 0x0002) 16 16 ≤ s.clock.now) then s.wakeUp { code := 3 } else s)
def execBusWake (s : State) : Host.Outcome State Fault Refusal :=
  .next (if s.wakeable true && (s.dir 0x0002).testBit 6 then s.wakeUp { code := 4 } else s)

/-- JACK_WAKE (R336): a sample of JS0-JS3; two at the insertion level after one that was not wake the device. -/
def execJackWake (pin : Fin 4) (level : Bool) (s : State) : Host.Outcome State Fault Refusal :=
  let j := pin.val
  let l := (level :: tabGet (fun _ => []) s.power.jackSamples j).take 3
  let ins := (s.dir (0x0600 + j)).testBit 5
  let hit := decide (l = [ins, ins, !ins]) && s.hpPinOn j && (s.dir 0x0002).testBit (1 + j)
  let s1 := (s.modHpPin j (fun p => { p with level := level }))
  let s2 := { s1 with power := { s1.power with jackSamples := tabSet (fun _ => []) s1.power.jackSamples j l } }
  .next (if !s.wakeable false then s else if hit then s2.wakeUp { code := 2, js := j } else s2)

/-- The sequence of R333 begins (R52, R197, R212, R334, R344): its target is Rest or Watch. -/
def State.beginEntry (s : State) (target : Mode) : State :=
  let s1 := { s.phantomOff with
    power := { s.power with entering := some (target, s.clock.now), entryStep := 0, wake := none, jackSamples := [], entryCommitted := false }
    out := { s.out.pumpStop with
      bias := match s.out.bias with | .down => .down | b => .falling (b.level s.clock.now) s.clock.now (s.clock.now + s.cmRamp) }
    wake := { s.wake with handover := none, caughtUp := false, handoverNext := [], calibrated := true } }
  (s1.portsLeave.linkStop.markMode).listenUpdate

/-- BIAS_RAMP_DOWN_END (R292, R333, R340): CM_RAMP has passed: the clock outputs are gated and the log is committed. -/
def execBiasRampDownEnd (s : State) : Host.Outcome State Fault Refusal :=
  let due := match s.power.entering with | some (_, t) => decide (s.power.entryStep = 0) && decide (t + s.cmRamp ≤ s.clock.now) | none => false
  let s1 := { s with
    power := { s.power with entryStep := 1, rampedAt := s.clock.now }
    synth := { s.synth with sleepGate := 31 }
    out := { s.out with bias := .down } }
  .next (if !due then s else if s.power.entryCommitted then s1 else s1.logCommitIf 2)

/-- SESSIONS_CLOSE_AT_ENTRY (R333, R394): 1.6 ms later. -/
def execSessionsCloseAtEntry (s : State) : Host.Outcome State Fault Refusal :=
  let due := s.power.entering.isSome && decide (s.power.entryStep = 1) && decide (s.power.rampedAt + 154 ≤ s.clock.now)
  let s1 := s.endSessions s.ctl.sessions 4 0 s.tickNat
  .next (if due then
    { s1 with
      power := { s1.power with entryStep := 2 }
      ctl := { s1.ctl with challenges := [] } }
  else s)

/-- ROOT_STOP (R29, R285, R333, R338): 1.0 ms later the root stops, TICK is held, and the device is in Rest or Watch. The comparators of R338 stop
with it: a warning present then counts as clear from there (DESIGN CHOICE, log entry 72). -/
def execRootStop (s : State) : Host.Outcome State Fault Refusal :=
  .next (match s.power.entering with
    | some (target, _) =>
      if s.power.entryStep = 2 ∧ s.power.rampedAt + 250 ≤ s.clock.now then
        ({ s with
          power := { s.power with
            mode := target, entering := none, entryStep := 0, woken := false, retentionLost := false, pfw := false,
            pfwClear := if s.power.pfw then some s.clock.now else s.power.pfwClear, enteredAt := s.clock.now }
          clock := { s.clock with rootRunning := false, phase := 0, opened := true }
          synth := { s.synth with lock := false, analogLock := false, xoOk := false, quietLock := true, gated := 31 }
          dpll := { s.dpll with stoppedAt := some s.clock.now }
          conv := { s.conv with current := none, onAsk := false } }.lapEnd.markMode).listenUpdate
      else s
    | none => s)

/-- What remains of a pre-mute of guard pin g if Run is left now (R217): a pin that settles goes low at once. -/
def State.preLeft (s : State) (g : Nat) : Nat :=
  let p := s.gbyPin g
  match p.preEnd with
  | some t => t - s.clock.now
  | none => if p.high && p.settleEnd.isNone then ms 2 else 0

/-- How long leaving Run takes, in ticks (R212, R217): the longer of MODE_MUTE and the pre-mutes. -/
def State.leaveTicks (s : State) : Nat := (List.range 4).foldl (fun a g => max a (s.preLeft g)) (ms s.modeMute)

/-- Ticks as a reply gives them, in whole ms. -/
def wholeMs (n : Nat) : Nat := (n + 95) / 96

/-- The duration of the sequence of R333: CM_RAMP and 2.6 ms. -/
def State.entryTicks (s : State) : Nat := s.cmRamp + 250

/-- Run is being left (R212, R217): every output mutes over MODE_MUTE. -/
def State.leaveRun (s : State) (target : Mode) (job : Option Job) : State :=
  { s.outputsLeave with power := { s.power with leaving := some (target, s.clock.now + s.leaveTicks), leaveJob := job } }

/-- MODE_MUTE_END (R212, R328, R398): the change out of Run is made. -/
def execModeMuteEnd (s : State) : Host.Outcome State Fault Refusal :=
  .next (match s.power.leaving with
    | some (target, t) =>
      if t ≤ s.clock.now then
        let s1 := ({ s with
          power := { s.power with mode := .idle, leaving := none, leaveJob := none }
          graph := { s.graph with runners := [], sinks := [], queues := [], kept := [], ready := [], termOut := [] } }.outputsIdle.portsLeave).markMode
        let s2 := match s.power.leaveJob with | some j => s1.accept j [] 0 0 | none => s1
        match target with
        | .rest => s2.beginEntry .rest
        | .watch => s2.beginEntry .watch
        | _ => s2
      else s
    | none => s)

/-- A comparator gives the warning (R338): its supply has stayed below the threshold of DEV_PFW, in mV, for FILTER. -/
def State.warned (s : State) (d : SupplyDip) : Bool :=
  let v := s.dir 0x0001
  decide (d.mv.val < if d.dvdd then 730 + 10 * field v 4 2 else 4600 + 50 * field v 0 3) && decide (field v 8 8 ≤ d.us.val)

/-- POWER_FAIL_WARNING (R338-R340): the operand says what the comparator that fires has seen. -/
def execPowerFailWarning (dip : SupplyDip) (s : State) : Host.Outcome State Fault Refusal :=
  let runs := !s.power.inReset && !s.asleep && !s.power.pfw && s.warned dip
  let s1 := (s.raise 14).lastLap
  let s2 := { s1 with
    power := { s1.power with
      pfw := true, pfwSticky := true, pfwCount := satAdd 8 s1.power.pfwCount 1, pfwClear := none, mramHeld := true,
      entryCommitted := s1.power.entering.isSome }
    log := s1.log.add 0x18 1
    cfg := { s1.cfg with stage := none, save := none, commit := none } }
  let s3 := s2.logCommit 1
  let s4 := match s.cfg.save with | some x => s3.busy x.job 0x0E | none => s3
  let s5 := match s.cfg.commit with | some j => s4.busy j 0x0E | none => s4
  .next (if runs then s5 else s)

/-- POWER_FAIL_CLEAR (R338): the command is the event that both supplies have stayed above their thresholds plus the margins for FILTER. -/
def execPowerFailClear (s : State) : Host.Outcome State Fault Refusal :=
  .next (if s.power.pfw then
    { s with
      power := { s.power with pfw := false, pfwClear := some s.clock.now }
      out := { s.out with lapClear := some s.clock.now } }
  else s)

/-- MRAM_WRITE_RESUME (R339): the warning has been clear for 100 ms, and MRAM takes the failure counts that waited (R393). -/
def execMramWriteResume (s : State) : Host.Outcome State Fault Refusal :=
  .next (match s.power.pfwClear with
    | some t =>
      if !s.power.pfw && decide (t + 9600 ≤ s.clock.now) then
        { s with power := { s.power with mramHeld := false, pfwClear := none }, mram := { s.mram with fails := s.ctl.fails } }
      else s
    | none => s)

/-- The power words (R342). -/
def State.powerWords (s : State) : List Nat :=
  let p := s.power
  [p.lastReset + 8 * p.resetSupply + 64 * p.lastWake + 512 * p.wakeJs + 2048 * p.bootBank + 2 ^ 13 * b2n p.pfwSticky + 2 ^ 14 * b2n p.refusedAtBoot +
     2 ^ 15 * p.bootReason,
   p.valid.toNat + 256 * p.pfwCount]

/-- STICKY_CLEAR of the power group (R342). -/
def State.clearPower (s : State) : State := { s with power := { s.power with pfwSticky := false, pfwCount := 0 } }

end Sys2Proof.Machine
end

