-- ==== Sys2Proof/Machine/Routing.lean ====
section
/-! DEFINITION. Routing, mixing, gain steps, the fixed high-pass filters and the meters (chapter 7). -/
namespace Sys2Proof.Machine

/-- Fields of a route entry (R171). -/
def rSource (v : Nat) : Nat := field v 0 16
def rSink (v : Nat) : Nat := field v 16 16
def rGain (v : Nat) : Int := sfield v 32 16
def rEnabled (v : Nat) : Bool := v.testBit 48
def rInvert (v : Nat) : Bool := v.testBit 49
def rMuted (v : Nat) : Bool := v.testBit 50
def rProfile (v : Nat) : Nat := field v 51 3
/-- The entry contributes. -/
def rPresent (v : Nat) : Bool := rEnabled v && !rMuted v

/-- The gain in force at tick n (R180): a ramp of 192 ticks runs from the gain it left. -/
def GainSt.value (g : GainSt) (free n : Nat) : Nat :=
  match g.ramp with
  | some (frm, t) => if n < t then frm else if n < t + 192 then ((frm : Int) + looseQuot free (((g.gain : Int) - frm) * (n - t + 1 : Nat)) 192).toNat else g.gain
  | none => g.gain

/-- A change of sign, or a sample of value 0 (R180). -/
def crossed (prev now : Int) : Bool := decide (now = 0) || decide (prev < 0 ∧ 0 < now) || decide (0 < prev ∧ now < 0)

/-- A waiting change at tick n (R180): made at a zero crossing, or begun as a ramp at the end of the timeout. -/
def GainSt.step (g : GainSt) (n : Nat) (prev now : Int) : GainSt :=
  match g.wait with
  | some (t, d) =>
    if d ≤ n then { gain := t, wait := none, ramp := some (g.gain, d) }
    else if crossed prev now then { gain := t, wait := none, ramp := none } else g
  | none => g

/-- A ramp that has ended is over (R181). -/
def GainSt.settle (g : GainSt) (n : Nat) : GainSt :=
  match g.ramp with | some (_, t) => if t + 192 ≤ n then { g with ramp := none } else g | none => g

/-- A changed gain at swap tick n (R180, R181). -/
def GainSt.take (g : GainSt) (free n target timeout : Nat) (off : Bool) : GainSt :=
  let g := g.settle n
  if g.ramp.isSome then { gain := target, wait := none, ramp := some (g.value free (n - 1), n) }
  else match g.wait with
    | some (_, d) => { g with wait := some (target, d) }
    | none => if off then { gain := target, wait := none, ramp := some (g.gain, n) } else { g with wait := some (target, n + timeout) }

/-- ZC_OFF and the timeout of the active bank (R182). -/
def State.zcOff (s : State) : Bool := (s.act 0x1100).testBit 8
def State.gnTimeout (s : State) : Nat := 96 * field (s.act 0x1100) 0 8

/-- The rising and the falling curve of R175 at j of N. -/
def riseAt (law j n : Nat) : Nat := if law = 0 then unity - fallAt j n else powerAt (j + 1) n
def dropAt (law j n : Nat) : Nat := if law = 0 then fallAt j n else if n ≤ j + 1 then 0 else powerAt (n - j - 1) n

/-- The weight of a contribution at tick n (R175). -/
def Contribution.weight (c : Contribution) (n : Nat) : Nat :=
  if n < c.start then c.w0
  else if c.start + c.len ≤ n then (if c.rising then unity else 0)
  else if c.rising then c.w0 + (unity - c.w0) * riseAt c.law (n - c.start) c.len / unity
  else c.w0 * dropAt c.law (n - c.start) c.len / unity

/-- A fade that has run to its end before tick n. -/
def Contribution.ended (c : Contribution) (n : Nat) : Bool := decide (c.start + c.len ≤ n)

/-- Fields of a crossfade profile (R175). -/
def State.profLen (s : State) (p : Nat) : Nat := field (s.act (0x1040 + p)) 0 13
def State.profLaw (s : State) (p : Nat) : Nat := field (s.act (0x1040 + p)) 13 1

/-- A contribution turns toward weight 1 or 0 at tick n under a profile, from the weight it has reached (R174, R176). -/
def Contribution.turn (c : Contribution) (rising : Bool) (n len law : Nat) : Contribution :=
  { c with rising := rising, w0 := c.weight (n - 1), start := n, len := len, law := law }

/-- The contribution is the one an entry value names. -/
def Contribution.isOf (c : Contribution) (v : Nat) : Bool :=
  decide (c.source = rSource v) && decide (c.sink = rSink v) && decide (c.invert = rInvert v)

/-- A changed entry value that can be heard (R174, R176): more than its XF_PROFILE changes, and it contributes in one of the banks; or, where
a mute still fades it out, it names another contribution, or is disabled. -/
def rAudible (o v : Nat) : Bool :=
  let moves := decide (rSource o ≠ rSource v) || decide (rSink o ≠ rSink v) || decide (rInvert o ≠ rInvert v)
  (rPresent o || rPresent v || (rEnabled o && (!rEnabled v || moves))) && decide (o - rProfile o * 2 ^ 51 ≠ v - rProfile v * 2 ^ 51)

/-- A contribution that still fades at a swap goes on toward its target under the incoming profile, from the weight it has reached
(R176). -/
def Contribution.refade (c : Contribution) (n len law : Nat) : Contribution := if c.ended n then c else c.turn c.rising n len law

/-- The gain that a gain state moves to. -/
def GainSt.target (g : GainSt) : Nat := match g.wait with | some (t, _) => t | none => g.gain

/-- The contributions of entry k when its value changes from `o` to `v` at tick n (R174, R176). One that was fading out and reappears keeps its
gain, and a new one waits for a zero crossing as in R180, so that no step occurs (DEDUCED, log entry 61). One whose fade-out has run to
its end has stopped: it comes as a new one. -/
def State.entrySwapped (s : State) (n k o v : Nat) (l0 : List Contribution) : List Contribution :=
  let l := l0.filter (fun c => !(decide (c.entry = k) && !c.rising && c.ended n))
  let len := s.profLen (rProfile v)
  let law := s.profLaw (rProfile v)
  let take := fun (g : GainSt) => if g.target = gainQ28 (rGain v) then g else g.take s.free n (gainQ28 (rGain v)) s.gnTimeout s.zcOff
  let mine := l.map fun c =>
    if c.entry ≠ k || !rAudible o v then c
    else if rPresent v && c.isOf v then
      if c.rising then { c.refade n len law with gain := if rGain o = rGain v then c.gain else take c.gain }
      else { c.turn true n len law with gain := take c.gain }
    else if c.rising then c.turn false n len law
    else c.refade n len law
  if rPresent v && !l.any (fun c => decide (c.entry = k) && c.isOf v) then
    mine ++ [{ entry := k, source := rSource v, sink := rSink v, invert := rInvert v, gain := { gain := gainQ28 (rGain v) },
               rising := true, w0 := 0, start := n, len := len, law := law }]
  else mine

/-- Active inputs of bus b in a bank, and the scale they give (R179). -/
def busInputs (bank : Nat → Nat) (b : Nat) : Nat :=
  ((List.range 2048).filter (fun k => rPresent (bank (0x0800 + k)) && decide (rSink (bank (0x0800 + k)) = 0x0800 + b))).length
def busScaleOf (free law n : Nat) : Nat :=
  if n = 0 ∨ law = 0 then unity
  else if law = 1 then (looseQuot free unity n).toNat
  else (2 ^ 64 / n).sqrt + (if n = 1 ∨ n = 4 ∨ n = 16 ∨ n = 64 then 0 else b2n (Config.roundUp free))

/-- The scale of a bus at tick n (R179). -/
def BusScale.at_ (b : BusScale) (free n : Nat) : Nat :=
  if n < b.start + b.m ∧ b.start ≤ n then ((b.s0 : Int) + looseQuot free (((b.s1 : Int) - b.s0) * (n - b.start + 1 : Nat)) b.m).toNat
  else if n < b.start then b.s0 else b.s1

/-- A bus at a swap (R179). -/
def State.busSwapped (s : State) (n : Nat) (old : Nat → Nat) (b : Nat) (x : BusScale) : BusScale :=
  let now := busInputs s.act b
  let was := busInputs old b
  let law := s.act (0x1000 + b)
  if now = was ∧ law = old (0x1000 + b) then x
  else
    let changed := (List.range 2048).filter fun k =>
      decide (s.act (0x0800 + k) ≠ old (0x0800 + k)) &&
      ((rEnabled (s.act (0x0800 + k)) && decide (rSink (s.act (0x0800 + k)) = 0x0800 + b)) ||
       (rEnabled (old (0x0800 + k)) && decide (rSink (old (0x0800 + k)) = 0x0800 + b)))
    let m := if now = was then 96 else (changed.map (fun k => s.profLen (rProfile (s.act (0x0800 + k))))).foldl max 0
    { s0 := x.at_ s.free (n - 1), s1 := busScaleOf s.free law now, start := n, m := m }

/-- An output gain at a swap (R180, R182). -/
def State.outGainSwapped (s : State) (n : Nat) (old : Nat → Nat) (o : Nat) (g : GainSt) : GainSt :=
  if s.act (0x1110 + o) = old (0x1110 + o) then g
  else g.take s.free n (gainQ28 (sfield (s.act (0x1110 + o)) 0 16)) s.gnTimeout s.zcOff

/-- The filter arrangement that a bank gives a stream (R183, R184): offset blocker, and wind corner code, 4 for off; none for a
stream without the filters. -/
def hpfWant (bank : Nat → Nat) (id : Nat) : Option (Bool × Nat) :=
  if id < 24 then some ((bank (0x1200 + id)).testBit 0, if (bank (0x1200 + id)).testBit 1 then field (bank (0x1200 + id)) 2 2 else 4)
  else if 0x2001 ≤ id ∧ id ≤ 0x2008 then
    let v := bank (0x1218 + (id - 0x2001))
    some (v.testBit 0, if v.testBit 1 then field v 2 2 else 4)
  else if 0x0200 ≤ id ∧ id < 0x02C0 then
    let p := (id - 0x0200) / 32
    let v := bank (0x1220 + p)
    some (v.testBit (id % 32), if v.testBit (32 + id % 32) then field (bank 0x1226) (2 * p) 2 else 4)
  else if 0x0400 ≤ id ∧ id < 0x0600 then some ((bank (0x1230 + (id - 0x0400) / 32)).testBit (id % 32), 4)
  else none

/-- The coefficient a of the offset blocker, Q1.31, and b0, b1, b2, a1, a2 of the wind filter by corner code, Q3.29 (R183). -/
def blockerA : Int := 2147202543
def windCoef : Nat → List Int
  | 0 => [535877975, -1071755951, 535877975, -1071754114, 534886875]
  | 1 => [534886875, -1069773750, 534886875, -1069766418, 532910170]
  | 2 => [533897608, -1067795215, 533897608, -1067778748, 530940770]
  | _ => [532910170, -1065820340, 532910170, -1065791119, 528978648]

/-- The output of the blocker in whole LSB. -/
def HpfArr.blocked (a : HpfArr) (free : Nat) : Int := looseQuot free a.y1 (2 ^ 16)

/-- One sample through an arrangement (R183): the states, the output, and whether it was limited. -/
def HpfArr.step (a : HpfArr) (free : Nat) (x : Int) : HpfArr × Int × Bool :=
  let y := if a.ob then sat 64 ((x - a.x1) * 2 ^ 16 + looseQuot free (blockerA * a.y1) (2 ^ 31)) else 0
  let a1 := if a.ob then { a with x1 := x, y1 := y } else a
  let v := if a.ob then sat32 (a1.blocked free) else x
  let c := a.ob && saturates 32 (a1.blocked free)
  if a.wind < 4 then
    let k := windCoef a.wind
    let r := section_ free (k.getD 0 0) (k.getD 1 0) (k.getD 2 0) (k.getD 3 0) (k.getD 4 0) v a.s1 a.s2
    ({ a1 with s1 := r.1, s2 := r.2.1 }, sat32 r.2.2, c || saturates 32 r.2.2)
  else (a1, v, c)

/-- A wind filter loaded with the steady state of a constant input c (R185) under its rounded coefficients: the output is then
c·(b0 + b1 + b2)/(1 + a1 + a2). -/
def windLoad (free wind : Nat) (c : Int) : Int × Int :=
  let k := windCoef wind
  let b := k.getD 0 0 + k.getD 1 0 + k.getD 2 0
  let a := 2 ^ 29 + k.getD 3 0 + k.getD 4 0
  let load := fun (kb ka : Int) => looseQuot free ((kb * a - ka * b) * c) (a.toNat * 2 ^ 13)
  (load (k.getD 1 0 + k.getD 2 0) (k.getD 3 0 + k.getD 4 0), load (k.getD 2 0) (k.getD 4 0))

/-- A stream's arrangement changes at a swap tick (R185). -/
def HpfSt.swapped (h : HpfSt) (free n : Nat) (want : Bool × Nat) : HpfSt :=
  if h.arr.ob = want.1 ∧ h.arr.wind = want.2 then h
  else
    let keepOb := h.arr.ob && want.1
    let keepWind := decide (h.arr.wind = want.2) && decide (h.arr.ob = want.1)
    let c := if !want.1 then h.raw else if keepOb then sat32 (h.arr.blocked free) else 0
    let w := if keepWind then (h.arr.s1, h.arr.s2) else if want.2 < 4 then windLoad free want.2 c else (0, 0)
    { h with
      arr := { ob := want.1, wind := want.2, x1 := if keepOb then h.arr.x1 else h.raw, y1 := if keepOb then h.arr.y1 else 0, s1 := w.1, s2 := w.2 }
      old := some (h.arr, n) }

/-- One sample of a stream through its filters at tick n, with the crossfade of R185. -/
def HpfSt.step (h : HpfSt) (free n : Nat) (w : StreamWord) : HpfSt × StreamWord :=
  let a := h.arr.step free w.int
  match h.old with
  | some (o, t) =>
    if n < t + 96 then
      let b := o.step free w.int
      let y := looseQuot free (a.2.1 * riseAt 0 (n - t) 96 + b.2.1 * dropAt 0 (n - t) 96) unity
      ({ h with arr := a.1, old := some (b.1, t), raw := w.int }, { w with sample := word (sat32 y), clipped := w.clipped || a.2.2 || b.2.2 })
    else ({ arr := a.1, raw := w.int }, { w with sample := word a.2.1, clipped := w.clipped || a.2.2 })
  | none => ({ h with arr := a.1, raw := w.int }, { w with sample := word a.2.1, clipped := w.clipped || a.2.2 })

/-- Streams that pass the filters (R183). -/
def hpfStreams : List Nat :=
  List.range 24 ++ (List.range 192).map (· + 0x0200) ++ (List.range 512).map (· + 0x0400) ++ (List.range 8).map (· + 0x2001)

/-- Routes, buses, output gains and filters at a bank swap (R174-R185): `old` is the bank that was active. -/
def State.routesSwapped (s : State) (old : Nat → Nat) : State :=
  let n := s.clock.now
  { s with rout := { s.rout with
    enabled := ((List.range 2048).filter (fun k => rEnabled (s.act (0x0800 + k)))).map (fun k => (rSource (s.act (0x0800 + k)), rSink (s.act (0x0800 + k))))
    contribs := (List.range 2048).foldl (fun l k =>
      if s.act (0x0800 + k) = old (0x0800 + k) then l else s.entrySwapped n k (old (0x0800 + k)) (s.act (0x0800 + k)) l) s.rout.contribs
    outGain := (List.range 28).foldl (fun t o => tabMod (fun _ => ({} : GainSt)) t o (s.outGainSwapped n old o)) s.rout.outGain
    busScale := (List.range 64).foldl (fun t b => tabMod (fun _ => ({} : BusScale)) t b (s.busSwapped n old b)) s.rout.busScale
    hpf := hpfStreams.foldl (fun t id => match hpfWant s.act id with
      | some w => tabMod (fun _ => ({} : HpfSt)) t id (fun h => h.swapped s.free n w)
      | none => t) s.rout.hpf } }

/-- A stream as presented in the heat in progress, and in the heat before (R169). -/
def Routing.now (r : Routing) (id : Nat) : StreamWord := tabGet (fun _ => StreamWord.zero) r.cur id
def Routing.before (r : Routing) (id : Nat) : StreamWord := tabGet (fun _ => StreamWord.zero) r.prev id

/-- What a contribution adds at tick n (R171, R172, R175): its source word, whether it contributes (R22), and the product. -/
def Contribution.term (c : Contribution) (free n : Nat) (prev cur : Nat → StreamWord) : StreamWord × Bool × Int :=
  let x := (cur c.source).int
  let g := (c.gain.step n (prev c.source).int x).value free n
  let v := looseQuot free (x * g * c.weight n) (2 ^ 60)
  (cur c.source, heard (g : Int) (2 ^ 28) && (c.rising || !c.ended n), if c.invert then -v else v)

/-- The sum of the contributions to a sink, limited to 48 bits, with the words that contribute (R22, R173, R177). -/
def sumTerms (l : List (StreamWord × Bool × Int)) : List StreamWord × Int :=
  ((l.filter (fun p => p.2.1)).map (fun p => p.1), sat 48 ((l.map (fun p => p.2.2)).foldl (· + ·) 0))

/-- The order in which buses are evaluated: by the routes between buses of the active bank (R177). -/
def Routing.busOrder (r : Routing) : List Nat :=
  let arcs := (r.enabled.filter (fun e => (busOf e.1).isSome && (busOf e.2).isSome)).map (fun e => (e.1 - 0x0800, e.2 - 0x0800))
  let first := peel arcs 64 [] (List.range 64)
  first ++ (List.range 64).filter (fun b => !first.contains b)

/-- The buses evaluated in order (R177, R179): a contribution from a bus not yet evaluated reads its sample of the tick before. -/
def Routing.buses (r : Routing) (free n : Nat) (cur : Nat → StreamWord) : Tab StreamWord :=
  (r.busOrder.foldl (fun (a : Tab StreamWord × List Nat) b =>
    let read := fun id => match busOf id with
      | some k => if a.2.contains k then tabGet (fun _ => StreamWord.zero) a.1 k else r.before id
      | none => cur id
    let ts := (r.contribs.filter (fun c => decide (c.sink = 0x0800 + b))).map (fun c => c.term free n r.before read)
    let s := sumTerms ts
    let g := (tabGet (fun _ => ({} : BusScale)) r.busScale b).at_ free n
    (tabSet (fun _ => StreamWord.zero) a.1 b (made s.1 (looseQuot free (s.2 * g) unity)), a.2 ++ [b])) ([], [])).1

/-- The streams with the buses of this tick beside them. -/
def withBuses (buses : Tab StreamWord) (cur : Nat → StreamWord) (id : Nat) : StreamWord :=
  match busOf id with | some b => tabGet (fun _ => StreamWord.zero) buses b | none => cur id

/-- The route sum of a sink other than a bus (R173), before its limit. -/
def Routing.sum (r : Routing) (free n : Nat) (cur : Nat → StreamWord) (sink : Nat) : List StreamWord × Int :=
  sumTerms ((r.contribs.filter (fun c => decide (c.sink = sink))).map (fun c => c.term free n r.before cur))
def Routing.sumWord (r : Routing) (free n : Nat) (cur : Nat → StreamWord) (sink : Nat) : StreamWord :=
  let s := r.sum free n cur sink
  made s.1 s.2

/-- Input terminals that a loopback path reaches (R178): over the routes that exist, and those that still fade out. -/
def Routing.delayed (r : Routing) : List Nat :=
  let arcs := (r.enabled ++ r.contribs.map (fun c => (c.source, c.sink))).eraseDups
  ((arcReach arcs 66 ((arcs.filter (fun a => (graphOutOf a.1).isSome)).map (fun a => a.2))).filterMap graphInOf).eraseDups

/-- What the graph's input terminals present in the heat that opens (R114, R178). -/
def Routing.terminals (r : Routing) (free n : Nat) : Tab StreamWord :=
  let cur := withBuses (r.buses free n r.now) r.now
  let d := r.delayed
  (((r.contribs.map (fun c => c.sink) ++ r.enabled.map (fun e => e.2)).filterMap graphInOf).eraseDups).foldl (fun t i =>
    tabSet (fun _ => StreamWord.zero) t i (
      if d.contains i then
        (if r.firstHeat then { sample := 0, unsettled := true } else tabGet (fun _ => StreamWord.zero) r.termHeld i)
      else r.sumWord free n cur (0x1000 + i))) []

/-- Sinks other than buses and terminals that contributions name. -/
def Routing.namedSinks (r : Routing) : List Nat :=
  ((r.contribs.map (fun c => c.sink)).filter (fun k => (busOf k).isNone && (graphInOf k).isNone)).eraseDups

/-- The sums of heat n once its graph outputs are known (R16, R173, R177, R178, R182): the buses, the sinks with GN_OUT on the
core feeds, the held sums of the terminals, and the gains brought up to date. -/
def Routing.close (r : Routing) (free n : Nat) (outs : Tab StreamWord) : Routing :=
  let cur0 := fun id => match graphOutOf id with | some j => tabGet (fun _ => StreamWord.zero) outs j | none => r.now id
  let buses := r.buses free n cur0
  let cur := withBuses buses cur0
  let feed := fun o => r.sum free n cur (0x0100 + o)
  let feedInt := fun o => sat32 (feed o).2
  let was := fun o => tabGet (fun _ => (0 : Int)) r.outSum o
  let gain := fun o => (tabGet (fun _ => ({} : GainSt)) r.outGain o).step n (was o) (feedInt o)
  let feedWord := fun o =>
    let w := made (feed o).1 (feed o).2
    made (passing ((gain o).value free n : Int) (2 ^ 28) [w]) (looseQuot free (w.int * (gain o).value free n) (2 ^ 28))
  { r with
    contribs := r.contribs.map (fun c => { c with gain := (c.gain.step n (r.before c.source).int (cur c.source).int).settle n })
    outGain := (List.range 28).foldl (fun t o => tabSet (fun _ => ({} : GainSt)) t o ((gain o).settle n)) r.outGain
    outSum := (List.range 28).foldl (fun t o => tabSet (fun _ => (0 : Int)) t o (feedInt o)) []
    cur := (buses.map (fun (p : Nat × StreamWord) => (p.1 + 0x0800, p.2)) ++ outs.map (fun (p : Nat × StreamWord) => (p.1 + 0x1100, p.2))).foldl
      (fun t (p : Nat × StreamWord) => tabSet (fun _ => StreamWord.zero) t p.1 p.2)
      (r.cur.filter (fun p => (busOf p.1).isNone && (graphOutOf p.1).isNone))
    sinks := (r.namedSinks ++ (List.range 28).map (· + 0x0100)).foldl (fun t k =>
      tabSet (fun _ => StreamWord.zero) t k (if 0x0100 ≤ k ∧ k < 0x011C then feedWord (k - 0x0100) else r.sumWord free n cur k)) []
    termHeld := ((r.contribs.filterMap (fun c => graphInOf c.sink)).eraseDups).foldl (fun t i =>
      tabSet (fun _ => StreamWord.zero) t i (r.sumWord free n cur (0x1000 + i))) []
    firstHeat := false }

/-- Entry index of a gain or fade event: a route entry below 2,048, an output gain above. -/
def State.routeSignal (s : State) (c : Contribution) : Int × Int := ((s.rout.before c.source).int, (s.rout.now c.source).int)

/-- ROUTE_CROSSFADE_END (R175): a contribution at weight 0 stops; one at weight 1 stands. -/
def execRouteCrossfadeEnd (index : Nat) (s : State) : Host.Outcome State Fault Refusal :=
  .next { s with rout := { s.rout with
    contribs := (s.rout.contribs.filter (fun c => !(decide (c.entry = index) && !c.rising && c.ended s.clock.now))).map (fun c =>
      if decide (c.entry = index) && c.rising && c.ended s.clock.now then { c with w0 := unity, start := 0, len := 0 } else c) } }

/-- A stream whose sample of the heat in progress is known while the heat is open: no mix bus, and no graph output (R16, R177). -/
def isLatched (id : Nat) : Bool := (busOf id).isNone && (graphOutOf id).isNone

/-- A waiting gain of a route entry, or of output index − 2,048, under a test of its timeout (R180). A crossing of a signal that the open heat
has yet to make is left to the end of the heat (Routing.close), and before the heat is open no crossing of it is known. -/
def State.stepGain (s : State) (index : Nat) (timeout : Bool) : State :=
  let n := s.clock.now
  let ok : GainSt → Bool := fun g => match g.wait with | some (_, d) => if timeout then decide (d ≤ n) else s.clock.opened && decide (n < d) | none => false
  let known := fun (sink : Nat) => (s.rout.contribs.filter (fun c => decide (c.sink = sink))).all (fun c => isLatched c.source)
  { s with rout := { s.rout with
    contribs := s.rout.contribs.map (fun c =>
      if decide (c.entry = index) && ok c.gain && (timeout || isLatched c.source) then { c with gain := c.gain.step n (s.rout.before c.source).int (s.rout.now c.source).int } else c)
    outGain := if 2048 ≤ index ∧ index < 2076 then
        tabMod (fun _ => ({} : GainSt)) s.rout.outGain (index - 2048) (fun (g : GainSt) =>
          if ok g && (timeout || known (0x0100 + (index - 2048))) then
            g.step n (tabGet (fun _ => (0 : Int)) s.rout.outSum (index - 2048)) (sat32 (s.rout.sum s.free n s.rout.now (0x0100 + (index - 2048))).2)
          else g)
      else s.rout.outGain } }

/-- ROUTE_GAIN_ZERO_CROSSING (R180): index 0-2,047 a route entry, 2,048 + o output gain o. -/
def execRouteGainZeroCrossing (index : Nat) (s : State) : Host.Outcome State Fault Refusal := .next (s.stepGain index false)

/-- ROUTE_GAIN_ZC_TIMEOUT (R180). -/
def execRouteGainZcTimeout (index : Nat) (s : State) : Host.Outcome State Fault Refusal := .next (s.stepGain index true)

/-- GAIN_RAMP_END (R181). -/
def execGainRampEnd (index : Nat) (s : State) : Host.Outcome State Fault Refusal :=
  .next { s with rout := { s.rout with
    contribs := s.rout.contribs.map (fun c => if c.entry = index then { c with gain := c.gain.settle s.clock.now } else c)
    outGain := if 2048 ≤ index ∧ index < 2076 then
        tabMod (fun _ => ({} : GainSt)) s.rout.outGain (index - 2048) (fun g => g.settle s.clock.now) else s.rout.outGain } }

/-- BUS_SCALE_RAMP_END (R179). -/
def execBusScaleRampEnd (index : Nat) (s : State) : Host.Outcome State Fault Refusal :=
  .next { s with rout := { s.rout with
    busScale := if index < 64 then tabMod (fun _ => ({} : BusScale)) s.rout.busScale index (fun b =>
      if b.start + b.m ≤ s.clock.now then { s0 := b.s1, s1 := b.s1, start := 0, m := 0 } else b) else s.rout.busScale } }

/-- HPF_CROSSFADE_END (R185): the outgoing arrangement of a stream is dropped. -/
def execHpfCrossfadeEnd (index : Nat) (s : State) : Host.Outcome State Fault Refusal :=
  .next { s with rout := { s.rout with
    hpf := tabMod (fun _ => ({} : HpfSt)) s.rout.hpf index (fun h => match h.old with
      | some (_, t) => if t + 96 ≤ s.clock.now then { h with old := none } else h
      | none => h) } }

/-- RMS coefficients of a meter by RMS_TAU (R186, R187). -/
def meterCoef (k : Nat) : Nat := [34277290, 4471595, 447369, 149128].getD k 0

/-- The sample of largest magnitude of a list, with the OR of the flags (R187). -/
def loudest : List StreamWord → Option StreamWord
  | [] => none
  | w :: ws => match loudest ws with
    | none => some w
    | some v => some {
        sample := if v.int.natAbs ≤ w.int.natAbs then w.sample else v.sample
        unsettled := w.unsettled || v.unsettled, clipped := w.clipped || v.clipped, substituted := w.substituted || v.substituted }

/-- A meter slot takes one sample (R187). -/
def MeterSt.feed (m : MeterSt) (free : Nat) (w : StreamWord) : MeterSt :=
  let x := w.int.natAbs
  if w.substituted then { m with winSubst := true, substSticky := true, fed := true, winUnsettled := m.winUnsettled || w.unsettled }
  else { m with
    fed := true
    peak := max m.peak x
    m := (max 0 (min (2 ^ 64 - 1) ((m.m : Int) + looseQuot free (meterCoef (field m.cfg 17 2) * ((4 * x * x : Nat) - (m.m : Int))) (2 ^ 32)))).toNat
    clips := if w.clipped && !m.inRun then satAdd 32 m.clips 1 else m.clips
    inRun := w.clipped
    winUnsettled := m.winUnsettled || w.unsettled }

/-- What STREAM of a slot presents in heat n, after its sums (R186). -/
def Routing.meterWord (r : Routing) (id : Nat) : StreamWord :=
  match graphInOf id with
  | some i => tabGet (fun _ => StreamWord.zero) r.termIn i
  | none => if isSource id then r.now id else tabGet (fun _ => StreamWord.zero) r.sinks id

/-- Every meter slot takes its sample of a heat: `taps` are the METER_TAP words released (R187). -/
def Routing.meterFeed (r : Routing) (free : Nat) (taps : List (Nat × StreamWord)) : Routing :=
  { r with meters := (List.range 256).foldl (fun t k =>
      tabMod (fun _ => ({} : MeterSt)) t k (fun m =>
        let ws := (if m.cfg.testBit 16 then [r.meterWord (field m.cfg 0 16)] else []) ++ (taps.filter (fun p => decide (p.1 = k))).map (fun p => p.2)
        match loudest ws with | some w => m.feed free w | none => m)) r.meters }

/-- A slot takes the configuration written before the boundary (R186). -/
def MeterSt.configure (m : MeterSt) (cfg : Nat) : MeterSt :=
  if m.cfg = cfg then m
  else if field m.cfg 0 17 = field cfg 0 17 then { m with cfg := cfg } else { cfg := cfg }

/-- Bring the slots to their configurations at a boundary (R186). -/
def State.metersConfigure (s : State) : State :=
  { s with rout := { s.rout with meters := (List.range 256).foldl (fun t k =>
      tabMod (fun _ => ({} : MeterSt)) t k (fun m => m.configure (s.dir (0x1300 + k)))) s.rout.meters } }

/-- The held peak as a level code: an amplitude that has fallen by f units of 0.001 dB (R187, R188). -/
def heldCode (n a f : Nat) : Nat :=
  if a = 0 then 0xFFFF
  else
    let m := (a ^ 200) ^ 100
    let full := ((2 ^ 248) ^ 250) ^ 10
    let ok := fun c => decide (10 ^ (10 * c) * m ≤ full * 10 ^ f)
    let c := searchDown ok 16 0
    min 0xFFFF (if 10 ^ (10 * c) * m = full * 10 ^ f ∨ ¬ ok 0 then c else if Config.roundUp n then c + 1 else c)

/-- p is at or above the held peak (R187). -/
def MeterSt.reaches (m : MeterSt) : Bool := decide ((m.heldPeak ^ 200) ^ 100 ≤ (m.peak ^ 200) ^ 100 * 10 ^ m.fallen)

/-- One update of a slot (R187, R188). -/
def MeterSt.update (m : MeterSt) (free : Nat) : MeterSt :=
  let hold := 100 * field m.cfg 20 8
  let m1 := if m.reaches then { m with heldPeak := m.peak, fallen := 0, holdLeft := hold }
    else if 0 < m.holdLeft then { m with holdLeft := m.holdLeft - 1 } else { m with fallen := m.fallen + field m.cfg 28 8 }
  { m1 with
    mirror := if m.fed then BitVec.ofNat 32 (heldCode free m1.heldPeak m1.fallen + 65536 * powerCode free (2 * m1.m) (2 ^ 64)) else 0xFFFFFFFF
    peakNow := m.peak
    peak := 0
    lastUnsettled := m.winUnsettled
    lastSubst := m.winSubst
    winUnsettled := false
    winSubst := false
    fed := false }

/-- METER_UPDATE (R188): at a boundary where TICK is a multiple of 96, once. -/
def execMeterUpdate (s : State) : Host.Outcome State Fault Refusal :=
  let due := decide (s.tickNat % 96 = 0) && decide (s.rout.meterAt ≠ s.clock.now) && s.awake
  .next { s with rout := { s.rout with
    meterAt := if due then s.clock.now else s.rout.meterAt
    meters := if due then (List.range 256).foldl (fun t k => tabMod (fun _ => ({} : MeterSt)) t k (fun m => m.update s.free)) s.rout.meters
              else s.rout.meters } }

/-- The two meter words of R189. -/
def State.meterWords (s : State) (k : Nat) : List Nat :=
  let m := tabGet (fun _ => ({} : MeterSt)) s.rout.meters k
  [levelCode s.free m.peakNow (2 ^ 31) + 2 ^ 16 * b2n m.lastUnsettled + 2 ^ 17 * b2n m.lastSubst + 2 ^ 18 * b2n m.substSticky +
     2 ^ 19 * b2n (decide (0 < m.holdLeft)), m.clips]

/-- STICKY_CLEAR of the meter group (R189). -/
def State.clearMeters (s : State) : State :=
  { s with rout := { s.rout with meters := (List.range 256).foldl (fun t k => tabMod (fun _ => ({} : MeterSt)) t k (fun m =>
      { m with clips := 0, substSticky := false, heldPeak := 0, fallen := 0, holdLeft := 0 })) s.rout.meters } }

/-- Buses that feed a bus in a bank, and the routes between buses. -/
def busArcs (bank : Nat → Nat) : List (Nat × Nat) :=
  ((List.range 2048).filter (fun k => rEnabled (bank (0x0800 + k)))).filterMap fun k =>
    match busOf (rSource (bank (0x0800 + k))), busOf (rSink (bank (0x0800 + k))) with
    | some a, some b => some (a, b)
    | _, _ => none

/-- Buses in the longest chain that ends at each bus, in producer order. -/
def busDepths (arcs : List (Nat × Nat)) (order : List Nat) : Tab Nat :=
  order.foldl (fun t b => tabPut t b (1 + ((arcs.filter (fun a => decide (a.2 = b))).map (fun a => tabGet (fun _ => 0) t a.1)).foldl max 0)) []

/-- Parameters of step 9 (R190). -/
def mixParams : List Nat :=
  (List.range 72).map (· + 0x1000) ++ [0x1100] ++ (List.range 28).map (· + 0x1110) ++ (List.range 39).map (· + 0x1200) ++ (List.range 16).map (· + 0x1230)

/-- The routing part of the check (R190): the code, KIND and INDEX. -/
def checkRoutes (bank : Nat → Nat) : Option (Nat × Nat × Nat) :=
  let all := List.range 2048
  let en := all.filter (fun k => rEnabled (bank (0x0800 + k)))
  let e := fun k => bank (0x0800 + k)
  let sinks := (en.map (fun k => rSink (e k))).eraseDups
  let lowest := fun (p : Nat → Bool) => (sinks.filter p).foldl (fun (b : Option Nat) x => match b with | some y => some (min x y) | none => some x) none
  let arcs := busArcs bank
  let order := peel arcs 64 [] (List.range 64)
  let left := (List.range 64).filter (fun b => !order.contains b)
  match all.find? (fun k => !routeFieldsOk (e k)) with
  | some k => some (0x27, 2, k)
  | none => match en.find? (fun k => !isStream (rSource (e k)) || !isStream (rSink (e k))) with
  | some k => some (0x21, 2, k)
  | none => match en.find? (fun k => !isSource (rSource (e k))) with
  | some k => some (0x22, 2, k)
  | none => match en.find? (fun k => !isSink (rSink (e k))) with
  | some k => some (0x23, 2, k)
  | none => match lowest (fun x => (busOf x).isNone && decide (1 < (en.filter (fun k => decide (rSink (e k) = x))).length)) with
  | some x => some (0x20, 3, x)
  | none => match (List.range 64).find? (fun b => decide (64 < (en.filter (fun k => decide (rSink (e k) = 0x0800 + b))).length)) with
  | some b => some (0x24, 4, b)
  | none => match left.find? (fun b => (arcReach arcs 64 ((arcs.filter (fun a => decide (a.1 = b))).map (fun a => a.2))).contains b) with
  | some b => some (0x25, 4, b)
  | none => match (List.range 64).find? (fun b => decide (8 < tabGet (fun _ => 0) (busDepths arcs order) b)) with
  | some b => some (0x26, 4, b)
  | none => match mixParams.find? (fun id => !paramFieldsOk id (bank id)) with
  | some id => some (0x28, 1, id)
  | none => none

end Sys2Proof.Machine
end

