-- ==== Sys2Proof/Machine/Params.lean ====
section
/-! DEFINITION. Reading, judging and writing parameters (chapter 18), the photo finish (R403), and what a write of each block sets
going. -/
namespace Sys2Proof.Machine

/-- Two requests would act on the same thing (R403). -/
def PhotoThing.clash : PhotoThing → PhotoThing → Bool
  | .params a n, .params b m => decide (a < b + m ∧ b < a + n)
  | .swap, .swap => true
  | .claims a, .claims b => decide (a &&& b ≠ 0)
  | .slots i a n t, .slots k b m u => decide (i = k ∧ t = u ∧ a < b + m ∧ b < a + n)
  | .groups a t, .groups b u => decide (a &&& b ≠ 0 ∧ t = u)
  | .act o t, .act p u => decide (o = p ∧ t = u)
  | _, _ => false

/-- What was accepted with the arrival tick of a request. -/
def State.photoList (s : State) (j : Job) : List (Binding × PhotoThing) := (s.ctl.photo.filter (fun e => decide (e.1 = j.now))).map (fun e => e.2)

/-- A request of the same arrival tick that was executed first stands (R403): the interpreter executes in the order of R388, and what it has done
it does not undo (log entry 73). -/
def State.loses (s : State) (j : Job) (x : PhotoThing) : Bool :=
  (s.photoList j).any (fun e => decide (e.1 ≠ bindingOf j.req) && e.2.clash x)

/-- Arrival ticks that a request still to be executed may have: this one's, the present one, and those of the packets that wait. -/
def State.arrivals (s : State) (j : Job) : List Nat :=
  [j.now, s.clock.now] ++ (s.bus.spi.mailbox ++ s.bus.twi.mailbox).map (fun w => w.now) ++ s.ctl.inbox.map (fun x => x.2.2.2.now)

/-- An accepted request takes its thing for its arrival tick. -/
def State.enterPhoto (s : State) (j : Job) (x : PhotoThing) : State :=
  { s with ctl := { s.ctl with photo := s.ctl.photo.filter (fun e => (s.arrivals j).contains e.1) ++ [(j.now, bindingOf j.req, x)] } }

/-- LOST_PHOTO_FINISH (R403). -/
def State.losePhoto (s : State) (j : Job) : State :=
  { s with ctl := { s.ctl with photoLosses := satAdd 16 s.ctl.photoLosses 1 } }.reply j 0x31 0 []

/-- Conditions against a parameter in force (R438). -/
def State.crossOk (s : State) (id v : Nat) : Bool :=
  if 0x140C ≤ id ∧ id < 0x1418 then maskFits s.dir ((id - 0x140C) % 6) v
  else if 0x1400 ≤ id ∧ id < 0x1406 then
    (let p := id - 0x1400
     maskFits (fun _ => v) p (s.dir (0x140C + p)) && maskFits (fun _ => v) p (s.dir (0x1412 + p)))
  else if id = 0x0210 ∨ id = 0x0211 then fpOffsetOk (fun i => if i = id then v else s.dir i) (id - 0x0210)
  else if id = 0x0212 ∨ id = 0x0213 then fpOffsetOk (fun i => if i = id then v else s.dir i) (id - 0x0212)
  else true

/-- A value is allowed at write time (R437, R438). -/
def State.valueOk (s : State) (id v : Nat) : Bool := paramFieldsOk id v && s.crossOk id v

/-- KIND and INDEX of the object of a BANKED parameter (R399). -/
def objectOf (id : Nat) : Nat × Nat := if 0x0800 ≤ id ∧ id < 0x1000 then (2, id - 0x0800) else (1, id)

/-- An object of the shadow bank has been written since the last refill (R451). -/
def Dep.wrote (d : Dep) (o : Nat × Nat) : Dep := if d.writtenShadow.contains o then d else { d with writtenShadow := o :: d.writtenShadow }

/-- A BANKED parameter of the shadow bank is written (R411). -/
def State.writeShadow (s : State) (id v : Nat) : State :=
  { s with cfg := { s.cfg with shadow := pSet s.cfg.shadow id v }, dep := s.dep.wrote (objectOf id) }

/-- A mask that lets a set cause through makes an in-band pulse due (R380). -/
def State.inbandMaskWritten (s : State) (old : Nat) : State :=
  { s with bus := { s.bus with pulseDue := s.bus.pulseDue || decide (s.bus.cause true &&& s.inbandMask &&& (2 ^ 18 - 1 - old % 2 ^ 18) ≠ 0) } }

/-- LIMIT acts at once (R157): below the lead of provisional results it squashes them (R146); raised, it makes more work ready. -/
def State.limitWritten (s : State) (old : Nat) : State :=
  let l := field (s.dir 0x1C00) 0 4
  if !s.inRun then s
  else if l < field old 0 4 then { s with graph := s.graph.causeStart s.eng (s.clock.now + l + 1) none (fun _ => true) }
  else { s with graph := s.graph.dispatch s.eng none }

/-- Setting ENABLE of GR_TRACE empties the trace (R158). -/
def State.traceWritten (s : State) (old : Nat) : State :=
  if (s.dir 0x1C01).testBit 0 && !old.testBit 0 then { s with graph := { s.graph with trace := [] } } else s

/-- What the write of a STATIC or LIVE parameter sets going, as its chapter gives; `old` is the value before. -/
def State.paramWritten (s : State) (id old : Nat) : State :=
  if id = 0x0100 then s.xoFreqWritten (s.dev 0x0100)
  else if 0x0110 ≤ id ∧ id ≤ 0x0114 then s.ckOutWritten (id - 0x0110)
  else if paramBlock id = 0x02 then s.refWritten id old
  else if 0x0340 ≤ id ∧ id < 0x0348 then s.jsCfgWritten (id - 0x0340) old
  else if 0x0400 ≤ id ∧ id < 0x0418 then s.startChain (id - 0x0400)
  else if 0x0430 ≤ id ∧ id < 0x044C then s.startOutChain (id - 0x0430)
  else if id = 0x0480 then s.qsWritten old
  else if 0x0600 ≤ id ∧ id < 0x0604 then s.jsHpWritten (id - 0x0600) old
  else if 0x0608 ≤ id ∧ id < 0x060C then s.gbyWritten (id - 0x0608)
  else if id = 0x0710 then s.spOrderWritten
  else if 0x1406 ≤ id ∧ id < 0x140C then s.portClkWritten (id - 0x1406)
  else if 0x140C ≤ id ∧ id < 0x1418 then s.portMaskWritten ((id - 0x140C) % 6)
  else if paramBlock id = 0x17 then s.linkWritten
  else if paramBlock id = 0x18 then s.wakeWritten
  else if id = 0x1902 then s.inbandMaskWritten old
  else if id = 0x1B01 then { s with dep := { s.dep with injectNext := s.dir 0x1B01 } }
  else if id = 0x1C00 then s.limitWritten old
  else if id = 0x1C01 then s.traceWritten old
  else s

/-- A STATIC or LIVE parameter is written (R411, R412): CK_STEER is clamped (R286). -/
def State.writeDirect (s : State) (id v : Nat) : State :=
  let old := s.param false id
  if mramParam id then { s with mram := { s.mram with device := pSet s.mram.device id v } }.paramWritten id old
  else if id = 0x0103 then s.setSteer (signed v 32)
  else { s with cfg := { s.cfg with direct := pSet s.cfg.direct id v } }.paramWritten id old

/-- A value acts under its class (R411, R439). -/
def State.writeParam (s : State) (id v : Nat) : State :=
  match paramClass id with
  | .banked => s.writeShadow id v
  | _ => s.writeDirect id v

/-- Values of consecutive IDs act in run order; `keep` chooses the classes that act. -/
def State.writeRun (keep : PClass → Bool) : Nat → List Nat → State → State
  | _, [], s => s
  | id, v :: vs, s => State.writeRun keep (id + 1) vs (if keep (paramClass id) then s.writeParam id v else s)

/-- A write that must queue (R415): BUSY with detail 0x03 where the queue is full. `now_` is what acts at once, and `data` the reply. -/
def State.enqueue (s : State) (j : Job) (data : List Byte) (now_ : State → State) : State :=
  let held := (s.cfg.queue.map (fun q => q.req.payload.length)).foldl (· + ·) 0
  if 64 ≤ s.cfg.queue.length ∨ 8192 < held + j.req.payload.length then s.busy j 3
  else ({ now_ s with cfg := { (now_ s).cfg with queue := s.cfg.queue ++ [j] } }).reply j 0 2 data

/-- BUSY for a write that MRAM cannot take now (R339, R440): its detail. -/
def State.mramBusy (s : State) : Option Nat := if s.mramBlocked then some 0x0E else if s.storeBusy then some 5 else none

/-- PARAM_WRITE from step 9 of R386 (R411, R437-R441). -/
def State.doParamWrite (s : State) (j : Job) : State :=
  let p := j.req.payload
  let id := le p 0 2
  let v := leNat (p.drop 4)
  let static := (paramClass id).isStatic
  let done := fun (s : State) => (s.enterPhoto j (.params id 1))
  if paramDefined id && static && !s.inIdle then s.notInState j
  else if !paramDefined id then s.reply j 0x14 0 []
  else if !zeros p 2 2 || !s.valueOk id v then s.outOfRange j
  else if s.loses j (.params id 1) then s.losePhoto j
  else if static && s.frozen then s.busy j 4
  else match if mramParam id then s.mramBusy else none with
  | some d => s.busy j d
  | none =>
    if decide (paramClass id = .banked) && s.frozen then (done s).enqueue j (leBytes 2 id) (fun s => s)
    else ((done s).writeParam id v).acceptWith j
      (b2n (decide (id = 0x0103) && decide (steerClamp (signed v 32) ≠ signed v 32))) (leBytes 2 id) 1 v

/-- PARAM_WRITE_BLOCK from step 9 (R439, R440): a failure names the index of the first failing value. -/
def State.doParamBlock (s : State) (j : Job) : State :=
  let p := j.req.payload
  let first := le p 0 2
  let n := le p 2 2
  let w := le p 4 1
  let vals := valuesOf p 8 w n
  let ids := List.range n
  let static := fun i => paramDefined (first + i) && (paramClass (first + i)).isStatic
  let fail := fun (st d i : Nat) => s.reply j st d (leBytes 2 i)
  let shape := decide (w = 4 ∨ w = 8) && decide (1 ≤ n ∧ n ≤ 1016 / w) && zeros p 5 3
  let keep := fun (c : PClass) => decide (c ≠ .banked)
  let done := fun (s : State) => s.enterPhoto j (.params first n)
  match (if s.inIdle then none else ids.find? static) with
  | some i => fail 0x41 s.modeByte i
  | none =>
  if !shape then fail 0x15 0 0
  else match ids.find? (fun i => !paramDefined (first + i) || !sameBlock first (first + i)) with
  | some i => fail 0x14 0 i
  | none => match ids.find? (fun i => decide (paramWidth (first + i) ≠ w)) with
  | some i => fail 0x15 0 i
  | none => match ids.find? (fun i => !s.valueOk (first + i) (vals.getD i 0)) with
  | some i => fail 0x15 0 i
  | none =>
  if s.loses j (.params first n) then s.losePhoto j
  else match (if s.frozen then ids.find? static else none) with
  | some i => fail 0x60 4 i
  | none => match (if ids.any (fun i => mramParam (first + i)) then s.mramBusy else none) with
  | some d => s.busy j d
  | none =>
    if s.frozen && ids.any (fun i => decide (paramClass (first + i) = .banked)) then
      (done s).enqueue j (leBytes 2 n) (State.writeRun keep first vals)
    else
      let v := signed (vals.getD (0x0103 - first) 0) 32
      (State.writeRun (fun _ => true) first vals (done s)).acceptWith j (b2n (decide (first ≤ 0x0103 ∧ 0x0103 < first + n) && decide (steerClamp v ≠ v)))
        (leBytes 2 n) n (crc32c (p.drop 8))

/-- PARAM_READ from step 9 (R433). -/
def State.doParamRead (s : State) (j : Job) : State :=
  let p := j.req.payload
  let id := le p 0 2
  if !paramDefined id then s.reply j 0x14 0 []
  else if (paramClass id = .banked ∧ 1 < le p 2 1) ∨ !zeros p 3 1 then s.outOfRange j
  else s.reply j 0 0 (leBytes 2 id ++ leBytes 1 (paramWidth id) ++ leBytes 1 (paramClass id).code ++ [0, 0] ++
    leBytes 8 (s.param (decide (le p 2 1 = 1)) id))

end Sys2Proof.Machine
end

