-- ==== Sys2Proof/Machine/Banks.lean ====
section
/-! DEFINITION. Banked content without parameter IDs, the graph load, the queue of shadow writes, and the exchange of the banks
(R99, R128, R155, R261, R411-R416). -/
namespace Sys2Proof.Machine

/-- Bytes of a piece put into a table that keeps every byte written. -/
def putBytes (t : Tab Byte) : Nat → List Byte → Tab Byte
  | _, [] => t
  | k, b :: bs => putBytes (tabPut t k b) (k + 1) bs

/-- Is every byte below n written? -/
def written (t : Tab Byte) (n : Nat) : Bool := (List.range n).all (fun i => (tabFind t i).isSome)
def unwritten (t : Tab Byte) (n : Nat) : Nat := ((List.range n).filter (fun i => (tabFind t i).isNone)).length
def bytesOf (t : Tab Byte) (n : Nat) : List Byte := tabGetRun (fun _ => 0) t 0 n

/-- How a piece of a graph load fares (R128): accepted, or refused with a status and a detail; the graph after it. -/
structure LoadResult where
  status : Nat
  detail : Nat
  graph : Graph

/-- A load that has been abandoned: no byte of it is held, and a piece at offset 0 is needed. -/
def Graph.abandon (g : Graph) : Graph := { g with load := some [], loadLen := 0, reserved := 0 }

/-- The shadow graph that a piece completes gives its initial node parameters to the shadow bank (R132). -/
def Graph.takeParams (g : Graph) : Graph :=
  match g.shadow with
  | some i =>
    { g with nodeShadow := (List.range (hdrParams i.bytes)).foldl (fun t k => tabSet (fun _ => 0) t k (i.param k)) [] }
  | none => g

/-- GRAPH_LOAD's piece against the shadow graph (R128). A piece that completes the header is judged for its data copy before its own reach
past IMAGE_LEN: where both fail it answers 0x46 and the load is abandoned (DESIGN CHOICE, log entry 67). -/
def Graph.piece (g : Graph) (ofs : Nat) (data : List Byte) : LoadResult :=
  let end_ := ofs + data.length
  let base : Graph := if ofs = 0 then g.abandon else g
  match base.load with
  | none => { status := 0x41, detail := 0, graph := g }
  | some old =>
    let t := putBytes old ofs data
    let hdr := bytesOf t 64
    if base.loadLen ≠ 0 then
      if base.loadLen < end_ then { status := 0x15, detail := 0, graph := g }
      else { status := 0, detail := 0, graph := { base with load := some t }.takeParams }
    else if old.isEmpty && decide (ofs ≠ 0) then { status := 0x41, detail := 0, graph := g }
    else if !written t 64 then
      if 64 < end_ then { status := 0x41, detail := 0, graph := g } else { status := 0, detail := 0, graph := { base with load := some t } }
    else if !headerOk hdr then { status := 0x40, detail := 0x49, graph := g.abandon }
    else if g.freeShared - g.held < hdrDataLen hdr then { status := 0x40, detail := 0x46, graph := g.abandon }
    else if hdrLen hdr < end_ then { status := 0x15, detail := 0, graph := g }
    else { status := 0, detail := 0, graph := { base with load := some t, loadLen := hdrLen hdr, reserved := hdrDataLen hdr }.takeParams }

/-- LOAD_STATE and the bytes not yet written (R397). -/
def Graph.loadReport (g : Graph) : List Byte :=
  match g.load with
  | none => [2, 0, 0, 0, 0, 0]
  | some t =>
    let st := if g.loadLen = 0 then 0 else if !g.loadFull then 1 else if g.loadCrcOk then 2 else 3
    [BitVec.ofNat 8 st, 0] ++ leBytes 4 (unwritten t (if g.loadLen = 0 then 64 else g.loadLen))

/-- Shadow node parameters take values (R155). An event accepted before leaves these slots of the shadow bank alone (R126). -/
def Graph.writeNode (g : Graph) (n : NodeRec) (node slot : Nat) (vals : List Nat) : Graph :=
  { g with
    nodeShadow := (List.range vals.length).foldl (fun t k => tabSet (fun _ => 0) t (n.pFirst + slot + k) (BitVec.ofNat 32 (vals.getD k 0))) g.nodeShadow
    events := g.events.map (fun e => if e.node = node then { e with noShadow := e.noShadow ++ (List.range vals.length).map (· + slot) } else e) }

/-- Bytes of an image take values (R99, R261). -/
def writeImage (t : Tab Byte) (ofs : Nat) (data : List Byte) : Tab Byte := tabSetRun (fun _ => 0) t ofs data

/-- The entries of the slot image that bytes touch, as refusal records name them (R399). -/
def slotObjects (ofs n : Nat) : List (Nat × Nat) :=
  (List.range (n / 2)).map (fun i => let e := ofs / 2 + i; if e < 512 then (12, e) else (13, e - 512))

/-- The graph part of a queued request, applied to a graph (R128, R155). -/
def Job.onGraph (g : Graph) (j : Job) : Graph :=
  let p := j.req.payload
  if j.void then g.abandon
  else if j.opcode = 0x0301 then (g.piece (le p 0 4) (p.drop 4)).graph
  else if j.opcode = 0x0105 then
    (match (match g.shadow with | some i => i.nodes[le p 0 2]? | none => none) with
     | some n => g.writeNode n (le p 0 2) (le p 2 2) (valuesOf p 16 4 (le p 4 2))
     | none => g)
  else g

/-- The shadow graph as the queue will leave it: what a shadow write is judged against (R415). -/
def State.shadowView (s : State) : Graph := s.cfg.queue.foldl Job.onGraph s.graph

/-- A shadow write acts (R411): the banked part of a request, whether at once or from the queue. -/
def Job.onShadow (s : State) (j : Job) : State :=
  let p := j.req.payload
  if j.opcode = 0x0102 then s.writeShadow (le p 0 2) (leNat (p.drop 4))
  else if j.opcode = 0x0103 then State.writeRun (fun c => decide (c = .banked)) (le p 0 2) (valuesOf p 8 (le p 4 1) (le p 2 2)) s
  else if j.opcode = 0x0107 then
    { s with
      cfg := { s.cfg with cellsShadow := writeImage s.cfg.cellsShadow (cellBase (le p 0 1) + le p 2 2) (p.drop 4) }
      dep := s.dep.wrote (7, le p 0 1) }
  else if j.opcode = 0x0804 then
    { s with
      cfg := { s.cfg with linkShadow := writeImage s.cfg.linkShadow (le p 0 2) (p.drop 4) }
      dep := (slotObjects (le p 0 2) (p.drop 4).length).foldl Dep.wrote s.dep }
  else if j.opcode = 0x0105 then { s with graph := Job.onGraph s.graph j, dep := s.dep.wrote (5, le p 0 2) }
  else { s with graph := Job.onGraph s.graph j }

/-- COUNT and VALUE of the ledger record of a shadow write (R406, R407). -/
def Job.ledger (j : Job) : Nat × Nat :=
  let p := j.req.payload
  if j.opcode = 0x0102 then (1, leNat (p.drop 4))
  else if j.opcode = 0x0103 then (le p 2 2, crc32c (p.drop 8))
  else if j.opcode = 0x0105 then (le p 4 2, if le p 4 2 = 1 then le p 16 4 else crc32c (p.drop 16))
  else ((p.drop 4).length, crc32c (p.drop 4))

/-- Queued writes act in order, each with its ledger record (R413, R415). -/
def State.applyJobs (s : State) (l : List Job) : State :=
  l.foldl (fun s j => if j.void then Job.onShadow s j else (Job.onShadow s j).recordJob j j.ledger.1 j.ledger.2) s

/-- The first n queued writes act; the rest wait. -/
def State.applyQueue (s : State) (n : Nat) : State :=
  { (s.applyJobs (s.cfg.queue.take n)) with cfg := { (s.applyJobs (s.cfg.queue.take n)).cfg with queue := s.cfg.queue.drop n } }

/-- A shadow write that has been judged (R411, R415). -/
def State.shadowWrite (s : State) (j : Job) (data : List Byte) : State :=
  if s.frozen then s.enqueue j data (fun s => s) else (Job.onShadow s j).accept j data j.ledger.1 j.ledger.2

/-- A header that is refused abandons the load (R128): in its turn, where the shadow bank is frozen. -/
def State.abandonLoad (s : State) (j : Job) (g : Graph) : State :=
  if s.frozen then { s with cfg := { s.cfg with queue := s.cfg.queue ++ [{ j with void := true }] } } else { s with graph := g }

/-- GRAPH_LOAD from step 9 (R128). The figures of a refusal at the header are not given: free values. -/
def State.doGraphLoad (s : State) (j : Job) : State :=
  let p := j.req.payload
  let r := s.shadowView.piece (le p 0 4) (p.drop 4)
  if r.status = 0 then s.shadowWrite j r.graph.loadReport
  else if r.status = 0x40 then
    ((s.abandonLoad j r.graph).draw.refuseConfig j r.detail 0 0 (if r.detail = 0x46 then leBytes 32 (Config.freeInt s.free % 2 ^ 256).toNat else []))
  else if r.status = 0x41 then s.notInState j
  else s.outOfRange j

/-- A node parameter request names slots and values that the operator allows (R155). -/
def nodeOk (g : GraphImage) (node slot : Nat) (vals : List Nat) : Option NodeRec :=
  match g.nodes[node]? with
  | some n =>
    if slot + vals.length ≤ n.pCount ∧ (List.range vals.length).all (fun k => (slotFmt n.op n.size (slot + k)).ok (BitVec.ofNat 32 (vals.getD k 0))) then some n
    else none
  | none => none

/-- An event writes the phase slot of a generator (R125). -/
def phaseEvent (n : NodeRec) (slot count : Nat) : Bool := decide (n.op = 19 ∨ n.op = 20) && decide (slot ≤ 1 ∧ 1 < slot + count)

/-- A node parameter event is placed (R125, R126, R146). -/
def State.placeNode (s : State) (node slot tick : Nat) (n : NodeRec) (vals : List Nat) : State :=
  let e : GEvent := { key := tick, phase := phaseEvent n slot vals.length, node := node, slot := slot, values := vals.map (BitVec.ofNat 32),
                      order := s.graph.eventOrder }
  let g := { s.graph with events := placeEvent e s.graph.events, eventOrder := s.graph.eventOrder + 1 }
  { s with graph := if s.inRun then g.causeStart s.eng (s.clock.now + (tick - s.tickNat)) (some node) (fun i => (g.active.cone node).contains i) else g }

/-- NODE_PARAM_WRITE from step 9 (R155, R126). -/
def State.doNodeWrite (s : State) (j : Job) : State :=
  let p := j.req.payload
  let node := le p 0 2
  let slot := le p 2 2
  let n := le p 4 2
  let named := tickField p 8
  let vals := valuesOf p 16 4 n
  let eff := s.effectTick named
  let value := (if n = 1 then le p 16 4 else crc32c (p.drop 16)) + 2 ^ 32 * (named % 2 ^ 32)
  let view := s.shadowView
  if named = 0 then
    match view.shadow with
    | none => s.notInState j
    | some img =>
      if !zeros p 6 2 || !decide (1 ≤ n ∧ n ≤ 252) || (nodeOk img node slot vals).isNone then s.outOfRange j
      else s.shadowWrite j (leBytes 8 0)
  else if !zeros p 6 2 || !tickOk named || !decide (1 ≤ n ∧ n ≤ 16) then s.outOfRange j
  else match nodeOk s.graph.active node slot vals with
  | none => s.outOfRange j
  | some nr =>
    if s.loses j (.slots node slot n eff) then s.losePhoto j
    else if 1024 ≤ s.graph.events.length then s.busy j 0
    else ((s.enterPhoto j (.slots node slot n eff)).placeNode node slot eff nr vals).accept j (leBytes 8 eff) n value

/-- NODE_PARAM_READ from step 9 (R155). -/
def State.doNodeRead (s : State) (j : Job) : State :=
  let p := j.req.payload
  let node := le p 0 2
  let slot := le p 2 2
  let n := le p 4 2
  let bank := le p 6 1
  let img := if bank = 0 then some s.graph.active else s.graph.shadow
  let words := if bank = 0 then s.graph.nodeActive else s.graph.nodeShadow
  match (match img with | some i => i.nodes[node]? | none => none) with
  | some r =>
    if 1 < bank ∨ !zeros p 7 1 ∨ n < 1 ∨ 252 < n ∨ r.pCount < slot + n then s.outOfRange j
    else s.reply j 0 0 (leBytes 2 n ++ (List.range n).flatMap (fun k => leBytes 4 (tabGet (fun _ => (0 : Word)) words (r.pFirst + slot + k)).toNat))
  | none => s.outOfRange j

/-- SPRINT_WRITE and SPRINT_READ from step 9 (R99). -/
def State.doSprintWrite (s : State) (j : Job) : State :=
  let p := j.req.payload
  let ofs := le p 2 2
  let n := (p.drop 4).length
  if 16 ≤ le p 0 1 ∨ !zeros p 1 1 ∨ ofs % 4 ≠ 0 ∨ n % 4 ≠ 0 ∨ cellBytes < ofs + n then s.outOfRange j
  else s.shadowWrite j []
def State.doSprintRead (s : State) (j : Job) : State :=
  let p := j.req.payload
  let ofs := le p 2 2
  let n := le p 4 2
  let img := if le p 1 1 = 0 then s.cfg.cellsActive else s.cfg.cellsShadow
  if 16 ≤ le p 0 1 ∨ 1 < le p 1 1 ∨ ofs % 4 ≠ 0 ∨ n % 4 ≠ 0 ∨ n < 4 ∨ 1020 < n ∨ cellBytes < ofs + n then s.outOfRange j
  else s.reply j 0 0 (leBytes 2 n ++ tabGetRun (fun _ => 0) img (cellBase (le p 0 1) + ofs) n)

/-- LINK_SLOT_WRITE and LINK_SLOT_READ from step 9 (R261). -/
def State.doSlotWrite (s : State) (j : Job) : State :=
  let p := j.req.payload
  let ofs := le p 0 2
  let n := (p.drop 4).length
  if !zeros p 2 2 ∨ ofs % 2 ≠ 0 ∨ n % 2 ≠ 0 ∨ 2048 < ofs + n then s.outOfRange j else s.shadowWrite j []
def State.doSlotRead (s : State) (j : Job) : State :=
  let p := j.req.payload
  let ofs := le p 0 2
  let n := le p 4 2
  let img := if le p 2 1 = 0 then s.cfg.linkActive else s.cfg.linkShadow
  if 1 < le p 2 1 ∨ !zeros p 3 1 ∨ ofs % 2 ≠ 0 ∨ n % 2 ≠ 0 ∨ n < 2 ∨ 1020 < n ∨ 2048 < ofs + n then s.outOfRange j
  else s.reply j 0 0 (leBytes 2 n ++ tabGetRun (fun _ => 0) img ofs n)

/-- Every BANKED change between a bank that was active and the one that is now acts, as its own chapter gives (R413). Without a
crossfade the final interpolators switch order at once (R103). -/
def State.bankActs (s : State) (old : Tab PVal) (oldCells oldLink : Tab Byte) : State :=
  let s1 := ((s.inputsSwapped old).phasesSwapped old).cellsSwapped old oldCells
  let s2 := s1.ordersSwapped old oldCells
  ((s2.linkSwapped oldLink).routesSwapped (pGet old)).outputsSwapped (pGet old)

/-- The banks are exchanged (R413, R417), and the refill of the new shadow bank from the new active one begins. `restart`: an ARM, at
which the graph starts anew. -/
def State.exchange (s : State) (restart : Bool) : State :=
  let first := restart || !s.graph.shadowSame
  ({ s with
    cfg := { s.cfg with
      active := s.cfg.shadow
      cellsActive := s.cfg.cellsShadow
      linkActive := s.cfg.linkShadow
      refilling := true
      armed := none
      swapTick := if restart then s.cfg.swapTick else BitVec.ofNat 32 s.tickNat
      swaps := satAdd 16 s.cfg.swaps 1 }
    graph := s.graph.swapped s.free s.clock.now restart
    rout := { s.rout with firstHeat := s.rout.firstHeat || first }
    dep := { s.dep with
      writtenActive := []
      writtenShadow := []
      bankFaults := s.dep.bankFaults.map (fun (f : BankFault) => { f with activeBank := !f.activeBank })
      injected := s.dep.injected.map (fun (x : Injected) => if x.mem = 3 then { x with runner := 1 - x.runner } else x) } }).bankActs s.cfg.active s.cfg.cellsActive s.cfg.linkActive

/-- REFILL_END (R413, R415): the new shadow bank holds what the new active bank does, and the queue is applied; what was accepted after a
swap that now pends waits for its refill. -/
def execRefillEnd (s : State) : Host.Outcome State Fault Refusal :=
  let s1 := { s with
    cfg := { s.cfg with refilling := false }
    graph := { s.graph with nodeShadow := if s.graph.shadowSame then s.graph.nodeActive else s.graph.nodeShadow } }
  .next (
    if !s.cfg.refilling then s
    else match s1.cfg.check, s1.cfg.armed with
    | some p, _ =>
      if s1.frozen then
        (let s2 := s1.applyQueue p.ahead
         { s2 with cfg := { s2.cfg with check := some { p with ahead := 0 } } })
      else s1.applyQueue s1.cfg.queue.length
    | none, some (p, t) =>
      (let s2 := s1.applyQueue p.ahead
       { s2 with cfg := { s2.cfg with armed := some ({ p with ahead := 0 }, t) } })
    | none, none => s1.applyQueue s1.cfg.queue.length)

end Sys2Proof.Machine
end

