-- ==== Sys2Proof/Machine/Checks.lean ====
section
/-! DEFINITION. The consistency check (R418-R421), and the requests it guards: BANK_SWAP, ARM and GRAPH_CHECK up to their acts
(R397, R413, R414, R417). -/
namespace Sys2Proof.Machine

/-- The parameters that step 1 of the check examines, in ascending ID (R419). -/
def storeParams : List Nat :=
  (paramIndex.filter (fun r => [0x00, 0x03, 0x04, 0x07, 0x13, 0x18, 0x19, 0x1A, 0x1B, 0x1C].contains (paramBlock r.first))).flatMap
    (fun r => (List.range r.count).map (· + r.first))

/-- The store part of the check (R419): the code, KIND and INDEX. -/
def checkStore (bank : Nat → Nat) (complete : Bool) : Option (Nat × Nat × Nat) :=
  if !complete then some (0xA0, 0, 0)
  else match storeParams.find? (fun id => !paramFieldsOk id (bank id)) with
  | some id => some (0xA2, 1, id)
  | none => none

/-- A code with figures in its refusal record (R399). -/
def hasFigures (code : Nat) : Bool := decide (0x40 ≤ code ∧ code ≤ 0x48)

/-- The graph figures as a record carries them (R138, R399). For an incomplete shadow graph, and for the longest chain of a graph
without nodes, the manual states none: free values. -/
def State.graphFigures (s : State) (v : GraphVerdict) : List Byte :=
  let loose := leBytes 32 (Config.freeInt s.free % 2 ^ 256).toNat
  match s.graph.shadow with
  | none => loose
  | some i => if i.nodes.isEmpty then v.figs.bytes.take 28 ++ loose.take 4 else v.figs.bytes

/-- What a check finds: the code (0: no refusal), KIND, INDEX, and the figures of the record. -/
structure Verdict where
  code : Nat := 0
  kind : Nat := 0
  index : Nat := 0
  figures : List Byte := []
  deriving DecidableEq, Repr

/-- The steps of the check before the graph (R418): `arm` adds what runs at ARM only, and `spk` judges the speakers against VSPK. -/
def State.checkSteps (s : State) (arm spk : Bool) : Option (Nat × Nat × Nat) :=
  let bank := s.param true
  [ checkStore bank s.graph.shadow.isSome,
    checkClocks bank (s.meas 8).value,
    checkRefs bank arm (decide (s.dpll.state = .tracking) && s.synth.lock),
    checkRoutes bank,
    checkOutputs bank s.cfg.cellsShadow spk (decide ((s.meas 10).value < 7500)),
    checkPorts bank,
    checkLink bank s.cfg.linkShadow,
    (checkSprint (fun n => bank (0x0700 + n)) s.cfg.cellsShadow).map (fun e => (e.1, 7, e.2)) ].findSome? id

/-- The whole check of R418. -/
def State.checkAll (s : State) (arm spk : Bool) : Verdict :=
  match s.checkSteps arm spk with
  | some (c, k, i) => { code := c, kind := k, index := i }
  | none =>
    let v := s.graph.checkShadow
    { code := v.code, kind := v.kind, index := v.index, figures := if hasFigures v.code then s.graphFigures v else [] }

/-- A swap to the shadow bank enables a speaker output (R220). -/
def State.enablesSpk (s : State) : Bool := [24, 25, 26, 27].any (fun o => (s.shd (0x0500 + o)).testBit 0 && !(s.act (0x0500 + o)).testBit 0)
def State.shadowSpk (s : State) : Bool := [24, 25, 26, 27].any (fun o => (s.shd (0x0500 + o)).testBit 0)

/-- The conversions that a check needs are asked for (R81, R220, R296). -/
def State.askChecks (s : State) (spk : Bool) : State :=
  let s1 := if s.measStale 8 && (List.range 4).any s.ckOn then s.askMeas 8 else s
  if spk && s1.measStale 10 then s1.askMeas 10 else s1

/-- A check may end (R37, R81, R413, R451): no refill runs, no bank word awaits restore, and no conversion is awaited. -/
def State.checkReady (s : State) : Bool :=
  s.ctl.running && !s.cfg.refilling && s.dep.bankFaults.isEmpty && !s.conv.asked.contains 8 && !s.conv.asked.contains 10

/-- A refusal of the whole check, an ARM or a swap sets ATTN_CAUSE bit 1 (R413, R417); the freeze ends, and the queued writes are
applied unless a refill still runs. -/
def State.endFreeze (s : State) : State :=
  let s1 := { s with cfg := { s.cfg with check := none } }
  if s1.cfg.refilling then s1 else s1.applyQueue s1.cfg.queue.length

/-- The refusal of a swap or an ARM. The bar on run-ahead ends with a swap, and what it held back is dispatched (R121, R149). -/
def State.refuseCheck (s : State) (j : Job) (v : Verdict) : State :=
  let s1 := ((s.draw.refuseConfig j v.code v.kind v.index v.figures).raise 1).endFreeze
  { s1 with graph := if s1.inRun then s1.graph.dispatch s1.eng none else s1.graph }

/-- BANK_SWAP from step 9 (R146, R149, R396, R403, R413, R414). The due tick of a swap without one is not yet known when it is accepted:
its ACCEPTED_PENDING carries a free value. -/
def State.doBankSwap (s : State) (j : Job) : State :=
  let named := tickField j.req.payload 0
  if !tickOk named then s.outOfRange j
  else if s.loses j .swap then s.losePhoto j
  else if s.cfg.check.isSome || s.cfg.armed.isSome then s.busy j 0
  else
    let s1 := (s.enterPhoto j .swap).askChecks s.enablesSpk
    let s2 := { s1 with cfg := { s1.cfg with
      check := some { kind := .swap, job := j, named := named, ahead := s1.cfg.queue.length } } }
    let k := s2.clock.now + max 1 (named - s2.tickNat)
    let s3 := { s2 with graph := (s2.graph.voidAhead k).causeStart s2.eng k none (fun _ => true) }
    s3.draw.reply j 1 0 (leBytes 8 (if named = 0 then (Config.freeInt s3.free % 2 ^ 48).toNat else named))

/-- BANK_SWAP_CHECK_DONE (R413, R414): a named tick that has come is too soon; on a pass the swap is armed. -/
def execBankSwapCheckDone (s : State) : Host.Outcome State Fault Refusal :=
  .next (match s.cfg.check with
    | some p =>
      if p.kind ≠ .swap ∨ !s.checkReady then s
      else if p.named ≠ 0 ∧ p.named ≤ s.tickNat then s.refuseCheck p.job { code := 0xA6 }
      else
        let v := s.checkAll false s.enablesSpk
        let t := if p.named = 0 then s.tickNat + 1 else p.named
        if v.code = 0 then { s with cfg := { s.cfg with check := none, armed := some (p, t) }, graph := s.graph.reserve }
        else s.refuseCheck p.job v
    | none => s)

/-- ARM from step 9 (R328, R340, R417): accepted in Idle with no change of mode and no power-fail warning. -/
def State.doArm (s : State) (j : Job) : State :=
  if !s.inIdle || s.power.entering.isSome || s.power.pfw then s.notInState j
  else if s.cfg.check.isSome || s.cfg.armed.isSome then s.busy j 0
  else
    let s1 := s.askChecks s.shadowSpk
    { s1 with cfg := { s1.cfg with check := some { kind := .arm, job := j, named := 0, ahead := s1.cfg.queue.length } } }.reply j 1 0 []

/-- A refusal of what R332 started is kept for the power status, and the device waits. -/
def State.noteBoot (s : State) (j : Job) (code : Nat) : State :=
  if j.req.port.val = 4 then { s with power := { s.power with refusedAtBoot := true, bootReason := code, autorun := false, autorunDue := 0 } } else s

/-- The check of an ARM has ended (R340, R417): on a pass the ARM tick is the next boundary; with a warning present ARM is refused, and
AUTORUN waits. -/
def State.armChecked (s : State) (p : Pending) : State :=
  let j := p.job
  let v := s.checkAll true s.shadowSpk
  if v.code ≠ 0 then (s.refuseCheck j v).noteBoot j v.code
  else if s.power.pfw then
    let s1 := (s.notInState j).endFreeze
    if j.req.port.val = 4 then { s1 with power := { s1.power with autorunDue := 2 } } else s1
  else if s.mramBlocked && decide (j.req.port.val = 4) then { s.endFreeze with power := { s.power with autorunDue := 2 } }
  else { s with cfg := { s.cfg with check := none, armed := some (p, s.tickNat + 1) }, graph := s.graph.reserve }

/-- The request that a recall with its ARM flag makes from the same port (R425). -/
def State.armAfter (s : State) (j : Job) : Job :=
  { req := { j.req with payload := [] }, opcode := 0x0201, now := s.clock.now, tick := s.tickNat, session := j.session }

/-- The check of a recall has ended (R425): a refusal leaves the recalled configuration in place. -/
def State.recallChecked (s : State) (p : Pending) (arm : Bool) : State :=
  let j := p.job
  let v := s.checkAll arm s.shadowSpk
  if v.code ≠ 0 then (s.refuseCheck j v).noteBoot j v.code
  else
    let s1 := (s.accept j [] 0 0).endFreeze
    if !arm then s1
    else if s1.mramBlocked && decide (j.req.port.val = 4) then { s1 with power := { s1.power with autorunDue := 2 } }
    else s1.doArm (s1.armAfter j)

/-- GRAPH_CHECK from step 9 (R128, R397). -/
def State.doGraphCheck (s : State) (j : Job) : State :=
  if s.cfg.graphCheck.isSome then s.busy j 0
  else { s with cfg := { s.cfg with graphCheck := some { kind := .graph, job := j, named := 0 } } }.reply j 1 0 []

/-- The graph part alone (R138, R399): its reply carries the figures whatever it finds, and a refusal is counted. -/
def State.graphChecked (s : State) (j : Job) : State :=
  let v := s.graph.checkShadow
  let s1 := { s with cfg := { s.cfg with graphCheck := none } }.draw
  if v.code = 0 then s1.reply j 0 0 (leBytes 2 0 ++ leBytes 4 0 ++ s.graphFigures v)
  else s1.refuseConfig j v.code v.kind v.index (s.graphFigures v)

/-- CONSISTENCY_CHECK_DONE (R397, R417, R425): the check of a GRAPH_CHECK, an ARM or a recall ends; the older of two first. -/
def execConsistencyCheckDone (s : State) : Host.Outcome State Fault Refusal :=
  let whole := fun (s : State) => match s.cfg.check with
    | some p =>
      if !s.checkReady then s
      else match p.kind with
        | .arm => s.armChecked p
        | .recall a => s.recallChecked p a
        | _ => s
    | none => s
  .next (match s.cfg.graphCheck with
    | some g =>
      if !s.ctl.running || !s.dep.bankFaults.isEmpty then s
      else match s.cfg.check with
        | some p => if p.kind ≠ .swap ∧ p.job.now < g.job.now ∧ s.checkReady then whole s else s.graphChecked g.job
        | none => s.graphChecked g.job
    | none => whole s)

end Sys2Proof.Machine
end

