-- ==== Sys2Proof/Machine/Store.lean ====
section
/-! DEFINITION. Saved configurations, recalls, AUTORUN and firmware (R332, R422-R429, R442, R443). -/
namespace Sys2Proof.Machine

/-- The configuration store in units of 8 bytes (R422), and a slot with what its directory word says. -/
def storeUnits : Nat := 25600
def Mram.slot (m : Mram) (n : Nat) : Slot := tabGet (fun _ => {}) m.slots n

/-- The trailer of a slot image (R423): CRC, and COMPLETE. -/
def imgCrc (b : List Byte) : Nat := leNat (b.drop (b.length - 8) |>.take 4)
def imgComplete (b : List Byte) : Nat := leNat (b.drop (b.length - 4))
def imgCrcOk (b : List Byte) : Bool := decide (8 ≤ b.length ∧ crc32c (b.take (b.length - 8)) = imgCrc b)
def imgDone (b : List Byte) : Bool := decide (imgComplete b = imgCrc b ^^^ 0x4B552428)

/-- The byte string of MAGIC, and the format of the header (R423). -/
def slotMagic : List Byte := [0x4B, 0x43, 0x46, 0x31]

/-- A slot is valid (R423). -/
def Slot.valid (x : Slot) : Bool :=
  decide (x.len ≠ 0 ∧ x.image.length = 8 * x.len) && decide (x.image.take 4 = slotMagic) && decide (le x.image 0x18 4 = 8 * x.len) &&
    imgCrcOk x.image && imgDone x.image

/-- What valid slots occupy: start and end in units. -/
def Mram.used (m : Mram) : List (Nat × Nat) :=
  ((List.range 8).map m.slot).filterMap (fun x => if x.valid then some (x.start, x.start + x.len) else none)

/-- The gaps of the store (R424): start and size in units, in ascending order of the slots they follow. -/
def Mram.gaps (m : Mram) : List (Nat × Nat) :=
  (0 :: m.used.map (·.2)).filterMap fun a =>
    if m.used.any (fun u => decide (u.1 ≤ a ∧ a < u.2)) then none
    else
      let e := (m.used.filter (fun u => decide (a ≤ u.1))).foldl (fun b u => min b u.1) storeUnits
      if a < e then some (a, e - a) else none

/-- The lowest gap that holds an image (R424), and the largest gap in bytes (R430). -/
def Mram.gapFor (m : Mram) (units : Nat) : Option Nat :=
  (m.gaps.filter (fun g => decide (units ≤ g.2))).foldl (fun b g => match b with | some x => some (min x g.1) | none => some g.1) none
def Mram.largestGap (m : Mram) : Nat := 8 * (m.gaps.map (·.2)).foldl max 0

/-- A section of a slot image (R423). -/
def slotSection (kind : Nat) (body : List Byte) : List Byte := if body.isEmpty then [] else leBytes 4 kind ++ leBytes 4 body.length ++ body

/-- The PARAMS records of a snapshot (R423): DG_INJECT reads 0 at every boundary (R444). -/
def State.paramRecords (s : State) : List Byte :=
  (paramIndex.flatMap (fun r => (List.range r.count).map (· + r.first))).flatMap fun id =>
    let v := s.param false id
    if mramParam id ∨ id = 0x0103 ∨ id = 0x1B01 ∨ v = paramDefault id then [] else leBytes 2 id ++ leBytes 1 (paramWidth id) ++ [0] ++ leBytes 8 v

/-- The NODE_PARAMS records (R423). -/
def State.nodeRecords (s : State) : List Byte :=
  (List.range s.graph.active.nodes.length).flatMap fun i =>
    let n := s.graph.active.nodeOf (2 * i)
    (List.range n.pCount).flatMap fun k =>
      let v := tabGet (fun _ => (0 : Word)) s.graph.nodeActive (n.pFirst + k)
      if v = s.graph.active.param (n.pFirst + k) then [] else leBytes 2 i ++ leBytes 2 k ++ leBytes 4 v.toNat

/-- A run of bytes that is not all zero. -/
def unlessZero (b : List Byte) : List Byte := if b.all (fun x => decide (x = 0)) then [] else b

/-- The sections of a snapshot of the active bank and the STATIC and LIVE parameters (R423, R424). -/
def State.slotSections (s : State) : List (List Byte) :=
  let cells := (List.range 16).flatMap fun n =>
    let b := unlessZero (tabGetRun (fun _ => 0) s.cfg.cellsActive (cellBase n) cellBytes)
    if b.isEmpty then [] else leBytes 4 n ++ b
  [ slotSection 1 s.paramRecords, slotSection 2 cells, slotSection 3 s.graph.active.bytes,
    slotSection 4 (unlessZero (tabGetRun (fun _ => 0) s.cfg.linkActive 0 2048)), slotSection 5 s.nodeRecords ].filter (fun x => !x.isEmpty)

/-- The image of a snapshot (R423). -/
def State.slotImage (s : State) (label : BitVec 32) : List Byte :=
  let body := s.slotSections.flatten
  let pad := (8 - body.length % 8) % 8
  let b := slotMagic ++ leBytes 2 1 ++ leBytes 2 s.slotSections.length ++ leBytes 4 label.toNat ++ leBytes 8 s.tickNat ++
    leBytes 4 (s.mram.bank s.mram.active1).version.toNat ++ leBytes 4 (40 + body.length + pad) ++ leBytes 4 0 ++ body ++ List.replicate pad 0
  let c := crc32c b
  b ++ leBytes 4 c ++ leBytes 4 (c ^^^ 0x4B552428)

/-- CONFIG_SAVE from step 9 (R339, R424). -/
def State.doConfigSave (s : State) (j : Job) : State :=
  let p := j.req.payload
  if 7 < le p 0 1 ∨ !zeros p 1 3 then s.outOfRange j
  else if s.mramBlocked then s.busy j 0x0E
  else if s.storeBusy then s.busy j 0
  else { s with cfg := { s.cfg with save := some { job := j, slot := le p 0 1, label := BitVec.ofNat 32 (le p 4 4) } } }.reply j 1 0 []

/-- The snapshot of a save at the first boundary after its acceptance (R424). -/
def State.saveSnapshot (s : State) : State :=
  match s.cfg.save with
  | some x =>
    if x.image.isSome then s
    else
      let img := s.slotImage x.label
      (match s.mram.gapFor (img.length / 8) with
       | some a => { s with cfg := { s.cfg with save := some { x with image := some (a, img) } } }
       | none => { s with cfg := { s.cfg with save := none } }.refuseConfig x.job 0xA7 15 x.slot [])
  | none => s

/-- CONFIG_SAVE_COMPLETE (R424): the directory word is written last. -/
def execConfigSaveComplete (s : State) : Host.Outcome State Fault Refusal :=
  .next (match s.cfg.save with
    | some x =>
      (match x.image with
       | some (a, img) =>
         if s.mramBlocked || !s.ctl.running then s
         else { s with
           cfg := { s.cfg with save := none }
           mram := { s.mram with
             slots := tabSet (fun _ => ({} : Slot)) s.mram.slots x.slot { start := a, len := img.length / 8, label := x.label, image := img } } }.accept x.job [] 0 0
       | none => s)
    | none => s)

/-- The body length of a section suits its kind (R423). -/
def sectionOk (kind len : Nat) : Bool :=
  match kind with
  | 1 => decide (len % 12 = 0)
  | 2 => decide (len % 2444 = 0)
  | 3 => decide (len % 4 = 0)
  | 4 => decide (len = 2048)
  | 5 => decide (len % 8 = 0)
  | _ => false

/-- The sections of an image after its header (R423, 0xA5): n of them, of rising kinds. -/
def readSections : Nat → Nat → List Byte → Option (List (Nat × List Byte))
  | 0, _, _ => some []
  | n + 1, last, b =>
    let k := le b 0 1
    let len := le b 4 4
    if b.length < 8 + len ∨ k ≤ last ∨ !sectionOk k len ∨ le b 1 3 ≠ 0 then none
    else (readSections n k (b.drop (8 + len))).map (fun l => (k, (b.drop 8).take len) :: l)

/-- The sections of a slot that its format allows. -/
def Slot.sections (x : Slot) : Option (List (Nat × List Byte)) :=
  let b := x.image
  if b.length < 40 ∨ b.take 4 ≠ slotMagic ∨ le b 4 2 ≠ 1 ∨ 5 < le b 6 2 ∨ le b 0x18 4 ≠ 8 * x.len ∨ b.length ≠ 8 * x.len then none
  else readSections (le b 6 2) 0 ((b.drop 0x20).take (b.length - 40))

/-- The body of a section; none: empty. -/
def sectionBody (l : List (Nat × List Byte)) (k : Nat) : List Byte := match l.find? (fun e => decide (e.1 = k)) with | some e => e.2 | none => []

/-- The PARAMS and NODE_PARAMS records: (ID, VALUE), and (node, slot, value). -/
def paramRecs (b : List Byte) : List (Nat × Nat) := (chunks 12 b.length b).map (fun r => (le r 0 2, le r 4 8))
def nodeRecs (b : List Byte) : List (Nat × Nat × Nat) := (chunks 8 b.length b).map (fun r => (le r 0 2, le r 2 2, le r 4 4))

/-- The records of a slot name what this firmware defines (R421, 0xA8). -/
def recordsOk (l : List (Nat × List Byte)) : Bool :=
  let nodes := (parseImage (sectionBody l 3)).nodes
  (paramRecs (sectionBody l 1)).all (fun r => paramDefined r.1 && !mramParam r.1) &&
  (nodeRecs (sectionBody l 5)).all (fun r =>
    !(sectionBody l 3).isEmpty && (match nodes[r.1]? with | some n => decide (r.2.1 < n.pCount) | none => false))

/-- A slot as a recall finds it (R421, R425): its sections, or the code. -/
def Slot.judge (x : Slot) : Nat × List (Nat × List Byte) :=
  if x.len = 0 then (0xA3, [])
  else match x.sections with
  | none => (0xA5, [])
  | some l => if x.spoiled || !imgCrcOk x.image then (0xA1, []) else if !imgDone x.image then (0xA4, []) else if !recordsOk l then (0xA8, []) else (0, l)

/-- The bits of a BUS parameter that a recalled record keeps (R382, R443), and the width of a value. -/
def keptValue (id v : Nat) : Nat :=
  if id = 0x1901 ∨ id = 0x1902 then v % 2 ^ 18 else if id = 0x1903 then v &&& 0xFF01 else v % 2 ^ (8 * paramWidth id)

/-- The STATIC and LIVE parameters that a recall writes, in ID order (R425, R442, R443): those with a record, and those whose value
differs from the default. -/
def State.recallDirect (s : State) (recs : List (Nat × Nat)) : State :=
  (paramIndex.flatMap (fun r => if r.cls = .static ∨ r.cls = .live then (List.range r.count).map (· + r.first) else [])).foldl (fun s id =>
    match if id = 0x0103 ∨ id = 0x1B01 then none else recs.find? (fun r => decide (r.1 = id)) with
    | some r => s.writeDirect id (keptValue id r.2)
    | none => if s.dir id = paramDefault id then s else s.writeDirect id (paramDefault id)) s

/-- The graph of a recalled slot in both banks (R129, R132, R425). -/
def Graph.recalled (g : Graph) (bytes : List Byte) (recs : List (Nat × Nat × Nat)) (now : Nat) : Graph :=
  let g1 := if bytes.isEmpty then { g with load := none, loadLen := 0, reserved := 0, nodeShadow := [] }
    else { g with load := some (putBytes [] 0 bytes), loadLen := bytes.length, reserved := hdrDataLen bytes, nodeShadow := [] }.takeParams
  let img := match g1.shadow with | some i => i | none => {}
  let words := recs.foldl (fun t r => match img.nodes[r.1]? with
    | some n => tabSet (fun _ => (0 : Word)) t (n.pFirst + r.2.1) (BitVec.ofNat 32 r.2.2)
    | none => t) g1.nodeShadow
  { g1 with nodeShadow := words }.start img words now

/-- A recalled configuration is loaded (R425 steps 2 and 3, R442, R443). -/
def State.recallLoad (s : State) (l : List (Nat × List Byte)) : State :=
  let recs := paramRecs (sectionBody l 1)
  let banked := recs.foldl (fun t r => if paramClass r.1 = .banked then pSet t r.1 (keptValue r.1 r.2) else t) ([] : Tab PVal)
  let cells := (chunks 2444 16 (sectionBody l 2)).foldl (fun t r => writeImage t (cellBase (le r 0 1)) (r.drop 4)) ([] : Tab Byte)
  let slots := writeImage [] 0 (sectionBody l 4)
  let s1 := s.recallDirect recs
  { s1 with
    cfg := { s1.cfg with active := banked, shadow := banked, cellsActive := cells, cellsShadow := cells, linkActive := slots, linkShadow := slots }
    graph := s1.graph.recalled (sectionBody l 3) (nodeRecs (sectionBody l 5)) s1.clock.now
    rout := { s1.rout with firstHeat := true }
    dep := { s1.dep with writtenActive := [], writtenShadow := [] } }.bankActs s.cfg.active s.cfg.cellsActive s.cfg.linkActive

/-- CONFIG_RECALL from step 9 (R332, R398, R399, R413, R421, R425): a slot that is refused changes nothing. -/
def State.doConfigRecall (s : State) (j : Job) : State :=
  let p := j.req.payload
  let slot := le p 0 1
  let arm := decide (le p 1 1 = 1)
  if !s.inIdle || s.power.entering.isSome then s.notInState j
  else if 7 < slot ∨ 1 < le p 1 1 ∨ !zeros p 2 2 then s.outOfRange j
  else if s.frozen || s.cfg.check.isSome || s.cfg.armed.isSome then s.busy j 0
  else
    let r := (s.mram.slot slot).judge
    if r.1 ≠ 0 then (((s.reply j 1 0 []).refuseConfig j r.1 15 slot []).raise 1).noteBoot j r.1
    else
      let s1 := (s.recallLoad r.2)
      let s2 := s1.askChecks s1.shadowSpk
      { s2 with cfg := { s2.cfg with check := some { kind := .recall arm, job := j, named := 0 } } }.reply j 1 0 []

/-- A request of the internal port (R332, R388). -/
def State.ownJob (s : State) (opcode : Nat) (payload : List Byte) : Job :=
  { req := { port := 4, tag := 0, rev := 3, payload := payload }, opcode := opcode, now := s.clock.now, tick := s.tickNat }

/-- AUTORUN (R332, R340): the recall of slot 0 with ARM, or ARM, over port 4; a warning that has not been clear for 100 ms makes it wait. -/
def execAutorun (s : State) : Host.Outcome State Fault Refusal :=
  let go := s.inIdle && !s.power.entering.isSome && !s.mramBlocked && !s.frozen && s.ctl.running && s.cfg.check.isNone
  let s1 := { s with power := { s.power with autorunDue := 0 } }
  .next (if !go then s
    else if s.power.autorunDue = 1 then s1.doConfigRecall (s1.ownJob 0x0602 [0, 1, 0, 0])
    else if s.power.autorunDue = 2 then s1.doArm (s1.ownJob 0x0201 [])
    else s)

/-- The largest firmware image (R426). -/
def fwMax : Nat := 393216

/-- The header of a stage is complete (R426, R427). -/
def stageHeader (t : Tab Byte) : Bool := written t 64

/-- FW_STAGE from step 9 (R339, R424, R427). -/
def State.doFwStage (s : State) (j : Job) : State :=
  let p := j.req.payload
  let ofs := le p 0 4
  let data := p.drop 4
  let end_ := ofs + data.length
  let begins := decide (ofs = 0)
  match if begins then some [] else s.cfg.stage with
  | none => s.notInState j
  | some old =>
    let t := putBytes old ofs data
    if !stageHeader t && decide (64 < end_) then s.notInState j
    else if fwMax < end_ ∨ (stageHeader t ∧ stageLen t < end_) then s.outOfRange j
    else if s.mramBlocked then s.busy j 0x0E
    else if s.storeBusy then s.busy j 0
    else
      let gone : FwBank := {}
      { s with
        cfg := { s.cfg with stage := some t }
        mram := if !begins then s.mram else if s.mram.active1 then { s.mram with bank0 := gone } else { s.mram with bank1 := gone } }.accept j
        (leBytes 4 t.length) data.length (crc32c data)

/-- FW_COMMIT from step 9 (R339, R424, R428): the reply comes when verification ends. -/
def State.doFwCommit (s : State) (j : Job) : State :=
  if s.mramBlocked then s.busy j 0x0E
  else if s.storeBusy then s.busy j 0
  else { s with cfg := { s.cfg with commit := some j } }

/-- A field of the staged header. -/
def stageField (t : Tab Byte) (ofs n : Nat) : Nat := leNat (tabGetRun (fun _ => 0) t ofs n)

/-- The verdict of R429 on the stage: 0, or the first failing code. -/
def State.stageVerdict (s : State) : Nat :=
  match s.cfg.stage with
  | none => 0xB0
  | some t =>
    let len := stageLen t
    let code := stageField t 0x10 4
    if !stageHeader t ∨ fwMax < len ∨ !written t len then 0xB0
    else if tabGetRun (fun _ => 0) t 0 4 ≠ [0x4B, 0x46, 0x57, 0x31] ∨ stageField t 4 2 ≠ 1 ∨ stageField t 8 4 = 0 ∨ stageField t 0x0D 3 ≠ 0 ∨
        stageField t 0x1C 36 ≠ 0 ∨ code < 16 ∨ 393088 < code ∨ code % 16 ≠ 0 ∨ len ≠ code + 128 then 0xB1
    else if !fwSigned t then 0xB2
    else if stageField t 0x18 4 < s.mram.rollbackMin.toNat then 0xB3
    else if stageField t 6 2 ≠ 0x2428 ∨ 0x10 < stageField t 0x0C 1 then 0xB4
    else 0

/-- A verified stage becomes the active bank (R428 steps 2 and 3). -/
def Mram.commit (m : Mram) (t : Tab Byte) : Mram :=
  let b : FwBank := { image := t, version := BitVec.ofNat 32 (stageField t 8 4) }
  { m with
    bank0 := if m.active1 then b else m.bank0
    bank1 := if m.active1 then m.bank1 else b
    active1 := !m.active1
    rollbackMin := if m.rollbackMin.toNat < stageField t 0x18 4 then BitVec.ofNat 32 (stageField t 0x18 4) else m.rollbackMin }

end Sys2Proof.Machine
end

