-- ==== Sys2Proof/Machine/Restart.lean ====
section
/-! DEFINITION. Control processor restarts, the watchdog, and the end of a firmware commit (R37, R38, R394, R405, R408, R416, R428,
R453). -/
namespace Sys2Proof.Machine

/-- A bus port as a restart leaves it (R381, R389): its fragment and waiting packets are discarded, placed replies stay. -/
def BusPort.restart (p : BusPort) : BusPort := { p with fragment := [], mailbox := [], held := [], rev := 1 }

/-- LAST_RESTART of R460, and the log counter of a cause (R456). -/
def RestartCause.code : RestartCause → Nat | .watchdog => 0 | .fault => 1 | .commit => 2

/-- A restart is counted, by its cause (R38, R456, R460). -/
def State.countRestart (s : State) : State :=
  { s with
    dep := { s.dep with restarts := satAdd 16 s.dep.restarts 1 }
    log := s.log.add (0x1C + 4 * s.dep.lastRestart) 1 }

/-- Packets reassembled and not executed are answered BUSY with detail 0x01 by the link transport (R390). -/
def State.dropInbox (s : State) : State :=
  let s1 := s.ctl.inbox.foldl (fun (s : State) x =>
    let b := x.2.2.2.bytes
    s.placeReply x.1 x.2.1 (packet (le b 1 1 / 16) true false (le b 2 2 % 0x8000 + 0x8000) (le b 4 1) s.devId (le b 10 2) [0x60, 1])) s
  { s1 with ctl := { s1.ctl with inbox := [] } }

/-- A bank swap, not an ARM, is armed (R38, R413). -/
def State.swapArmed (s : State) : Bool := match s.cfg.armed with | some (p, _) => decide (p.kind = .swap) | none => false

/-- The control processor restarts (R37, R38, R394, R416): checks, saves and stages are lost, sessions close without kind 2 records, and an
armed swap stands without its completion reply. -/
def State.controlRestart (s : State) (cause : RestartCause) : State :=
  let claims := s.ctl.sessions.any (fun x => decide (x.claims ≠ 0))
  let own := match s.cfg.check with | some p => decide (p.job.req.port.val = 4) | none => false
  let s1 := s.dropInbox
  { s1 with
    ctl := { s1.ctl with
      running := false, restartAt := s.clock.now, swapAtRestart := s.swapArmed, claimsAtRestart := claims, sessions := [], challenges := [],
      photo := [] }
    cfg := { s1.cfg with
      check := none, graphCheck := none, queue := [], save := none, stage := none, commit := none
      armed := s1.cfg.armed.map (fun (a : Pending × Nat) => ({ a.1 with ahead := 0, lost := true }, a.2)) }
    bus := { s1.bus with spi := s1.bus.spi.restart, twi := s1.bus.twi.restart }
    power := { s1.power with leaveJob := none, autorun := s1.power.autorun && !own }
    dep := { s1.dep with lastRestart := cause.code } }

/-- The control processor runs: the firmware in Idle and Run, the boot ROM in RECOVERY. -/
def State.firmware (s : State) : Bool := (s.awake || decide (s.power.mode = .recovery)) && !s.power.inReset

/-- CONTROL_RESTART (R38): a firmware fault. -/
def execControlRestart (s : State) : Host.Outcome State Fault Refusal :=
  .next (if s.firmware && s.ctl.running then s.controlRestart .fault else s)

/-- WATCHDOG_EXPIRY (R453): 100 ms after the last service, or a restart that has taken 100 ms. -/
def execWatchdogExpiry (s : State) : Host.Outcome State Fault Refusal :=
  .next (
    if !s.firmware then s
    else if s.ctl.running then (if s.log.served + 9600 ≤ s.clock.now then s.controlRestart .watchdog else s)
    else if s.ctl.restartAt + 9600 ≤ s.clock.now then
      let s1 := s.countRestart
      { s1 with ctl := { s1.ctl with restartAt := s.clock.now }, dep := { s1.dep with lastRestart := 0 } }
    else s)

/-- Records that the mirror does not hold (R408). -/
def State.unmirrored (s : State) : Bool :=
  match s.ctl.ledger, s.mram.mirror with
  | [], _ => false
  | _ :: _, [] => true
  | a :: _, b :: _ => decide (a.seq ≠ b.seq)

/-- RESTART_COMPLETE (R37, R38, R401, R405, R408, R458): command service resumes. -/
def execRestartComplete (s : State) : Host.Outcome State Fault Refusal :=
  let fell := s.ctl.swapAtRestart && s.cfg.armed.isNone
  let s1 := { s.countRestart with
    ctl := { s.ctl with
      running := true, ledger := s.mram.mirror, ledgerGap := s.ctl.ledgerGap || s.unmirrored, swapInRestart := fell, swapTaken := fell,
      swapAtRestart := false, claimsAtRestart := false }.record s.clock.tick 0 5 0 0 0 0 0 0
    log := { s.countRestart.log with served := s.clock.now } }
  let s2 := (s1.raise 13).raiseIf s.ctl.claimsAtRestart 17
  .next (
    if !s.firmware || s.ctl.running then s
    else if s2.log.due then s2.logCommitIf 3 else s2)

/-- A commit made in RECOVERY boots the new bank from the step that reads and verifies it (R331). -/
def State.recoveryBoot (s : State) : State :=
  { s with
    power := { s.power with mode := .boot, verified := false, bootFromRecovery := true }
    ctl := { s.mram.control with seq := s.ctl.seq, ledger := s.ctl.ledger, internal := s.ctl.internal, lockedUntil := s.ctl.lockedUntil }
    bus := { s.bus with spi := s.bus.spi.restart, twi := s.bus.twi.restart } }

/-- FW_COMMIT_VERIFY_DONE (R407, R428, R429): the reply is placed, and on a pass the device restarts into the new bank. -/
def execFwCommitVerifyDone (s : State) : Host.Outcome State Fault Refusal :=
  .next (match s.cfg.commit with
    | some j =>
      if !s.ctl.running || !s.firmware then s
      else
        let s0 := { s with cfg := { s.cfg with commit := none } }
        let v := s.stageVerdict
        let t := match s.cfg.stage with | some t => t | none => []
        if v ≠ 0 then s0.refuseConfig j v 0 0 []
        else
          let s1 := (s0.recordJob j 0 0).reply j 1 0 (leBytes 4 (stageField t 8 4))
          let s2 := { s1 with mram := s1.mram.commit t, cfg := { s1.cfg with stage := none } }
          if s.power.mode = .recovery then s2.recoveryBoot else s2.controlRestart .commit
    | none => s)

end Sys2Proof.Machine
end

