-- ==== Sys2Proof/Machine/Dependability.lean ====
section
/-! DEFINITION. Memory errors, their repair and their injection, bridge parity, the histograms, and JTAG (R14, R109, R228, R446-R452,
R454, R457, R462, R463). The manual does not say which word of a memory holds what: there the choice is a free value. -/
namespace Sys2Proof.Machine

/-- An uncorrectable error in memory m (R215, R448, R452, R460): attention, LAST_UE, and the counts. An injected one counts under INJECTED
alone. A bridge word has no WORD coding: LAST_UE_WORD is then a free value. -/
def State.noteUe (s : State) (m runner word : Nat) (injected : Bool) : State :=
  let w := if m ≤ 8 then word else (Config.freeInt s.free % 2 ^ 24).toNat
  { s with
    bus := s.bus.raise s.inbandMask 11
    dep := { s.dep with
      ueSticky := true
      lastUeMem := m
      lastUeRunner := if m = 1 then runner % 16 else 0
      lastUeWord := w % 2 ^ 24
      lastUeTick := BitVec.ofNat 32 s.tickNat
      uncorrectable := if injected then s.dep.uncorrectable else tabMod (fun _ => 0) s.dep.uncorrectable m (fun v => satAdd 16 v 1) }
    log := s.log.add ((if injected then 0x408 else 0x404) + 12 * m) 1
    out := if m ≤ 8 then s.out.fault s.gbyCfg 35 6 else s.out
    free := s.free + 1 }

/-- A corrected error in memory m (R447, R452, R460): no attention. -/
def State.noteCe (s : State) (m : Nat) (injected : Bool) : State :=
  { s with
    dep := { s.dep with
      ceSticky := true
      corrected := if injected then s.dep.corrected else tabMod (fun _ => 0) s.dep.corrected m (fun v => satAdd 16 v 1) }
    log := s.log.add ((if injected then 0x408 else 0x400) + 12 * m) 1 }

/-- A free choice below n, the k-th of this step. -/
def State.pick (s : State) (k n : Nat) : Nat := if n = 0 then 0 else (Config.freeInt (s.free + k) % (n : Int)).toNat

/-- A node is reset or faulted (R448, R449, R460). -/
def Dep.node (d : Dep) (i : Nat) : Dep := { d with lastNode := i, nodeResets := satAdd 16 d.nodeResets 1 }

/-- Shared sample memory (R448): a sample word of a node, a partition of a CONVOLVE, a graph data copy, or space of no node. -/
def State.sharedUe (s : State) : State :=
  let g := s.graph
  let i := s.pick 0 g.active.nodes.length
  let n := g.active.nodeOf (2 * i)
  let words := ceilDiv n.fig.s 8
  match g.active.nodes[i]? with
  | none => s
  | some _ =>
    match s.pick 1 4 with
    | 0 => if words = 0 then s else
        { s with graph := { g with shared := tabPut g.shared ((g.rt i).base + s.pick 2 words) { StreamWord.zero with substituted := true } } }
    | 1 => if n.op = 37 then
        { s with graph := g.modRt i (fun r => { r with spectra := (s.pick 2 (convK n.size), s.clock.now + convP n.size) :: r.spectra }) } else s
    | 2 => if n.fig.data = 0 then s else { s with graph := g.modRt i (fun r => { r with faulted := true }), dep := { s.dep with lastNode := i } }
    | _ => s

/-- Runner local memory (R448, R449): LOCAL bytes of a node that the runner holds, or space of no node. -/
def State.localUe (s : State) (runner : Nat) : State :=
  let l := (List.range s.graph.active.nodes.length).filter (fun i => decide ((s.graph.rt i).home = runner))
  match l[s.pick 0 (l.length + 1)]? with
  | some i => { s with graph := s.graph.modRt i (fun r => { r with localError := true }), dep := s.dep.node i }
  | none => s

/-- The graph tables are restored from the shadow graph (R450): a load in progress of another image is abandoned, the shadow graph is
refilled from the active one, and the node's firings of this tick are lost. -/
def State.tableUe (s : State) (i : Nat) : State :=
  let g := s.graph
  let h := s.clock.now
  let g1 := if g.shadowSame then g else
    { g.abandon with
      load := if g.active.bytes.isEmpty then none else some (putBytes [] 0 g.active.bytes)
      loadLen := g.active.bytes.length
      nodeShadow := g.nodeActive }
  let drop := fun (f : Option Firing) => match f with | some x => if x.node = i ∧ x.made = h then none else some x | none => none
  { s with graph := { g1.modRt i (fun r => { r with lost := some h }) with runners := g1.runners.map (fun e => (e.1, drop e.2)) } }

/-- The matching store (R146, R448, R450): an operand slot that holds a committed or a provisional baton, or a table word. -/
def State.storeUe (s : State) : State :=
  let g := s.graph
  let h := s.clock.now
  let l := g.queues.flatMap (fun e => (List.range e.2.length).map (fun k => (e.1, k)))
  match l[s.pick 0 (l.length + 1)]? with
  | none => if g.active.nodes.isEmpty then s else s.tableUe (s.pick 1 g.active.nodes.length)
  | some (e, k) =>
    match (g.queue e)[k]? with
    | none => s
    | some b =>
      let src := match g.active.edges[e]? with | some r => r.src | none => 0
      if h < b.made then
        { s with graph := (g.falseStart s.eng b.made (fun n => (g.active.cone src).contains n)).dispatch s.eng none }
      else
        { s with graph := { g with queues := tabMod (fun _ => []) g.queues e (fun q => q.set k { b with word := { StreamWord.zero with substituted := true } }) } }

/-- The BANKED rows of the index that are no route entries: KIND 1 of R399. -/
def bankedRows : List ParamRow := paramIndex.filter (fun r => decide (r.cls = .banked ∧ paramBlock r.first ≠ 0x08))

/-- The object that a word of bank memory belongs to, as KIND and INDEX of R399: a parameter, a route entry, a graph node's parameters, a
sprint cell, or a link entry. -/
def State.bankObject (s : State) : Nat × Nat :=
  match s.pick 0 6 with
  | 0 => (1, match bankedRows[s.pick 1 bankedRows.length]? with | some r => r.first + s.pick 2 r.count | none => 0)
  | 1 => (2, s.pick 1 2048)
  | 2 => (5, s.pick 1 s.graph.active.nodes.length)
  | 3 => (7, s.pick 1 16)
  | 4 => (12, s.pick 1 512)
  | _ => (13, s.pick 1 512)

/-- What the functions do until a word of the active bank is restored (R109, R451). -/
def State.bankFails (s : State) (o : Nat × Nat) : State :=
  if o.1 = 7 ∧ spEnabled (s.act (0x0700 + o.2)) then s.modCell o.2 Cell.fail
  else if o.1 = 2 then
    { s with rout := { s.rout with contribs := s.rout.contribs.map (fun c => if c.entry = o.2 ∧ c.rising then c.turn false s.clock.now 96 0 else c) } }
  else s

/-- A bank word fails (R451): the object awaits its restore. -/
def State.bankUe (s : State) (active : Bool) : State :=
  let o := s.bankObject
  let f : BankFault := { activeBank := active, kind := o.1, index := o.2 }
  let s1 := { s with dep := { s.dep with bankFaults := if s.dep.bankFaults.contains f then s.dep.bankFaults else s.dep.bankFaults ++ [f],
                                         lastKind := o.1, lastIndex := o.2 } }
  if active then s1.bankFails o else s1

/-- What a restored object of the active bank brings back (R109, R451). -/
def State.bankMends (s : State) (kind index : Nat) : State :=
  if kind = 7 ∧ (s.cell index).fault then s.modCell index (fun c => c.recover s.clock.now (s.act (0x0700 + index)))
  else if kind = 2 then
    { s with rout := { s.rout with contribs := s.entrySwapped s.clock.now index 0 (s.act (0x0800 + index)) s.rout.contribs } }
  else s

/-- What a swap does about words that await restore (R109, R451), once the records name the banks anew: an object that fails in the bank that
has become active is without its function, and one whose failing copy has become the shadow's runs from the sound one. -/
def State.faultsSwapped (s : State) : State :=
  s.dep.bankFaults.foldl (fun (s : State) f => if f.activeBank then s.bankFails (f.kind, f.index) else s.bankMends f.kind f.index) s

/-- Copy one object from a bank to the other (R451). -/
def copyRun (src dst : Tab Byte) (ofs n : Nat) : Tab Byte := tabSetRun (fun _ => 0) dst ofs (tabGetRun (fun _ => 0) src ofs n)
def State.copyObject (s : State) (toActive : Bool) (kind index : Nat) : State :=
  let c := s.cfg
  let par := fun (id : Nat) => if paramClass id = .banked then
      { s with cfg := if toActive then { c with active := pSet c.active id (pGet c.shadow id) } else { c with shadow := pSet c.shadow id (pGet c.active id) } }
    else s
  let link := fun (ofs : Nat) =>
    { s with cfg := if toActive then { c with linkActive := copyRun c.linkShadow c.linkActive ofs 2 } else { c with linkShadow := copyRun c.linkActive c.linkShadow ofs 2 } }
  match kind with
  | 1 => par index
  | 2 => par (0x0800 + index)
  | 5 =>
    let n := s.graph.active.nodeOf (2 * index)
    if !s.graph.shadowSame then s
    else if toActive then
      { s with graph := (List.range n.pCount).foldl (fun (g : Graph) k =>
          g.putSlot s.free index k s.clock.now (tabGet (fun _ => (0 : Word)) g.nodeShadow (n.pFirst + k))) s.graph }
    else
      { s with graph := { s.graph with nodeShadow := (List.range n.pCount).foldl (fun t k =>
          tabSet (fun _ => (0 : Word)) t (n.pFirst + k) (tabGet (fun _ => (0 : Word)) s.graph.nodeActive (n.pFirst + k))) s.graph.nodeShadow } }
  | 7 =>
    { s with cfg := if toActive then { c with cellsActive := copyRun c.cellsShadow c.cellsActive (cellBase index) cellBytes }
                    else { c with cellsShadow := copyRun c.cellsActive c.cellsShadow (cellBase index) cellBytes } }
  | 12 => link (2 * index)
  | 13 => link (0x400 + 2 * index)
  | _ => s

/-- BANK_WORD_RESTORE (R451): the word of a failing bank is restored from the other one. -/
def execBankWordRestore (active : Bool) (kind index : Nat) (s : State) : Host.Outcome State Fault Refusal :=
  let f : BankFault := { activeBank := active, kind := kind, index := index }
  let wrote := s.dep.writtenShadow.contains (kind, index)
  let s1 := s.copyObject active kind index
  let s2 := { s1 with dep := { s1.dep with
    bankFaults := s1.dep.bankFaults.filter (fun x => decide (x ≠ f))
    earlySticky := s1.dep.earlySticky || (active && wrote)
    shadowLost := s1.dep.shadowLost || (!active && wrote)
    writtenShadow := if wrote then s1.dep.writtenShadow.filter (fun o => decide (o ≠ (kind, index))) else s1.dep.writtenShadow } }
  .next (
    if !s.dep.bankFaults.contains f then s
    else if active then ((s2.bankActs s.cfg.active s.cfg.cellsActive s.cfg.linkActive).bankMends kind index) else s2)

/-- Control memory (R38, R408, R448): the control processor restarts; a ledger or a trace record may be lost with it. -/
def State.controlUe (s : State) : State :=
  let s1 := match s.pick 0 3 with
    | 0 => { s with ctl := { s.ctl with ledgerGap := true, ledger := s.ctl.ledger.eraseIdx (s.pick 1 s.ctl.ledger.length) } }
    | 1 => { s with graph := { s.graph with trace := s.graph.trace.eraseIdx (s.pick 1 s.graph.trace.length) } }
    | _ => s
  if s1.firmware && s1.ctl.running then s1.controlRestart .fault else s1

/-- The history ring (R348, R448): the samples in a 64-bit word read 0. Sample i lies at 24·(i mod 32,768) bits. -/
def State.historyUe (s : State) (word : Nat) : State :=
  let w := s.wake
  { s with wake := { w with ring := (List.range w.ring.length).map (fun k =>
      let p := (w.widx - 1 - BitVec.ofNat 32 k).toNat % 32768
      if 24 * p < 64 * (word + 1) ∧ 64 * word < 24 * p + 24 then 0 else w.ring.getD k 0) } }

/-- A template word (R351, R448): the slot stops being ready, and leaves an episode. -/
def State.templateUe (s : State) : State :=
  let k := s.pick 0 4
  { s with wake := { s.wake with
    templates := tabMod (fun _ => ({} : Template)) s.wake.templates k (fun t => { t with ready := false })
    episode := s.wake.episode.map (fun (x : Episode) => { x with slots := x.slots.filter (fun j => decide (j ≠ k)) }) } }

/-- A word of the MRAM by its place in the map of R422 (R448): the second copies of the log and of the device record stand in. -/
def State.mramUe (s : State) (word : Nat) : State :=
  let a := 8 * word
  let m := s.mram
  let lose := fun (l : List LedgerRec) => l.filter (fun r => decide (r.seq.toNat % 1024 ≠ (a - 0xF2000) / 32))
  if a < 0x60000 then { s with mram := { m with bank0 := { m.bank0 with spoiled := true } } }
  else if a < 0xC0000 then { s with mram := { m with bank1 := { m.bank1 with spoiled := true } } }
  else if a < 0xF2000 then
    { s with mram := { m with slots := m.slots.map (fun e => (e.1, { e.2 with
        spoiled := e.2.spoiled || decide (e.2.start ≤ (a - 0xC0000) / 8 ∧ (a - 0xC0000) / 8 < e.2.start + e.2.len) })) } }
  else if a < 0xFA000 then { s with mram := { m with mirror := lose m.mirror }, ctl := { s.ctl with ledgerGap := true } }
  else s

/-- What an uncorrectable error in memory m does by the content of the word (R448). -/
def State.contentUe (s : State) (m runner word : Nat) : State :=
  match m with
  | 0 => s.sharedUe
  | 1 => s.localUe runner
  | 2 => s.storeUe
  | 3 => s.bankUe (decide (runner = 0))
  | 4 => s.controlUe
  | 5 => s.historyUe word
  | 7 => s.templateUe
  | 8 => s.mramUe word
  | _ => s
def State.ueFound (s : State) (m runner word : Nat) (injected : Bool) : State :=
  let s1 := (s.noteUe m runner word injected).contentUe m runner word
  { s1 with free := s1.free + 3 }

/-- Scrubbing of memory m runs (R447). -/
def State.scrubs (s : State) (m : Nat) : Bool :=
  decide (m ≤ 8 ∧ m ≠ 6) && !s.power.inReset &&
  (match s.power.mode with | .rest => false | .watch => decide (m = 5 ∨ m = 7) | _ => true)

/-- The bits of DG_INJECT act at a boundary (R446). -/
def State.injectAct (s : State) : State :=
  let v := s.dep.injectNext
  let m := field v 0 4
  let x : Injected := { mem := m - 1, runner := if m = 2 then field v 8 4 else 0, word := field v 16 32, bits := field v 4 2 }
  if v = 0 then s
  else
    { s with
      dep := { s.dep with injectNext := 0, injected := if m = 0 then s.dep.injected else s.dep.injected ++ [x] }
      cfg := { s.cfg with direct := pSet s.cfg.direct 0x1B01 0 } }

/-- A sample of a port ring fails its parity as the port next uses it (R228, R448): the sample before it in the ring repeats, marked
SUBSTITUTED. Sample 64·(64·p + 32·d + slot) + position. -/
def State.ringUe (s : State) (word : Nat) (injected : Bool) : State :=
  let ring := word / 64
  let p := ring / 64
  let k := ring % 32
  let s1 := s.noteUe 6 0 word injected
  if ring / 32 % 2 = 0 then { s1 with ports := s1.ports.mod p (fun q => { q with badSlots := k :: q.badSlots }) }
  else
    { s1 with ports := s1.ports.mod p (fun q => { q with ringOut := match q.ringOut with
      | a :: b :: l => { a with samples := a.samples.set k { b.samples.getD k StreamWord.zero with substituted := true } } :: b :: l
      | [a] => [{ a with samples := a.samples.set k { StreamWord.zero with substituted := true } }]
      | [] => [] }) }

/-- The audio path reads the rings of the port that a sample belongs to: it runs. -/
def State.ringRead (s : State) (word : Nat) : Bool := s.inRun && decide (word < 24576) && decide ((s.port (word / 4096)).state = 2)
def State.ringsFound (s : State) : State :=
  let due := fun (x : Injected) => decide (x.mem = 6) && s.ringRead x.word
  (s.dep.injected.filter due).foldl (fun (s : State) x => s.ringUe x.word true) { s with dep := { s.dep with injected := s.dep.injected.filter (fun x => !due x) } }

/-- SCRUB_VISIT (R446-R448, R452): the word is read and made good. `found` is how many of its bits a natural upset has inverted, `late` that
this visit ends a pass that overran its interval. Of bank memory, runner 0 is the active and 1 the shadow bank. A read of the word by
the audio path finds an error in the same way; the port rings are not scrubbed (R447), and there it is that read. -/
def execScrubVisit (mem runner word : Nat) (found : Fin 4) (late : Bool) (s : State) : Host.Outcome State Fault Refusal :=
  let here := fun (x : Injected) => decide (x.mem = mem ∧ x.word = word) && (decide (mem ≠ 1 ∧ mem ≠ 3) || decide (x.runner = runner))
  let s0 := { s with dep := { s.dep with scrubLate := s.dep.scrubLate || late, injected := s.dep.injected.filter (fun x => !here x) } }
  .next (
    if mem = 6 then (if s.ringRead word && decide (found.val ≠ 0) then s.ringUe word false else s)
    else if !s.scrubs mem then s
    else match s.dep.injected.find? here with
    | some x => if 3 ≤ x.bits then s0.ueFound mem runner word true else s0.noteCe mem true
    | none =>
      if found.val = 0 then s0
      else if found.val = 3 then s0.ueFound mem runner word false
      else s0.noteCe mem false)

/-- CONVERTER_BRIDGE_PARITY_ERROR (R14, R448): the channel's next word of that lane repeats the one before; a core-lane sample that holds it is
marked SUBSTITUTED. Inputs 0-23, then the outputs. -/
def execConverterBridgeParityError (ch : Fin 52) (core : Bool) (s : State) : Host.Outcome State Fault Refusal :=
  let s1 := s.noteUe 9 0 0 false
  .next (if s.clock.rootRunning then
    { s1 with conv := { s1.conv with
      failing := (ch.val, core) :: s1.conv.failing
      substituted := if core && !s1.conv.substituted.contains ch.val then ch.val :: s1.conv.substituted else s1.conv.substituted } }
  else s)

/-- The edge words of a stage's period are held at those of the period before (R14); those of a joined pair are the lower stage's (R208). -/
def State.holdEdges (s : State) (n : Nat) : State :=
  { s with conv := { s.conv with dac := (if s.lowerOf n = n then s.stages n else [n]).foldl (fun t k =>
    tabMod (fun _ => ({} : DacCh)) t (24 + k) (fun d => { d with edges := d.edgesPrev })) s.conv.dac } }

/-- POWER_BRIDGE_PARITY_ERROR (R14, R210, R448): the stage holds its PWM edges for the period; two failures in a row trip it. -/
def execPowerBridgeParityError (spk : Fin 4) (s : State) : Host.Outcome State Fault Refusal :=
  let last := tabGet (fun _ => 0) s.out.bridgeFails spk.val
  let period := s.pwmPeriod spk.val
  let s1 := (s.noteUe 10 0 0 false).holdEdges spk.val
  let s2 := { s1 with out := { s1.out with bridgeFails := tabSet (fun _ => 0) s1.out.bridgeFails spk.val (1 + period) } }
  .next (if !s.clock.rootRunning then s else if last ≠ 0 ∧ last = period then s2.tripSpk [spk.val] 1 else s2)

/-- The bins of R457: a die temperature in 0.01 °C, a supply in 0.1 mV against its nominal, and VSPK in mV. -/
def tempBin (v : Int) : Nat := if v < -2000 then 0 else if 12000 ≤ v then 15 else ((v + 2000) / 1000).toNat + 1
def supplyBin (v nom : Int) : Nat :=
  if 100 * v < 90 * nom then 0 else if 120 * nom ≤ 100 * v then 15 else if 116 * nom ≤ 100 * v then 14 else ((100 * v - 90 * nom) / (2 * nom)).toNat + 1
def vspkBin (v : Int) : Nat := if v < 7000 then 0 else if 21000 ≤ v then 15 else ((v - 7000) / 1000).toNat + 1

/-- The nominal of supply s in 0.1 mV (R319, R454): AVDD5, AVDD18, DVDD08, LVDD09, IOVDD, HPVDD. -/
def State.nominal (s : State) (i : Nat) : Int :=
  if i = 4 then 10 * (s.log.ioNominal : Int) else [50000, 18000, 8000, 9000, 0, 50000].getD i 0
def State.supplyBinOf (s : State) (i : Nat) : Nat :=
  let v := (s.meas (4 + i)).value
  if i = 6 then vspkBin v else supplyBin v (s.nominal i)

/-- HISTOGRAM_SAMPLE (R454, R457): once per second, while MEAS_ENABLE is 1 and the device does not sleep; a channel not yet converted counts
in no bin. -/
def execHistogramSample (s : State) : Host.Outcome State Fault Refusal :=
  let l0 := (List.range 3).foldl (fun (l : MarathonLog) d =>
    if (s.meas (11 + d)).valid then l.add (0x100 + 64 * d + 4 * tempBin (s.meas (11 + d)).value) 1 else l) s.log
  let l1 := (List.range 7).foldl (fun (l : MarathonLog) i =>
    if (s.meas (4 + i)).valid then l.add (0x200 + 64 * i + 4 * s.supplyBinOf i) 1 else l) l0
  .next (
    if s.asleep || s.power.inReset || !(s.dir 0x0480).testBit 8 || decide (s.clock.now < s.log.histAt + 96000) then s
    else { s with log := { l1 with histAt := s.clock.now } })

/-- The instruction of a JTAG code (R462). -/
def jtagOf (code : Nat) : Jtag :=
  if code = 0 then .extest else if code = 1 then .sample else if code = 2 then .idcode else if code = 3 then .clamp
  else if code = 4 then .highz else .bypass

/-- A JTAG instruction comes into force (R463): one that drives mutes every output at once and lets the guard pins read bypass; leaving one
resets the device as RESET_N does. -/
def State.jtagSet (s : State) (i : Jtag) : State :=
  let s1 := { s with jtag := i }
  if s.jtag.drives ∧ i ≠ s.jtag then ({ s1.deviceReset 2 0 true with jtag := i }).tryBoot
  else if i.drives then
    { s1 with out := { s1.out with
      ch := (List.range 28).foldl (fun t o => tabMod (fun _ => ({} : OutCh)) t o (fun c => { c with mute := { gain := 0 } })) s1.out.ch
      gby := (List.range 4).foldl (fun t g => tabMod (fun _ => ({} : GbyPin)) t g (fun p => { p with high := false, preEnd := none, settleEnd := none })) s1.out.gby } }
  else s1

/-- JTAG_INSTRUCTION (R462, R463): the 4-bit code of a new instruction. -/
def execJtagInstruction (code : Nat) (s : State) : Host.Outcome State Fault Refusal := .next (s.jtagSet (jtagOf (code % 16)))

/-- TAP_RESET (R462, R463). -/
def execTapReset (s : State) : Host.Outcome State Fault Refusal := .next (s.jtagSet .idcode)

end Sys2Proof.Machine
end

