-- ==== Sys2Proof/Machine/Status.lean ====
section
/-! DEFINITION. Status: STATUS_READ, STICKY_CLEAR and ATTN_ACK, and the groups that no other file holds: BUS, CONTROL, DEPENDABILITY and
CONFIG (R378, R383, R400, R401, R430, R460, R461). -/
namespace Sys2Proof.Machine

/-- A word as status replies carry it. -/
def packBits (l : List (Nat × Nat)) : Nat := l.foldl (fun a e => a + e.1 * 2 ^ e.2) 0

/-- The three bus words (R383). -/
def State.busWords (s : State) : List Nat :=
  [s.bus.busErrors + 65536 * s.bus.timeouts, s.bus.rstarts + 65536 * s.bus.discarded,
   s.bus.pulses + 65536 * (s.bus.code % 1024) + 2 ^ 26 * b2n s.bus.addr7]

/-- STICKY_CLEAR of the bus group, with the sticky bits of R373 on both buses (R383, R400). -/
def State.clearBus (s : State) : State :=
  { s with bus := { s.bus with
    busErrors := 0, timeouts := 0, rstarts := 0, discarded := 0, pulses := 0
    spi := { s.bus.spi with flags := 0 }
    twi := { s.bus.twi with flags := 0 } } }

/-- The claims that any session holds (R401). -/
def Control.claimed (c : Control) : BitVec 64 := c.sessions.foldl (fun a x => a ||| x.claims) 0

/-- STATE, and SESSION, of a port in the control group (R401). -/
def State.portStateOf (s : State) (p : Nat) : Nat :=
  if p < 2 then s.ctl.stateOf { port := p }
  else if p = 4 then 0
  else if s.ctl.sessions.any (fun x => decide (x.binding.port = p)) then 2
  else if s.ctl.challenges.any (fun x => decide (x.binding.port = p)) then 1 else 0
def State.portSession (s : State) (p : Nat) : Nat :=
  if p < 2 then (match s.ctl.sessionOf { port := p } with | some x => x.number.toNat | none => 0)
  else (s.ctl.sessions.filter (fun x => decide (x.binding.port = p))).length

/-- The 11 control words (R401). -/
def State.controlWords (s : State) : List Nat :=
  let c := s.ctl
  let port := fun p =>
    let rev := if p = 0 then s.bus.spi.rev else if p = 1 then s.bus.twi.rev else 0
    packBits [(s.portStateOf p, 0), (b2n (decide (p < 4) && s.lockedOut p), 2), (if p < 4 then min 31 (tabGet (fun _ => 0) s.ctl.fails p) else 0, 3),
      (rev, 8), (s.portSession p, 16)]
  [packBits [(b2n s.mram.unprovisioned, 0), (b2n c.swapInRestart, 1), (b2n c.swapTaken, 2), (b2n c.ledgerGap, 3)], c.seq.toNat, s.mram.keyGen.toNat,
   c.authFails + 65536 * c.photoLosses] ++ (List.range 5).map port ++ [c.claimed.toNat % 2 ^ 32, c.claimed.toNat / 2 ^ 32]

/-- STICKY_CLEAR of the control group (R401). -/
def State.clearControl (s : State) : State := { s with ctl := { s.ctl with ledgerGap := false, authFails := 0, photoLosses := 0 } }

/-- The 19 dependability words (R460). -/
def State.depWords (s : State) : List Nat :=
  let d := s.dep
  [packBits [(b2n d.engineWarn, 0), (b2n d.convWarn, 1), (b2n d.thermSticky, 2), (b2n d.ueSticky, 3), (b2n d.ceSticky, 4),
     (b2n (!d.bankFaults.isEmpty), 5), (b2n d.earlySticky, 6), (b2n d.shadowLost, 7), (b2n s.graph.anyFaulted, 8), (b2n (!d.injected.isEmpty), 9),
     (b2n d.scrubLate, 10)],
   packBits [(d.lastUeMem, 0), (d.lastUeRunner, 4), (d.lastUeWord, 8)], d.lastUeTick.toNat, packBits [(d.lastNode, 0), (d.nodeResets, 16)],
   packBits [(d.lastKind, 0), (d.lastIndex, 8)]] ++
  (List.range 11).map (fun m => tabGet (fun _ => 0) d.corrected m + 65536 * tabGet (fun _ => 0) d.uncorrectable m) ++
  [packBits [(d.restarts, 0), (d.lastRestart, 16)], s.logImage.seq, packBits [(b2n s.log.image1, 0), (b2n s.mram.logRestarted, 1)]]

/-- STICKY_CLEAR of the dependability group (R460). -/
def State.clearDep (s : State) : State :=
  { s with dep := { s.dep with
    thermSticky := false, ueSticky := false, ceSticky := false, earlySticky := false, shadowLost := false, scrubLate := false, nodeResets := 0,
    corrected := [], uncorrectable := [], restarts := 0 } }

/-- SWAP_STATE (R430). -/
def State.swapState (s : State) : Nat :=
  if s.swapPending then (if s.cfg.check.isSome then 1 else 2) else if s.cfg.refilling then 3 else 0

/-- SWAP_TICK (R430): [31:0] of T of the pending swap once T is known, else of the latest swap; an ARM is no swap here, since SWAPS names
the two apart. -/
def State.swapTickWord (s : State) : Nat :=
  match s.cfg.armed, s.cfg.check with
  | some ({ kind := .swap, .. }, t), _ => t % 2 ^ 32
  | _, some { kind := .swap, named := n, .. } => if n = 0 then s.cfg.swapTick.toNat else n % 2 ^ 32
  | _, _ => s.cfg.swapTick.toNat

/-- The 27 config words (R430). -/
def State.cfgWords (s : State) : List Nat :=
  let c := s.cfg
  let staged := match c.stage with | some t => t.length | none => 0
  [packBits [(s.swapState, 0), (b2n c.save.isSome, 2), (b2n c.stage.isSome, 3), (b2n c.refusedSticky, 4), (c.queue.length, 8), (c.lastReason, 16)],
   s.swapTickWord, c.swaps + 65536 * c.refusals, c.lastKind, c.lastIndex, s.mram.largestGap, staged, s.mram.rollbackMin.toNat,
   (s.mram.bank s.mram.active1).version.toNat, (s.mram.bank (!s.mram.active1)).version.toNat,
   packBits ((List.range 8).map (fun n => (b2n (s.mram.slot n).valid, n)))] ++
  (List.range 8).flatMap (fun n => [(s.mram.slot n).label.toNat, (s.mram.slot n).len])

/-- STICKY_CLEAR of the config group (R430). -/
def State.clearCfg (s : State) : State := { s with cfg := { s.cfg with refusedSticky := false, swaps := 0, refusals := 0 } }

/-- The words of a STATUS_READ group (R400); none: no such group. -/
def State.statusGroup (s : State) : Nat → Option (List Nat)
  | 1 => some ((List.range 24).map s.inputWord)
  | 2 => some ((List.range 24).flatMap s.detectorWords)
  | 3 => some ((List.range 14).map s.measStatus)
  | 4 => some ((List.range 16).map s.sprintWordOf)
  | 5 => some (s.graph.status (field (s.dir 0x1C00) 0 4))
  | 6 => some ((List.range 256).flatMap s.meterWords)
  | 7 => some s.outputWords
  | 8 => some s.portStatus
  | 9 => some s.linkWords
  | 10 => some s.clockWords
  | 11 => some s.refWords
  | 12 => some s.powerWords
  | 13 => some s.wakeWords
  | 14 => some s.busWords
  | 15 => some s.controlWords
  | 16 => some s.depWords
  | 17 => some s.cfgWords
  | _ => none

/-- The status groups as a boundary latches them (R400). -/
def State.latchStatus (s : State) : State :=
  { s with bus := { s.bus with status := (List.range 17).filterMap (fun g => s.statusGroup (g + 1)), statusTick := s.tickNat } }

/-- A group as latched; before the first boundary, as it stands. -/
def State.latched (s : State) (g : Nat) : Option (List Nat) :=
  match s.bus.status with
  | [] => s.statusGroup g
  | l => if g = 0 then none else l[g - 1]?
def State.latchTick (s : State) : Nat := if s.bus.status.isEmpty then s.tickNat else s.bus.statusTick

/-- STATUS_READ from step 9 (R397, R400): the words of the latest boundary, and its TICK. -/
def State.doStatusRead (s : State) (j : Job) : State :=
  let p := j.req.payload
  let first := le p 2 2
  let n := le p 4 2
  match s.latched (le p 0 1) with
  | none => s.outOfRange j
  | some w =>
    if !zeros p 1 1 ∨ !zeros p 6 2 ∨ n < 1 ∨ 254 < n ∨ w.length < first + n then s.outOfRange j
    else s.draw.reply j 0 0 (leBytes 1 (le p 0 1) ++ [0] ++ leBytes 4 s.latchTick ++ ((w.drop first).take n).flatMap (leBytes 4))

/-- STICKY_CLEAR of one group (R461). -/
def State.clearGroup (s : State) : Nat → State
  | 1 => s.clearInputs
  | 4 => s.clearSprint
  | 5 => { s with graph := s.graph.clear }
  | 6 => s.clearMeters
  | 7 => s.clearOutputs
  | 8 => s.clearPorts
  | 9 => s.clearLink
  | 10 => s.clearClocks
  | 11 => s.clearRefs
  | 12 => s.clearPower
  | 13 => s.clearWake
  | 14 => s.clearBus
  | 15 => s.clearControl
  | 16 => s.clearDep
  | 17 => s.clearCfg
  | _ => s

/-- STICKY_CLEAR from step 9 (R397, R461): GROUP 0 clears every group. -/
def State.doStickyClear (s : State) (j : Job) : State :=
  let g := le j.req.payload 0 1
  if 17 < g ∨ !zeros j.req.payload 1 3 then s.outOfRange j
  else if g = 0 then ((List.range 18).foldl State.clearGroup s).accept j [] 0 0
  else (s.clearGroup g).accept j [] 0 0

/-- ATTN_CAUSE as a port of execution reads it (R378): bit 0 is its reply FIFO's. -/
def State.causeAt (s : State) (port : Nat) : Nat :=
  if port = 0 then s.bus.cause false else if port = 1 then s.bus.cause true else s.bus.attn.toNat / 2 * 2

/-- ATTN_ACK from step 9 (R378, R386, R397): bit 0 is ignored, and a reserved bit is out of range. -/
def State.doAttnAck (s : State) (j : Job) : State :=
  if 2 ^ 18 ≤ le j.req.payload 0 4 then s.outOfRange j else
  let s1 := { s with bus := { s.bus with attn := s.bus.attn &&& ~~~ BitVec.ofNat 32 (le j.req.payload 0 4) } }
  s1.accept j (leBytes 4 (s1.causeAt j.req.port.val)) 0 0

end Sys2Proof.Machine
end

