-- ==== Sys2Proof/Machine/Requests.lean ====
section
/-! DEFINITION. The requests that no other file holds, from step 9 of R386 on: sessions and keys, claims, modes, the gun, run-ahead,
the trace, the ledger and the log, references and steering, the link, and listening (R389-R397, R402-R408). -/
namespace Sys2Proof.Machine

/-- The revision agreed on a port (R389): ports 2 to 4 agree none. -/
def State.agreed (s : State) (port : Nat) : Nat := if port = 0 then s.bus.spi.rev else if port = 1 then s.bus.twi.rev else 0

/-- HELLO from step 9 (R389, R397): the answer is the highest revision of both ranges; on ports 0 and 1 it is agreed, elsewhere nothing changes. -/
def State.doHello (s : State) (j : Job) : State :=
  let p := j.req.payload
  let lo := le p 0 1
  let top := min 3 (le p 1 1)
  let port := j.req.port.val
  let data := fun (rev : Nat) =>
    leBytes 1 rev ++ [3] ++ leBytes 2 1024 ++ leBytes 2 s.devId ++ leBytes 1 (s.sessionState (bindingOf j.req)) ++ [0]
  if !zeros p 2 2 then s.outOfRange j
  else if le p 1 1 < lo ∨ top < max 1 lo then s.reply j 0x13 (s.agreed port) []
  else if 2 ≤ port then s.reply j 0 0 (data top)
  else (s.modBus (decide (port = 1)) (fun b => { b with rev := top })).reply j 0 0 (data top)

/-- A session number (R391): nonzero, and of no other open session. -/
def State.freshNumber (s : State) : BitVec 16 :=
  let d := Config.sessionDraw s.free
  let used := s.ctl.sessions.map (fun x => x.number)
  ((List.range 20).map (fun k => d + BitVec.ofNat 16 k)).find? (fun n => decide (n ≠ 0) && !used.contains n) |>.getD d

/-- A session opens on a request's binding (R391, R394, R406). -/
def State.openSession (s : State) (j : Job) : State :=
  let b := bindingOf j.req
  let n := s.freshNumber
  let c : Control :=
    { s.ctl with
      sessions := s.ctl.sessions ++ [{ binding := b, number := n, lastPacket := s.clock.now }]
      expired := s.ctl.expired.filter (fun x => decide (x ≠ b)) }
  { s with
    ctl := c.record (BitVec.ofNat 48 j.tick) j.req.port.val 1 n j.opcode 0 0 (originField j.req) 0
    free := s.free + 1 }

/-- The failure count of a port (R393): MRAM takes it at once, or when its writes resume (R339). -/
def State.setFails (s : State) (p f : Nat) : State :=
  let t := tabSet (fun _ => 0) s.ctl.fails p f
  { s with ctl := { s.ctl with fails := t }, mram := if s.mramBlocked then s.mram else { s.mram with fails := t } }

/-- A failed proof or unwrap (R393, R401, R406). -/
def State.authFailed (s : State) (j : Job) : State :=
  let p := j.req.port.val
  let f := tabGet (fun _ => 0) s.ctl.fails p + 1
  let c : Control :=
    { s.ctl with
      lockedUntil := tabSet (fun _ => 0) s.ctl.lockedUntil p (if f < 5 then 0 else s.clock.now + lockoutTicks f)
      authFails := satAdd 16 s.ctl.authFails 1 }
  let s1 : State := { s with ctl := c.record (BitVec.ofNat 48 j.tick) p 3 0 j.opcode f 0 (originField j.req) 0 }
  (s1.setFails p f).reply j 0x21 0 []

/-- LOCKED_OUT with the seconds that remain (R393). -/
def State.answerLocked (s : State) (j : Job) : State :=
  s.reply j 0x22 0 (leBytes 4 (ceilDiv (tabGet (fun _ => 0) s.ctl.lockedUntil j.req.port.val - s.clock.now) 96000))

/-- The pending challenge of a binding lapses at its next session opcode (R392). -/
def State.dropChallenge (s : State) (b : Binding) : State :=
  { s with ctl := { s.ctl with challenges := s.ctl.challenges.filter (fun c => decide (c.binding ≠ b)) } }

/-- A further session on this port would exceed the limit of R391. -/
def State.portFull (s : State) (b : Binding) : Bool :=
  decide (b.port = 2 ∨ b.port = 3) && decide (8 ≤ (s.ctl.sessions.filter (fun x => decide (x.binding.port = b.port) && decide (x.binding ≠ b))).length)

/-- SESSION_OPEN from step 9 (R391-R393, R397). -/
def State.doSessionOpen (s : State) (j : Job) : State :=
  let b := bindingOf j.req
  let s0 := s.dropChallenge b
  let s1 := match s0.ctl.sessionOf b with | some x => s0.endSession x 6 j.opcode j.tick | none => s0
  let nd := leBytes 16 (Config.nonce s1.free).toNat
  let data := fun (n : Nat) => nd ++ leBytes 8 Config.serial.toNat ++ leBytes 4 s.mram.keyGen.toNat ++ leBytes 2 n
  if s.lockedOut j.req.port.val then s0.answerLocked j
  else if s.portFull b then s0.busy j 0
  else if s.mram.unprovisioned then (s1.openSession j).reply j 0 1 (data s1.freshNumber.toNat)
  else
    let c : Control := { s1.ctl with challenges := s1.ctl.challenges ++ [{ binding := b, nh := j.req.payload, nd := nd, made := s.clock.now }] }
    { s1 with ctl := c, free := s1.free + 1 }.reply j 0 0 (data 0)

/-- The messages that prove the key (R392). -/
def State.hostMessage (s : State) (q : Req) (c : Challenge) : List Byte :=
  let far := decide (2 ≤ q.port.val)
  [0x54, 0x56, 0x48, 0x31] ++ c.nh ++ c.nd ++ leBytes 8 Config.serial.toNat ++ leBytes 1 q.port.val ++
    leBytes 1 (if far then q.oport.val else q.port.val) ++ leBytes 2 (if far then q.origin.val else s.devId)
def deviceMessage (c : Challenge) (n : Nat) : List Byte := [0x54, 0x56, 0x44, 0x31] ++ c.nd ++ c.nh ++ leBytes 2 n

/-- SESSION_PROVE from step 9 (R391-R393, R397). -/
def State.doSessionProve (s : State) (j : Job) : State :=
  let b := bindingOf j.req
  let s0 := s.dropChallenge b
  if s.lockedOut j.req.port.val then s0.answerLocked j
  else match s.ctl.challenges.find? (fun c => decide (c.binding = b) && decide (s.clock.now < c.made + 960000)) with
  | none => s0.notInState j
  | some c =>
    if hmacSha256 s.mram.key (s.hostMessage j.req c) ≠ j.req.payload then s0.authFailed j
    else
      let s1 := { s0 with
        ctl := { s0.ctl with lockedUntil := tabSet (fun _ => 0) s0.ctl.lockedUntil j.req.port.val 0 } }.setFails j.req.port.val 0
      if s1.portFull b then s1.busy j 0
      else
        let n := s1.freshNumber.toNat
        (s1.openSession j).reply j 0 0 (leBytes 2 n ++ hmacSha256 s.mram.key (deviceMessage c n))

/-- SESSION_CLOSE from step 9 (R394, R397): OK also with no session. -/
def State.doSessionClose (s : State) (j : Job) : State :=
  let b := bindingOf j.req
  let s0 := s.dropChallenge b
  (match s0.ctl.sessionOf b with | some x => s0.endSession x 0 j.opcode j.tick | none => s0).reply j 0 0 []

/-- KEY_CHANGE from step 9 (R339, R394, R395, R407): the current key unwraps the new one; every other session ends. -/
def State.doKeyChange (s : State) (j : Job) : State :=
  if s.mramBlocked then s.busy j 0x0E
  else match keyUnwrap s.mram.key j.req.payload with
  | none => s.authFailed j
  | some k =>
    let g := s.mram.keyGen + 1
    let s1 := { s with mram := { s.mram with key := k, keyGen := g } }
    let s2 := s1.endSessions (s1.ctl.sessions.filter (fun x => decide (x.binding ≠ bindingOf j.req))) 3 j.opcode j.tick
    s2.accept j (leBytes 4 g.toNat) 0 g.toNat

/-- IDENTITY from step 9 (R5, R397). -/
def State.doIdentity (s : State) (j : Job) : State :=
  s.reply j 0 0 (leBytes 2 0x4B55 ++ leBytes 2 0x2428 ++ [0x10] ++ leBytes 1 s.power.bootBank ++ leBytes 8 Config.serial.toNat ++
    leBytes 4 (s.mram.bank s.mram.active1).version.toNat ++ leBytes 4 (s.mram.bank (!s.mram.active1)).version.toNat ++ leBytes 2 s.devId ++ [0, 0] ++
    leBytes 4 s.mram.keyGen.toNat)

/-- CLAIM from step 9 (R403, R405): all or nothing. -/
def State.doClaim (s : State) (j : Job) : State :=
  let m := le j.req.payload 0 8
  let b := bindingOf j.req
  let clash := (s.ctl.sessions.filter (fun x => decide (x.binding ≠ b))).foldl (fun a x => a ||| (x.claims.toNat &&& m)) 0
  let held := (match s.ctl.sessionOf b with | some x => x.claims | none => 0) ||| BitVec.ofNat 64 m
  if (m ||| claimBits) ≠ claimBits then s.outOfRange j
  else if s.loses j (.claims m) then s.losePhoto j
  else if clash ≠ 0 then s.reply j 0x30 (lowestBit clash) (leBytes 8 clash)
  else
    let s1 := s.enterPhoto j (.claims m)
    { s1 with ctl := { s1.ctl with sessions := s1.ctl.sessions.map (fun (x : Session) => if x.binding = b then { x with claims := held } else x) } }.accept j
      (leBytes 8 held.toNat) 0 held.toNat

/-- RELEASE from step 9 (R405). -/
def State.doRelease (s : State) (j : Job) : State :=
  let m := le j.req.payload 0 8
  let b := bindingOf j.req
  let held := (match s.ctl.sessionOf b with | some x => x.claims | none => 0) &&& ~~~ BitVec.ofNat 64 m
  if (m ||| claimBits) ≠ claimBits then s.outOfRange j
  else
    { s with ctl := { s.ctl with sessions := s.ctl.sessions.map (fun (x : Session) => if x.binding = b then { x with claims := held } else x) } }.accept j
      (leBytes 8 held.toNat) 0 held.toNat

/-- DISARM from step 9 (R212, R398, R417). -/
def State.doDisarm (s : State) (j : Job) : State :=
  if !s.inRun || s.power.leaving.isSome then s.notInState j else (s.reply j 1 0 []).leaveRun .idle (some j)

/-- SET_MODE from step 9 (R212, R328, R333, R398, R416). -/
def State.doSetMode (s : State) (j : Job) : State :=
  let m := le j.req.payload 0 1
  let target : Mode := if m = 0 then .rest else .watch
  let pend := s.cfg.check.isSome || s.cfg.armed.isSome
  if s.power.leaving.isSome || s.power.entering.isSome then s.notInState j
  else if 2 < m ∨ !zeros j.req.payload 1 3 then s.outOfRange j
  else if m = 2 then
    if s.inRun then (s.reply j 1 0 (leBytes 4 (wholeMs s.leaveTicks))).leaveRun .idle (some j) else s.accept j (leBytes 4 0) 0 0
  else if pend then s.busy j 0
  else if s.inRun then ((s.recordJob j 0 0).reply j 1 0 (leBytes 4 (wholeMs (s.leaveTicks + s.entryTicks)))).leaveRun target none
  else ((s.recordJob j 0 0).reply j 1 0 (leBytes 4 (wholeMs s.entryTicks))).beginEntry target

/-- START_GROUP from step 9 (R237, R274, R397, R403). -/
def State.doStartGroup (s : State) (j : Job) : State :=
  let p := j.req.payload
  let mask := le p 0 1
  let sys := decide (le p 1 1 = 1)
  let g := if sys then s.sysGunTick (s.effectTick (tickField p 8)) else s.effectTick (tickField p 8)
  if !s.inRun then s.notInState j
  else if 1 < le p 1 1 ∨ !zeros p 2 6 ∨ !tickOk (tickField p 8) then s.outOfRange j
  else if s.loses j (.groups mask g) then s.losePhoto j
  else if sys && !s.link.guns.isEmpty then s.busy j 0
  else
    let s1 := s.enterPhoto j (.groups mask g)
    (if sys then s1.sysGun mask g
     else { s1 with ports := { s1.ports with guns := s1.ports.guns ++ [(mask, g, false, j.req.port.val)] } }).accept j (leBytes 8 g) 0 g

/-- RUNAHEAD_SET from step 9 (R157, R397). -/
def State.doRunahead (s : State) (j : Job) : State :=
  let l := le j.req.payload 0 1
  if 8 < l ∨ !zeros j.req.payload 1 3 then s.outOfRange j else (s.writeDirect 0x1C00 l).accept j (leBytes 1 l) 0 0

/-- A trace record (R158). -/
def TraceRec.bytes (r : TraceRec) : List Byte :=
  leBytes 4 r.tick ++ leBytes 2 r.node ++ leBytes 1 (r.runner + 16 * r.ahead) ++ leBytes 1 r.tflags ++ leBytes 2 r.start ++ leBytes 2 r.cycles ++
    leBytes 1 r.epoch ++ [0, 0, 0]

/-- TRACE_READ from step 9 (R158, R397). -/
def State.doTraceRead (s : State) (j : Job) : State :=
  let n := le j.req.payload 2 2
  let l := (s.graph.trace.drop (le j.req.payload 0 2)).take n
  if n < 1 ∨ 63 < n then s.outOfRange j
  else s.reply j 0 0 (leBytes 2 s.graph.trace.length ++ leBytes 2 l.length ++ [0, 0] ++ l.flatMap TraceRec.bytes)

/-- A ledger record (R406). -/
def LedgerRec.bytes (r : LedgerRec) : List Byte :=
  leBytes 4 r.seq.toNat ++ leBytes 6 r.tick.toNat ++ [r.port, r.kind] ++ leBytes 2 r.session.toNat ++ leBytes 2 r.opcode.toNat ++
    leBytes 4 r.object.toNat ++ leBytes 2 r.count.toNat ++ leBytes 2 r.origin.toNat ++ leBytes 8 r.value.toNat

/-- LEDGER_READ from step 9 (R397, R408). OLDEST_SEQ of an empty ledger is not given: a free value. -/
def State.doLedgerRead (s : State) (j : Job) : State :=
  let p := j.req.payload
  let n := le p 4 2
  let held := s.ctl.ledger.reverse
  let l := (held.filter (fun r => decide (le p 0 4 ≤ r.seq.toNat))).take n
  let oldest := match held with | r :: _ => r.seq.toNat | [] => (Config.freeInt s.free % 2 ^ 32).toNat
  if n < 1 ∨ 31 < n ∨ !zeros p 6 2 then s.outOfRange j
  else s.draw.reply j 0 0 (leBytes 2 l.length ++ leBytes 4 oldest ++ l.flatMap LedgerRec.bytes)

/-- LIFELOG_READ from step 9 (R397, R459). -/
def State.doLifelogRead (s : State) (j : Job) : State :=
  let ofs := le j.req.payload 0 4
  let n := le j.req.payload 4 2
  if n < 1 ∨ 1020 < n ∨ 1236 < ofs + n then s.outOfRange j
  else s.reply j 0 0 (leBytes 2 n ++ (s.logBytes.drop ofs).take n)

/-- REF_FORCE is refused in this state (R315). -/
def State.forceBarred (s : State) (action src : Nat) : Bool :=
  match action with
  | 1 => s.follows || decide (s.qstate src ≠ 3)
  | 2 => s.follows || !s.dpll.history.any (fun h => decide (s.dpll.lastCapture + 96000 ≤ h.at_))
  | 3 => s.follows
  | _ => false

/-- REF_FORCE from step 9 (R315, R397, R403). -/
def State.doRefForce (s : State) (j : Job) : State :=
  let p := j.req.payload
  let a := le p 0 1
  let src := le p 1 1
  let eff := s.effectTick (tickField p 8)
  if s.forceBarred a src then s.notInState j
  else if 3 < a ∨ 7 < src ∨ (a ≠ 1 ∧ src ≠ 0) ∨ !zeros p 2 6 ∨ !tickOk (tickField p 8) then s.outOfRange j
  else if s.loses j (.act 0x0701 eff) then s.losePhoto j
  else
    let s1 := s.enterPhoto j (.act 0x0701 eff)
    { s1 with dpll := { s1.dpll with forceNext := s1.dpll.forceNext ++ [(eff, a, src, j.req.port.val)] } }.accept j (leBytes 8 eff) 0 eff

/-- What STEER takes for the tick `eff` (R287, R403): at the boundary after its arrival, what a PARAM_WRITE of CK_STEER takes. -/
def steerThing (eff next : Nat) : PhotoThing := if eff = next then .params 0x0103 1 else .act 0x0702 eff

/-- STEER from step 9 (R287, R397, R403): a tick not after the heat in progress begins the slew at the next boundary. -/
def State.doSteer (s : State) (j : Job) : State :=
  let p := j.req.payload
  let named := tickField p 8
  let eff := s.effectTick named
  let v := signed (le p 0 4) 32
  let thing := steerThing eff (s.effectTick 0)
  if !zeros p 4 4 ∨ !tickOk named then s.outOfRange j
  else if s.loses j thing then s.losePhoto j
  else
    let s1 := s.enterPhoto j thing
    (if s.tickNat < named then { s1 with synth := { s1.synth with steers := s1.synth.steers ++ [(eff, v, j.req.port.val)] } } else s1.setSteer v).acceptWith j
      (b2n (decide (steerClamp v ≠ v))) (leBytes 8 eff) 0 eff

/-- An entry of LINK_DISCOVER (R397). -/
def discoverEntry (n : Nat) (pace a b : Bool) (x : Announcement) : List Byte :=
  leBytes 2 x.id.val ++ leBytes 8 x.serial.toNat ++ leBytes 1 x.prio.val ++ [x.mode] ++ leBytes 2 x.hops.val ++ leBytes 1 (x.revA.val + 16 * x.revB.val) ++
    leBytes 1 (b2n pace + 2 * b2n a + 4 * b2n b) ++ leBytes 2 (min 65535 (looseQuot n x.delayA.toNat 10).toNat) ++
    leBytes 2 (min 65535 (looseQuot n x.delayB.toNat 10).toNat) ++ leBytes 2 x.fwd.toNat ++ [0, 0]

/-- Entries in ID order. -/
def insertById (x : Nat × List Byte) : List (Nat × List Byte) → List (Nat × List Byte)
  | [] => [x]
  | y :: l => if x.1 ≤ y.1 then x :: y :: l else y :: insertById x l

/-- LINK_DISCOVER from step 9 (R273, R277, R397): the topology table with this device. -/
def State.doLinkDiscover (s : State) (j : Job) : State :=
  let n := le j.req.payload 2 2
  let own := (s.devId, discoverEntry s.free s.link.isPace false false s.ownAnn)
  let all := (own :: s.link.topo.map (fun e =>
    (e.ann.id.val, discoverEntry s.free (!s.link.isPace && decide (e.ann.id.val = s.link.pace)) (e.both || decide (e.port = 0)) (e.both || decide (e.port = 1)) e.ann))).foldr
    insertById []
  let l := (all.drop (le j.req.payload 0 2)).take n
  if n < 1 ∨ 42 < n then s.outOfRange j
  else s.draw.reply j 0 0 (leBytes 2 all.length ++ leBytes 2 l.length ++ [0, 0] ++ l.flatMap (fun e => e.2))

/-- This device takes an ID (R253, R273, R394): its sessions on ports 2 and 3 close; `tick` is the arrival tick of what names it. -/
def State.assignId (s : State) (id tick : Nat) : State :=
  (s.endSessions (s.ctl.sessions.filter (fun x => decide (x.binding.port = 2 ∨ x.binding.port = 3))) 5 0x0802 tick).takeId id

/-- The request as a LINK_ASSIGN_ID cell carries it (R273): its packet. -/
def assignBytes (j : Job) : List Byte := packet j.req.rev.val false false 0x0802 j.req.tag.toNat 0 0 j.req.payload

/-- LINK_ASSIGN_ID from step 9 (R273, R397): a device of another serial number is reached by a BCAST cell. -/
def State.doLinkAssign (s : State) (j : Job) : State :=
  let p := j.req.payload
  if 1023 < le p 8 2 ∨ !zeros p 10 2 then s.outOfRange j
  else (if le p 0 8 = Config.serial.toNat then s.assignId (le p 8 2) j.tick
        else { s with link := s.link.broadcast s.devId (assignBytes j) }).accept j [] 0 (le p 0 8)

/-- LINK_SET_OFFSET from step 9 (R264, R276, R396, R397, R403): its tick is at least L + 2 ahead. -/
def State.doLinkOffset (s : State) (j : Job) : State :=
  let p := j.req.payload
  let l := le p 0 1
  let eff := max (s.effectTick (tickField p 8)) (s.tickNat + s.link.l + 2)
  if !s.link.isPace then s.notInState j
  else if l < 2 ∨ 63 < l ∨ !zeros p 1 7 ∨ !tickOk (tickField p 8) then s.outOfRange j
  else if s.loses j (.act 0x0803 eff) then s.losePhoto j
  else if l < s.lMin then s.refuseConfig j 0x70 1 0x1704 []
  else
    let s1 := s.enterPhoto j (.act 0x0803 eff)
    { s1 with link := (s1.link.lAhead eff l).broadcast s.devId (offsetBytes s1.link.identity eff l) }.accept j (leBytes 8 eff) 0 eff

/-- WAKE_TEMPLATE_LOAD from step 9 (R351, R397). -/
def State.doTemplateLoad (s : State) (j : Job) : State :=
  let p := j.req.payload
  match if 3 < le p 0 1 ∨ !zeros p 1 1 then none else s.wake.loadPiece (le p 0 1) (le p 2 2) (p.drop 4) with
  | none => s.outOfRange j
  | some w =>
    let ready := (List.range 4).foldl (fun a k => a + 2 ^ k * b2n (w.ready k)) 0
    { s with wake := w }.accept j (leBytes 1 ready) (p.drop 4).length (crc32c (p.drop 4))

/-- HISTORY_HANDOVER from step 9 (R354, R397, R403). While nothing listens, H and T_H are not given: free values. -/
def State.doHandover (s : State) (j : Job) : State :=
  let p := j.req.payload
  let start := decide (le p 0 1 = 1)
  let r := le p 1 1
  let eff := s.effectTick (tickField p 8)
  let i := s.wake.startFrom (s.widxAt eff) (le p 4 4)
  let h := if s.wake.listening then s.expectHand i r eff
    else (BitVec.ofInt 32 (Config.freeInt s.free), (Config.freeInt (s.free + 1) % 2 ^ 48).toNat)
  if !s.awake then s.notInState j
  else if 1 < le p 0 1 ∨ (start && !(decide (r = 2 ∨ r = 3 ∨ r = 6))) ∨ !zeros p 2 2 ∨ !tickOk (tickField p 8) then s.outOfRange j
  else if s.loses j (.act 0x0902 eff) then s.losePhoto j
  else
    let s1 := s.enterPhoto j (.act 0x0902 eff)
    let s2 := { s1 with
      wake := { s1.wake with handoverNext := s1.wake.handoverNext ++ [(eff, if start then some i else none, r, j.req.port.val)] }
      free := s1.free + 2 }
    s2.accept j (if start then leBytes 4 i.toNat ++ leBytes 4 h.1.toNat ++ leBytes 8 h.2 else List.replicate 16 0) 0 eff

end Sys2Proof.Machine
end

