-- ==== Sys2Proof/Machine/Protocol.lean ====
section
/-! DEFINITION. The Tarvo packet protocol: how a request is judged, the packets that wait in the mailboxes, and the packet opcodes as
commands (R365, R386-R391, R394, R405). -/
namespace Sys2Proof.Machine

/-- INTERNAL_FAULT (R402, R456): the firmware meets an inconsistency; nothing changes, and the log counts it. -/
def State.internalFault (s : State) (j : Job) : State := { s with log := s.log.add 0xFC 1 }.reply j 0x7F 0 []

/-- Step 11 of R386: the opcode is carried out. One that the table of R397 holds and this list does not is an inconsistency (R402): there is
none. -/
def State.dispatch (s : State) (j : Job) : State :=
  match j.opcode with
  | 0x0001 => s.doHello j
  | 0x0002 => s.doSessionOpen j
  | 0x0003 => s.doSessionProve j
  | 0x0004 => s.doSessionClose j
  | 0x0005 => s.doKeyChange j
  | 0x0006 => s.doIdentity j
  | 0x0101 => s.doParamRead j
  | 0x0102 => s.doParamWrite j
  | 0x0103 => s.doParamBlock j
  | 0x0104 => s.doBankSwap j
  | 0x0105 => s.doNodeWrite j
  | 0x0106 => s.doNodeRead j
  | 0x0107 => s.doSprintWrite j
  | 0x0108 => s.doSprintRead j
  | 0x0201 => s.doArm j
  | 0x0202 => s.doDisarm j
  | 0x0203 => s.doSetMode j
  | 0x0204 => s.doStartGroup j
  | 0x0301 => s.doGraphLoad j
  | 0x0302 => s.doGraphCheck j
  | 0x0303 => s.doRunahead j
  | 0x0304 => s.doTraceRead j
  | 0x0401 => s.doStatusRead j
  | 0x0402 => s.doStickyClear j
  | 0x0403 => s.doAttnAck j
  | 0x0501 => s.doClaim j
  | 0x0502 => s.doRelease j
  | 0x0601 => s.doConfigSave j
  | 0x0602 => s.doConfigRecall j
  | 0x0603 => s.doFwStage j
  | 0x0604 => s.doFwCommit j
  | 0x0605 => s.doLedgerRead j
  | 0x0606 => s.doLifelogRead j
  | 0x0701 => s.doRefForce j
  | 0x0702 => s.doSteer j
  | 0x0801 => s.doLinkDiscover j
  | 0x0802 => s.doLinkAssign j
  | 0x0803 => s.doLinkOffset j
  | 0x0804 => s.doSlotWrite j
  | 0x0805 => s.doSlotRead j
  | 0x0901 => s.doTemplateLoad j
  | 0x0902 => s.doHandover j
  | _ => s.internalFault j

/-- Step 3 of R386, under R389. -/
def State.revisionOk (s : State) (op : Nat) (q : Req) : Bool :=
  let r := q.rev.val
  if q.port.val < 2 then
    (if op = 0x0001 then decide (1 ≤ r ∧ r ≤ 3) else decide (r = s.agreed q.port.val)) && !(q.remote && decide (r = 1))
  else if q.port.val = 4 then decide (1 ≤ r ∧ r ≤ 3)
  else decide (r = 2 ∨ r = 3)

/-- A packet of a binding arrived: its session does not idle (R394). -/
def State.touch (s : State) (b : Binding) : State :=
  { s with ctl := { s.ctl with sessions := s.ctl.sessions.map (fun (x : Session) => if x.binding = b then { x with lastPacket := s.clock.now } else x) } }

/-- Step 9 of R386 for every opcode alike: RECOVERY serves those of R331, and a change of mode toward Rest or Watch takes no further
change (R331, R333). -/
def State.stateOk (s : State) (row : OpRow) : Bool :=
  !(decide (s.power.mode = .recovery) && !recoveryOp row.code) &&
  !(row.change && (s.power.entering.isSome || (match s.power.leaving with | some m => decide (m.1 = .rest ∨ m.1 = .watch) | none => false)))

/-- The claim bits of a request that another session holds (R405). -/
def State.claimClash (s : State) (j : Job) : Nat :=
  if j.req.port.val = 4 then 0
  else (s.ctl.sessions.filter (fun x => decide (x.binding ≠ bindingOf j.req))).foldl
    (fun a x => a ||| (x.claims.toNat &&& claimMask j.opcode j.req.payload)) 0

/-- Steps 3 and 5 to 11 of R386; `run` is step 10 and the execution. -/
def State.judge (s : State) (run : State → Job → State) (j0 : Job) : State :=
  let q := j0.req
  let b := bindingOf q
  let j := { j0 with session := s.sessionNo q }
  if !s.revisionOk j.opcode q then s.reply j 0x13 (s.agreed q.port.val) []
  else match opRow j.opcode with
  | none => s.reply j 0x12 0 []
  | some row =>
    if q.rev.val < row.rev then s.reply j 0x12 0 []
    else if row.session && decide (q.port.val ≠ 4) && (s.ctl.sessionOf b).isNone then
      (if s.ctl.expired.contains b then { s with ctl := { s.ctl with expired := s.ctl.expired.filter (fun x => decide (x ≠ b)) } }.reply j 0x23 0 []
       else s.reply j 0x20 0 [])
    else if !lengthOk j.opcode q.payload then s.reply j 0x11 0 []
    else if s.claimClash j ≠ 0 then s.reply j 0x30 (lowestBit (s.claimClash j)) []
    else if !s.stateOk row then s.notInState j
    else run s j

/-- A request that has come whole to its turn: a packet executed to its reply (R388). -/
def State.execute (s : State) (run : State → Job → State) (j : Job) : State := (s.touch (bindingOf j.req)).judge run j

/-- The first bad byte of a header (R384, R386 step 2, R390); `dev` is the device's own ID. -/
def headerFault (b : List Byte) (port dev : Nat) : Option Nat :=
  let flags := le b 1 1
  let remote := flags.testBit 0
  if le b 0 1 ≠ 0x4B then some 0
  else if field flags 2 2 ≠ 0 then some 1
  else if le b 5 1 ≠ 0 then some 5
  else if !remote then none
  else if (port = 2 ∨ port = 3) ∧ le b 8 2 % 1024 ≠ dev then some 8
  else if 4 ≤ le b 9 1 then some 9
  else if port < 2 ∧ le b 10 1 ≠ 0 then some 10
  else if port < 2 ∧ le b 11 1 ≠ 0 then some 11
  else if 32 ≤ le b 11 1 then some 11
  else none

/-- The request that a whole packet holds. -/
def reqOf (b : List Byte) (port origin oport : Nat) : Req :=
  let remote := (le b 1 1).testBit 0
  { port := Fin.ofNat 5 port, origin := Fin.ofNat 1024 origin, oport := Fin.ofNat 8 oport, tag := BitVec.ofNat 8 (le b 4 1),
    rev := Fin.ofNat 16 (le b 1 1 / 16), remote := remote, quiet := (le b 1 1).testBit 1,
    payload := (b.drop (if remote then 12 else 8)).take (le b 6 2) }

/-- A remote packet goes toward its target (R273, R390): ORIGIN is filled, CRC computed again, and it waits for its reply. -/
def State.forward (s : State) (target op : Nat) (q : Req) : State :=
  let j : Job := { req := q, opcode := op, now := s.clock.now, tick := s.tickNat }
  if s.link.topo.all (fun e => decide (e.ann.id.val ≠ target)) then s.reply j 0x50 0 []
  else if 8 ≤ (s.link.outstanding.filter (fun o => !o.accepted)).length then s.busy j 0
  else
    let p := packet q.rev.val true q.quiet op q.tag.toNat target (s.devId + 1024 * q.port.val) q.payload
    let o : Outstanding := { seq := s.link.seq, target := target, req := q, opcode := op, deadline := s.clock.now + 960 * field (s.dir 0x1700) 16 8 }
    let l := s.link.send s.devId target p
    { s with link := { l with outstanding := l.outstanding ++ [o] } }

/-- Steps 3 and 4 of R386 for a packet of ports 0 and 1 that names another device. -/
def State.forwardJudged (s : State) (target op : Nat) (q : Req) : State :=
  let j : Job := { req := q, opcode := op, now := s.clock.now, tick := s.tickNat }
  if !s.revisionOk op q then s.reply j 0x13 (s.agreed q.port.val) [] else (s.touch (bindingOf q)).forward target op q

/-- A whole packet is executed (R386 from step 1). -/
def State.runPacket (s : State) (port origin oport : Nat) (w : Waiting) : State :=
  let b := w.bytes
  let q := reqOf b port origin oport
  let op := le b 2 2
  let j : Job := { req := q, opcode := op, now := w.now, tick := w.tick }
  let n := b.length - 4
  if crc32c (b.take n) ≠ le b n 4 then
    s.reply { j with req := { q with rev := if port < 2 then Fin.ofNat 16 (s.agreed port) else q.rev } } 0x10 0 []
  else match headerFault b port s.devId with
  | some ofs => s.reply j 0x16 ofs []
  | none =>
    if port < 2 ∧ q.remote ∧ le b 8 2 ≠ s.devId then s.forwardJudged (le b 8 2) op q
    else s.execute State.dispatch j

/-- A bus port may take a packet from its mailbox (R365, R387). -/
def BusPort.ready (p : BusPort) : Bool := p.held.isEmpty && decide (p.queued + 1040 ≤ 2080)

/-- What waits, as (arrival tick count, port, origin, origin port) with its packet: the first of each bus and the inbox (R388). -/
def State.heads (s : State) : List (Nat × Nat × Nat × Nat × Waiting) :=
  let bus := fun (n : Nat) (p : BusPort) => match p.mailbox with | w :: _ => if p.ready then [(w.now, n, 0, 0, w)] else [] | [] => []
  bus 0 s.bus.spi ++ bus 1 s.bus.twi ++ s.ctl.inbox.map (fun x => (x.2.2.2.now, x.1, x.2.1, x.2.2.1, x.2.2.2))

/-- The order of R388. -/
def headBefore (a b : Nat × Nat × Nat × Nat × Waiting) : Bool :=
  decide (a.1 < b.1) || (decide (a.1 = b.1) && (decide (a.2.1 < b.2.1) || (decide (a.2.1 = b.2.1) &&
    (decide (a.2.2.1 < b.2.2.1) || (decide (a.2.2.1 = b.2.2.1) && decide (a.2.2.2.1 < b.2.2.2.1))))))

/-- The first in that order; of equals the one listed first. -/
def firstHead : List (Nat × Nat × Nat × Nat × Waiting) → Option (Nat × Nat × Nat × Nat × Waiting)
  | [] => none
  | a :: l => match firstHead l with | some b => if headBefore b a then some b else some a | none => some a

/-- Remove a packet that is taken for execution. -/
def State.takeHead (s : State) (h : Nat × Nat × Nat × Nat × Waiting) : State :=
  if h.2.1 < 2 then s.modBus (decide (h.2.1 = 1)) (fun p => { p with mailbox := p.mailbox.drop 1 })
  else { s with ctl := { s.ctl with inbox := s.ctl.inbox.erase (h.2.1, h.2.2.1, h.2.2.2.1, h.2.2.2.2) } }

/-- Execute what waits, one packet to its reply before the next (R388). -/
def State.serve : Nat → State → State
  | 0, s => s
  | n + 1, s =>
    if !s.served then s
    else match firstHead s.heads with
    | some h => State.serve n ((s.takeHead h).runPacket h.2.1 h.2.2.1 h.2.2.2.1 h.2.2.2.2)
    | none => s
def State.serveAll (s : State) : State := State.serve (s.bus.spi.mailbox.length + s.bus.twi.mailbox.length + s.ctl.inbox.length) s

/-- Execute what waits and comes before a packet that has just arrived, in the order of R388. -/
def State.serveBefore (q : Req) : Nat → State → State
  | 0, s => s
  | n + 1, s =>
    if !s.served then s
    else match firstHead s.heads with
    | some h =>
      if headBefore (s.clock.now, q.port.val, q.origin.val, q.oport.val, h.2.2.2.2) h then s
      else State.serveBefore q n ((s.takeHead h).runPacket h.2.1 h.2.2.1 h.2.2.2.1 h.2.2.2.2)
    | none => s

/-- A request given whole as a command: executed after what comes before it where its port can take it, kept in the mailbox where its packet
must wait, and answered BUSY on the link while the control processor restarts (R365, R381, R388, R390). -/
def State.enter (s0 : State) (target op : Nat) (q : Req) (go : State → State) : State :=
  let s := State.serveBefore q (s0.bus.spi.mailbox.length + s0.bus.twi.mailbox.length + s0.ctl.inbox.length) s0
  let n := q.port.val
  let bytes := packet q.rev.val q.remote q.quiet op q.tag.toNat target 0 q.payload
  let j : Job := { req := q, opcode := op, now := s.clock.now, tick := s.tickNat }
  if n < 2 then
    let p := s.bus.port (decide (n = 1))
    if !s.served then s
    else if p.ready && p.mailbox.isEmpty then go s
    else if p.mailQueued + bytes.length ≤ 2080 then
      s.modBus (decide (n = 1)) (fun p => { p with mailbox := p.mailbox ++ [{ bytes := bytes, now := s.clock.now, tick := s.tickNat }] })
    else s
  else if s.served then go s
  else if n < 4 ∧ s.firmware then s.placeReply n q.origin.val (s.replyPacket j 0x60 1 [])
  else s

/-- A packet opcode as a command: the request's OPCODE is `op`, and `run` carries it out. -/
def State.request (s : State) (op : Nat) (run : State → Job → State) (q : Req) : State :=
  s.enter s.devId op q (fun s => s.execute run { req := q, opcode := op, now := s.clock.now, tick := s.tickNat })

/-- HELLO (R389). -/
def execHello (q : Req) (s : State) : Host.Outcome State Fault Refusal := .next (s.request 0x0001 State.doHello q)

/-- SESSION_OPEN (R392). -/
def execSessionOpen (q : Req) (s : State) : Host.Outcome State Fault Refusal := .next (s.request 0x0002 State.doSessionOpen q)

/-- SESSION_PROVE (R392). -/
def execSessionProve (q : Req) (s : State) : Host.Outcome State Fault Refusal := .next (s.request 0x0003 State.doSessionProve q)

/-- SESSION_CLOSE (R394). -/
def execSessionClose (q : Req) (s : State) : Host.Outcome State Fault Refusal := .next (s.request 0x0004 State.doSessionClose q)

/-- KEY_CHANGE (R395). -/
def execKeyChange (q : Req) (s : State) : Host.Outcome State Fault Refusal := .next (s.request 0x0005 State.doKeyChange q)

/-- IDENTITY (R397). -/
def execIdentity (q : Req) (s : State) : Host.Outcome State Fault Refusal := .next (s.request 0x0006 State.doIdentity q)

/-- PARAM_READ (R433). -/
def execParamRead (q : Req) (s : State) : Host.Outcome State Fault Refusal := .next (s.request 0x0101 State.doParamRead q)

/-- PARAM_WRITE (R437). -/
def execParamWrite (q : Req) (s : State) : Host.Outcome State Fault Refusal := .next (s.request 0x0102 State.doParamWrite q)

/-- PARAM_WRITE_BLOCK (R439). -/
def execParamWriteBlock (q : Req) (s : State) : Host.Outcome State Fault Refusal := .next (s.request 0x0103 State.doParamBlock q)

/-- BANK_SWAP (R413). -/
def execBankSwap (q : Req) (s : State) : Host.Outcome State Fault Refusal := .next (s.request 0x0104 State.doBankSwap q)

/-- NODE_PARAM_WRITE (R155). -/
def execNodeParamWrite (q : Req) (s : State) : Host.Outcome State Fault Refusal := .next (s.request 0x0105 State.doNodeWrite q)

/-- NODE_PARAM_READ (R397). -/
def execNodeParamRead (q : Req) (s : State) : Host.Outcome State Fault Refusal := .next (s.request 0x0106 State.doNodeRead q)

/-- SPRINT_WRITE (R99). -/
def execSprintWrite (q : Req) (s : State) : Host.Outcome State Fault Refusal := .next (s.request 0x0107 State.doSprintWrite q)

/-- SPRINT_READ (R397). -/
def execSprintRead (q : Req) (s : State) : Host.Outcome State Fault Refusal := .next (s.request 0x0108 State.doSprintRead q)

/-- ARM (R417). -/
def execArm (q : Req) (s : State) : Host.Outcome State Fault Refusal := .next (s.request 0x0201 State.doArm q)

/-- DISARM (R398). -/
def execDisarm (q : Req) (s : State) : Host.Outcome State Fault Refusal := .next (s.request 0x0202 State.doDisarm q)

/-- SET_MODE (R333). -/
def execSetMode (q : Req) (s : State) : Host.Outcome State Fault Refusal := .next (s.request 0x0203 State.doSetMode q)

/-- START_GROUP (R237). -/
def execStartGroup (q : Req) (s : State) : Host.Outcome State Fault Refusal := .next (s.request 0x0204 State.doStartGroup q)

/-- GRAPH_LOAD (R128). -/
def execGraphLoad (q : Req) (s : State) : Host.Outcome State Fault Refusal := .next (s.request 0x0301 State.doGraphLoad q)

/-- GRAPH_CHECK (R138). -/
def execGraphCheck (q : Req) (s : State) : Host.Outcome State Fault Refusal := .next (s.request 0x0302 State.doGraphCheck q)

/-- RUNAHEAD_SET (R157). -/
def execRunaheadSet (q : Req) (s : State) : Host.Outcome State Fault Refusal := .next (s.request 0x0303 State.doRunahead q)

/-- TRACE_READ (R158). -/
def execTraceRead (q : Req) (s : State) : Host.Outcome State Fault Refusal := .next (s.request 0x0304 State.doTraceRead q)

/-- STATUS_READ (R400). -/
def execStatusRead (q : Req) (s : State) : Host.Outcome State Fault Refusal := .next (s.request 0x0401 State.doStatusRead q)

/-- STICKY_CLEAR (R461). -/
def execStickyClear (q : Req) (s : State) : Host.Outcome State Fault Refusal := .next (s.request 0x0402 State.doStickyClear q)

/-- ATTN_ACK (R378). -/
def execAttnAck (q : Req) (s : State) : Host.Outcome State Fault Refusal := .next (s.request 0x0403 State.doAttnAck q)

/-- CLAIM (R405). -/
def execClaim (q : Req) (s : State) : Host.Outcome State Fault Refusal := .next (s.request 0x0501 State.doClaim q)

/-- RELEASE (R405). -/
def execRelease (q : Req) (s : State) : Host.Outcome State Fault Refusal := .next (s.request 0x0502 State.doRelease q)

/-- CONFIG_SAVE (R424). -/
def execConfigSave (q : Req) (s : State) : Host.Outcome State Fault Refusal := .next (s.request 0x0601 State.doConfigSave q)

/-- CONFIG_RECALL (R425). -/
def execConfigRecall (q : Req) (s : State) : Host.Outcome State Fault Refusal := .next (s.request 0x0602 State.doConfigRecall q)

/-- FW_STAGE (R427). -/
def execFwStage (q : Req) (s : State) : Host.Outcome State Fault Refusal := .next (s.request 0x0603 State.doFwStage q)

/-- FW_COMMIT (R428). -/
def execFwCommit (q : Req) (s : State) : Host.Outcome State Fault Refusal := .next (s.request 0x0604 State.doFwCommit q)

/-- LEDGER_READ (R408). -/
def execLedgerRead (q : Req) (s : State) : Host.Outcome State Fault Refusal := .next (s.request 0x0605 State.doLedgerRead q)

/-- LIFELOG_READ (R459). -/
def execLifelogRead (q : Req) (s : State) : Host.Outcome State Fault Refusal := .next (s.request 0x0606 State.doLifelogRead q)

/-- REF_FORCE (R315). -/
def execRefForce (q : Req) (s : State) : Host.Outcome State Fault Refusal := .next (s.request 0x0701 State.doRefForce q)

/-- STEER (R287). -/
def execSteer (q : Req) (s : State) : Host.Outcome State Fault Refusal := .next (s.request 0x0702 State.doSteer q)

/-- LINK_DISCOVER (R273). -/
def execLinkDiscover (q : Req) (s : State) : Host.Outcome State Fault Refusal := .next (s.request 0x0801 State.doLinkDiscover q)

/-- LINK_ASSIGN_ID (R273). -/
def execLinkAssignId (q : Req) (s : State) : Host.Outcome State Fault Refusal := .next (s.request 0x0802 State.doLinkAssign q)

/-- LINK_SET_OFFSET (R264). -/
def execLinkSetOffset (q : Req) (s : State) : Host.Outcome State Fault Refusal := .next (s.request 0x0803 State.doLinkOffset q)

/-- LINK_SLOT_WRITE (R261). -/
def execLinkSlotWrite (q : Req) (s : State) : Host.Outcome State Fault Refusal := .next (s.request 0x0804 State.doSlotWrite q)

/-- LINK_SLOT_READ (R261). -/
def execLinkSlotRead (q : Req) (s : State) : Host.Outcome State Fault Refusal := .next (s.request 0x0805 State.doSlotRead q)

/-- WAKE_TEMPLATE_LOAD (R351). -/
def execWakeTemplateLoad (q : Req) (s : State) : Host.Outcome State Fault Refusal := .next (s.request 0x0901 State.doTemplateLoad q)

/-- HISTORY_HANDOVER (R354). -/
def execHistoryHandover (q : Req) (s : State) : Host.Outcome State Fault Refusal := .next (s.request 0x0902 State.doHandover q)

/-- A PARAM_WRITE whose ID is one that a row of the table names; of another ID it is not that event, and nothing happens. -/
def State.writeOf (s : State) (kind : Nat → Bool) (q : Req) : State :=
  if kind (le q.payload 0 2) then s.request 0x0102 State.doParamWrite q else s

/-- CK_XO_FREQ_WRITE (R280). -/
def execCkXoFreqWrite (q : Req) (s : State) : Host.Outcome State Fault Refusal := .next (s.writeOf (fun id => decide (id = 0x0100)) q)

/-- CK_STEER_WRITE (R286). -/
def execCkSteerWrite (q : Req) (s : State) : Host.Outcome State Fault Refusal := .next (s.writeOf (fun id => decide (id = 0x0103)) q)

/-- CV_ORDER_WRITE (R72). -/
def execCvOrderWrite (q : Req) (s : State) : Host.Outcome State Fault Refusal := .next (s.writeOf (fun id => decide (0x0400 ≤ id ∧ id < 0x0418) || decide (0x0430 ≤ id ∧ id < 0x044C)) q)

/-- SP_ORDER_WRITE (R90). -/
def execSpOrderWrite (q : Req) (s : State) : Host.Outcome State Fault Refusal := .next (s.writeOf (fun id => decide (id = 0x0710)) q)

/-- PORT_MASK_WRITE (R242). -/
def execPortMaskWrite (q : Req) (s : State) : Host.Outcome State Fault Refusal := .next (s.writeOf (fun id => decide (0x140C ≤ id ∧ id < 0x1418)) q)

/-- MT_CFG_WRITE (R186). -/
def execMtCfgWrite (q : Req) (s : State) : Host.Outcome State Fault Refusal := .next (s.writeOf (fun id => decide (0x1300 ≤ id ∧ id < 0x1400)) q)

/-- GR_RUNAHEAD_WRITE (R157). -/
def execGrRunaheadWrite (q : Req) (s : State) : Host.Outcome State Fault Refusal := .next (s.writeOf (fun id => decide (id = 0x1C00)) q)

/-- GR_TRACE_WRITE (R158). -/
def execGrTraceWrite (q : Req) (s : State) : Host.Outcome State Fault Refusal := .next (s.writeOf (fun id => decide (id = 0x1C01)) q)

/-- REF_PARAM_WRITE (R316). -/
def execRefParamWrite (q : Req) (s : State) : Host.Outcome State Fault Refusal := .next (s.writeOf (fun id => decide (id / 256 = 0x02)) q)

/-- WAKE_PARAM_WRITE (R348). -/
def execWakeParamWrite (q : Req) (s : State) : Host.Outcome State Fault Refusal := .next (s.writeOf (fun id => decide (id / 256 = 0x18)) q)

/-- DEVICE_RECORD_PARAM_WRITE (R440). -/
def execDeviceRecordParamWrite (q : Req) (s : State) : Host.Outcome State Fault Refusal := .next (s.writeOf (fun id => decide (id = 0x0000 ∨ id = 0x1900)) q)

end Sys2Proof.Machine
end

