-- ==== Sys2Proof/Machine/Remote.lean ====
section
/-! DEFINITION. Control cells and remote packets over the link (R272, R273, R390). -/
namespace Sys2Proof.Machine

/-- REMOTE_FORWARD (R273, R390): a request on port 0 or 1 whose TARGET is another device. -/
def execRemoteForward (q : Req) (target : Fin 1024) (opcode : BitVec 15) (s : State) : Host.Outcome State Fault Refusal :=
  .next (if q.port.val < 2 ∧ q.remote ∧ target.val ≠ s.devId then
    s.enter target.val opcode.toNat q (fun s => s.forwardJudged target.val opcode.toNat q) else s)

/-- A cell of the pacesetter of this device's system that names a label or a TICK ahead (R256, R264). -/
def State.takeAhead (s : State) (b : List Byte) : State :=
  let t := le b 9 8
  let v := le b 17 1
  if b.length ≠ 18 ∨ le b 1 8 ≠ s.link.identity.toNat ∨ s.link.isPace then s
  else if le b 0 1 = 0x46 then { s with link := { s.link with formAt := some t, formK := v } }
  else if le b 0 1 = 0x4C then { s with link := s.link.lAhead t v }
  else s

/-- CONTROL_CELL_RECEIVED (R256, R264, R272, R273): a port takes cells from BLOCKED on; one for this device is a segment of a packet; a BCAST one
may name this device's serial number, and a BCAST or HOPLOCAL one what the pacesetter announces. -/
def execControlCellReceived (x : Fin 2) (cell : LinkCell) (s : State) : Host.Outcome State Fault Refusal :=
  .next (
    if !s.linkOn x.val || !s.cellForUs cell || decide ((s.link.port x.val).state < 3) then s
    else if cell.hopLocal then s.takeAhead cell.data
    else if cell.bcast then
      (if le cell.data 0 1 ≠ 0x4B then s.takeAhead cell.data else if assignCell cell.data && decide (le cell.data 8 8 = Config.serial.toNat) && s.ctl.running then s.assignId (le cell.data 16 2) s.tickNat else s)
    else { s with link := s.link.segment x.val cell })

/-- The reassembly of a packet, and the link without it. -/
def Link.takeAssembled (l : Link) (x src seq : Nat) : Option (List Byte × Link) :=
  let is := fun (r : Reassembly) => decide (r.port = x) && decide (r.src = src) && decide (r.seq = seq)
  match l.assembling.find? is with
  | some r => r.bytes.map (fun b => (b, { l with assembling := l.assembling.filter (fun r => !is r) }))
  | none => none

/-- REMOTE_PACKET_REASSEMBLED (R273, R388, R390): the packet waits for its turn on port 2 or 3; while the control processor restarts the link
transport answers BUSY. -/
def execRemotePacketReassembled (x : Fin 2) (src : Fin 1024) (seq : Fin 256) (s : State) : Host.Outcome State Fault Refusal :=
  .next (match s.link.takeAssembled x.val src.val seq.val with
    | none => s
    | some (b, l) =>
      if 0x8000 ≤ le b 2 2 ∨ !s.awake then s
      else
        let o := le b 10 2
        let s1 := { s with
          link := l
          ctl := { s.ctl with inbox := s.ctl.inbox ++ [(2 + x.val, o % 1024, o / 1024 % 8, { bytes := b, now := s.clock.now, tick := s.tickNat })] } }
        if s.ctl.running then s1 else s1.dropInbox)

/-- The request that a returning reply answers (R273, R387, R390, R398): the oldest of its target, opcode, tag and origin port; ACCEPTED_PENDING
answers one that has had no reply. -/
def Link.answered (l : Link) (src : Nat) (b : List Byte) : Option Outstanding :=
  l.outstanding.find? (fun o => decide (o.target = src) && decide (o.opcode = le b 2 2 % 0x8000) && decide (o.req.tag.toNat = le b 4 1) &&
    decide (o.req.port.val = le b 10 2 / 1024 % 8) &&
    !(o.accepted && decide (le b 12 1 = 1)))

/-- REMOTE_REPLY_RECEIVED (R273, R390): the reply enters the FIFO of the port that the packet came from; a late one is discarded. -/
def execRemoteReplyReceived (x : Fin 2) (src : Fin 1024) (seq : Fin 256) (s : State) : Host.Outcome State Fault Refusal :=
  .next (match s.link.takeAssembled x.val src.val seq.val with
    | none => s
    | some (b, l) =>
      if le b 2 2 < 0x8000 then s
      else match l.answered src.val b with
      | none => { s with link := l }
      | some o =>
        let rest := if le b 12 1 = 1 then l.outstanding.map (fun (y : Outstanding) => if y = o then { y with accepted := true } else y) else l.outstanding.erase o
        { s with link := { l with outstanding := rest } }.placeReply o.req.port.val 0 b)

/-- REMOTE_TIMEOUT (R273): no reply has come within REMOTE_TIMEOUT of LINK_CFG. -/
def execRemoteTimeout (seq : Fin 256) (s : State) : Host.Outcome State Fault Refusal :=
  .next (match s.link.outstanding.find? (fun o => decide (o.seq = seq.val) && !o.accepted && decide (o.deadline ≤ s.clock.now)) with
    | none => s
    | some o =>
      { s with link := { s.link with outstanding := s.link.outstanding.erase o } }.reply
        { req := o.req, opcode := o.opcode, now := s.clock.now, tick := s.tickNat } 0x51 0 [])

end Sys2Proof.Machine
end

