-- ==== Sys2Proof/Machine/Boundary.lean ====
section
/-! DEFINITION. The tick boundary, the sprint sample, and the acts of a boundary (R16-R24, R27, R29, R80-R84, R86-R88, R123, R151-R154,
R186, R374, R388, R413, R417, R424, R444-R446). -/
namespace Sys2Proof.Machine

/-- A sink as released (R16); one that no route names reads 0 (R170). -/
def State.sinkWord (s : State) (id : Nat) : StreamWord := tabGet (fun _ => StreamWord.zero) s.rout.sinks id

/-- The output group of R456 of an output: 0 lines, 1 headphones, 2 speakers. -/
def outGroup (o : Nat) : Nat := if o < 16 then 0 else if o < 24 then 1 else 2

/-- The graph's heat ends (R123, R151-R154): each stumble is counted and reported, and is a fault to the pins that watch for it. -/
def State.endHeat (s : State) : State :=
  let late := (s.graph.lateFlows s.clock.now).length
  let s1 := { s with graph := s.graph.closeHeat s.eng }
  if !s.inRun then s
  else if late = 0 then s1
  else { (s1.count 0x28 late).raise 10 with out := s1.out.fault s1.gbyCfg 34 5 }

/-- The core feed sample of an output enters its chain (R24): its clip run and its SUBSTITUTED samples are counted. -/
def State.feedDac (s : State) (o : Nat) : State :=
  let w := s.sinkWord (0x0100 + o)
  let d := s.dacCh o
  let clip := d.clipNow || w.clipped
  let sub := w.substituted || s.conv.substituted.contains (24 + o)
  let l1 := if clip && !d.clipRun then s.log.add (0x6C + 4 * outGroup o) 1 else s.log
  { s with
    conv := { s.conv with dac := tabMod (fun _ => ({} : DacCh)) s.conv.dac o (fun d =>
      { d with feed := (w.int :: d.feed).take 29, clipRun := clip, clipNow := false }) }
    log := if sub then l1.add (0x1CC + 4 * outGroup o) 1 else l1 }

/-- The feeds of the sprint cells (R94). -/
def State.feedCells (s : State) : State :=
  { s with sprint := { s.sprint with cells := (List.range 16).foldl (fun t n => tabMod (fun _ => ({} : Cell)) t n (fun c =>
      { c with feedPrev := c.feedNow, feedNow := (s.sinkWord (0x0A10 + n)).sample })) s.sprint.cells } }

/-- The results of the heat in progress are released to every sink (R16, R24). -/
def State.release (s : State) : State :=
  let taps := if s.inRun then s.graph.meterWords s.clock.now else []
  let s1 := s.endHeat
  let s2 := { s1 with rout := s1.rout.close s1.free s1.clock.now (if s1.inRun then s1.graph.termOut else []) }
  let s3 := ((List.range 28).foldl State.feedDac s2).feedCells
  let s4 := { s3 with ports := s3.portsFeed s3.sinkWord, link := s3.linkFeed s3.sinkWord, rout := s3.rout.meterFeed s3.free taps }
  { s4 with free := s4.free + 4096 }

/-- POWER_ON_S (R456): a second of time outside Rest and Watch, the sequences of R333 and R337 included while the root runs. -/
def State.powerOn (s : State) : State :=
  let on := !s.power.inReset && (!s.asleep || s.clock.rootRunning)
  let l := s.log
  if !on then s
  else if l.subSecond + 1 < 96000 then { s with log := { l with subSecond := l.subSecond + 1 } }
  else { s with log := { (l.add 0x10 1) with subSecond := 0, sinceCommit := l.sinceCommit + 1 } }

/-- A tick passes (R27, R29); while the root runs the phantom port makes its boundary (R51). -/
def State.advance (s : State) : State :=
  { s.powerOn with
  inp := if s.clock.rootRunning then { s.inp with phantom := s.inp.phantom.boundary (s.clock.now + 1) s.offBits } else s.inp
  clock := { s.clock with
    now := s.clock.now + 1
    tick := if s.clock.counting && s.clock.rootRunning then s.clock.tick + 1 else s.clock.tick
    phase := 0 } }

/-- The sources as the boundary latches them (R16, R169, R170), before the high-pass filters. -/
def State.rawSources (s : State) : List (Nat × StreamWord) :=
  (List.range 24).map (fun n => (n, s.captureIn n)) ++
  (List.range 6).flatMap (fun p => (List.range (fmtSlots (s.pFmt p))).map (fun k =>
    (portInStream p k, s.portStream p k))) ++
  ((List.range 512).filter (fun i => eOn (rxEntry (s.rxImage s.tickNat) i))).map (fun i => (0x0400 + i, s.rxStream i)) ++
  (List.range 16).map (fun n => (0x0A00 + n, s.captureTap n)) ++
  [(0x2000, s.wake.stream)] ++ (List.range 8).map (fun k => (0x2001 + k, s.capturePdm k))

/-- The fixed filters of a stream take its sample (R183, R185). -/
def filterSource (free n : Nat) (a : Tab HpfSt × Tab StreamWord) (x : Nat × StreamWord) : Tab HpfSt × Tab StreamWord :=
  if hpfStreams.contains x.1 then
    let r := (tabGet (fun _ => ({} : HpfSt)) a.1 x.1).step free n x.2
    (tabSet (fun _ => {}) a.1 x.1 r.1, tabSet (fun _ => StreamWord.zero) a.2 x.1 r.2)
  else (a.1, tabSet (fun _ => StreamWord.zero) a.2 x.1 x.2)

/-- Port input slots that the slot mask does not enable (R170). -/
def State.maskedSlots (s : State) : List Nat :=
  (List.range 6).flatMap fun p => ((List.range 32).filter (fun k => !(s.port p).maskIn.testBit k)).map (portInStream p)

/-- The input samples are latched (R16, R65, R77): the detectors take theirs, and a quick-settle conversion ends with TICK at a multiple of 64
(R80). A port slot that the mask does not enable reads 0 behind its filters too (R170). -/
def State.latchInputs (s : State) : State :=
  let r := s.rawSources.foldl (filterSource s.free s.clock.now) (s.rout.hpf, [])
  let adc := (List.range 24).foldl (fun t n => tabMod (fun _ => ({} : AdcCh)) t n (fun a =>
    let w := s.captureIn n
    let a1 := { a.detect s n w with sample := w.sample }
    if s.quickMode n && decide (s.tickNat % 64 = 0) then { a1 with quick := a1.quick.restart s.free a1.inReset } else a1)) s.conv.adc
  { s with
    rout := { s.rout with prev := s.rout.cur, cur := s.maskedSlots.foldl (fun t id => tabSet (fun _ => StreamWord.zero) t id StreamWord.zero) r.2, hpf := r.1 }
    conv := { s.conv with adc := adc, substituted := [] }
    free := s.free + 4096 }

/-- What follows the tick beside the audio: references, clocks, foldback, the pump, the guard pins and the taps' marks. -/
def State.follow (s : State) : State :=
  let s1 := s.refSelect.dpllTick
  let s2 := { s1 with synth := s1.steerTick }
  let s3 := { s2 with out := (s2.out.foldTick s2.clock.now).watchPump s2.pumpWanted s2.clock.now }
  { s3.foldEnd.gbyWatch.tapsFollow with free := s3.free + 64 }

/-- The six words of the live status mirror (R374). -/
def State.mirrorWords (s : State) : List Word :=
  [s.tickNat % 2 ^ 32, s.tickNat / 2 ^ 32, s.clockWords.getD 0 0, s.refWords.getD 20 0, s.linkWords.getD 6 0, s.powerWords.getD 0 0].map (fun v => BitVec.ofNat 32 v)

/-- The heat opens (R16, R114, R126, R144). -/
def State.openGraph (s : State) : State :=
  let terms := s.rout.terminals s.free s.clock.now
  let s1 := { s with rout := { s.rout with termIn := terms } }
  let g := s1.graph.applyDue s1.eng
  if s.inRun then
    { s1 with graph := g.openHeat s1.eng (fun i => tabGet (fun _ => StreamWord.zero) terms i), free := s1.free + 4096 }
  else { s1 with graph := g }

/-- A tick opens (R16): its samples are latched, the heat opens, and a snapshot, the status words and the mirror are taken. -/
def State.openTick (s : State) : State :=
  let s1 := s.follow.ringsFound.rxRead.portsOpen
  let s2 := { s1 with wake := s1.wake.tick s1.tickNat }
  let s3 := (if s2.awake then s2.latchInputs.metersConfigure.openGraph else s2).saveSnapshot.latchStatus
  { s3 with
    clock := { s3.clock with opened := true }
    bus := { s3.bus with mirror := s3.mirrorWords } }

/-- A bank swap or an ARM is due at this boundary (R413, R417). -/
def State.swapDue (s : State) : Bool := match s.cfg.armed with | some (_, t) => decide (t ≤ s.tickNat) | none => false

/-- Some gun is due, and some act of this boundary waits. -/
def State.gunDue (s : State) : Bool := s.ports.guns.any (fun g => decide (g.2.1 ≤ s.tickNat)) || s.link.guns.any (fun g => decide (g.tick ≤ s.tickNat))
def State.actsDue (s : State) : Bool :=
  s.swapDue || s.gunDue || (List.range 6).any s.exchangeDue || s.handoverDue || decide (s.dep.injectNext ≠ 0) || s.forceDue

/-- A bank swap acts (R413, R416): the completion carries T, unless a restart has lost it. -/
def State.swapAct (s : State) (p : Pending) (t : Nat) : State :=
  let s1 := (s.exchange false).faultsSwapped
  if p.lost then s1 else s1.accept p.job (leBytes 8 t) 0 t

/-- An ARM acts (R212, R225, R417): the banks are exchanged, and the device is in Run. -/
def State.armAct (s : State) (p : Pending) (t : Nat) : State :=
  let s0 := (s.exchange true).faultsSwapped
  let s1 := { s0 with power := { s0.power with mode := .run, autorun := false } }
  let s2 := (s1.outputsArm.portsArm.markMode).listenUpdate
  if p.lost then s2 else s2.accept p.job (leBytes 8 t) 0 t

/-- What is armed acts at its tick. -/
def State.armedAct (s : State) : State :=
  match s.cfg.armed with
  | some (p, t) =>
    if s.tickNat < t then s
    else match p.kind with
    | .swap => s.swapAct p t
    | _ => if s.inIdle then s.armAct p t else { s with cfg := { s.cfg with armed := none }, graph := { s.graph with held := 0 } }
  | none => s

/-- The acts of a boundary, in order: swap or ARM, guns, port exchanges, handovers, DG_INJECT (R446: after any swap) and forces
(R315). -/
def State.gunsAct (s : State) : State := if s.gunDue then s.gunFire else s
def State.portsAct (s : State) : State := (List.range 6).foldl (fun (s : State) p => if s.exchangeDue p then s.portExchange p else s) s
def State.handoversAct (s : State) : State := if s.handoverDue then s.handoverAct else s
def State.acts (s : State) : State := s.armedAct.gunsAct.portsAct.handoversAct.injectAct.forcesAct

/-- Once no act waits the tick opens. -/
def State.openIfReady (s : State) : State := if s.clock.opened || s.actsDue then s else s.openTick

/-- A tick not yet open makes its acts and opens. -/
def State.settle (s : State) : State := if s.clock.opened then s else s.acts.openTick

/-- The root counter in VCO cycles modulo 32,768 (R27): a sprint sample takes 256 of them. -/
def State.rootCounter (s : State) : Nat := 256 * s.clock.phase % 32768

/-- TICK_BOUNDARY (R16, R27, R29, R388): what waits is executed, the heat's results are released, and the next tick opens, at once or after its
acts. While the root runs a boundary comes where its counter passes 0, after 128 sprint samples. With the root stopped only time passes. -/
def execTickBoundary (s : State) : Host.Outcome State Fault Refusal :=
  let s1 := s.settle.serveAll
  let s2 := (if s1.awake then s1.release else s1).advance
  let s3 := { s2 with clock := { s2.clock with opened := false } }
  .next (
    if !s.clock.rootRunning then s.serveAll.advance
    else if s.rootCounter = 0 ∧ 0 < s.clock.phase then s3.openIfReady else s)

/-- BANK_SWAP_ACT (R413). -/
def execBankSwapAct (s : State) : Host.Outcome State Fault Refusal :=
  let swap := match s.cfg.armed with | some (p, _) => (match p.kind with | .swap => true | _ => false) | none => false
  .next (if s.clock.opened || !s.swapDue || !swap then s else s.armedAct.openIfReady)

/-- PARAM_EVENT_APPLY (R125, R126): a swap due at the tick is made first. -/
def execParamEventApply (s : State) : Host.Outcome State Fault Refusal :=
  let s1 := if s.clock.opened then s else s.armedAct
  .next { s1 with graph := s1.graph.applyDue s1.eng }

/-- ARM_TICK (R417). -/
def execArmTick (s : State) : Host.Outcome State Fault Refusal :=
  let arm := match s.cfg.armed with | some (p, _) => (match p.kind with | .swap => false | _ => true) | none => false
  .next (if s.clock.opened || !s.swapDue || !arm then s else s.armedAct.openIfReady)

/-- GUN_FIRE (R237, R239, R274). -/
def execGunFire (s : State) : Host.Outcome State Fault Refusal :=
  .next (if s.clock.opened || !s.gunDue then s else s.armedAct.gunsAct.openIfReady)

/-- PORT_EXCHANGE (R230). -/
def execPortExchange (p : Fin 6) (s : State) : Host.Outcome State Fault Refusal :=
  let s1 := s.armedAct.gunsAct
  .next (if s.clock.opened || !s1.exchangeDue p.val then s else (s1.portExchange p.val).openIfReady)

/-- HANDOVER_START (R354). -/
def execHandoverStart (s : State) : Host.Outcome State Fault Refusal :=
  .next (if s.clock.opened || !s.handoverDue then s else s.armedAct.gunsAct.portsAct.handoversAct.openIfReady)

/-- ERROR_INJECT (R446): at the boundary that waits for it. -/
def execErrorInject (s : State) : Host.Outcome State Fault Refusal :=
  .next (if s.clock.opened || decide (s.dep.injectNext = 0) then s else s.acts.openIfReady)

/-- One sprint sample of the inputs (R60, R63, R80): `levels` holds the four quantiser levels of each modulator. -/
def State.sampleInputs (s : State) (levels : List (List Int)) : Tab AdcCh :=
  (List.range 24).foldl (fun t n => tabMod (fun _ => ({} : AdcCh)) t n (fun a =>
    let lv := levels.getD n []
    let a1 := a.step s n s.spOrder lv
    if s.quickMode n then { a1 with quick := lv.foldl QuickSettle.feed a1.quick } else a1)) s.conv.adc

/-- One sprint sample of the PDM channels (R83, R84): a bit each at 3.072 MHz. -/
def State.samplePdm (s : State) (pdm : List Bool) : Tab PdmCh :=
  (List.range 8).foldl (fun t k =>
    if s.pdmClock k = .fast ∧ s.clock.phase % 4 = 0 then tabMod (fun _ => ({} : PdmCh)) t k (fun p => p.step (s.pdmBit pdm k)) else t) s.conv.pdm

/-- One sprint sample (R14, R18, R19, R86-R88): a core-lane word crosses the bridge from an input at the last of four and to an output at the
first; the inputs, the cells, and the summing nodes with what the cells gave two samples before. -/
def State.sprintStep (s : State) (levels : List (List Int)) (pdm : List Bool) : State :=
  let s1 := { s with conv := { s.conv with adc := s.sampleInputs levels, pdm := s.samplePdm pdm }, wake := s.wakeSample pdm }
  let c := s1.stepCells
  let s2 := { s1 with sprint := { s1.sprint with cells := c.1, pipe := (c.2 :: s1.sprint.pipe).take 3 } }
  { s2 with
    conv := { s2.conv with
      dac := (List.range 28).foldl (fun t o => tabMod (fun _ => ({} : DacCh)) t o (fun d => d.step s2 o (sat32 (outOf s2.presented o)))) s2.conv.dac
      failing := s2.conv.failing.filter (fun f => f.2 && !(if f.1 < 24 then decide (s.clock.phase % 4 = 3) else decide (s.clock.phase % 4 = 0))) }
    clock := { s2.clock with phase := s2.clock.phase + 1 }
    free := s2.free + 256 }

/-- The audio path runs (R328, R330, R331, R337): in Idle and Run, in a boot once the firmware has started, and in an exit from Watch; never in
RECOVERY. -/
def State.audioPath (s : State) : Bool := s.awake || (decide (s.power.mode = .boot) && s.power.verified) || decide (s.power.mode = .watch)

/-- SPRINT_SAMPLE (R86): 128 to a tick, while the root runs; without an audio path only the root counts. -/
def execSprintSample (levels : List (List Int)) (pdm : List Bool) (s : State) : Host.Outcome State Fault Refusal :=
  let s1 := s.settle
  .next (
    if s.clock.rootRunning && decide (s.clock.phase < 128) then
      (if s.audioPath then s1.sprintStep levels pdm else { s1 with clock := { s1.clock with phase := s1.clock.phase + 1 } })
    else s)

/-- A conversion of MS11 or MS12 against its warning level (R445). -/
def State.warnRead (s : State) (conv : Bool) (v : Int) : State :=
  let cfg := s.dir 0x1B00
  let level : Int := 100 * field cfg (if conv then 8 else 0) 8
  let was := if conv then s.dep.convWarn else s.dep.engineWarn
  let now_ := if was then decide (level - 100 * (field cfg 16 8 : Int) ≤ v) else decide (level ≤ v)
  let s1 := { s with dep := { s.dep with
    engineWarn := if conv then s.dep.engineWarn else now_
    convWarn := if conv then now_ else s.dep.convWarn
    thermSticky := s.dep.thermSticky || now_ } }
  s1.raiseIf (was != now_) 15

/-- A die temperature against TEMP_EXTREMES (R456). -/
def State.extremeRead (s : State) (d : Nat) (v : Int) : State :=
  let x := 1 + (v % 65536).toNat + 65536 * (v % 65536).toNat
  { s with log := { s.log with live := tabMod (fun _ => 0) s.log.live (0x1C0 + 4 * d) (fun a => mergeExtreme a x) } }

/-- The operating range of supply i of MS4 to MS10, in the unit of its channel (R81, R319). -/
def supplyRange (i : Nat) : Int × Int :=
  [(45000, 52500), (17100, 18900), (7200, 8800), (8500, 9500), (17100, 34700), (45000, 52500), (8000, 18000)].getD i (0, 0)

/-- The nominal of IOVDD that lies nearest to a conversion, in mV (R454). -/
def nearestIo (v : Int) : Nat := if v ≤ 21500 then 1800 else if v ≤ 29000 then 2500 else 3300

/-- A supply conversion against its operating range (R454). -/
def State.supplyRead (s : State) (i : Nat) (v : Int) : State :=
  let r := supplyRange i
  let inside := decide (r.1 ≤ v ∧ v ≤ r.2)
  let was := tabGet (fun _ => false) s.log.inRange i
  let l := if was && !inside then s.log.add (0x3C0 + 4 * i) 1 else s.log
  { s with log := { l with
    inRange := tabSet (fun _ => false) l.inRange i inside
    ioNominal := if i = 4 ∧ l.ioNominal = 0 then nearestIo v else l.ioNominal } }

/-- What takes a conversion of a measurement channel (R81, R202, R209-R211, R327, R445, R454). -/
def State.measTaken (s : State) (k : Nat) (v : Int) : State :=
  if k < 4 then s.hpReading k v
  else if k = 10 then (s.supplyRead 6 v).vspkRead v
  else if k < 11 then s.supplyRead (k - 4) v
  else if k = 13 then (s.extremeRead 2 v).foldRead v
  else (s.extremeRead (k - 11) v).warnRead (decide (k = 12)) v

/-- MEAS_CONVERSION_END (R80, R81): the conversion in progress ends at a TICK that is a multiple of 64, 64 ticks after its start, and the next
begins. -/
def execMeasConversionEnd (ms : Fin 14) (value : Int) (s : State) : Host.Outcome State Fault Refusal :=
  let k := ms.val
  let v := sat 24 value
  let due := decide (s.conv.current = some k) && s.clock.rootRunning && decide (s.tickNat % 64 = 0) && decide (s.conv.startAt + 64 ≤ s.clock.now)
  let c := { s.conv with
    meas := tabSet (fun _ => {}) s.conv.meas k { value := v, valid := true, at_ := s.clock.now }
    asked := if k < 4 then s.conv.asked else s.conv.asked.filter (fun a => decide (a ≠ k)) }
  let s1 := { s with conv := c }.measTaken k v
  .next (if due then { s1 with conv := s1.conv.next ((s.dir 0x0480).testBit 8) s.clock.now } else s)

end Sys2Proof.Machine
end

