-- ==== Sys2Proof/Machine/BusTarget.lean ====
section
/-! DEFINITION. Transactions on the SPI and the two-wire bus: mailbox writes, register and reply reads, bus conditions and in-band
attention (chapter 15). -/
namespace Sys2Proof.Machine

/-- The reply to a lost fragment (R365): its opcode and tag where it holds them. -/
def fragmentReply (rev : Nat) (f : List Byte) : List Byte :=
  packet rev false false ((if f.length < 4 then 0 else le f 2 2) % 0x8000 + 0x8000) (if f.length < 5 then 0 else le f 4 1) 0 0 [0x11, 0]

/-- A packet fragment is discarded (R365): PACKET_DISCARDED, one more of DISCARDED, and the BAD_LENGTH reply where it finds room. -/
def State.discardFragment (s : State) (twi : Bool) : State :=
  let p := s.bus.port twi
  let r := fragmentReply p.rev p.fragment
  let room := p.held.isEmpty && decide (p.queued + r.length ≤ 2080)
  let s1 := { s with bus := { s.bus.mod twi (fun p => { p with fragment := [], flags := p.flags ||| 32 }) with discarded := satAdd 16 s.bus.discarded 1 } }
  if p.fragment.isEmpty then s else if room then s1.placeReply (b2n twi) 0 r else s1

/-- The end of a transaction, or its abandonment (R365, R368). -/
def State.endTransaction (s : State) (twi : Bool) : State :=
  (s.discardFragment twi).modBus twi (fun p => { p with phase := .idle, refusing := false, firstPage := none })

/-- The bytes that a packet needs, once its header is there (R365). -/
def wholeLength (f : List Byte) : Nat := 8 + 4 * (le f 1 1 % 2) + le f 6 2 + 4

/-- A byte is refused, and every later one of the transaction (R363, R366, R376). -/
def BusPort.refuse (p : BusPort) : BusPort := { p with refusing := true, lastRefused := true }

/-- A byte joins the packet being assembled; a whole packet waits in the mailbox with its arrival tick (R365, R388). -/
def BusPort.takeByte (p : BusPort) (now tick : Nat) (b : Byte) : BusPort :=
  let f := p.fragment ++ [b]
  let q := { p with lastAcks := p.lastAcks + 1, firstPage := some (p.pointer.toNat / 256) }
  if 8 ≤ f.length ∧ f.length = wholeLength f then { q with fragment := [], mailbox := q.mailbox ++ [{ bytes := f, now := now, tick := tick }] }
  else { q with fragment := f }

/-- A data byte of a write transaction (R363, R365, R366). -/
def State.writeByte (s : State) (twi : Bool) (b : Byte) : State :=
  let p := s.bus.port twi
  let long := decide (8 ≤ p.fragment.length) && decide (1024 < le p.fragment 6 2)
  if p.refusing then s
  else if p.pointer.toNat / 256 ≠ 1 ∨ !s.served then s.modBus twi BusPort.refuse
  else if long ∨ 2080 ≤ p.mailQueued then (s.discardFragment twi).modBus twi BusPort.refuse
  else s.modBus twi (fun p => p.takeByte s.clock.now s.tickNat b)

/-- Held completion replies enter the FIFO as room comes (R387). -/
def BusPort.flush : Nat → BusPort → BusPort
  | 0, p => p
  | n + 1, p =>
    match p.held with
    | r :: rs => if p.queued + r.length ≤ 2080 then BusPort.flush n { p with replies := p.replies ++ [r], held := rs } else p
    | [] => p

/-- The next reply byte, which is removed (R364); 0x00 where there is none. -/
def BusPort.pop (p : BusPort) : BusPort × Byte :=
  match p.replies with
  | (b :: bs) :: rs => (BusPort.flush p.held.length { p with replies := if bs.isEmpty then rs else bs :: rs }, b)
  | _ => (p, 0)

/-- A byte outside the reply page (R364): a field of several bytes is latched whole when its first byte is read. -/
def BusPort.fieldByte (p : BusPort) (f : Nat × List Byte) : BusPort × Byte :=
  let a := p.pointer.toNat
  let q := { p with pointer := p.pointer + 1 }
  if a = f.1 then ({ q with latch := if 1 < f.2.length then some f else none }, f.2.getD 0 0)
  else match p.latch with
    | some (b, bs) => if b = f.1 then (q, bs.getD (a - b) 0) else (q, f.2.getD (a - f.1) 0)
    | none => (q, f.2.getD (a - f.1) 0)

/-- Read one byte of the register window at the pointer (R364, R380, R381). -/
def State.readByte (s : State) (twi : Bool) : State :=
  let p := s.bus.port twi
  let a := p.pointer.toNat
  let f := s.windowField twi a
  let r := if a / 256 = 2 then (if s.power.mode = .boot ∨ !s.ctl.running then (p, 0) else p.pop) else p.fieldByte f
  let s1 := s.modBus twi (fun _ => { r.1 with lastRead := r.1.lastRead ++ [r.2] })
  { s1 with bus := { s1.bus with readSince := s1.bus.readSince || (twi && decide (a / 256 ≠ 2) && decide (f.1 = 0x0011)) } }

/-- Read a run of bytes. -/
def State.readBytes (s : State) (twi : Bool) : Nat → State
  | 0 => s
  | n + 1 => (s.readByte twi).readBytes twi n

/-- A START or a fall of SPI_CSN (R363, R365): a transaction in progress has ended, and its first byte follows. After a general call, a START byte
or an Hs-mode code nothing counts before the next STOP (R362). -/
def State.begins (s : State) (twi : Bool) : State :=
  if (s.bus.port twi).phase = .deaf then s else (s.endTransaction twi).modBus twi (fun p => { p with lastAcks := 0, lastRead := [], addrAck := false })

/-- The pointer takes effect with its second byte, low byte first (R363). -/
def BusPort.point (p : BusPort) (low high : Byte) (next : BusPhase) : BusPort := { p with pointer := high ++ low, latch := none, phase := next }

/-- The address bytes that the two-wire target answers (R360, R361): to write, and, after them in 10-bit mode, to read. -/
def State.addrWrite (s : State) : List Byte :=
  if s.bus.addr7 then leBytes 1 (2 * (s.bus.code % 128)) else leBytes 1 (0xF0 + 2 * (s.bus.code / 256)) ++ leBytes 1 (s.bus.code % 256)
def State.addrRead (s : State) : List Byte := leBytes 1 (if s.bus.addr7 then 2 * (s.bus.code % 128) + 1 else 0xF1 + 2 * (s.bus.code / 256))

/-- The general call, START byte and Hs-mode codes (R362). -/
def deafByte (b : Byte) : Bool := decide (b.toNat < 2 ∨ b.toNat / 8 = 1)

/-- A read address that is the device's (R364, R366): it is not acknowledged while the pointer stands in the reply page and REPLY_READY is 0. -/
def State.readAddressed (s : State) : State :=
  if s.bus.twi.pointer.toNat / 256 = 2 ∧ s.replyReady true = 0 then s.modBus true (fun p => { p with phase := .ignored })
  else s.modBus true (fun p => { p with phase := .reading, addrAck := true })

/-- The first byte after a START (R361, R362, R364, R366). -/
def State.addressByte (s : State) (b : Byte) : State :=
  let s1 := s.modBus true (fun p => { p with lastRefused := false })
  if deafByte b then s1.modBus true (fun p => { p with phase := .deaf, addressed := false })
  else if s.bus.addrReserved then s1.modBus true (fun p => { p with phase := .ignored })
  else if s.addrWrite.head? = some b then s1.modBus true (fun p => { p with phase := if s.bus.addr7 then .pointer false else .address, addrAck := s.bus.addr7 })
  else if s.addrRead = [b] ∧ (s.bus.addr7 ∨ s.bus.twi.addressed) then s1.readAddressed
  else s1.modBus true (fun p => { p with phase := .ignored, addressed := false })

/-- A byte that the controller sends on the two-wire bus (R361-R366). -/
def State.twiByte (s : State) (b : Byte) : State :=
  match s.bus.twi.phase with
  | .idle => s.addressByte b
  | .address =>
    let own := decide (b.toNat = s.bus.code % 256)
    s.modBus true (fun p => { p with phase := if own then .pointer false else .ignored, addressed := own, addrAck := own })
  | .pointer r => s.modBus true (fun p => { p with phase := .pointerHigh r b })
  | .pointerHigh _ lo => s.modBus true (fun p => p.point lo b .data)
  | .data => s.writeByte true b
  | _ => s

/-- SPI_MISO carries a byte. -/
def State.miso (s : State) (b : Byte) : State := s.modBus false (fun p => { p with lastRead := p.lastRead ++ [b] })

/-- The instruction (R375-R377): the status byte answers it; any other than WRITE and READ is a frame error, and what follows is ignored. -/
def State.spiInstruction (s : State) (b : Byte) : State :=
  let ok := decide (b = 2 ∨ b = 3)
  let s1 := (s.miso s.spiStatus).modBus false (fun p =>
    { p with lastRefused := false, phase := if ok then .pointer (decide (b = 3)) else .ignored, flags := if ok then p.flags else p.flags ||| 256 })
  if ok then s1 else s1.raise 16

/-- A byte time of an SPI transaction (R375): what SPI_MOSI carries, and what answers it. -/
def State.spiByte (s : State) (b : Byte) : State :=
  match s.bus.spi.phase with
  | .idle => s.spiInstruction b
  | .pointer r => (s.miso 0).modBus false (fun p => { p with phase := .pointerHigh r b })
  | .pointerHigh r lo => (s.miso 0).modBus false (fun p => p.point lo b (if r then .turn else .data))
  | .turn => (s.miso 0).modBus false (fun p => { p with phase := .reading })
  | .data => (s.writeByte false b).miso 0
  | .reading => s.readByte false
  | _ => s

/-- Bytes that the controller sends. -/
def State.sends (s : State) (twi : Bool) (l : List Byte) : State := if twi then l.foldl State.twiByte s else l.foldl State.spiByte s

/-- Bytes that the controller clocks to read: on the SPI SPI_MOSI carries 0 (R375). -/
def State.clocks (s : State) (twi : Bool) (n : Nat) : State :=
  if twi then (if s.bus.twi.phase = .reading then s.readBytes true n else s) else s.sends false (List.replicate n 0)

/-- A transaction in progress goes on: the record of the bus starts anew. -/
def State.goesOn (s : State) (twi : Bool) : State := s.modBus twi (fun p => { p with lastAcks := 0, lastRead := [] })

/-- MAILBOX_WRITE (R361-R366, R375): with a head a transaction begins, and its bytes are those of the head, address or instruction and pointer, and
the data; without one the bytes go on in the transaction in progress. -/
def execMailboxWrite (twi : Bool) (head : Option (List Byte)) (bytes : List Byte) (s : State) : Host.Outcome State Fault Refusal :=
  .next (
    if !s.busAlive then s
    else match head with
    | some h => (s.begins twi).sends twi (h ++ bytes)
    | none => if (s.bus.port twi).active then (s.goesOn twi).sends twi bytes else s)

/-- What leads into a read (R364, R375). -/
def State.reads (s : State) (twi : Bool) (h : ReadHead) : State :=
  if twi then
    let s1 := if h.write.isEmpty then s else (s.begins true).sends true h.write
    (s1.begins true).sends true h.addr
  else (s.begins false).sends false (h.write ++ h.addr)

/-- REPLY_PAGE_READ (R361, R362, R364, R366, R375): `len` bytes of a read transaction, which begins with a head and otherwise goes on. -/
def execReplyPageRead (twi : Bool) (head : Option ReadHead) (len : Nat) (s : State) : Host.Outcome State Fault Refusal :=
  .next (
    if !s.busAlive then s
    else match head with
    | some h => (s.reads twi h).clocks twi len
    | none => if (s.bus.port twi).active then (s.goesOn twi).clocks twi len else s)

/-- The head of a read at a pointer (R360, R361, R364, R375). -/
def State.readHead (s : State) (twi : Bool) (pointer : Nat) : ReadHead :=
  if twi then { write := s.addrWrite ++ leBytes 2 pointer, addr := s.addrRead } else { addr := 3 :: leBytes 2 pointer ++ [0] }

/-- ATTN_CAUSE_READ (R371, R378, R380): a read of the four bytes of ATTN_CAUSE. -/
def execAttnCauseRead (twi : Bool) (s : State) : Host.Outcome State Fault Refusal := execReplyPageRead twi (some (s.readHead twi 0x0011)) 4 s

/-- A STOP or a rise of SPI_CSN (R362, R364, R365): the transaction has ended, and nothing is addressed. -/
def State.stops (s : State) (twi : Bool) : State := (s.endTransaction twi).modBus twi (fun p => { p with addressed := false })

/-- PACKET_FRAGMENT_DISCARD (R365): a STOP or a rise of SPI_CSN ends the transaction; a repeated START begins the next one. -/
def execPacketFragmentDiscard (twi : Bool) (s : State) : Host.Outcome State Fault Refusal :=
  .next (if s.busAlive then s.stops twi else s)

/-- A sticky bit of the two-wire BUS_FLAGS (R373). -/
def State.flagTwi (s : State) (k : Nat) : State := s.modBus true (fun p => { p with flags := p.flags ||| BitVec.ofNat 16 (2 ^ k) })

/-- RSTART_AT_ACK (R362, R367): the byte is not committed, and the fragment is discarded. -/
def execRstartAtAck (s : State) : Host.Outcome State Fault Refusal :=
  let s1 := (s.endTransaction true).flagTwi 4
  .next (if s.busAlive ∧ s.bus.twi.phase ≠ .deaf then { s1 with bus := { s1.bus with rstarts := satAdd 16 s1.bus.rstarts 1 } } else s)

/-- BUS_ERROR (R368). -/
def execBusError (s : State) : Host.Outcome State Fault Refusal :=
  let s1 := ((s.stops true).flagTwi 3).raise 16
  .next (if s.busAlive then { s1 with bus := { s1.bus with busErrors := satAdd 16 s1.bus.busErrors 1 } } else s)

/-- A timeout of R369: `held` says that the target held SDA low itself, so it releases it. -/
def State.busTimeout (s : State) (k : Nat) (held : Bool) : State :=
  let s1 := ((s.stops true).flagTwi k).raise 16
  let s2 := if held then s1.flagTwi 2 else s1
  if s.busAlive then { s2 with bus := { s2.bus with timeouts := satAdd 16 s2.bus.timeouts 1 } } else s

/-- SCL_TIMEOUT and SDA_TIMEOUT (R369). -/
def execSclTimeout (held : Bool) (s : State) : Host.Outcome State Fault Refusal := .next (s.busTimeout 0 held)
def execSdaTimeout (held : Bool) (s : State) : Host.Outcome State Fault Refusal := .next (s.busTimeout 1 held)

/-- SPI_FRAME_ERROR (R376, R377): the last byte of the transaction in progress is cut short, or a transaction of its own has a wrong instruction and
discards no byte; the transaction ends. -/
def execSpiFrameError (s : State) : Host.Outcome State Fault Refusal :=
  let s1 := (s.stops false).modBus false (fun p => { p with flags := p.flags ||| 256, lastRefused := p.lastRefused && s.bus.spi.active })
  .next (if s.busAlive then s1.raise 16 else s)

/-- INBAND_PULSE (R380): a due pulse is completed on an idle bus. -/
def execInbandPulse (s : State) : Host.Outcome State Fault Refusal :=
  .next (if s.inbandDue && s.bus.twi.fragment.isEmpty then
    { s with bus := { s.bus with
      pulseDue := false
      lastPulse := some s.clock.now
      readSince := false
      pulses := satAdd 16 s.bus.pulses 1
      twi := { s.bus.twi with phase := .idle, addressed := false } } }
  else s)

/-- INBAND_PULSE_ABORT (R380): SCL fell in the pulse; it is still due. -/
def execInbandPulseAbort (s : State) : Host.Outcome State Fault Refusal :=
  .next (if s.inbandDue then { s with bus := { s.bus with pulseDue := true } } else s)

end Sys2Proof.Machine
end

