-- ==== Sys2Proof/Machine/Detector.lean ====
section
/-! DEFINITION. The two stages of the wake detector and their event records (R349-R352). -/
namespace Sys2Proof.Machine

/-- The sum of squares of a frame of 256 wake samples (R349). -/
def frameEnergy (l : List Int) : Nat := (l.map (fun x => x.natAbs * x.natAbs)).foldl (· + ·) 0

/-- E of a frame with sum s is at least F + d dB, F being the E of sum p risen for n frames of 16 ms at 1 dB/s: the comparison of
10·log10 s with 10·log10 p + 0.016·n + d, exact as powers of 1,250 (R349). -/
def atLeastDb (s p n : Nat) (d : Int) : Bool :=
  let k : Int := 2 * n + 125 * d
  decide ((p ^ 250) ^ 5 * 10 ^ k.toNat ≤ (s ^ 250) ^ 5 * 10 ^ (-k).toNat)

/-- E of a frame is at least −a dBFS (R349): E = 10·log10 (2·s / (256·2^46)). -/
def aboveAbs (s a : Nat) : Bool := decide ((256 * 2 ^ 46) ^ 10 ≤ (2 * s) ^ 10 * 10 ^ a)

/-- The mode code of an event record (R358). -/
def State.recMode (s : State) : Nat :=
  match s.power.mode with
  | .watch => if s.power.exiting.isSome then 1 else 0
  | .run => 3
  | _ => 2

/-- The mode changed between the captures of two samples (R352). -/
def Wake.lateBetween (w : Wake) (start end_ : BitVec 32) : Bool :=
  w.modeMarks.any (fun m => decide (0 < (m - start).toInt) && decide (0 ≤ (end_ - m).toInt))

/-- A wake event (R352): its record, ATTN_CAUSE bit 9 and the log; in Watch the kind that WAKE_ON names wakes the device. -/
def State.wakeEvent (s : State) (start end_ : BitVec 32) (template distance : Nat) : State :=
  let w := s.wake
  let r : WakeRec := { start := start, end_ := end_, seq := (w.seq + 1) % 256, template := template, late := w.lateBetween start end_,
                       modeEnd := s.recMode, distance := distance }
  let s1 := { s.raise 9 with
    wake := { w with records := (r :: w.records).take 8, seq := (w.seq + 1) % 256 }
    log := s.log.add 0xF4 1 }
  if s1.wakeable true && (decide (template = 7) = s.wakeOnOnset) then s1.wakeUp { code := 5 } else s1

/-- Fields of WK_DET (R357). -/
def State.onsetFrames (s : State) : Nat := field (s.dir 0x1801) 1 3
def State.onsetDb (s : State) : Nat := field (s.dir 0x1801) 8 8
def State.absMin (s : State) : Nat := field (s.dir 0x1801) 16 8

/-- Stage 1 holds its floor while CLK_SETTLE of the listening clock runs (R345). -/
def State.floorHeld (s : State) : Bool := decide (s.wkSource < 8) && (s.wake.settle (s.wkSource / 4)).isSome

/-- Stage 1 on the latest whole frame, which ends before index `e` (R349, R350): the floor, the onset and the quiet frames of an episode. -/
def State.stage1 (s : State) : State :=
  let w := s.wake
  let past := w.widx.toNat % 256
  let e := w.widx - BitVec.ofNat 32 past
  let f := (w.ring.drop past).take 256
  let p := frameEnergy f
  if !w.listening || decide (f.length < 256) || decide (e = w.frameDone) then s
  else match w.floor with
    | none => { s with wake := { w with floor := some (p, 0), framesOver := 0, frameDone := e } }
    | some (q, n) =>
      let loud := atLeastDb p q n s.onsetDb && aboveAbs p s.absMin
      let count := if loud then w.framesOver + 1 else 0
      let floor := if s.floorHeld then (q, n) else if atLeastDb p q n 0 then (q, n + 1) else (p, 0)
      let quiet := !atLeastDb p q n ((s.onsetDb : Int) - 6)
      let ep := w.episode.map (fun x => { x with quiet := if quiet then x.quiet + 1 else 0 })
      let avail := min w.ring.length (past + 256 * s.onsetFrames + 1024)
      let start := w.widx - BitVec.ofNat 32 avail
      let onset := loud && decide (count = s.onsetFrames)
      let fresh : Episode := { onset := start, slots := (List.range 4).filter w.ready, quiet := 0 }
      let w1 := { w with
        floor := some floor
        framesOver := min count 8
        frameDone := e
        episode := if onset && ep.isNone then some fresh else ep }
      let s1 := { s with wake := w1 }
      if onset && s.wakeOnOnset then s1.wakeEvent start (e - 1) 7 0xFFFF else s1

/-- WAKE_FRAME_END (R343, R347-R349): the bits of the listening source's data pin in Watch since the last one, falling and rising edge by turns at
768 kHz; with the root running SPRINT_SAMPLE feeds the chain. -/
def execWakeFrameEnd (bits : List (Bool × Bool)) (s : State) : Host.Outcome State Fault Refusal :=
  let fed := s.wake.listening && !s.clock.rootRunning
  let s1 := if fed then
      bits.foldl (fun (s : State) b => { s with wake := s.wake.slowBit s.free (s.watchBit b), free := s.free + 1 }.stage1) s
    else s
  .next s1.stage1

/-- Frames from the onset start that the ring holds by now, at most 128 (R350). -/
def Wake.episodeFrames (w : Wake) (x : Episode) : Nat := min 128 ((w.widx - x.onset).toNat / 256)

/-- FRAMES, THRESHOLD and the level of band b in frame j of a template (R351). -/
def Template.frames (t : Template) : Nat := ((t.byte 0).getD 0).toNat
def Template.threshold (t : Template) : Nat := ((t.byte 2).getD 0).toNat + 256 * ((t.byte 3).getD 0).toNat
def Template.level (t : Template) (j b : Nat) : Int := ((t.byte (8 + 16 * j + b)).getD 0).toInt

/-- A level's difference from the mean of the 16, given 16-fold in 2^-16 of 0.01 dB, in steps of 0.5 dB within ±63.5 dB (R350); which way
it is quantised the manual leaves open (log entry 66). -/
def halfDb (v : Int) : Int :=
  max (-127) (min 127 (v / 52428800 + if v % 52428800 ≠ 0 ∧ Config.realUp 6 [v] then 1 else 0))

/-- The 16 band levels of the frame that ends the samples from the onset start, newest first (R350). -/
def frameLevels (l : List Int) : List Int :=
  let v := (List.range 16).map (fun b => levelOf true (Config.bandEnergy b l))
  v.map (fun x => halfDb (16 * x - v.foldl (· + ·) 0))

/-- 16 times the distance of a frame to frame j of a template, in 0.5 dB (R350). -/
def Template.distance (t : Template) (levels : List Int) (j : Nat) : Nat :=
  ((List.range 16).map (fun b => (levels.getD b 0 - t.level j b).natAbs)).foldl (· + ·) 0

/-- The lowest sum of a warping path up to each frame of the template, at one frame of the episode, from those at the frames one and two
before it and the distances of this frame and the one before (R350): a path goes on by one frame in each, or by two in one of them and
one in the other. Whether such a step counts the pair it passes over is free (Config.warpCounts, log entry 66). -/
def warpRow (cost before : List Nat) (p1 p2 : List (Option Nat)) : List (Option Nat) :=
  (List.range cost.length).map fun j =>
    let at_ := fun (l : List (Option Nat)) (k : Nat) => if k ≤ j then l.getD (j - k) none else none
    let extra := fun (b : Bool) (l : List Nat) (k : Nat) => if Config.warpCounts b then l.getD (j - k) 0 else 0
    let steps := [at_ p1 1, (at_ p2 1).map (· + extra true before 0), (at_ p1 2).map (· + extra false cost 1)].filterMap id
    match steps with
    | [] => none
    | a :: l => some (l.foldl min a + cost.getD j 0)

/-- The sums of the paths that reach a template's last frame, at each frame of the episode from one whose predecessors are given (R350). -/
def warpEnds : List (List Nat) → List Nat → List (Option Nat) → List (Option Nat) → List (Option Nat)
  | [], _, _, _ => []
  | cost :: rest, before, p1, p2 =>
    let row := warpRow cost before p1 p2
    row.getLastD none :: warpEnds rest cost row p1

/-- The same from the episode's first frame, which a path aligns with the template's first (R350). -/
def warped : List (List Nat) → List (Option Nat)
  | [] => []
  | cost :: rest =>
    let row := (List.range cost.length).map (fun j => if j = 0 then cost.head? else none)
    row.getLastD none :: warpEnds rest cost row []

/-- The band levels of an episode's frames that the ring holds, oldest first (R350). -/
def Wake.episodeLevels (w : Wake) (x : Episode) : List (List Int) :=
  let n := (w.widx - x.onset).toNat
  (List.range (w.episodeFrames x)).map fun i => frameLevels ((w.ring.drop (n - 256 * (i + 1))).take (256 * (i + 1)))

/-- The sums of template k's paths at the frames of an episode; a path of sum c matches where its D, 50·c / (16·FRAMES), is within
THRESHOLD (R350). -/
def Wake.template (w : Wake) (k : Nat) : Template := tabGet (fun _ => {}) w.templates k
def Wake.paths (w : Wake) (levels : List (List Int)) (k : Nat) : List (Option Nat) :=
  warped (levels.map (fun l => (List.range (w.template k).frames).map ((w.template k).distance l)))
def Wake.within (w : Wake) (k c : Nat) : Bool := decide (50 * c ≤ 16 * (w.template k).frames * (w.template k).threshold)

/-- The paths of the slots that take part in an episode, and the slots that match at its frame i with their sums (R350). -/
def Wake.pathsOf (w : Wake) (x : Episode) : List (Nat × List (Option Nat)) :=
  (x.slots.filter w.ready).map (fun k => (k, w.paths (w.episodeLevels x) k))
def Wake.matchAt (w : Wake) (paths : List (Nat × List (Option Nat))) (i : Nat) : List (Nat × Nat) :=
  paths.filterMap fun p => ((p.2.getD i none).filter (w.within p.1)).map (fun c => (p.1, c))

/-- Of two slots that match at one frame the one of the lower D; the first when D is equal (R350). -/
def Wake.nearer (w : Wake) (b p : Nat × Nat) : Nat × Nat :=
  if p.2 * (w.template b.1).frames < b.2 * (w.template p.1).frames then p else b

/-- The match of an episode, if its frames so far hold one (R350): the first frame at which a path has D within THRESHOLD, and of the slots
that match there the one of the lowest D, then of the lowest index. The frame, the slot and the sum of its path. -/
def Wake.found (w : Wake) (x : Episode) : Option (Nat × Nat × Nat) :=
  let paths := w.pathsOf x
  (List.range (w.episodeFrames x)).findSome? fun i =>
    match w.matchAt paths i with
    | [] => none
    | a :: rest => some (i, rest.foldl w.nearer a)

/-- STAGE2_MATCH (R350, R352): the record names the match's last sample, its slot and D. -/
def execStage2Match (s : State) : Host.Outcome State Fault Refusal :=
  .next (match s.wake.episode with
    | some x =>
      (match s.wake.found x with
       | some (i, k, c) =>
         { s with
           wake := { s.wake with episode := none }
           free := s.free + 1 }.wakeEvent x.onset (x.onset + BitVec.ofNat 32 (256 * (i + 1)) - 1) k
             (looseQuot s.free (50 * c) (16 * (s.wake.template k).frames)).toNat
       | none => s)
    | none => s)

/-- STAGE2_END (R350): after 128 frames, or 20 quiet ones, without a match. -/
def execStage2End (s : State) : Host.Outcome State Fault Refusal :=
  .next (match s.wake.episode with
    | some x =>
      if (128 ≤ s.wake.episodeFrames x ∨ 20 ≤ x.quiet) ∧ (s.wake.found x).isNone then
        { s with wake := { s.wake with episode := none, rejected := satAdd 16 s.wake.rejected 1 } }
      else s
    | none => s)

end Sys2Proof.Machine
end

