-- ==== Sys2Proof/Machine/Dispatch.lean ====
section
/-! DEFINITION. Which meaning each command has: one arm per constructor of Instr. -/
namespace Sys2Proof.Machine

/-- The effect of a command on everything but the queue. -/
def exec (i : Instr) (s : State) : Host.Outcome State Fault Refusal :=
  match i with
  | .tickBoundary => Sys2Proof.Machine.execTickBoundary s
  | .paramEventApply => Sys2Proof.Machine.execParamEventApply s
  | .nodeFiringComplete runner cycle => Sys2Proof.Machine.execNodeFiringComplete runner cycle s
  | .sprintSample levels pdm => Sys2Proof.Machine.execSprintSample levels pdm s
  | .sprintCrossfadeEnd cell => Sys2Proof.Machine.execSprintCrossfadeEnd cell s
  | .converterBridgeParityError ch core => Sys2Proof.Machine.execConverterBridgeParityError ch core s
  | .powerBridgeParityError spk => Sys2Proof.Machine.execPowerBridgeParityError spk s
  | .modulatorOverload ch limit => Sys2Proof.Machine.execModulatorOverload ch limit s
  | .modulatorResetEnd ch => Sys2Proof.Machine.execModulatorResetEnd ch s
  | .unsettledEnd ch => Sys2Proof.Machine.execUnsettledEnd ch s
  | .quickSettleConversionEnd ch => Sys2Proof.Machine.execQuickSettleConversionEnd ch s
  | .measConversionEnd ms value => Sys2Proof.Machine.execMeasConversionEnd ms value s
  | .inputGainZeroCrossing ch => Sys2Proof.Machine.execInputGainZeroCrossing ch s
  | .inputGainZcTimeout ch => Sys2Proof.Machine.execInputGainZcTimeout ch s
  | .inputMuteCurveEnd ch => Sys2Proof.Machine.execInputMuteCurveEnd ch s
  | .analogSettleEnd ch => Sys2Proof.Machine.execAnalogSettleEnd ch s
  | .phantomFrame => Sys2Proof.Machine.execPhantomFrame s
  | .phantomRampEnd ch => Sys2Proof.Machine.execPhantomRampEnd ch s
  | .phantomDischargeEnd ch => Sys2Proof.Machine.execPhantomDischargeEnd ch s
  | .inputJackPinChange pin level => Sys2Proof.Machine.execInputJackPinChange pin level s
  | .inputJackDebounceEnd pin => Sys2Proof.Machine.execInputJackDebounceEnd pin s
  | .insertSettleEnd pin => Sys2Proof.Machine.execInsertSettleEnd pin s
  | .routeCrossfadeEnd index => Sys2Proof.Machine.execRouteCrossfadeEnd index s
  | .routeGainZeroCrossing index => Sys2Proof.Machine.execRouteGainZeroCrossing index s
  | .routeGainZcTimeout index => Sys2Proof.Machine.execRouteGainZcTimeout index s
  | .gainRampEnd index => Sys2Proof.Machine.execGainRampEnd index s
  | .busScaleRampEnd index => Sys2Proof.Machine.execBusScaleRampEnd index s
  | .hpfCrossfadeEnd index => Sys2Proof.Machine.execHpfCrossfadeEnd index s
  | .meterUpdate => Sys2Proof.Machine.execMeterUpdate s
  | .outputCurveEnd o => Sys2Proof.Machine.execOutputCurveEnd o s
  | .cmBiasRampEnd => Sys2Proof.Machine.execCmBiasRampEnd s
  | .lineBufferConnect l => Sys2Proof.Machine.execLineBufferConnect l s
  | .lineOffsetCalEnd l => Sys2Proof.Machine.execLineOffsetCalEnd l s
  | .chargePumpReady => Sys2Proof.Machine.execChargePumpReady s
  | .chargePumpStartTimeout => Sys2Proof.Machine.execChargePumpStartTimeout s
  | .chargePumpRetry => Sys2Proof.Machine.execChargePumpRetry s
  | .chargePumpIdleStop => Sys2Proof.Machine.execChargePumpIdleStop s
  | .hpOvercurrent h => Sys2Proof.Machine.execHpOvercurrent h s
  | .hpOcRemeasure h => Sys2Proof.Machine.execHpOcRemeasure h s
  | .hpJackPinChange pin level => Sys2Proof.Machine.execHpJackPinChange pin level s
  | .hpJackDebounceEnd pin => Sys2Proof.Machine.execHpJackDebounceEnd pin s
  | .hpTestCurrentUp h => Sys2Proof.Machine.execHpTestCurrentUp h s
  | .hpTestCurrentDown h => Sys2Proof.Machine.execHpTestCurrentDown h s
  | .hpGlitchTimeout pin => Sys2Proof.Machine.execHpGlitchTimeout pin s
  | .spkPrechargeEnd spk => Sys2Proof.Machine.execSpkPrechargeEnd spk s
  | .spkOvercurrent spk => Sys2Proof.Machine.execSpkOvercurrent spk s
  | .spkDcTrip spk => Sys2Proof.Machine.execSpkDcTrip spk s
  | .spkUndervoltage => Sys2Proof.Machine.execSpkUndervoltage s
  | .spkOvervoltage => Sys2Proof.Machine.execSpkOvervoltage s
  | .spkThermalTrip => Sys2Proof.Machine.execSpkThermalTrip s
  | .spkRetry spk => Sys2Proof.Machine.execSpkRetry spk s
  | .vspkDecouplingConnect => Sys2Proof.Machine.execVspkDecouplingConnect s
  | .modeMuteEnd => Sys2Proof.Machine.execModeMuteEnd s
  | .lastLapSpeakerStop => Sys2Proof.Machine.execLastLapSpeakerStop s
  | .lastLapClear => Sys2Proof.Machine.execLastLapClear s
  | .gbyHealthLoss g => Sys2Proof.Machine.execGbyHealthLoss g s
  | .gbyPremuteEnd g => Sys2Proof.Machine.execGbyPremuteEnd g s
  | .gbyRestore g => Sys2Proof.Machine.execGbyRestore g s
  | .gbySettleEnd g => Sys2Proof.Machine.execGbySettleEnd g s
  | .portFrameStart p frame => Sys2Proof.Machine.execPortFrameStart p frame s
  | .portExchange p => Sys2Proof.Machine.execPortExchange p s
  | .portStopped p => Sys2Proof.Machine.execPortStopped p s
  | .rateReport => Sys2Proof.Machine.execRateReport s
  | .asrcLock p => Sys2Proof.Machine.execAsrcLock p s
  | .gunFire => Sys2Proof.Machine.execGunFire s
  | .startNEdge => Sys2Proof.Machine.execStartNEdge s
  | .maskTakeEffect p => Sys2Proof.Machine.execMaskTakeEffect p s
  | .linkSignalDetect x present => Sys2Proof.Machine.execLinkSignalDetect x present s
  | .linkFrameLock x => Sys2Proof.Machine.execLinkFrameLock x s
  | .linkTrainingDone x info => Sys2Proof.Machine.execLinkTrainingDone x info s
  | .linkJoinAlign join => Sys2Proof.Machine.execLinkJoinAlign join s
  | .linkFrameReceived x frame time => Sys2Proof.Machine.execLinkFrameReceived x frame time s
  | .linkFrameLaunch x => Sys2Proof.Machine.execLinkFrameLaunch x s
  | .linkRetime x => Sys2Proof.Machine.execLinkRetime x s
  | .linkBreak x => Sys2Proof.Machine.execLinkBreak x s
  | .linkAnnouncement => Sys2Proof.Machine.execLinkAnnouncement s
  | .announcementReceived x ann => Sys2Proof.Machine.execAnnouncementReceived x ann s
  | .announcementDrop id => Sys2Proof.Machine.execAnnouncementDrop id s
  | .ringFormation => Sys2Proof.Machine.execRingFormation s
  | .linkRepairReturn x => Sys2Proof.Machine.execLinkRepairReturn x s
  | .linkAlignedChange gained => Sys2Proof.Machine.execLinkAlignedChange gained s
  | .linkOffsetChange => Sys2Proof.Machine.execLinkOffsetChange s
  | .controlCellReceived x cell => Sys2Proof.Machine.execControlCellReceived x cell s
  | .remotePacketReassembled x src seq => Sys2Proof.Machine.execRemotePacketReassembled x src seq s
  | .remoteReplyReceived x src seq => Sys2Proof.Machine.execRemoteReplyReceived x src seq s
  | .remoteTimeout seq => Sys2Proof.Machine.execRemoteTimeout seq s
  | .remoteForward q target opcode => Sys2Proof.Machine.execRemoteForward q target opcode s
  | .xoLoss => Sys2Proof.Machine.execXoLoss s
  | .xoRecover => Sys2Proof.Machine.execXoRecover s
  | .analogLockSet => Sys2Proof.Machine.execAnalogLockSet s
  | .lockDeclare errs => Sys2Proof.Machine.execLockDeclare errs s
  | .lockLoss errs => Sys2Proof.Machine.execLockLoss errs s
  | .steerSlewStart => Sys2Proof.Machine.execSteerSlewStart s
  | .steerSlewEnd => Sys2Proof.Machine.execSteerSlewEnd s
  | .clockOutputGate o => Sys2Proof.Machine.execClockOutputGate o s
  | .clockOutputResume o => Sys2Proof.Machine.execClockOutputResume o s
  | .refBeatMissed src => Sys2Proof.Machine.execRefBeatMissed src s
  | .refSignalSeen src => Sys2Proof.Machine.execRefSignalSeen src s
  | .refFreqReport src ppb => Sys2Proof.Machine.execRefFreqReport src ppb s
  | .acceptTimeEnd src => Sys2Proof.Machine.execAcceptTimeEnd src s
  | .wtrEnd src => Sys2Proof.Machine.execWtrEnd src s
  | .handoffMeasureDone beats pulse => Sys2Proof.Machine.execHandoffMeasureDone beats pulse s
  | .handoffCapture => Sys2Proof.Machine.execHandoffCapture s
  | .holdoverHistoryRecord => Sys2Proof.Machine.execHoldoverHistoryRecord s
  | .holdoverExpire => Sys2Proof.Machine.execHoldoverExpire s
  | .forceAct => Sys2Proof.Machine.execForceAct s
  | .supplyPorAssert supply => Sys2Proof.Machine.execSupplyPorAssert supply s
  | .supplyPorRelease supply straps => Sys2Proof.Machine.execSupplyPorRelease supply straps s
  | .resetNLow => Sys2Proof.Machine.execResetNLow s
  | .resetNRise straps => Sys2Proof.Machine.execResetNRise straps s
  | .firmwareVerify => Sys2Proof.Machine.execFirmwareVerify s
  | .bootIdleReached => Sys2Proof.Machine.execBootIdleReached s
  | .autorun => Sys2Proof.Machine.execAutorun s
  | .biasRampDownEnd => Sys2Proof.Machine.execBiasRampDownEnd s
  | .sessionsCloseAtEntry => Sys2Proof.Machine.execSessionsCloseAtEntry s
  | .rootStop => Sys2Proof.Machine.execRootStop s
  | .wakeN => Sys2Proof.Machine.execWakeN s
  | .jackWake pin level => Sys2Proof.Machine.execJackWake pin level s
  | .restTimer => Sys2Proof.Machine.execRestTimer s
  | .busWake => Sys2Proof.Machine.execBusWake s
  | .exitComplete => Sys2Proof.Machine.execExitComplete s
  | .powerFailWarning dip => Sys2Proof.Machine.execPowerFailWarning dip s
  | .powerFailClear => Sys2Proof.Machine.execPowerFailClear s
  | .mramWriteResume => Sys2Proof.Machine.execMramWriteResume s
  | .pdmClockSwitch c => Sys2Proof.Machine.execPdmClockSwitch c s
  | .pdmClkSettleEnd c => Sys2Proof.Machine.execPdmClkSettleEnd c s
  | .wakeFrameEnd bits => Sys2Proof.Machine.execWakeFrameEnd bits s
  | .stage2Match => Sys2Proof.Machine.execStage2Match s
  | .stage2End => Sys2Proof.Machine.execStage2End s
  | .handoverStart => Sys2Proof.Machine.execHandoverStart s
  | .handoverCaughtUp => Sys2Proof.Machine.execHandoverCaughtUp s
  | .mailboxWrite twi head bytes => Sys2Proof.Machine.execMailboxWrite twi head bytes s
  | .replyPageRead twi head len => Sys2Proof.Machine.execReplyPageRead twi head len s
  | .packetFragmentDiscard twi => Sys2Proof.Machine.execPacketFragmentDiscard twi s
  | .rstartAtAck => Sys2Proof.Machine.execRstartAtAck s
  | .busError => Sys2Proof.Machine.execBusError s
  | .sclTimeout held => Sys2Proof.Machine.execSclTimeout held s
  | .sdaTimeout held => Sys2Proof.Machine.execSdaTimeout held s
  | .spiFrameError => Sys2Proof.Machine.execSpiFrameError s
  | .inbandPulse => Sys2Proof.Machine.execInbandPulse s
  | .inbandPulseAbort => Sys2Proof.Machine.execInbandPulseAbort s
  | .sessionIdleTimeout number => Sys2Proof.Machine.execSessionIdleTimeout number s
  | .challengeExpire port => Sys2Proof.Machine.execChallengeExpire port s
  | .ledgerMirror => Sys2Proof.Machine.execLedgerMirror s
  | .hello q => Sys2Proof.Machine.execHello q s
  | .sessionOpen q => Sys2Proof.Machine.execSessionOpen q s
  | .sessionProve q => Sys2Proof.Machine.execSessionProve q s
  | .sessionClose q => Sys2Proof.Machine.execSessionClose q s
  | .keyChange q => Sys2Proof.Machine.execKeyChange q s
  | .identity q => Sys2Proof.Machine.execIdentity q s
  | .paramRead q => Sys2Proof.Machine.execParamRead q s
  | .paramWrite q => Sys2Proof.Machine.execParamWrite q s
  | .paramWriteBlock q => Sys2Proof.Machine.execParamWriteBlock q s
  | .ckXoFreqWrite q => Sys2Proof.Machine.execCkXoFreqWrite q s
  | .ckSteerWrite q => Sys2Proof.Machine.execCkSteerWrite q s
  | .cvOrderWrite q => Sys2Proof.Machine.execCvOrderWrite q s
  | .spOrderWrite q => Sys2Proof.Machine.execSpOrderWrite q s
  | .portMaskWrite q => Sys2Proof.Machine.execPortMaskWrite q s
  | .mtCfgWrite q => Sys2Proof.Machine.execMtCfgWrite q s
  | .grRunaheadWrite q => Sys2Proof.Machine.execGrRunaheadWrite q s
  | .grTraceWrite q => Sys2Proof.Machine.execGrTraceWrite q s
  | .refParamWrite q => Sys2Proof.Machine.execRefParamWrite q s
  | .wakeParamWrite q => Sys2Proof.Machine.execWakeParamWrite q s
  | .deviceRecordParamWrite q => Sys2Proof.Machine.execDeviceRecordParamWrite q s
  | .bankSwap q => Sys2Proof.Machine.execBankSwap q s
  | .bankSwapCheckDone => Sys2Proof.Machine.execBankSwapCheckDone s
  | .bankSwapAct => Sys2Proof.Machine.execBankSwapAct s
  | .refillEnd => Sys2Proof.Machine.execRefillEnd s
  | .nodeParamWrite q => Sys2Proof.Machine.execNodeParamWrite q s
  | .nodeParamRead q => Sys2Proof.Machine.execNodeParamRead q s
  | .sprintWrite q => Sys2Proof.Machine.execSprintWrite q s
  | .sprintRead q => Sys2Proof.Machine.execSprintRead q s
  | .arm q => Sys2Proof.Machine.execArm q s
  | .armTick => Sys2Proof.Machine.execArmTick s
  | .disarm q => Sys2Proof.Machine.execDisarm q s
  | .setMode q => Sys2Proof.Machine.execSetMode q s
  | .startGroup q => Sys2Proof.Machine.execStartGroup q s
  | .graphLoad q => Sys2Proof.Machine.execGraphLoad q s
  | .graphCheck q => Sys2Proof.Machine.execGraphCheck q s
  | .runaheadSet q => Sys2Proof.Machine.execRunaheadSet q s
  | .traceRead q => Sys2Proof.Machine.execTraceRead q s
  | .statusRead q => Sys2Proof.Machine.execStatusRead q s
  | .stickyClear q => Sys2Proof.Machine.execStickyClear q s
  | .attnAck q => Sys2Proof.Machine.execAttnAck q s
  | .claim q => Sys2Proof.Machine.execClaim q s
  | .release q => Sys2Proof.Machine.execRelease q s
  | .configSave q => Sys2Proof.Machine.execConfigSave q s
  | .configSaveComplete => Sys2Proof.Machine.execConfigSaveComplete s
  | .configRecall q => Sys2Proof.Machine.execConfigRecall q s
  | .fwStage q => Sys2Proof.Machine.execFwStage q s
  | .fwCommit q => Sys2Proof.Machine.execFwCommit q s
  | .fwCommitVerifyDone => Sys2Proof.Machine.execFwCommitVerifyDone s
  | .ledgerRead q => Sys2Proof.Machine.execLedgerRead q s
  | .lifelogRead q => Sys2Proof.Machine.execLifelogRead q s
  | .refForce q => Sys2Proof.Machine.execRefForce q s
  | .steer q => Sys2Proof.Machine.execSteer q s
  | .linkDiscover q => Sys2Proof.Machine.execLinkDiscover q s
  | .linkAssignId q => Sys2Proof.Machine.execLinkAssignId q s
  | .linkSetOffset q => Sys2Proof.Machine.execLinkSetOffset q s
  | .linkSlotWrite q => Sys2Proof.Machine.execLinkSlotWrite q s
  | .linkSlotRead q => Sys2Proof.Machine.execLinkSlotRead q s
  | .wakeTemplateLoad q => Sys2Proof.Machine.execWakeTemplateLoad q s
  | .historyHandover q => Sys2Proof.Machine.execHistoryHandover q s
  | .controlRestart => Sys2Proof.Machine.execControlRestart s
  | .restartComplete => Sys2Proof.Machine.execRestartComplete s
  | .watchdogExpiry => Sys2Proof.Machine.execWatchdogExpiry s
  | .scrubVisit mem runner word found late => Sys2Proof.Machine.execScrubVisit mem runner word found late s
  | .bankWordRestore active kind index => Sys2Proof.Machine.execBankWordRestore active kind index s
  | .errorInject => Sys2Proof.Machine.execErrorInject s
  | .histogramSample => Sys2Proof.Machine.execHistogramSample s
  | .logCommit => Sys2Proof.Machine.execLogCommit s
  | .jtagInstruction code => Sys2Proof.Machine.execJtagInstruction code s
  | .tapReset => Sys2Proof.Machine.execTapReset s
  | .consistencyCheckDone => Sys2Proof.Machine.execConsistencyCheckDone s
  | .hpDriverConnect h => Sys2Proof.Machine.execHpDriverConnect h s
  | .lockedOutEnd port => Sys2Proof.Machine.execLockedOutEnd port s
  | .frameLockLoss x => Sys2Proof.Machine.execFrameLockLoss x s
  | .attnCauseRead twi => Sys2Proof.Machine.execAttnCauseRead twi s

end Sys2Proof.Machine
end

