-- ==== Sys2Proof/Safety.lean ====
section
/-! DEFINITION. What counts as a safe run, and the terms claims are said in: a command that completes, what it leaves unchanged, a request
that is admitted, and the rule that no two sessions share a binding or a claim. -/
namespace Sys2Proof.Machine

/-- The command ends in a next state of which `P` holds. -/
def Completes (i : Instr) (s : State) (P : State → Prop) : Prop := ∃ t, exec i s = .next t ∧ P t

/-- The components of State. -/
inductive Part where
  | clock | power | synth | dpll | bus | ctl | mram | cfg | dep | log | jtag | inp | conv | sprint | graph | rout | out | ports | link | wake
  | free | pending
  deriving DecidableEq, Repr

/-- A component holds the same in both states. -/
def Part.same (p : Part) (s t : State) : Prop :=
  match p with
  | .clock => t.clock = s.clock | .power => t.power = s.power | .synth => t.synth = s.synth | .dpll => t.dpll = s.dpll
  | .bus => t.bus = s.bus | .ctl => t.ctl = s.ctl | .mram => t.mram = s.mram | .cfg => t.cfg = s.cfg | .dep => t.dep = s.dep
  | .log => t.log = s.log | .jtag => t.jtag = s.jtag | .inp => t.inp = s.inp | .conv => t.conv = s.conv
  | .sprint => t.sprint = s.sprint | .graph => t.graph = s.graph | .rout => t.rout = s.rout | .out => t.out = s.out
  | .ports => t.ports = s.ports | .link => t.link = s.link | .wake => t.wake = s.wake | .free => t.free = s.free
  | .pending => t.pending = s.pending

/-- Nothing changes but the components named. -/
def Frame (changed : List Part) (s t : State) : Prop := ∀ p : Part, p ∉ changed → p.same s t

/-- The opcode and the request of a command that is a packet opcode. -/
def requestOf : Instr → Option (Nat × Req)
  | .hello q => some (0x0001, q)
  | .sessionOpen q => some (0x0002, q)
  | .sessionProve q => some (0x0003, q)
  | .sessionClose q => some (0x0004, q)
  | .keyChange q => some (0x0005, q)
  | .identity q => some (0x0006, q)
  | .paramRead q => some (0x0101, q)
  | .paramWrite q => some (0x0102, q)
  | .paramWriteBlock q => some (0x0103, q)
  | .bankSwap q => some (0x0104, q)
  | .nodeParamWrite q => some (0x0105, q)
  | .nodeParamRead q => some (0x0106, q)
  | .sprintWrite q => some (0x0107, q)
  | .sprintRead q => some (0x0108, q)
  | .arm q => some (0x0201, q)
  | .disarm q => some (0x0202, q)
  | .setMode q => some (0x0203, q)
  | .startGroup q => some (0x0204, q)
  | .graphLoad q => some (0x0301, q)
  | .graphCheck q => some (0x0302, q)
  | .runaheadSet q => some (0x0303, q)
  | .traceRead q => some (0x0304, q)
  | .statusRead q => some (0x0401, q)
  | .stickyClear q => some (0x0402, q)
  | .attnAck q => some (0x0403, q)
  | .claim q => some (0x0501, q)
  | .release q => some (0x0502, q)
  | .configSave q => some (0x0601, q)
  | .configRecall q => some (0x0602, q)
  | .fwStage q => some (0x0603, q)
  | .fwCommit q => some (0x0604, q)
  | .ledgerRead q => some (0x0605, q)
  | .lifelogRead q => some (0x0606, q)
  | .refForce q => some (0x0701, q)
  | .steer q => some (0x0702, q)
  | .linkDiscover q => some (0x0801, q)
  | .linkAssignId q => some (0x0802, q)
  | .linkSetOffset q => some (0x0803, q)
  | .linkSlotWrite q => some (0x0804, q)
  | .linkSlotRead q => some (0x0805, q)
  | .wakeTemplateLoad q => some (0x0901, q)
  | .historyHandover q => some (0x0902, q)
  | _ => none

/-- A request as it is executed when it comes (R386, R406). -/
def State.jobOf (s : State) (op : Nat) (q : Req) : Job :=
  { req := q, opcode := op, now := s.clock.now, tick := s.tickNat, session := s.sessionNo q }

/-- No packet that waits comes before a request that arrives now (R388). -/
abbrev State.First (s : State) (q : Req) : Prop :=
  ∀ h ∈ s.heads, headBefore (s.clock.now, q.port.val, q.origin.val, q.oport.val, h.2.2.2.2) h = true

/-- A request's port takes it at once: it is served, no packet that waits comes before it, and on a bus no packet waits and the replies leave
room (R365, R381, R387, R388). -/
def State.Takes (s : State) (q : Req) : Prop :=
  s.served = true ∧ s.First q ∧
  (q.port.val < 2 → (s.bus.port (decide (q.port.val = 1))).ready = true ∧ (s.bus.port (decide (q.port.val = 1))).mailbox = [])

/-- A request passes steps 3 to 9 of R386 that are the same for every opcode. -/
def State.Admits (s : State) (op : Nat) (q : Req) : Prop :=
  s.Takes q ∧ s.revisionOk op q = true ∧ ∃ row, opRow op = some row ∧ row.rev ≤ q.rev.val ∧
    (row.session = false ∨ q.port.val = 4 ∨ (s.ctl.sessionOf (bindingOf q)).isSome = true) ∧ lengthOk op q.payload = true ∧
    s.claimClash (s.jobOf op q) = 0 ∧ s.stateOk row = true

/-- The state in which an admitted request is carried out: its session has had a packet. -/
def State.seen (s : State) (q : Req) : State := s.touch (bindingOf q)

/-- The newest ledger record of t stands before those of s. -/
def State.Records (s t : State) (r : LedgerRec) : Prop := t.ctl.ledger = (r :: s.ctl.ledger).take 2048

/-- A PARAM_WRITE of v to the parameter id that passes every step of R386 and acts at once. -/
def State.Writes (s : State) (q : Req) (id v : Nat) : Prop :=
  s.Admits 0x0102 q ∧ le q.payload 0 2 = id ∧ leNat (q.payload.drop 4) = v ∧ le q.payload 2 2 = 0 ∧ paramDefined id = true ∧ s.valueOk id v = true ∧
    s.loses (s.jobOf 0x0102 q) (.params id 1) = false ∧ ((paramClass id).isStatic = true → s.inIdle = true ∧ s.frozen = false) ∧
    (mramParam id = true → s.mramBlocked = false ∧ s.storeBusy = false) ∧ (paramClass id = .banked → s.frozen = false)

/-- The sessions exclude one another (R391, R392, R405): no two are of one binding, no claim is held by two, and no binding has a session
and a pending challenge. -/
def State.Exclusive (s : State) : Prop :=
  s.ctl.sessions.Pairwise (fun x y => x.binding ≠ y.binding ∧ x.claims &&& y.claims = 0) ∧
  ∀ c ∈ s.ctl.challenges, ∀ x ∈ s.ctl.sessions, c.binding ≠ x.binding

/-- A bus that answers with nothing half received: the two-wire target hears its own address (R361, R362), and that is no general call. -/
abbrev State.Answers (s : State) (twi : Bool) : Prop :=
  s.busAlive = true ∧ (s.bus.port twi).fragment = [] ∧
    (twi = true → s.bus.twi.phase ≠ .deaf ∧ s.bus.addrReserved = false ∧ s.bus.code < 1024 ∧ (s.bus.addr7 = true → 8 ≤ s.bus.code % 128))

end Sys2Proof.Machine
end

