-- ==== Sys2Proof/WellFormed.lean ====
section
/-! DEFINITION. Which commands can be sent at all: the operand ranges that the types of Syntax.lean leave open. -/
namespace Sys2Proof

/-- A packet carries at most 1,024 payload bytes (R384); the internal port and the two buses are no origins, and what comes over
a LINK port carries REMOTE (R388, R391). -/
def Req.wf (q : Req) : Bool :=
  decide (q.payload.length ≤ 1024) &&
    (if q.port = 2 ∨ q.port = 3 then q.remote else q.origin == 0 && q.oport == 0)

/-- At most 32 slots, each of at most 32 bits (R222, R226). -/
def PortWire.wf (w : PortWire) : Bool :=
  decide (w.slots.length ≤ 32) && w.slots.all (fun v => decide (v < 2 ^ 32))

/-- A cell carries 1 to 52 bytes (R272). -/
def LinkCell.wf (c : LinkCell) : Bool :=
  decide (1 ≤ c.data.length ∧ c.data.length ≤ 52)

/-- A frame has 512 slots and room for four cells (R250, R272). -/
def LinkFrame.wf (f : LinkFrame) : Bool :=
  decide (f.cells.length ≤ 4) && f.cells.all LinkCell.wf && f.slots.all (fun e => decide (e.1 < 512)) &&
    f.crossed.all (fun n => decide (n < 512))

/-- Four quantiser outputs of each of the 24 modulators in a sprint sample, each in −8 to +8 (R61, R86). -/
def levelsWf (levels : List (List Int)) : Bool :=
  levels.length == 24 && levels.all (fun l => l.length == 4 && l.all (fun v => decide (-8 ≤ v ∧ v ≤ 8)))

/-- The bank objects that hold a word of their own to restore, by the KIND of R399, and their index range (R451). -/
def restorable (kind index : Nat) : Bool :=
  match kind with
  | 1 => decide (index < 0x10000)
  | 2 => decide (index < 2048)
  | 5 => decide (index < 1024)
  | 7 => decide (index < 16)
  | 12 | 13 => decide (index < 512)
  | _ => false

/-- The streams that pass the input high-pass filters (R183): converters, ports, link receive slots and taps. -/
def filtered (id : Nat) : Bool :=
  decide (id < 24) || decide (0x0200 ≤ id ∧ id < 0x02C0) || decide (0x0400 ≤ id ∧ id < 0x0600) || decide (0x2001 ≤ id ∧ id ≤ 0x2008)

/-- The operands of a command lie in the ranges that the manual gives them. -/
def Instr.wf (i : Instr) : Bool :=
  match i with
  | .tickBoundary => true
  | .paramEventApply => true
  | .nodeFiringComplete _ cycle => decide (cycle < 8192)
  | .sprintSample levels pdm => levelsWf levels && pdm.length == 9
  | .sprintCrossfadeEnd _ => true
  | .converterBridgeParityError _ _ => true
  | .powerBridgeParityError _ => true
  | .modulatorOverload _ _ => true
  | .modulatorResetEnd _ => true
  | .unsettledEnd _ => true
  | .quickSettleConversionEnd _ => true
  | .measConversionEnd _ value => decide (-8388608 ≤ value ∧ value < 8388608)
  | .inputGainZeroCrossing _ => true
  | .inputGainZcTimeout _ => true
  | .inputMuteCurveEnd _ => true
  | .analogSettleEnd _ => true
  | .phantomFrame => true
  | .phantomRampEnd _ => true
  | .phantomDischargeEnd _ => true
  | .inputJackPinChange _ _ => true
  | .inputJackDebounceEnd _ => true
  | .insertSettleEnd _ => true
  | .routeCrossfadeEnd index => decide (index < 2048)
  | .routeGainZeroCrossing index => decide (index < 2076)
  | .routeGainZcTimeout index => decide (index < 2076)
  | .gainRampEnd index => decide (index < 2076)
  | .busScaleRampEnd index => decide (index < 64)
  | .hpfCrossfadeEnd index => filtered index
  | .meterUpdate => true
  | .outputCurveEnd _ => true
  | .cmBiasRampEnd => true
  | .lineBufferConnect _ => true
  | .lineOffsetCalEnd _ => true
  | .chargePumpReady => true
  | .chargePumpStartTimeout => true
  | .chargePumpRetry => true
  | .chargePumpIdleStop => true
  | .hpOvercurrent _ => true
  | .hpOcRemeasure _ => true
  | .hpJackPinChange _ _ => true
  | .hpJackDebounceEnd _ => true
  | .hpTestCurrentUp _ => true
  | .hpTestCurrentDown _ => true
  | .hpGlitchTimeout _ => true
  | .spkPrechargeEnd _ => true
  | .spkOvercurrent _ => true
  | .spkDcTrip _ => true
  | .spkUndervoltage => true
  | .spkOvervoltage => true
  | .spkThermalTrip => true
  | .spkRetry _ => true
  | .vspkDecouplingConnect => true
  | .modeMuteEnd => true
  | .lastLapSpeakerStop => true
  | .lastLapClear => true
  | .gbyHealthLoss _ => true
  | .gbyPremuteEnd _ => true
  | .gbyRestore _ => true
  | .gbySettleEnd _ => true
  | .portFrameStart _ frame => frame.wf
  | .portExchange _ => true
  | .portStopped _ => true
  | .rateReport => true
  | .asrcLock _ => true
  | .gunFire => true
  | .startNEdge => true
  | .maskTakeEffect _ => true
  | .linkSignalDetect _ _ => true
  | .linkFrameLock _ => true
  | .linkTrainingDone _ _ => true
  | .linkJoinAlign _ => true
  | .linkFrameReceived _ frame _ => frame.wf
  | .linkFrameLaunch _ => true
  | .linkRetime _ => true
  | .linkBreak _ => true
  | .linkAnnouncement => true
  | .announcementReceived _ _ => true
  | .announcementDrop _ => true
  | .ringFormation => true
  | .linkRepairReturn _ => true
  | .linkAlignedChange _ => true
  | .linkOffsetChange => true
  | .controlCellReceived _ cell => cell.wf
  | .remotePacketReassembled _ _ _ => true
  | .remoteReplyReceived _ _ _ => true
  | .remoteTimeout _ => true
  | .remoteForward q _ _ => q.wf
  | .xoLoss => true
  | .xoRecover => true
  | .analogLockSet => true
  | .lockDeclare _ => true
  | .lockLoss _ => true
  | .steerSlewStart => true
  | .steerSlewEnd => true
  | .clockOutputGate _ => true
  | .clockOutputResume _ => true
  | .refBeatMissed _ => true
  | .refSignalSeen _ => true
  | .refFreqReport _ _ => true
  | .acceptTimeEnd _ => true
  | .wtrEnd _ => true
  | .handoffMeasureDone beats _ => beats.length == 8
  | .handoffCapture => true
  | .holdoverHistoryRecord => true
  | .holdoverExpire => true
  | .forceAct => true
  | .supplyPorAssert _ => true
  | .supplyPorRelease _ _ => true
  | .resetNLow => true
  | .resetNRise _ => true
  | .firmwareVerify => true
  | .bootIdleReached => true
  | .autorun => true
  | .biasRampDownEnd => true
  | .sessionsCloseAtEntry => true
  | .rootStop => true
  | .wakeN => true
  | .jackWake _ _ => true
  | .restTimer => true
  | .busWake => true
  | .exitComplete => true
  | .powerFailWarning _ => true
  | .powerFailClear => true
  | .mramWriteResume => true
  | .pdmClockSwitch _ => true
  | .pdmClkSettleEnd _ => true
  | .wakeFrameEnd _ => true
  | .stage2Match => true
  | .stage2End => true
  | .handoverStart => true
  | .handoverCaughtUp => true
  | .mailboxWrite _ _ _ => true
  | .replyPageRead _ _ _ => true
  | .packetFragmentDiscard _ => true
  | .rstartAtAck => true
  | .busError => true
  | .sclTimeout _ => true
  | .sdaTimeout _ => true
  | .spiFrameError => true
  | .inbandPulse => true
  | .inbandPulseAbort => true
  | .sessionIdleTimeout _ => true
  | .challengeExpire _ => true
  | .ledgerMirror => true
  | .hello q => q.wf
  | .sessionOpen q => q.wf
  | .sessionProve q => q.wf
  | .sessionClose q => q.wf
  | .keyChange q => q.wf
  | .identity q => q.wf
  | .paramRead q => q.wf
  | .paramWrite q => q.wf
  | .paramWriteBlock q => q.wf
  | .ckXoFreqWrite q => q.wf
  | .ckSteerWrite q => q.wf
  | .cvOrderWrite q => q.wf
  | .spOrderWrite q => q.wf
  | .portMaskWrite q => q.wf
  | .mtCfgWrite q => q.wf
  | .grRunaheadWrite q => q.wf
  | .grTraceWrite q => q.wf
  | .refParamWrite q => q.wf
  | .wakeParamWrite q => q.wf
  | .deviceRecordParamWrite q => q.wf
  | .bankSwap q => q.wf
  | .bankSwapCheckDone => true
  | .bankSwapAct => true
  | .refillEnd => true
  | .nodeParamWrite q => q.wf
  | .nodeParamRead q => q.wf
  | .sprintWrite q => q.wf
  | .sprintRead q => q.wf
  | .arm q => q.wf
  | .armTick => true
  | .disarm q => q.wf
  | .setMode q => q.wf
  | .startGroup q => q.wf
  | .graphLoad q => q.wf
  | .graphCheck q => q.wf
  | .runaheadSet q => q.wf
  | .traceRead q => q.wf
  | .statusRead q => q.wf
  | .stickyClear q => q.wf
  | .attnAck q => q.wf
  | .claim q => q.wf
  | .release q => q.wf
  | .configSave q => q.wf
  | .configSaveComplete => true
  | .configRecall q => q.wf
  | .fwStage q => q.wf
  | .fwCommit q => q.wf
  | .fwCommitVerifyDone => true
  | .ledgerRead q => q.wf
  | .lifelogRead q => q.wf
  | .refForce q => q.wf
  | .steer q => q.wf
  | .linkDiscover q => q.wf
  | .linkAssignId q => q.wf
  | .linkSetOffset q => q.wf
  | .linkSlotWrite q => q.wf
  | .linkSlotRead q => q.wf
  | .wakeTemplateLoad q => q.wf
  | .historyHandover q => q.wf
  | .controlRestart => true
  | .restartComplete => true
  | .watchdogExpiry => true
  | .scrubVisit mem runner word _ _ => decide (mem ≤ 8 ∧ runner < 16 ∧ word < 2 ^ 24)
  | .bankWordRestore _ kind index => restorable kind index
  | .errorInject => true
  | .histogramSample => true
  | .logCommit => true
  | .jtagInstruction code => decide (code < 16)
  | .tapReset => true
  | .consistencyCheckDone => true
  | .hpDriverConnect _ => true
  | .lockedOutEnd _ => true
  | .frameLockLoss _ => true
  | .attnCauseRead _ => true

end Sys2Proof
end

