-- ==== Sys2Proof/Certificates/Slice0/Obligations.lean ====
section
/-! DEFINITION. The statements for the provers, each named for what it states, with the few words they are said in. -/
namespace Sys2Proof.Machine

/-- Put one input, jack pin, output, headphone, guard pin, port or node in its place; nothing else changes. -/
def State.putIn (s : State) (n : Nat) (c : InputCh) : State :=
  { s with inp := { s.inp with ch := tabSet (fun _ => {}) s.inp.ch n c } }
def State.putInPin (s : State) (j : Nat) (p : JackPin) : State :=
  { s with inp := { s.inp with pins := tabSet (fun _ => {}) s.inp.pins j p } }

def State.putAdc (s : State) (n : Nat) (a : AdcCh) : State :=
  { s with conv := { s.conv with adc := tabSet (fun _ => {}) s.conv.adc n a } }

def State.putOut (s : State) (o : Nat) (c : OutCh) : State :=
  { s with out := { s.out with ch := tabSet (fun _ => {}) s.out.ch o c } }
def State.putJack (s : State) (h : Nat) (k : HpJack) : State :=
  { s with out := { s.out with jacks := tabSet (fun _ => {}) s.out.jacks h k } }
def State.putHpPin (s : State) (j : Nat) (p : JackPin) : State :=
  { s with out := { s.out with pins := tabSet (fun _ => {}) s.out.pins j p } }

def State.putPort (s : State) (p : Nat) (q : Port) : State :=
  { s with ports := { s.ports with port := tabSet (fun _ => {}) s.ports.port p q } }

def State.putLink (s : State) (x : Fin 2) (p : LinkPort) : State :=
  { s with link := if x.val = 0 then { s.link with a := p } else { s.link with b := p } }

/-- The head of a write at a pointer: the address bytes or the WRITE instruction, and the pointer, low byte first (R361, R363, R375). -/
def State.writeHead (s : State) (twi : Bool) (a : BitVec 16) : List Byte := (if twi then s.addrWrite else [2]) ++ leBytes 2 a.toNat

/-- A boundary waits for its acts, and neither a bank swap, an ARM nor a gun is among them. -/
def State.Between (s : State) : Prop := s.clock.opened = false ∧ s.cfg.armed = none ∧ s.gunDue = false

/-- An output once mute cause k, the only one of this tick, has cleared: with no cause left it unmutes over `len` sprint samples. -/
def OutCh.without (c : OutCh) (s : State) (k len : Nat) : OutCh :=
  let left := c.causes &&& ~~~ BitVec.ofNat 7 (2 ^ k)
  { c with
    causes := left, clearLen := len, clearAt := s.clock.now
    mute := if left = 0 then { c.mute with curve := some { rising := true, g0 := c.mute.value (s.samp - 1), start := s.samp, len := len } } else c.mute }

end Sys2Proof.Machine

open Sys2Proof Sys2Proof.Machine

/-- R45, R46: a waiting gain is made at a zero crossing or at the end of its timeout; only a change of A disturbs the chain. -/
def Obligations.InputGainIsMadeAtCrossingOrTimeout : Prop :=
  ∀ (s : State) (ch : Fin 16) (w : GainWait) (c : InputCh),
    s.inCh ch.val = c → c.wait = some w →
    let a := tabGet (fun _ => ({} : AdcCh)) s.conv.adc ch.val
    let same : InputCh := { c with trim := w.trim, wait := none }
    let made : InputCh := { c with aStep := w.aStep, trim := w.trim, wait := none, unsettledTo := max c.unsettledTo (s.clock.now + s.inSettle ch.val),
                                              disturbedAt := some (max s.clock.now (c.disturbedAt.getD 0)) }
    let crossed := a.cicNow = 0 ∨ (a.cicPrev < 0 ∧ 0 < a.cicNow) ∨ (0 < a.cicPrev ∧ a.cicNow < 0)
    (crossed → c.aStep = w.aStep → exec (.inputGainZeroCrossing ch) s = .next (s.putIn ch.val same)) ∧
    (crossed → c.aStep ≠ w.aStep → exec (.inputGainZeroCrossing ch) s = .next (s.putIn ch.val made)) ∧
    (¬ crossed → exec (.inputGainZeroCrossing ch) s = .next (s.putIn ch.val c)) ∧
    (w.deadline ≤ s.clock.now → c.aStep = w.aStep → exec (.inputGainZcTimeout ch) s = .next (s.putIn ch.val same)) ∧
    (w.deadline ≤ s.clock.now → c.aStep ≠ w.aStep → exec (.inputGainZcTimeout ch) s = .next (s.putIn ch.val made)) ∧
    (s.clock.now < w.deadline → exec (.inputGainZcTimeout ch) s = .next (s.putIn ch.val c))

/-- R44, R45, R47, R53, R54: each timed step of an input, at its end and before it. A mute curve that has run out leaves its end gain: at zero
gain a waiting gain change is made and a mode sequence in step 1 goes on, and at unity a mode sequence in step 7 is over. A settle of step 4
takes the sequence to its next step. A phantom ramp leaves the feed on and a discharge leaves it off: a mode sequence in the step that waits
for it goes on, a disable that waits keeps the feed muted, a discharge with a new enable queues the input again, and otherwise the phantom cause
clears, the input unmuting over 2 ms when no other cause remains. Before its end each of them changes nothing.
R51-R53: a phantom frame that is due (out of Rest, Watch and reset, the root running, none shifting; a change, or 960 ticks after
the one before) shifts the bits of all 16 inputs, which are latched one tick later; nothing but the inputs and the phantom port changes, and a
frame that is not due changes nothing. -/
def Obligations.InputSequencesAndPhantomFramesAdvance : Prop :=
  (∀ (s : State) (ch : Fin 16) (c : InputCh), s.inCh ch.val = c →
       let len := if c.clearAt = s.clock.now then max c.clearLen 192 else 192
       let cleared : InputCh := { c with causePhantom := false, clearLen := len, clearAt := s.clock.now }
       let raised : InputCh := { cleared with
         seqUnmute := true, mute := { c.mute with curve := some { rising := true, g0 := c.mute.value (s.samp - 1), start := s.samp, len := 128 * len } } }
       (∀ v : Curve, c.mute.curve = some v → v.start + v.len ≤ s.samp → v.rising = false →
         let z : InputCh := { c with mute := { gain := 0, curve := none } }
         let g := match c.wait with | some w => z.setGain s ch.val w.aStep w.trim | none => z
         (c.seqStep ≠ 1 → exec (.inputMuteCurveEnd ch) s = .next (s.putIn ch.val g)) ∧
         (c.seqStep = 1 → exec (.inputMuteCurveEnd ch) s = .next (s.putIn ch.val (g.advance s ch.val)))) ∧
       (∀ v : Curve, c.mute.curve = some v → v.start + v.len ≤ s.samp → v.rising = true →
         exec (.inputMuteCurveEnd ch) s = .next (s.putIn ch.val { c with
           mute := { gain := 2 ^ 32, curve := none }, seqStep := if c.seqStep = 7 then 0 else c.seqStep })) ∧
       ((∀ v : Curve, c.mute.curve = some v → s.samp < v.start + v.len) → exec (.inputMuteCurveEnd ch) s = .next (s.putIn ch.val c)) ∧
       (c.seqStep = 4 → c.settleEnd ≤ s.clock.now → exec (.analogSettleEnd ch) s = .next (s.putIn ch.val (c.advance s ch.val))) ∧
       (c.mode = s.act (0x0300 + ch.val) → c.phantom ≠ .queued → s.clock.now ≤ c.unsettledTo → 0 < c.unsettledTo → c.advance s ch.val = { c with seqStep := 5 }) ∧
       (c.seqStep ≠ 4 ∨ s.clock.now < c.settleEnd → exec (.analogSettleEnd ch) s = .next (s.putIn ch.val c)) ∧
       (c.phantom = .ramping → c.phEnd ≤ s.clock.now →
         (c.phClear = true → exec (.phantomRampEnd ch) s = .next (s.putIn ch.val { c with phantom := .on })) ∧
         (c.phClear = false → c.seqStep = 6 → exec (.phantomRampEnd ch) s = .next (s.putIn ch.val (({ c with phantom := .on } : InputCh).advance s ch.val))) ∧
         (c.phClear = false → c.seqStep ≠ 6 → (c.causeMode = true ∨ c.causeJack = true) →
           exec (.phantomRampEnd ch) s = .next (s.putIn ch.val { cleared with phantom := .on })) ∧
         (c.phClear = false → c.seqStep ≠ 6 → c.causeMode = false → c.causeJack = false →
           exec (.phantomRampEnd ch) s = .next (s.putIn ch.val { raised with phantom := .on }))) ∧
       (c.phantom ≠ .ramping ∨ s.clock.now < c.phEnd → exec (.phantomRampEnd ch) s = .next (s.putIn ch.val c)) ∧
       (c.phantom = .discharging → c.phEnd ≤ s.clock.now →
         (c.phRequeue = true → exec (.phantomDischargeEnd ch) s = .next (s.putIn ch.val { c with phantom := .queued, phRequeue := false })) ∧
         (c.phRequeue = false → c.seqStep = 2 →
           exec (.phantomDischargeEnd ch) s = .next (s.putIn ch.val (({ c with phantom := .off } : InputCh).advance s ch.val))) ∧
         (c.phRequeue = false → c.seqStep = 6 → exec (.phantomDischargeEnd ch) s = .next (s.putIn ch.val { c with phantom := .off })) ∧
         (c.phRequeue = false → c.seqStep ≠ 2 → c.seqStep ≠ 6 → (c.causeMode = true ∨ c.causeJack = true) →
           exec (.phantomDischargeEnd ch) s = .next (s.putIn ch.val { cleared with phantom := .off })) ∧
         (c.phRequeue = false → c.seqStep ≠ 2 → c.seqStep ≠ 6 → c.causeMode = false → c.causeJack = false →
           exec (.phantomDischargeEnd ch) s = .next (s.putIn ch.val { raised with phantom := .off }))) ∧
       (c.phantom ≠ .discharging ∨ s.clock.now < c.phEnd → exec (.phantomDischargeEnd ch) s = .next (s.putIn ch.val c))) ∧
  (∀ (s : State), s.asleep = false → s.power.inReset = false → s.clock.rootRunning = true → s.clock.phase = 0 → s.inp.phantom.sending = none →
       (s.phantomDue = true ∨ ∀ t, s.inp.phantom.frameAt = some t → t + 960 ≤ s.clock.now) →
       Completes .phantomFrame s (fun t =>
         t.inp.ch = s.framedInputs ∧ t.inp.phantom.sending = some (s.frameBits t.inp.ch) ∧ t.inp.phantom.frameAt = some s.clock.now ∧
         t.inp.phantom.latched = s.inp.phantom.latched ∧ t.inp.pins = s.inp.pins ∧
         (s.phantomPick = none → t.inp.phantom.lastEnable = s.inp.phantom.lastEnable) ∧
         (s.phantomPick.isSome → t.inp.phantom.lastEnable = some (s.clock.now + 1)) ∧ Frame [.inp] s t)) ∧
  (∀ (s : State), s.asleep = true ∨ s.power.inReset = true ∨ s.clock.rootRunning = false ∨ s.clock.phase ≠ 0 ∨ s.inp.phantom.sending.isSome = true ∨
         (s.phantomDue = false ∧ ∃ t, s.inp.phantom.frameAt = some t ∧ s.clock.now < t + 960) →
       exec .phantomFrame s = .next s) ∧
  (∀ (p : PhantomPort) (now : Nat) (off w : BitVec 16), p.sending = some w → p.allOff = false →
       p.boundary now off = { p with latched := w, latchAt := some now, sending := none })

/-- R56, R57: a level change restarts the debounce of an enabled pin; the end of a first debounce gives the jack state in silence; a later
change of state sets ATTN_CAUSE bit 7 and is counted. The end of INSERT_SETTLE ends the settle. -/
def Obligations.InputJackIsDebounced : Prop :=
  ∀ (s : State) (pin : Fin 8) (level : Bool) (p : JackPin) (cfg : Nat),
    s.inPin pin.val = p → s.dir (0x0340 + pin.val) = cfg →
    (s.asleep = false → p.level ≠ level → exec (.inputJackPinChange pin level) s = .next (s.putInPin pin.val
        { p with level := level, debounceEnd := if cfg.testBit 4 then some (s.clock.now + 96 * field cfg 8 8) else none })) ∧
    (p.level = level → exec (.inputJackPinChange pin level) s = .next (s.putInPin pin.val p)) ∧
    (∀ e, cfg.testBit 4 = true → p.debounceEnd = some e → e ≤ s.clock.now →
      Completes (.inputJackDebounceEnd pin) s (fun t =>
        t.inp.pins = tabSet (fun _ => {}) s.inp.pins pin.val (p.debounced (cfg.testBit 5) s.clock.now (field cfg 16 8)) ∧
        (p.first = true ∨ p.plugged = decide (p.level = cfg.testBit 5) → t.bus = s.bus ∧ t.log = s.log) ∧
        (p.first = false → p.plugged ≠ decide (p.level = cfg.testBit 5) → t.bus.attn = s.bus.attn ||| BitVec.ofNat 32 (2 ^ 7)) ∧
        Frame [.inp, .bus, .log] s t)) ∧
    (∀ e, p.settleEnd = some e → e ≤ s.clock.now →
      Completes (.insertSettleEnd pin) s (fun t =>
        t.inp.pins = tabSet (fun _ => {}) s.inp.pins pin.val { p with settleEnd := none } ∧ Frame [.inp] s t))

/-- R49, R61: an overload, found by the window sums, told by the integrator limit or taken in the modulator's reset, is remembered and marks
CLIPPED for the settle count in force, and the sprint word holds full scale with the sign of the overload, past the mute point; the limit also begins
the modulator's reset. Without one nothing is marked. The end of the reset marks the chain, UNSETTLED and CLIPPED, for its settle count.
R61: what the overload detector sums: some window of OVL_WINDOW quantiser outputs that ends at one of the latest four goes beyond the limit,
of either sign, and one at the limit does not. -/
def Obligations.ModulatorOverloadIsFoundAndMarked : Prop :=
  (∀ (s : State) (ch : Fin 24) (c : InputCh) (a : AdcCh), s.inCh ch.val = c → s.adcCh ch.val = a →
       let clip : InputCh := { c with overAt := some s.clock.now, overSticky := true }
       let neg := if a.inReset then a.overNeg else ovlNegative (s.dir 0x0481) a.window
       let full : Int := (if neg then -2147483648 else 2147483647) * (c.mute.value s.samp : Int) / 2 ^ 32
       let held : AdcCh := { a with overNeg := neg, sprintWord := full, quick := { a.quick with clip := true } }
       (exec (.modulatorOverload ch true) s = .next ((s.putIn ch.val clip).putAdc ch.val { held with inReset := true })) ∧
       (a.inReset = true ∨ overloaded (s.dir 0x0481) a.window = true →
         exec (.modulatorOverload ch false) s = .next ((s.putIn ch.val clip).putAdc ch.val held)) ∧
       (a.inReset = false → overloaded (s.dir 0x0481) a.window = false →
         exec (.modulatorOverload ch false) s = .next ((s.putIn ch.val c).putAdc ch.val a)) ∧
       (a.inReset = true → exec (.modulatorResetEnd ch) s = .next
         ((s.putIn ch.val { clip with unsettledTo := max c.unsettledTo (s.clock.now + s.inSettle ch.val),
                                              disturbedAt := some (max s.clock.now (c.disturbedAt.getD 0)) }).putAdc ch.val
           { a with inReset := false, quick := { a.quick with clip := true, spoiled := true, valid := false, fresh := false } })) ∧
       (a.inReset = false → exec (.modulatorResetEnd ch) s = .next ((s.putIn ch.val c).putAdc ch.val a))) ∧
  (∀ (c : InputCh) (now settle : Nat), c.clips now settle = true ↔ ∃ t, c.overAt = some t ∧ t < now ∧ now ≤ t + settle) ∧
  (∀ (cfg : Nat) (w : List Int),
       overloaded cfg w = overloaded cfg (w.map (fun v => -v)) ∧
       (overloaded cfg w = true ↔ ∃ i, i < 4 ∧ field cfg 4 8 * field cfg 0 4 < 16 * (((w.drop i).take (field cfg 0 4)).sum).natAbs))

/-- R47, R70, R80, R82, R102: an UNSETTLED mark that has run out is dropped, and a mode sequence that waits for it goes on; one that has not
run out stays; a fresh quick-settle conversion of a
channel in that mode is presented, and one that is not fresh is not; a sprint crossfade of 256 samples drops the outgoing datapath, and one
that has not come to its end goes on. -/
def Obligations.SettlesConversionsAndCrossfadesEnd : Prop :=
  (∀ (s : State) (ch : Fin 24) (c : InputCh), s.inCh ch.val = c → c.unsettledTo < s.clock.now → c.seqStep ≠ 5 →
    exec (.unsettledEnd ch) s = .next (s.putIn ch.val { c with unsettledTo := 0 })) ∧
  (∀ (s : State) (ch : Fin 24) (c : InputCh), s.inCh ch.val = c → c.unsettledTo < s.clock.now → c.seqStep = 5 →
    exec (.unsettledEnd ch) s = .next (s.putIn ch.val (({ c with unsettledTo := 0 } : InputCh).advance s ch.val))) ∧
  (∀ (s : State) (ch : Fin 24) (c : InputCh), s.inCh ch.val = c → s.clock.now ≤ c.unsettledTo → exec (.unsettledEnd ch) s = .next (s.putIn ch.val c)) ∧
  (∀ (s : State) (ch : Fin 24) (a : AdcCh), s.adcCh ch.val = a → s.quickMode ch.val = true → a.quick.fresh = true →
    exec (.quickSettleConversionEnd ch) s =
      .next (s.putAdc ch.val { a with quick := { a.quick with held := a.quick.result, heldClip := a.quick.resultClip, valid := true, fresh := false } })) ∧
  (∀ (s : State) (ch : Fin 24) (a : AdcCh), s.adcCh ch.val = a → a.quick.fresh = false →
    exec (.quickSettleConversionEnd ch) s = .next (s.putAdc ch.val a)) ∧
  (∀ (s : State) (n : Fin 16), (s.cell n.val).old.isSome = true → 256 ≤ (s.cell n.val).fade →
    Completes (.sprintCrossfadeEnd n) s (fun t =>
      t.sprint.cells = tabSet (fun _ => {}) s.sprint.cells n.val { s.cell n.val with old := none } ∧ t.sprint.pipe = s.sprint.pipe ∧
      Frame [.sprint] s t)) ∧
  (∀ (s : State) (n : Fin 16), (s.cell n.val).fade < 256 → exec (.sprintCrossfadeEnd n) s = .next s)

/-- R80, R81: a conversion in progress that ends at a TICK that is a multiple of 64, 64 ticks after its start, gives its channel a VALID word of
24 bits, and the next channel is taken: a supply that was asked for before all others, else, where a conversion asked for has just ended, the
scan's. At any other time, or for a channel that is not in conversion, nothing changes. -/
def Obligations.MeasurementConversionsFollowTheScan : Prop :=
  (∀ (s : State) (ms : Fin 14) (v : Int), s.conv.current = some ms.val → s.clock.rootRunning = true → s.tickNat % 64 = 0 → s.conv.startAt + 64 ≤ s.clock.now →
    Completes (.measConversionEnd ms v) s (fun t =>
      t.conv.meas = tabSet (fun _ => {}) s.conv.meas ms.val { value := max (-8388608) (min 8388607 v), valid := true, at_ := s.clock.now } ∧
      t.conv.adc = s.conv.adc ∧ t.conv.dac = s.conv.dac ∧ t.conv.pdm = s.conv.pdm ∧
      Frame [.conv, .log, .dep, .bus, .out] s t)) ∧
  (∀ (s : State) (ms : Fin 14) (v : Int), s.conv.current = some ms.val → s.clock.rootRunning = true → s.tickNat % 64 = 0 → s.conv.startAt + 64 ≤ s.clock.now →
    4 ≤ ms.val → ms.val < 10 → s.conv.asked = [] → (s.dir 0x0480).testBit 8 = true →
    Completes (.measConversionEnd ms v) s (fun t => t.conv.current = some s.conv.scan ∧ t.conv.startAt = s.clock.now ∧
      t.conv.scan = if s.conv.scan < 13 then s.conv.scan + 1 else 4)) ∧
  (∀ (s : State) (ms : Fin 14) (v : Int) (k : Nat), s.conv.current = some ms.val → s.clock.rootRunning = true → s.tickNat % 64 = 0 →
    s.conv.startAt + 64 ≤ s.clock.now → 4 ≤ ms.val → ms.val < 10 → 4 ≤ k → k ≠ ms.val → s.conv.asked = [k] →
    Completes (.measConversionEnd ms v) s (fun t => t.conv.current = some k ∧ t.conv.scan = s.conv.scan)) ∧
  (∀ (s : State) (ms : Fin 14) (v : Int), s.conv.current ≠ some ms.val ∨ s.tickNat % 64 ≠ 0 ∨ s.clock.now < s.conv.startAt + 64 →
    exec (.measConversionEnd ms v) s = .next s)

/-- R194, R196, R197, R208: the steps of a line output end. A curve that has run out leaves its end gain, and a stopping output stops there, or
begins anew if it is wanted again; a curve that has not run out goes on. The upper stage of a joined pair is driven as the lower one is. The
bias ramp ends up or down; a line buffer connects, and calibrates if it must, or its DISABLED cause clears; the calibration preloads the servo
with the measured offset, a free value within 0.1 mV (325392 of 2^31 at a line output). -/
def Obligations.LineOutputStepsEnd : Prop :=
  (∀ (s : State) (o : Fin 28) (c : OutCh) (v : Curve), s.outCh o.val = c → c.mute.curve = some v → v.start + v.len ≤ s.samp → c.stopping = false →
    exec (.outputCurveEnd o) s = .next (s.putOut o.val { c with mute := { gain := if v.rising then 2 ^ 32 else 0, curve := none } }).pairFollow) ∧
  (∀ (s : State) (o : Fin 28) (c : OutCh) (v : Curve), s.outCh o.val = c → c.mute.curve = some v → v.start + v.len ≤ s.samp → c.stopping = true →
    v.rising = false →
    let off := s.putOut o.val { c with mute := { gain := 0, curve := none }, driving := false, stopping := false }
    (off.wantsOut o.val = false → exec (.outputCurveEnd o) s = .next off.pairFollow) ∧
    (off.wantsOut o.val = true → exec (.outputCurveEnd o) s = .next (off.pairFollow.beginOuts [o.val]))) ∧
  (∀ (s : State) (o : Fin 28) (c : OutCh), s.outCh o.val = c → (∀ v, c.mute.curve = some v → s.samp < v.start + v.len) →
    exec (.outputCurveEnd o) s = .next (s.putOut o.val c).pairFollow) ∧
  (∀ (s : State), (s.dir 0x0530).testBit 0 = false → (s.dir 0x0530).testBit 1 = false → s.pairFollow = s) ∧
  (∀ (s : State) (n : Nat), (n = 0 ∧ (s.dir 0x0530).testBit 0 = true) ∨ (n = 2 ∧ (s.dir 0x0530).testBit 1 = true) →
    s.pairFollow.outCh (25 + n) = { s.outCh (25 + n) with driving := (s.outCh (24 + n)).driving, step := 0, stopping := false } ∧ Frame [.out] s s.pairFollow) ∧
  (∀ (s : State) (v b e : Nat), s.out.bias = .rising v b e → e ≤ s.clock.now →
    Completes .cmBiasRampEnd s (fun t => t.out.bias = .up ∧ Frame [.out] s t ∧
      (∀ l, l < 16 → (s.outCh l).step = 1 → t.outCh l = { s.outCh l with step := 2, stepEnd := s.clock.now + 48 }))) ∧
  (∀ (s : State) (v b e : Nat), s.out.bias = .falling v b e → e ≤ s.clock.now →
    exec .cmBiasRampEnd s = .next { s with out := { s.out with bias := .down } }) ∧
  (∀ (s : State) (l : Fin 16) (c : OutCh), s.outCh l.val = c → c.step = 2 → c.stepEnd ≤ s.clock.now → (s.dir (0x0520 + l.val)).testBit 2 = true →
    c.calibrated = false →
    exec (.lineBufferConnect l) s = .next (s.putOut l.val { c with driving := true, step := 3, stepEnd := s.clock.now + 480 })) ∧
  (∀ (s : State) (l : Fin 16) (c : OutCh), s.outCh l.val = c → c.step = 2 → c.stepEnd ≤ s.clock.now →
    ((s.dir (0x0520 + l.val)).testBit 2 = false ∨ c.calibrated = true) → c.causes.getLsbD 1 = true → c.clearAt ≠ s.clock.now →
    exec (.lineBufferConnect l) s = .next (s.putOut l.val ({ c with driving := true, step := 0 }.without s 1 (s.unmuteRamp l.val)))) ∧
  (∀ (s : State) (l : Fin 16) (c : OutCh), s.outCh l.val = c → c.step = 3 → c.stepEnd ≤ s.clock.now → c.causes.getLsbD 1 = true → c.clearAt ≠ s.clock.now →
    let d := tabGet (fun _ => ({} : DacCh)) s.conv.dac l.val
    let v := { s.conv with dac := tabSet (fun _ => {}) s.conv.dac l.val { d with servo := servoSamples * lineOffset true l.val } }
    exec (.lineOffsetCalEnd l) s =
      .next { s.putOut l.val ({ c with calibrated := true, step := 0 }.without s 1 (s.unmuteRamp l.val)) with conv := v }) ∧
  (∀ l : Nat, (lineOffset true l).natAbs ≤ 325392)

/-- R199: the charge pump. A pump that is starting is ready when HPVNEG is reached with HPVDD valid, and CP_FAULT clears; not ready within 10 ms it
has failed, CP_FAULT and ATTN_CAUSE bit 8 are set; one second later it starts again; with no headphone enabled and plugged for CP_IDLE it
stops. -/
def Obligations.ChargePumpStartsFailsRetriesAndStops : Prop :=
  (∀ (s : State) (b : Nat), s.out.pump = .starting b → s.power.valid.getLsbD 6 = true →
    Completes .chargePumpReady s (fun t => t.out.pump = .ready ∧ t.out.cpFault = false ∧ Frame [.out] s t ∧
      (∀ i, i < 8 → (s.outCh (16 + i)).step = 1 → (t.outCh (16 + i)).step = 2 ∧ (t.outCh (16 + i)).stepEnd = s.clock.now + 48))) ∧
  (∀ (s : State), s.out.pump = .ready ∨ s.power.valid.getLsbD 6 = false → exec .chargePumpReady s = .next s) ∧
  (∀ (s : State) (b : Nat), s.out.pump = .starting b → b + 960 ≤ s.clock.now →
    Completes .chargePumpStartTimeout s (fun t => t.out.pump = .failed s.clock.now ∧ t.out.cpFault = true ∧
      t.bus.attn = s.bus.attn ||| BitVec.ofNat 32 (2 ^ 8) ∧ Frame [.out, .bus] s t ∧
      (∀ i, i < 8 → (t.outCh (16 + i)).causes.getLsbD 4 = true))) ∧
  (∀ (s : State) (b : Nat), s.out.pump = .starting b → s.clock.now < b + 960 → exec .chargePumpStartTimeout s = .next s) ∧
  (∀ (s : State) (b : Nat), s.out.pump = .failed b → b + 96000 ≤ s.clock.now →
    exec .chargePumpRetry s = .next { s with out := { s.out with pump := .starting s.clock.now } }) ∧
  (∀ (s : State) (b : Nat), s.out.pump = .failed b → s.clock.now < b + 96000 → exec .chargePumpRetry s = .next s) ∧
  (∀ (s : State) (b : Nat), s.out.pumpIdle = some b → b + 9600 * field (s.dir 0x0604) 0 8 ≤ s.clock.now → s.out.pump = .ready → s.pumpWanted = false →
    Completes .chargePumpIdleStop s (fun t => t.out.pump = .off ∧ Frame [.out] s t ∧
      (∀ i, i < 8 → (t.outCh (16 + i)).driving = false))) ∧
  (∀ (s : State), s.pumpWanted = true → exec .chargePumpIdleStop s = .next s)

/-- R200, R202: a headphone driver connects, and its DISABLED cause clears when no classification is awaited, but not while the load is measured; an overcurrent of a driving headphone
mutes both channels under PROTECT, sets ATTN_CAUSE bit 8 and is counted, and the third within 60 s holds until the next ARM; one second after a
trip a headphone without a jack pin is released. No other output changes. -/
def Obligations.HeadphonesConnectTripAndRecover : Prop :=
  (∀ (s : State) (h : Fin 4) (o : Nat), (o = 16 + 2 * h.val ∨ o = 17 + 2 * h.val) → (s.outCh o).step = 2 → (s.outCh o).stepEnd ≤ s.clock.now →
    (s.hpJack h.val).step = .none →
    Completes (.hpDriverConnect h) s (fun t => (t.outCh o).driving = true ∧ Frame [.out] s t ∧
      (s.awaitsClass h.val = true → t.outCh o = { s.outCh o with driving := true, step := 3 }) ∧
      (s.awaitsClass h.val = false → (t.outCh o).step = 0 ∧ (t.outCh o).causes = (s.outCh o).causes &&& ~~~ 2#7) ∧
      (∀ k, k ≠ 16 + 2 * h.val → k ≠ 17 + 2 * h.val → t.outCh k = s.outCh k))) ∧
  (∀ (s : State) (h : Fin 4), (s.hpJack h.val).step ≠ .none → Completes (.hpDriverConnect h) s (fun t => (∀ k, t.outCh k = s.outCh k) ∧ Frame [.out] s t)) ∧
  (∀ (s : State) (h : Fin 4) (o : Nat), (o = 16 + 2 * h.val ∨ o = 17 + 2 * h.val) →
    ((s.outCh (16 + 2 * h.val)).driving = true ∨ (s.outCh (17 + 2 * h.val)).driving = true) →
    Completes (.hpOvercurrent h) s (fun t =>
      (t.outCh o).prot = (s.outCh o).prot ||| 64#7 ∧ (t.outCh o).causes.getLsbD 4 = true ∧ (t.outCh o).protSticky = true ∧
      t.bus.attn = s.bus.attn ||| BitVec.ofNat 32 (2 ^ 8) ∧
      (2 ≤ ((s.outCh o).trips.filter (fun x => decide (s.clock.now < x + 5760000))).length → (t.outCh o).latched = true ∧ (t.outCh o).retryAt = none) ∧
      (((s.outCh o).trips.filter (fun x => decide (s.clock.now < x + 5760000))).length < 2 →
        (t.outCh o).latched = (s.outCh o).latched ∧ (t.outCh o).retryAt = some (s.clock.now + 96000)) ∧
      (∀ k, k ≠ 16 + 2 * h.val → k ≠ 17 + 2 * h.val → t.outCh k = s.outCh k) ∧ Frame [.out, .bus, .log] s t)) ∧
  (∀ (s : State) (h : Fin 4), (s.outCh (16 + 2 * h.val)).driving = false → (s.outCh (17 + 2 * h.val)).driving = false → exec (.hpOvercurrent h) s = .next s) ∧
  (∀ (s : State) (h : Fin 4) (o r : Nat), (o = 16 + 2 * h.val ∨ o = 17 + 2 * h.val) → (s.outCh (16 + 2 * h.val)).retryAt = some r → r ≤ s.clock.now →
    s.hpPins h.val = [] →
    Completes (.hpOcRemeasure h) s (fun t => (t.outCh o).prot = (s.outCh o).prot &&& ~~~ 64#7 ∧ (t.outCh o).retryAt = none ∧
      (s.out.cpFault = false → (t.outCh o).causes.getLsbD 4 = false) ∧ Frame [.out] s t)) ∧
  (∀ (s : State) (h : Fin 4) (r : Nat), (s.outCh (16 + 2 * h.val)).retryAt = some r → s.clock.now < r → exec (.hpOcRemeasure h) s = .next s)

/-- R201, R202, R204: the headphone jacks. A change on an enabled pin restarts the debounce of a first reading; a removal acts within the tick and
sets ATTN_CAUSE bit 7; a first debounce that ends unplugged ends in silence; the test current brings the readings, which run down to it or are
repeated at most twice; a removal that lasts DEBOUNCE clears PLUGGED and the classification and is counted. -/
def Obligations.HeadphoneJackMeasurementRuns : Prop :=
  (∀ (s : State) (pin : Fin 4) (level : Bool) (p : JackPin), s.hpPin pin.val = p → p.level ≠ level → s.asleep = false → s.hpPinOn pin.val = true →
    p.first = true → exec (.hpJackPinChange pin level) s =
      .next (s.putHpPin pin.val { p with level := level, debounceEnd := some (s.clock.now + 96 * field (s.dir (0x0600 + pin.val)) 8 8) })) ∧
  (∀ (s : State) (pin : Fin 4) (level : Bool), (s.hpPin pin.val).level = level → exec (.hpJackPinChange pin level) s = .next s) ∧
  (∀ (s : State) (pin : Fin 4) (level : Bool) (p : JackPin), s.hpPin pin.val = p → p.level ≠ level → s.asleep = false → s.hpPinOn pin.val = true →
    p.first = false → level ≠ (s.dir (0x0600 + pin.val)).testBit 5 → p.plugged = true → p.debounceEnd = none →
    Completes (.hpJackPinChange pin level) s (fun t =>
      t.out.pins = tabSet (fun _ => {}) s.out.pins pin.val
        { p with level := level, glitchEnd := some (s.clock.now + 96 * field (s.dir (0x0600 + pin.val)) 8 8) } ∧
      t.bus.attn = s.bus.attn ||| BitVec.ofNat 32 (2 ^ 7) ∧ Frame [.out, .bus, .conv] s t)) ∧
  (∀ (s : State) (pin : Fin 4) (p : JackPin) (e : Nat), s.hpPin pin.val = p → s.hpPinOn pin.val = true → p.debounceEnd = some e → e ≤ s.clock.now →
    (s.hpJack (s.hpPinFor pin.val)).keep = false → p.first = true → p.level ≠ (s.dir (0x0600 + pin.val)).testBit 5 →
    Completes (.hpJackDebounceEnd pin) s (fun t =>
      t.out.pins = tabSet (fun _ => {}) s.out.pins pin.val { p with debounceEnd := none, first := false, plugged := false, glitchEnd := none } ∧
      t.out.jacks = s.out.jacks ∧ Frame [.out] s t)) ∧
  (∀ (s : State) (h : Fin 4) (e : Nat), (s.hpJack h.val).step = .rise e → e ≤ s.clock.now →
    Completes (.hpTestCurrentUp h) s (fun t =>
      t.out = (s.putJack h.val { s.hpJack h.val with step := .readings, readL := [], readR := [] }).out ∧ h.val ∈ t.conv.asked ∧ Frame [.out, .conv] s t)) ∧
  (∀ (s : State) (h : Fin 4) (e : Nat) (k : HpJack), s.hpJack h.val = k → k.step = .fall e → e ≤ s.clock.now → unstable k.readL = true → k.repeats < 2 →
    Completes (.hpTestCurrentDown h) s (fun t =>
      t.hpJack h.val = { k with repeats := k.repeats + 1, step := .rise (s.clock.now + 1920), readL := [], readR := [], classed := false } ∧ Frame [.out] s t)) ∧
  (∀ (s : State) (h : Fin 4) (e : Nat) (k : HpJack), s.hpJack h.val = k → k.step = .fall e → e ≤ s.clock.now → unstable k.readL = false → unstable k.readR = false →
    Completes (.hpTestCurrentDown h) s (fun t =>
      (t.hpJack h.val).step = .none ∧ (t.hpJack h.val).classL = legClass k.readL.sum ∧ (t.hpJack h.val).classR = legClass k.readR.sum ∧
      (k.readL.sum % 400 = 0 → (t.hpJack h.val).zL = k.readL.sum / 400) ∧ Frame [.out, .bus] s t)) ∧
  (∀ (s : State) (pin : Fin 4) (p : JackPin) (e : Nat), s.hpPin pin.val = p → p.glitchEnd = some e → e ≤ s.clock.now →
    Completes (.hpGlitchTimeout pin) s (fun t =>
      t.out.pins = tabSet (fun _ => {}) s.out.pins pin.val { p with glitchEnd := none, plugged := false } ∧
      t.out.jacks = tabSet (fun _ => {}) s.out.jacks (s.hpPinFor pin.val) { plugged := false } ∧
      t.log.live = tabMod (fun _ => 0) s.log.live (0xC4 + 4 * pin.val) (fun v => min (v + 1) (2 ^ 32 - 1)) ∧ Frame [.out, .log] s t))

/-- R208, R209, R210, R327: a protection of an active, unjoined speaker stage that it does not hold yet sets its bit, the PROTECT and DISABLED causes
and ATTN_CAUSE bit 8, ends its sequence, and switches it off at once, or for DC, UV and THERM after its mute; an overcurrent of either stage of a pair trips both; a stage that is not active takes no trip; a DC
trip is off under DC_DET_OFF. A precharge that ends starts the stage. A recovered stage that is not wanted loses its protection. VSPK above 7.5 V
for 10 ms closes the decoupling switch. -/
def Obligations.SpeakerProtectionsTripAndRecover : Prop :=
  (∀ (s : State) (n : Fin 4) (c : OutCh) (i : Instr) (k : Nat), s.outCh (24 + n.val) = c → (c.step ≠ 0 ∨ c.driving = true) → s.stages n.val = [n.val] →
    c.prot.getLsbD k = false →
    ((i = .spkOvercurrent n ∧ k = 0) ∨ (i = .spkDcTrip n ∧ k = 2 ∧ (s.dir 0x0530).testBit 3 = false) ∨ (i = .spkUndervoltage ∧ k = 3) ∨
      (i = .spkOvervoltage ∧ k = 4) ∨ (i = .spkThermalTrip ∧ k = 5)) →
    Completes i s (fun t =>
      (t.outCh (24 + n.val)).prot = c.prot ||| BitVec.ofNat 7 (2 ^ k) ∧ (t.outCh (24 + n.val)).causes.getLsbD 4 = true ∧
      (t.outCh (24 + n.val)).causes.getLsbD 1 = true ∧ (t.outCh (24 + n.val)).step = 0 ∧ (t.outCh (24 + n.val)).protSticky = true ∧
      (t.outCh (24 + n.val)).driving = (c.driving && decide (k = 2 ∨ k = 3 ∨ k = 5) && !c.mute.atZero) ∧ (k = 2 → (t.outCh (24 + n.val)).latched = true) ∧
      t.bus.attn = s.bus.attn ||| BitVec.ofNat 32 (2 ^ 8) ∧ (∀ o, o < 24 → t.outCh o = s.outCh o) ∧ Frame [.out, .bus, .log] s t)) ∧
  (∀ (s : State) (p : Nat) (n : Fin 4), s.stages n.val = [p, p + 1] → (s.outCh (24 + p)).driving = true → (s.outCh (24 + n.val)).prot.getLsbD 0 = false →
    Completes (.spkOvercurrent n) s (fun t => (∀ k, (k = p ∨ k = p + 1) → (t.outCh (24 + k)).prot = (s.outCh (24 + k)).prot ||| 1#7 ∧
      (t.outCh (24 + k)).driving = false ∧ (t.outCh (24 + k)).causes.getLsbD 4 = true) ∧ t.bus.attn = s.bus.attn ||| BitVec.ofNat 32 (2 ^ 8))) ∧
  (∀ (s : State) (n : Fin 4), s.stages n.val = [n.val] → (s.outCh (24 + n.val)).step = 0 → (s.outCh (24 + n.val)).driving = false →
    exec (.spkOvercurrent n) s = .next s.pairFollow ∧
    ((s.dir 0x0530).testBit 3 = false → exec (.spkDcTrip n) s = .next s.pairFollow)) ∧
  (∀ (s : State) (n : Fin 4), (s.dir 0x0530).testBit 3 = true → exec (.spkDcTrip n) s = .next s) ∧
  (∀ (s : State) (n : Fin 4) (c : OutCh), s.outCh (24 + n.val) = c → c.step = 2 → c.stepEnd ≤ s.clock.now → c.causes.getLsbD 1 = true → c.clearAt ≠ s.clock.now →
    exec (.spkPrechargeEnd n) s = .next (s.putOut (24 + n.val) ({ c with driving := true, step := 0 }.without s 1 (s.spkSoft))).pairFollow) ∧
  (∀ (s : State) (n : Fin 4) (c : OutCh) (r : Nat), s.outCh (24 + n.val) = c → s.stages n.val = [n.val] → c.prot = 1#7 → c.retryAt = some r →
    r ≤ s.clock.now → c.latched = false → s.inRun = false →
    Completes (.spkRetry n) s (fun t => (t.outCh (24 + n.val)).prot = 0 ∧ (t.outCh (24 + n.val)).retryAt = none ∧
      (t.outCh (24 + n.val)).causes.getLsbD 4 = false ∧ (t.outCh (24 + n.val)).trips = s.clock.now :: c.trips ∧ Frame [.out] s t)) ∧
  (∀ (s : State) (b : Nat), s.out.vspkSince = some b → b + 960 ≤ s.clock.now →
    exec .vspkDecouplingConnect s = .next { s with out := { s.out with decoupled := true } }) ∧
  (∀ (s : State) (b : Nat), s.out.vspkSince = some b → s.clock.now < b + 960 → exec .vspkDecouplingConnect s = .next s)

/-- R216, R217: a guard pin in the processed state that stops being healthy notes the cause and pre-mutes for 2 ms, then goes low with
BYPASS_STICKY and ATTN_CAUSE bit 8; a pin due for restore goes high and settles; the end of SETTLE ends it. A disabled or healthy pin loses
nothing. -/
def Obligations.GuardPinsFollowHealth : Prop :=
  (∀ (s : State) (g : Fin 4) (p : GbyPin) (cause : Nat), s.gbyPin g.val = p → s.gbyOn g.val = true →
    s.gbyFails g.val = cause → cause ≠ 0 → p.high = true → p.preEnd = none → p.settleEnd = none →
    Completes (.gbyHealthLoss g) s (fun t =>
      t.gbyPin g.val = { p with lastCause := cause, recovery := if cause = 1 then 0 else if cause = 2 then 2 else 1, trip := 0, healthySince := none, preEnd := some (s.clock.now + 192) } ∧
      Frame [.out] s t)) ∧
  (∀ (s : State) (g : Fin 4), s.gbyOn g.val = false ∨ s.gbyFails g.val = 0 → exec (.gbyHealthLoss g) s = .next s) ∧
  (∀ (s : State) (g : Fin 4) (p : GbyPin) (e : Nat), s.gbyPin g.val = p → p.preEnd = some e → e ≤ s.clock.now →
    Completes (.gbyPremuteEnd g) s (fun t =>
      t.gbyPin g.val = { p with high := false, preEnd := none, settleEnd := none, sticky := true } ∧
      t.bus.attn = s.bus.attn ||| BitVec.ofNat 32 (2 ^ 8) ∧ Frame [.out, .bus] s t)) ∧
  (∀ (s : State) (g : Fin 4) (p : GbyPin), s.gbyPin g.val = p → s.gbyDue g.val = true →
    Completes (.gbyRestore g) s (fun t =>
      (t.gbyPin g.val).high = true ∧ (t.gbyPin g.val).settleEnd = some (s.clock.now + 96 * field (s.dir (0x0608 + g.val)) 48 8) ∧
      t.bus.attn = s.bus.attn ||| BitVec.ofNat 32 (2 ^ 8) ∧ Frame [.out, .bus] s t)) ∧
  (∀ (s : State) (g : Fin 4), s.gbyDue g.val = false → exec (.gbyRestore g) s = .next s) ∧
  (∀ (s : State) (g : Fin 4) (p : GbyPin) (e : Nat), s.gbyPin g.val = p → p.settleEnd = some e → e ≤ s.clock.now →
    Completes (.gbySettleEnd g) s (fun t =>
      t.out.gby = tabSet (fun _ => {}) s.out.gby g.val { p with settleEnd := none } ∧ Frame [.out] s t)) ∧
  (∀ (s : State) (g : Fin 4) (e : Nat), (s.gbyPin g.val).settleEnd = some e → s.clock.now < e → exec (.gbySettleEnd g) s = .next s)

/-- R175: the end of a route fade. A falling contribution of the entry that has run out stops, a rising one that has run out stands at full weight,
and the contributions of every other entry are as they were. -/
def Obligations.RouteFadesEnd : Prop :=
  ∀ (s : State) (index : Nat), Completes (.routeCrossfadeEnd index) s (fun t =>
    (∀ c, c ∈ t.rout.contribs → c.entry = index → c.rising = false → s.clock.now < c.start + c.len) ∧
    (∀ c, c ∈ s.rout.contribs → c.entry = index → c.rising = true → c.start + c.len ≤ s.clock.now →
      { c with w0 := 2 ^ 32, start := 0, len := 0 } ∈ t.rout.contribs) ∧
    (∀ c, c.entry ≠ index → (c ∈ t.rout.contribs ↔ c ∈ s.rout.contribs)) ∧
    t.rout = { s.rout with contribs := t.rout.contribs } ∧ Frame [.rout] s t)

/-- R180, R181: a waiting gain of a route entry is taken at once at a zero crossing of its source, where the source's sample of the heat in
progress is known (none is before the heat opens; a mix bus or a graph output has none before it closes, when the crossing is found), and begins a 192-tick ramp at the
end of its timeout; an output gain does the same; a ramp that has run its 192 ticks is over. -/
def Obligations.RouteGainsCrossTimeOutAndRamp : Prop :=
  (∀ (s : State) (c : Contribution) (g d : Nat), c ∈ s.rout.contribs → c.gain.wait = some (g, d) →
    let prev := (s.rout.before c.source).int
    let cur := (s.rout.now c.source).int
    (s.clock.now < d → s.clock.opened = true → isLatched c.source = true → (cur = 0 ∨ (prev < 0 ∧ 0 < cur) ∨ (0 < prev ∧ cur < 0)) →
      Completes (.routeGainZeroCrossing c.entry) s (fun t => { c with gain := { gain := g, wait := none, ramp := none } } ∈ t.rout.contribs ∧ Frame [.rout] s t)) ∧
    (s.clock.now < d → (s.clock.opened = false ∨ isLatched c.source = false ∨ ¬ (cur = 0 ∨ (prev < 0 ∧ 0 < cur) ∨ (0 < prev ∧ cur < 0))) →
      Completes (.routeGainZeroCrossing c.entry) s (fun t => c ∈ t.rout.contribs ∧ Frame [.rout] s t)) ∧
    (d ≤ s.clock.now →
      Completes (.routeGainZcTimeout c.entry) s (fun t =>
        { c with gain := { gain := g, wait := none, ramp := some (c.gain.gain, d) } } ∈ t.rout.contribs ∧ Frame [.rout] s t))) ∧
  (∀ (s : State) (o : Fin 28) (x : GainSt) (g d : Nat), tabGet (fun _ => ({} : GainSt)) s.rout.outGain o.val = x → x.wait = some (g, d) → d ≤ s.clock.now →
    Completes (.routeGainZcTimeout (2048 + o.val)) s (fun t =>
      t.rout.outGain = tabSet (fun _ => {}) s.rout.outGain o.val { gain := g, wait := none, ramp := some (x.gain, d) } ∧ Frame [.rout] s t)) ∧
  (∀ (s : State) (o : Fin 28) (x : GainSt) (g b : Nat), tabGet (fun _ => ({} : GainSt)) s.rout.outGain o.val = x → x.ramp = some (g, b) → b + 192 ≤ s.clock.now →
    Completes (.gainRampEnd (2048 + o.val)) s (fun t =>
      t.rout.outGain = tabSet (fun _ => {}) s.rout.outGain o.val { x with ramp := none } ∧ Frame [.rout] s t)) ∧
  (∀ (s : State) (c : Contribution) (g b : Nat), c ∈ s.rout.contribs → c.gain.ramp = some (g, b) →
    Completes (.gainRampEnd c.entry) s (fun t =>
      (b + 192 ≤ s.clock.now → { c with gain := { c.gain with ramp := none } } ∈ t.rout.contribs) ∧
      (s.clock.now < b + 192 → c ∈ t.rout.contribs) ∧ Frame [.rout] s t))

/-- R179, R185: a mix bus scale that has run its ramp stands at its target; a filter crossfade of 96 ticks drops the outgoing arrangement. Before
their ends both go on as they are.
R187, R188: in Idle and Run, once at a boundary whose TICK is a multiple of 96, every meter slot gives its window and begins a new one: a slot that
took no sample mirrors 0xFFFFFFFF, a peak at or above the held one is held, and a hold counts down. Elsewhere, and a second time, nothing
changes. -/
def Obligations.BusScalesFiltersAndMetersAdvance : Prop :=
  ((∀ (s : State) (b : Fin 64) (x : BusScale), tabGet (fun _ => ({} : BusScale)) s.rout.busScale b.val = x →
       (x.start + x.m ≤ s.clock.now → exec (.busScaleRampEnd b.val) s =
         .next { s with rout := { s.rout with busScale := tabSet (fun _ => {}) s.rout.busScale b.val { s0 := x.s1, s1 := x.s1, start := 0, m := 0 } } }) ∧
       (s.clock.now < x.start + x.m → exec (.busScaleRampEnd b.val) s =
         .next { s with rout := { s.rout with busScale := tabSet (fun _ => {}) s.rout.busScale b.val x } })) ∧
     (∀ (s : State) (id : Nat) (x : HpfSt) (a : HpfArr) (b : Nat), tabGet (fun _ => ({} : HpfSt)) s.rout.hpf id = x → x.old = some (a, b) →
       (b + 96 ≤ s.clock.now → exec (.hpfCrossfadeEnd id) s =
         .next { s with rout := { s.rout with hpf := tabSet (fun _ => {}) s.rout.hpf id { x with old := none } } }) ∧
       (s.clock.now < b + 96 → exec (.hpfCrossfadeEnd id) s = .next { s with rout := { s.rout with hpf := tabSet (fun _ => {}) s.rout.hpf id x } }))) ∧
  ((∀ (s : State) (k : Nat) (m : MeterSt), s.awake = true → s.tickNat % 96 = 0 → s.rout.meterAt ≠ s.clock.now →
       k < 256 → tabGet (fun _ => ({} : MeterSt)) s.rout.meters k = m →
       Completes .meterUpdate s (fun t =>
         let n := tabGet (fun _ => ({} : MeterSt)) t.rout.meters k
         t.rout.meterAt = s.clock.now ∧ n.peakNow = m.peak ∧ n.peak = 0 ∧ n.fed = false ∧ n.lastUnsettled = m.winUnsettled ∧ n.lastSubst = m.winSubst ∧
         n.clips = m.clips ∧ (m.fed = false → n.mirror = 0xFFFFFFFF#32) ∧
         (m.reaches = true → n.heldPeak = m.peak ∧ n.fallen = 0 ∧ n.holdLeft = 100 * field m.cfg 20 8) ∧
         (m.reaches = false → 0 < m.holdLeft → n.heldPeak = m.heldPeak ∧ n.fallen = m.fallen ∧ n.holdLeft = m.holdLeft - 1) ∧
         (m.reaches = false → m.holdLeft = 0 → n.heldPeak = m.heldPeak ∧ n.fallen = m.fallen + field m.cfg 28 8 ∧ n.holdLeft = 0) ∧
         Frame [.rout] s t)) ∧
     (∀ (s : State), s.awake = false ∨ s.tickNat % 96 ≠ 0 ∨ s.rout.meterAt = s.clock.now → exec .meterUpdate s = .next s))

/-- R227, R235: a frame start on an enabled port. A frame that ended with a wrong length counts one frame error, in every state. In Idle the start
feeds the rate measurement besides, where the port does not drive BCK itself; in Run, on a running port that counts frames, the frame that ended is kept and its index counts on;
but an asynchronous port that awaits its first complete frame after a gun begins to count again after a short or a long one (R239). A port
that is off sees nothing. -/
def Obligations.PortFrameStartsAreCounted : Prop :=
  (∀ (s : State) (p : Fin 6) (w : PortWire), s.portOn p.val = false → exec (.portFrameStart p w) s = .next s) ∧
  (∀ (s : State) (p : Fin 6) (w : PortWire) (q : Port), s.portOn p.val = true → s.inIdle = true → s.port p.val = q →
    exec (.portFrameStart p w) s = .next (s.putPort p.val
      (let at_ := 32768 * s.clock.now + if fmtFull (s.pFmt p.val) then 0 else w.at_.val
       let bad := (frameShort (s.pFmt p.val) w || frameLong (s.pFmt p.val) w) && q.lastStart.isSome
       let r : Port := { q with frameErrs := if bad then min (q.frameErrs + 1) 65535 else q.frameErrs, frameErrSticky := q.frameErrSticky || bad, lastStart := some at_ }
       match fmtBck (s.pFmt p.val), q.edgeFirst with
       | true, _ => r
       | false, some _ => { r with edgeLast := some at_, edgeCount := q.edgeCount + 1 }
       | false, none => { r with edgeFirst := some at_, edgeLast := some at_, edgeCount := 0 }))) ∧
  (∀ (s : State) (p : Fin 6) (w : PortWire) (q : Port), s.portOn p.val = true → s.inRun = true → s.port p.val = q → q.state = 2 →
    q.counting = true →
    let wrong := frameShort (s.pFmt p.val) w || frameLong (s.pFmt p.val) w
    let bad := wrong && q.lastStart.isSome
    (s.portSync p.val ≠ 0 ∨ wrong = false ∨ q.gunAt = none) →
    Completes (.portFrameStart p w) s (fun t =>
      (t.port p.val).frame = q.frame + 1 ∧
      (t.port p.val).frameErrs = (if bad then min (q.frameErrs + 1) 65535 else q.frameErrs) ∧
      (t.port p.val).frameErrSticky = (q.frameErrSticky || bad) ∧
      (t.port p.val).lastStart = some (32768 * s.clock.now + if fmtFull (s.pFmt p.val) then 0 else w.at_.val) ∧
      ((t.port p.val).ringIn.head?.map (fun f => f.index)) = some q.frame ∧ Frame [.ports, .log, .free] s t)) ∧
  (∀ (s : State) (p : Fin 6) (w : PortWire) (q : Port) (g : Nat), s.portOn p.val = true → s.inRun = true → s.port p.val = q → q.state = 2 →
    q.counting = true → s.portSync p.val = 0 → (frameShort (s.pFmt p.val) w || frameLong (s.pFmt p.val) w) = true → q.gunAt = some g →
    g ≤ s.clock.now → Completes (.portFrameStart p w) s (fun t => (t.port p.val).frame = 0 ∧ (t.port p.val).counting = true ∧
      (t.port p.val).gunAt = some g ∧ (t.port p.val).ringIn = [] ∧ Frame [.ports, .log, .free] s t))

/-- R230: an exchange that is due at its boundary, without a slip, is counted, and the next one falls due after the exchange period. A port whose
exchange is not due makes none. -/
def Obligations.PortExchangeIsMadeAtItsBoundary : Prop :=
  (∀ (s : State) (p : Fin 6) (b : Nat), s.Between → s.exchangeDue p.val = true → (s.port p.val).nextP = some b → s.portSlip p.val b = none →
    Completes (.portExchange p) s (fun t =>
      (t.port p.val).exchange = (s.port p.val).exchange + 1 ∧ (t.port p.val).nextP = some (b + if s.portSync p.val = 1 then 2 else 1) ∧
      (t.port p.val).state = 2 ∧ t.clock.now = s.clock.now ∧ t.clock.tick = s.clock.tick)) ∧
  (∀ (s : State) (p : Fin 6), s.Between → s.exchangeDue p.val = false → exec (.portExchange p) s = .next s) ∧
  (∀ (s : State) (p : Fin 6), s.clock.opened = true → exec (.portExchange p) s = .next s)

/-- R237-R239: a gun whose tick has come fires: it leaves the list, and in Run a port of its groups at a right rate waits for its frame 0 from this
tick on. A falling edge on START_N schedules one two boundaries on, but not within 960 ticks of the one before nor outside Run. -/
def Obligations.GunsFireAndStartPorts : Prop :=
  (∀ (s : State), s.clock.opened = false → s.cfg.armed = none → s.gunDue = true →
    Completes .gunFire s (fun t =>
      t.ports.guns = s.ports.guns.filter (fun g => !decide (g.2.1 ≤ s.tickNat)) ∧
      (s.inRun = true → ∀ p, p < 6 → s.gunsDue.testBit (s.pGroup p) = true → s.portOn p = true → (s.port p).cls = 0 → (s.port p).state = 1 →
        (t.port p).state = 1 ∧ (t.port p).gunAt = some s.clock.now ∧ (t.port p).frame = 0) ∧
      t.clock.now = s.clock.now)) ∧
  (∀ (s : State), s.clock.opened = true ∨ s.gunDue = false → exec .gunFire s = .next s) ∧
  (∀ (s : State), s.inRun = true → (s.dir 0x1424).testBit 16 = false → (∀ b, s.ports.lastPinGun = some b → b + 960 ≤ s.clock.now) →
    exec .startNEdge s = .next { s with ports := { s.ports with
      guns := s.ports.guns ++ [(field (s.dir 0x1424) 8 8, s.tickNat + 2, false, 5)], lastPinGun := some (s.clock.now + 2) } }) ∧
  (∀ (s : State), s.inRun = false ∨ (∃ b, s.ports.lastPinGun = some b ∧ s.clock.now < b + 960) → exec .startNEdge s = .next s)

/-- R233-R236, R242: a started port without a valid frame for 256 ticks stops and repeats its samples marked SUBSTITUTED; rates are reported in Idle and
Run when TICK is a multiple of 9,600; the ASRC of an asynchronous port locks once it acquires; a mask staged while the port runs acts at its frame start, and one staged before waits for frame 0 of the next start. -/
def Obligations.PortsStopReportLockAndMask : Prop :=
  (∀ (s : State) (p : Fin 6), s.inRun = true → s.portOn p.val = true → (s.port p.val).started = true → fmtFull (s.pFmt p.val) = false →
    (s.port p.val).state ≠ 3 → (s.port p.val).lastValid + 32768 * 256 ≤ 32768 * s.clock.now →
    Completes (.portStopped p) s (fun t => (t.port p.val).state = 3 ∧ (t.port p.val).counting = false ∧
      (∀ k, k < 32 → (t.port p.val).present[k]? = some { (s.port p.val).present.getD k StreamWord.zero with substituted := true }) ∧ Frame [.ports, .log] s t)) ∧
  (∀ (s : State) (p : Fin 6), s.inRun = false ∨ (s.port p.val).started = false ∨ 32768 * s.clock.now < (s.port p.val).lastValid + 32768 * 256 →
    exec (.portStopped p) s = .next s) ∧
  (∀ (s : State) (p : Nat), s.awake = true → s.tickNat % 9600 = 0 → p < 6 → s.portOn p = true →
    Completes .rateReport s (fun t =>
      (t.port p).rate = (s.rateOf p (s.port p)).1 ∧ (t.port p).cls = (s.rateOf p (s.port p)).2.1 ∧ (t.port p).dev = (s.rateOf p (s.port p)).2.2 ∧
      (t.port p).edgeCount = 0 ∧
      (t.port p).edgeFirst = (if (s.rateOf p (s.port p)).2.1 = 0 then none else (s.port p).edgeLast) ∧ Frame [.ports, .bus, .log, .free] s t)) ∧
  (∀ (s : State), s.awake = false ∨ s.tickNat % 9600 ≠ 0 → exec .rateReport s = .next s) ∧
  (∀ (s : State) (p : Fin 6) (q : Port), s.port p.val = q → s.portSync p.val = 0 → q.acquireFrom.isSome = true →
    exec (.asrcLock p) s = .next (s.putPort p.val { q with asrcLocked := true })) ∧
  (∀ (s : State) (p : Fin 6) (q : Port), s.port p.val = q → s.portSync p.val ≠ 0 → exec (.asrcLock p) s = .next (s.putPort p.val q)) ∧
  (∀ (s : State) (p : Fin 6) (q : Port) (i o b : Nat), s.port p.val = q → q.staged = some (i, o) → s.inRun = true → q.state = 2 → q.counting = true →
    q.stagedNext = false → q.lastStart = some b → q.stagedAt + s.twoBits p.val ≤ b → q.stagedAt < b →
    Completes (.maskTakeEffect p) s (fun t => (t.port p.val).staged = none ∧ (t.port p.val).maskOut = o ∧ (t.port p.val).maskFrame = q.frame ∧
      (t.port p.val).maskInAt = q.maskInAt ++ [(q.frame, i)] ∧ Frame [.ports] s t)) ∧
  (∀ (s : State) (p : Fin 6), (s.port p.val).staged = none ∨ (s.port p.val).stagedNext = true → exec (.maskTakeEffect p) s = .next s)

/-- R248, R256, R266, R267: a LINK port from DOWN on. A partner signal starts training, its loss on a hop that is not UP ends it; eight marks in
sequence lock, and two frames lost in a row end the lock and a hop that is not UP; a partner of the same letter is MISWIRED, one without a common
revision leaves the port DOWN, and otherwise the hop is judged after 64 delay measurements: two systems that both run are kept apart (BLOCKED,
reason 1), and a closing hop is UP at once. -/
def Obligations.LinkPortTrainsAndIsJudged : Prop :=
  ∀ (s : State) (x : Fin 2) (p : LinkPort), s.link.port x.val = p →
    (s.linkOn x.val = false → ∀ b, exec (.linkSignalDetect x b) s = .next s) ∧
    (s.linkOn x.val = true → p.state = 0 → exec (.linkSignalDetect x true) s =
      .next (s.putLink x { p with state := 1, locked := false, markLabel := none, markRun := 0, lostRun := 0, delays := [], partner := none, rev := 0, blockReason := 0 })) ∧
    (s.linkOn x.val = true → p.state ≠ 0 → exec (.linkSignalDetect x true) s = .next s) ∧
    (s.linkOn x.val = true → p.state ≠ 5 → exec (.linkSignalDetect x false) s = .next (s.putLink x
      { p with state := 0, locked := false, rev := 0, blockReason := 0, joins := false })) ∧
    (s.linkOn x.val = true → p.state = 5 → exec (.linkSignalDetect x false) s = .next s) ∧
    (p.state ≠ 0 → p.markRun = 8 → exec (.linkFrameLock x) s = .next (s.putLink x { p with locked := true })) ∧
    (p.state = 0 ∨ p.markRun ≠ 8 → exec (.linkFrameLock x) s = .next s) ∧
    (p.locked = true → p.lostRun = 2 → (p.state = 1 ∨ p.state = 3 ∨ p.state = 4) → exec (.frameLockLoss x) s = .next (s.putLink x
      { p with state := 0, locked := false, rev := 0, blockReason := 0, joins := false })) ∧
    (p.state = 5 ∨ p.lostRun ≠ 2 → exec (.frameLockLoss x) s = .next s) ∧
    (∀ i : HopInfo, p.state ≠ 1 ∨ p.locked = false ∨ p.delays.length < 64 → exec (.linkTrainingDone x i) s = .next s) ∧
    (s.linkOn x.val = true → p.state = 1 → p.locked = true → 64 ≤ p.delays.length → ∀ i : HopInfo,
      (i.letterB = decide (x.val = 1) → exec (.linkTrainingDone x i) s = .next (s.putLink x { p with state := 2, partner := some i })) ∧
      (i.letterB ≠ decide (x.val = 1) → (i.revMax.val = 0 ∨ 2 < i.revMax.val) →
        exec (.linkTrainingDone x i) s = .next (s.putLink x { p with state := 0, locked := false })) ∧
      (i.letterB ≠ decide (x.val = 1) → (i.revMax.val = 1 ∨ i.revMax.val = 2) →
        Completes (.linkTrainingDone x i) s (fun t =>
          (t.link.port x.val).state = (s.judgeHop x.val i).1 ∧ (t.link.port x.val).blockReason = (s.judgeHop x.val i).2.1 ∧
          (t.link.port x.val).partner = some i ∧ (t.link.port x.val).rev = min s.revMax i.revMax.val ∧
          ((s.judgeHop x.val i).1 ≠ 5 → t.link.port (1 - x.val) = (s.link.port (1 - x.val)).forwards s.free ∧ Frame [.link] s t) ∧
          ((s.judgeHop x.val i).1 = 5 → t.bus.attn = s.bus.attn ||| BitVec.ofNat 32 (2 ^ 12) ∧ Frame [.link, .bus] s t ∧
            (t.link.port (1 - x.val)).returnAt = (if 0 < s.link.k then some (s.tickNat + s.link.l + 2) else none) ∧
            (s.link.isPace = true → s.link.k = 0 → t.link.formAt = some (s.tickNat + s.link.l + 2))) ∧
          (s.tooMany i = false → s.idTwice i = false → i.pacePrio.val ≠ 255 → s.link.identity ≠ i.identity → s.segLive = true → i.live = true →
            (t.link.port x.val).state = 3 ∧ (t.link.port x.val).blockReason = 1))))

/-- R29, R254, R266, R267: the one aligning hop comes UP. The side that joins does so once it is ALIGNED; one of another system loads TICK and
takes over the system's pacesetter, L and K, only with its whole segment in Idle, and one of the same system keeps its TICK; the other side keeps
its TICK. ATTN_CAUSE bit 12 is set. A device behind the joining hop takes over the system as it is told. -/
def Obligations.LinkJoinLoadsTick : Prop :=
  ∀ (s : State) (x : Fin 2) (p : LinkPort) (tick : BitVec 48), s.link.port x.val = p → (s.link.port (1 - x.val)).state ≠ 4 →
    (p.state = 4 → p.joins = true → ∀ sys : Option (Fin 1024 × BitVec 64),
      (∀ i : HopInfo, p.partner = some i → s.link.aligned = true → s.link.identity ≠ i.identity → s.segIdle = true →
        Completes (.linkJoinAlign ⟨tick, sys⟩) s (fun t =>
          t.clock = { s.clock with tick := tick } ∧ t.link.identity = i.identity ∧ t.link.pace = i.pace.val ∧ t.link.isPace = false ∧
          t.link.l = p.sysL ∧ t.link.k = p.sysK ∧ (t.link.port (1 - x.val)).origin = false ∧
          (t.link.port x.val).state = 5 ∧ t.bus.attn = s.bus.attn ||| BitVec.ofNat 32 (2 ^ 12) ∧ Frame [.clock, .link, .bus] s t)) ∧
      (∀ i : HopInfo, p.partner = some i → s.link.aligned = true → s.link.identity = i.identity →
        Completes (.linkJoinAlign ⟨tick, sys⟩) s (fun t =>
          t.link.identity = i.identity ∧ t.link.pace = i.pace.val ∧ t.link.isPace = false ∧ t.link.l = s.link.l ∧ t.link.k = s.link.k ∧
          (t.link.port x.val).state = 5 ∧ t.bus.attn = s.bus.attn ||| BitVec.ofNat 32 (2 ^ 12) ∧ Frame [.link, .bus] s t)) ∧
      (s.link.aligned = false → exec (.linkJoinAlign ⟨tick, sys⟩) s = .next s) ∧
      (∀ i : HopInfo, p.partner = some i → s.link.identity ≠ i.identity → s.segIdle = false → exec (.linkJoinAlign ⟨tick, sys⟩) s = .next s)) ∧
    (p.state = 4 → p.joins = false →
      Completes (.linkJoinAlign ⟨tick, none⟩) s (fun t => t.link.identity = s.link.identity ∧ (t.link.port x.val).state = 5 ∧
        t.bus.attn = s.bus.attn ||| BitVec.ofNat 32 (2 ^ 12) ∧ Frame [.link, .bus] s t) ∧
      (∀ v, exec (.linkJoinAlign ⟨tick, some v⟩) s = .next s)) ∧
    (p.state ≠ 4 → exec (.linkJoinAlign ⟨tick, none⟩) s = .next s ∧
      ∀ (pace : Fin 1024) (id : BitVec 64),
        (s.inIdle = true ∨ id = s.link.identity → Completes (.linkJoinAlign ⟨tick, some (pace, id)⟩) s (fun t =>
          t.link.pace = pace.val ∧ t.link.identity = id ∧ t.link.isPace = false ∧
          t.clock = (if id = s.link.identity then s.clock else { s.clock with tick := tick }) ∧ Frame [.clock, .link] s t)) ∧
        (s.inIdle = false → id ≠ s.link.identity → exec (.linkJoinAlign ⟨tick, some (pace, id)⟩) s = .next s))

/-- R248, R256, R269, R271: a break of an UP hop, two frames lost in a row, takes it DOWN, counts it, makes the device the origin of the direction
that entered there for 256 healing frames, ends the ring and sets ATTN_CAUSE bit 12; a hop that is not UP or has not lost two frames cannot break.
At its announced label a ring forms, with the K announced; at its label a repaired hop forwards again. -/
def Obligations.LinkBreaksHealsAndReturns : Prop :=
  (∀ (s : State) (x : Fin 2) (p : LinkPort), s.link.port x.val = p → p.state = 5 → 2 ≤ p.lostRun →
    Completes (.linkBreak x) s (fun t =>
      (t.link.port x.val).state = 0 ∧ (t.link.port x.val).locked = false ∧ (t.link.port x.val).rev = 0 ∧
      (t.link.port x.val).breaks = min (p.breaks + 1) 65535 ∧ (t.link.port x.val).frameErrs = p.frameErrs ∧
      (t.link.port (1 - x.val)).origin = true ∧ (t.link.port (1 - x.val)).heal = 256 ∧
      t.link.ring = false ∧ t.bus.attn = s.bus.attn ||| BitVec.ofNat 32 (2 ^ 12) ∧ Frame [.link, .dpll, .log, .bus] s t)) ∧
  (∀ (s : State) (x : Fin 2), (s.link.port x.val).state ≠ 5 ∨ (s.link.port x.val).lostRun < 2 → exec (.linkBreak x) s = .next s) ∧
  (∀ (s : State) (c : Nat), s.link.formAt = some c → c ≤ s.tickNat → exec .ringFormation s = .next { s with link := { s.link with
    formAt := none, ring := true, ringFrom := c, k := s.link.formK, a := { s.link.a with origin := false, sched := 0 }, b := { s.link.b with origin := false, sched := 0 } } }) ∧
  (∀ (s : State) (c : Nat), s.link.formAt = some c → s.tickNat < c → exec .ringFormation s = .next s) ∧
  (∀ (s : State) (x : Fin 2) (p : LinkPort) (c : Nat), s.link.port x.val = p → p.returnAt = some c → c ≤ s.tickNat →
    Completes (.linkRepairReturn x) s (fun t =>
      t.link.port x.val = { p with origin := false, sched := 0, heal := 0, returnAt := none } ∧ t.link.port (1 - x.val) = s.link.port (1 - x.val) ∧
      (s.link.k = 0 → t.link.ring = false) ∧ (0 < s.link.k → t.link.ring = s.link.ring) ∧ Frame [.link] s t)) ∧
  (∀ (s : State) (x : Fin 2) (c : Nat), (s.link.port x.val).returnAt = some c → s.tickNat < c → exec (.linkRepairReturn x) s = .next s)

/-- R248-R252, R255, R258, R263: frames. Marks in sequence are counted towards frame lock; on a locked port a lost or misplaced frame is a frame error and
brings nothing else. On an UP hop a good frame's slots are kept for the receive entries, the newest first, and a bad one counts a
frame error. An origin launches a frame with the label its schedule gives and its own ID as the sender, and one
healing frame less is to come; the pacesetter of a ring retimes with the label TICK − 1. -/
def Obligations.LinkFramesAreReceivedLaunchedAndRetimed : Prop :=
  (∀ (s : State) (x : Fin 2) (f : LinkFrame) (d : Nat) (p : LinkPort), s.link.port x.val = p → s.linkOn x.val = true → p.state ≠ 0 → p.state ≠ 2 →
    (f.markOk = true → p.locked = true → p.state = 5 →
      Completes (.linkFrameReceived x f d) s (fun t =>
        (f.good = true → (t.link.port x.val).copies =
          ({ label := f.label.toNat, at_ := 524288 * s.clock.now + d, slots := f.slots, crossed := f.crossed } :: p.copies).take 128 ∧
          (t.link.port x.val).frameErrs = p.frameErrs) ∧
        (f.good = false → (t.link.port x.val).copies = p.copies ∧ (t.link.port x.val).frameErrs = min (p.frameErrs + 1) 65535) ∧
        (t.link.port x.val).lostRun = 0 ∧ (t.link.port x.val).echoTx = f.tTx.toNat ∧ (t.link.port x.val).state = 5 ∧ Frame [.link, .free] s t)) ∧
    (f.markOk = true → p.locked = true → p.state ≠ 5 →
      Completes (.linkFrameReceived x f d) s (fun t => (t.link.port x.val).copies = p.copies ∧ (t.link.port x.val).delays.length = min (p.delays.length + 1) 64 ∧
        (t.link.port x.val).echoTx = f.tTx.toNat ∧ (t.link.port x.val).state = p.state ∧ Frame [.link, .free] s t)) ∧
    (f.markOk = true → p.locked = false → exec (.linkFrameReceived x f d) s = .next (s.putLink x { p with
      lostRun := 0, markLabel := some (f.label.toNat % 16), markRun := if p.markLabel = some ((f.label.toNat + 15) % 16) then min 8 (p.markRun + 1) else 1 })) ∧
    (f.markOk = false → p.locked = false → exec (.linkFrameReceived x f d) s = .next (s.putLink x { p with
      lostRun := min 2 (p.lostRun + 1), markLabel := none, markRun := 0 })) ∧
    (f.markOk = false → p.locked = true → exec (.linkFrameReceived x f d) s = .next (s.putLink x { p with
      lostRun := min 2 (p.lostRun + 1), markLabel := none, markRun := 0, frameErrs := min (p.frameErrs + 1) 65535, frameErrSticky := true }))) ∧
  (∀ (s : State) (x : Fin 2) (f : LinkFrame) (d : Nat), s.linkOn x.val = false ∨ (s.link.port x.val).state = 0 ∨ (s.link.port x.val).state = 2 →
    exec (.linkFrameReceived x f d) s = .next s) ∧
  (∀ (s : State) (x : Fin 2) (p : LinkPort), s.link.port x.val = p → s.linkOn x.val = true →
    (p.state = 1 ∨ p.state = 3 ∨ p.state = 4 ∨ (p.state = 5 ∧ s.isOrigin x.val = true)) →
    Completes (.linkFrameLaunch x) s (fun t => (∃ f, (t.link.port x.val).sent = some f ∧
        f.label = BitVec.ofNat 48 (s.tickNat - 1 - p.sched / 524288) ∧ f.sender = Fin.ofNat 1024 s.devId ∧ f.good = true ∧
        (p.state ≠ 5 → p.rev ≠ 1 → f.slots = [])) ∧
      (t.link.port x.val).heal = p.heal - 1 ∧ t.link.port (1 - x.val) = s.link.port (1 - x.val) ∧ Frame [.link, .free] s t)) ∧
  (∀ (s : State) (x : Fin 2), s.linkOn x.val = false ∨ (s.link.port x.val).state = 0 ∨ (s.link.port x.val).state = 2 ∨
      ((s.link.port x.val).state = 5 ∧ s.isOrigin x.val = false) → exec (.linkFrameLaunch x) s = .next s) ∧
  (∀ (s : State) (x : Fin 2), s.linkOn x.val = true → (s.link.port x.val).state = 5 → s.link.retimes = true →
    Completes (.linkRetime x) s (fun t => (∃ f, (t.link.port x.val).sent = some f ∧ f.label = BitVec.ofNat 48 (s.tickNat - 1) ∧
        f.sender = Fin.ofNat 1024 s.devId ∧ f.ring = s.link.ring ∧ f.k = Fin.ofNat 256 s.link.k) ∧ Frame [.link, .free] s t)) ∧
  (∀ (s : State) (x : Fin 2), s.link.retimes = false → exec (.linkRetime x) s = .next s)

/-- R253, R260, R264: the topology. When TICK is a multiple of 9,600 an announcement is queued on every port from BLOCKED on; one received enters the
table with the port it came by, and a new device, or a hop of a known one that came UP or broke, sets ATTN_CAUSE bit 12; an entry that misses three is dropped with the same cause. ALIGNED is set
after 96 ticks within 2 ns and cleared after 4 beyond 3 ns, never at a device with nothing to align to; a new L is in force from its tick on. -/
def Obligations.LinkTopologyAlignmentAndOffsetFollow : Prop :=
  (∀ (s : State), s.awake = true → s.ctl.running = true → s.tickNat % 9600 = 0 →
    Completes .linkAnnouncement s (fun t => t.link.seq = (s.link.seq + 1) % 256 ∧
      (∀ x, x < 2 → 3 ≤ (s.link.port x).state → ∃ c, (t.link.port x).outbox = (s.link.port x).outbox ++ [c] ∧ c.bcast = true ∧ c.data = annBytes s.ownAnn) ∧
      (∀ x, x < 2 → (s.link.port x).state < 3 → t.link.port x = s.link.port x) ∧ Frame [.link] s t)) ∧
  (∀ (s : State), s.awake = false ∨ s.ctl.running = false ∨ s.tickNat % 9600 ≠ 0 → exec .linkAnnouncement s = .next s) ∧
  (∀ (s : State) (x : Fin 2) (a : Announcement), s.linkOn x.val = true → 3 ≤ (s.link.port x.val).state → s.ctl.running = true → a.serial ≠ Config.serial →
    Completes (.announcementReceived x a) s (fun t =>
      (∃ e, e ∈ t.link.topo ∧ e.ann = a ∧ (if x.val = 0 then e.atA else e.atB) = some s.clock.now) ∧
      (∀ e, e.ann.serial ≠ a.serial → (e ∈ t.link.topo ↔ e ∈ s.link.topo)) ∧
      ((∀ e, e ∈ s.link.topo → e.ann.serial ≠ a.serial) → t.bus.attn = s.bus.attn ||| BitVec.ofNat 32 (2 ^ 12)) ∧
      (∀ e, s.link.topo.find? (fun y => decide (y.ann.serial = a.serial)) = some e →
        (e.ann.revA ≠ a.revA ∨ e.ann.revB ≠ a.revB → t.bus.attn = s.bus.attn ||| BitVec.ofNat 32 (2 ^ 12)) ∧
        (e.ann.revA = a.revA → e.ann.revB = a.revB → t.bus = s.bus)) ∧ Frame [.link, .bus] s t)) ∧
  (∀ (s : State) (id : Fin 1024), (∃ e, e ∈ s.link.topo ∧ e.ann.id = id ∧ e.seen + 28800 ≤ s.clock.now) →
    Completes (.announcementDrop id) s (fun t =>
      (∀ e, e ∈ t.link.topo ↔ e ∈ s.link.topo ∧ ¬ (e.ann.id = id ∧ e.seen + 28800 ≤ s.clock.now)) ∧
      t.bus.attn = s.bus.attn ||| BitVec.ofNat 32 (2 ^ 12) ∧ Frame [.link, .bus] s t)) ∧
  (∀ (s : State) (id : Fin 1024), (∀ e, e ∈ s.link.topo → e.ann.id = id → s.clock.now < e.seen + 28800) → exec (.announcementDrop id) s = .next s) ∧
  (∀ (s : State), exec (.linkAlignedChange true) s = .next { s with link := { s.link with aligned :=
    if s.link.near = 96 ∧ s.link.target ≠ none then true else s.link.aligned } }) ∧
  (∀ (s : State), exec (.linkAlignedChange false) s = .next { s with link := { s.link with aligned :=
    if s.link.far = 4 ∨ s.link.target = none then false else s.link.aligned } }) ∧
  (∀ (s : State), s.link.isPace = true → (∀ x, x < 2 → (s.link.port x).state ≠ 4) → s.link.target = none) ∧
  (∀ (s : State) (u l : Nat) (r : List (Nat × Nat)), s.link.lNext = (u, l) :: r → u ≤ s.tickNat →
    exec .linkOffsetChange s = .next { s with link := { s.link with l := l, lNext := r, lOld := some (u, s.link.l) } }) ∧
  (∀ (s : State) (u l : Nat) (r : List (Nat × Nat)), s.link.lNext = (u, l) :: r → s.tickNat < u → exec .linkOffsetChange s = .next s)

/-- R272, R273, R388, R390: control cells and remote packets. A cell for this device joins the segments of its packet, and one for another device
does not; a whole request waits in the inbox; a whole reply goes to the port whose packet it answers, and one that answers nothing is dropped;
a request to another device waits for its reply, and without one in time it is answered REMOTE_TIMEOUT (0x51), an unknown target at once with
0x50. -/
def Obligations.RemotePacketsTravelByCells : Prop :=
  (∀ (s : State) (x : Fin 2) (c : LinkCell), s.linkOn x.val = true → 3 ≤ (s.link.port x.val).state → c.full = true → c.good = true → c.hopLocal = false →
    c.bcast = false → c.dst.val = s.devId →
    Completes (.controlCellReceived x c) s (fun t =>
      (∃ r, r ∈ t.link.assembling ∧ r.port = x.val ∧ r.src = c.src.val ∧ r.seq = c.seq.val ∧ (c.seg.val, c.data) ∈ r.segs) ∧ Frame [.link] s t)) ∧
  (∀ (s : State) (x : Fin 2) (c : LinkCell), s.linkOn x.val = false ∨ c.good = false ∨ (c.bcast = false ∧ c.hopLocal = false ∧ c.dst.val ≠ s.devId) →
    exec (.controlCellReceived x c) s = .next s) ∧
  (∀ (s : State) (x : Fin 2) (src : Fin 1024) (seq : Fin 256) (b : List Byte) (l : Link), s.link.takeAssembled x.val src.val seq.val = some (b, l) →
    le b 2 2 < 0x8000 → s.awake = true → s.ctl.running = true →
    exec (.remotePacketReassembled x src seq) s = .next { s with link := l, ctl := { s.ctl with
      inbox := s.ctl.inbox ++ [(2 + x.val, le b 10 2 % 1024, le b 10 2 / 1024 % 8, { bytes := b, now := s.clock.now, tick := s.tickNat })] } }) ∧
  (∀ (s : State) (x : Fin 2) (src : Fin 1024) (seq : Fin 256) (b : List Byte) (l : Link) (o : Outstanding), s.link.takeAssembled x.val src.val seq.val = some (b, l) →
    0x8000 ≤ le b 2 2 → l.answered src.val b = some o → le b 12 1 ≠ 1 →
    exec (.remoteReplyReceived x src seq) s = .next ({ s with link := { l with outstanding := l.outstanding.erase o } }.placeReply o.req.port.val 0 b)) ∧
  (∀ (s : State) (x : Fin 2) (src : Fin 1024) (seq : Fin 256) (b : List Byte) (l : Link), s.link.takeAssembled x.val src.val seq.val = some (b, l) →
    0x8000 ≤ le b 2 2 → l.answered src.val b = none → exec (.remoteReplyReceived x src seq) s = .next { s with link := l }) ∧
  (∀ (s : State) (seq : Fin 256) (o : Outstanding), s.link.outstanding.find? (fun y => decide (y.seq = seq.val) && !y.accepted && decide (y.deadline ≤ s.clock.now)) = some o →
    exec (.remoteTimeout seq) s = .next ({ s with link := { s.link with outstanding := s.link.outstanding.erase o } }.reply
      { req := o.req, opcode := o.opcode, now := s.clock.now, tick := s.tickNat } 0x51 0 [])) ∧
  (∀ (s : State) (q : Req) (target : Fin 1024) (op : BitVec 15), 2 ≤ q.port.val ∨ q.remote = false ∨ target.val = s.devId →
    exec (.remoteForward q target op) s = .next s) ∧
  (∀ (s : State) (q : Req) (target : Fin 1024) (op : BitVec 15), q.port.val < 2 → q.remote = true → target.val ≠ s.devId → s.Takes q →
    s.revisionOk op.toNat q = true →
    ((∀ e, e ∈ s.link.topo → e.ann.id ≠ target) →
      exec (.remoteForward q target op) s = .next ((s.seen q).reply { req := q, opcode := op.toNat, now := s.clock.now, tick := s.tickNat } 0x50 0 [])) ∧
    ((∃ e, e ∈ s.link.topo ∧ e.ann.id = target) → (s.link.outstanding.filter (fun o => !o.accepted)).length < 8 →
      Completes (.remoteForward q target op) s (fun t => ∃ o, t.link.outstanding = s.link.outstanding ++ [o] ∧ o.target = target.val ∧ o.req = q ∧
        o.deadline = s.clock.now + 960 * field (s.dir 0x1700) 16 8 ∧ o.accepted = false ∧ t.bus = s.bus)))

/-- R281-R283, R285, R29: a loss of the crystal clears XO_OK and ANALOG_LOCK, loses LOCK and sets ATTN_CAUSE bit 3; the crystal returns unless
reset holds it off, or the rest domain with no exit or with a supply missing; ANALOG_LOCK needs XO_OK; LOCK_COUNT phase errors within the window, in a time that holds so many comparisons, declare LOCK, and from
then on TICK counts and the root domains run; four errors beyond the unlock window, or the end of ANALOG_LOCK, lose it: LOST_STICKY, LOCK_LOSSES and
ATTN_CAUSE bit 3; before LOCK the end of ANALOG_LOCK clears it alone. An error list that misses its window brings PHASE_ERR and nothing else;
a gate of an entry to Rest or Watch ends with a declaration that no entry runs beside. -/
def Obligations.LockIsDeclaredAndLost : Prop :=
  (∀ (s : State), s.synth.xoOk = true → s.synth.lock = true →
    Completes .xoLoss s (fun t => t.synth = { s.synth with
        xoOk := false, analogLock := false, lock := false, lostSticky := true, lockLosses := min (s.synth.lockLosses + 1) 65535 } ∧
      t.bus.attn = s.bus.attn ||| BitVec.ofNat 32 (2 ^ 3) ∧ Frame [.synth, .bus, .log] s t)) ∧
  (∀ (s : State), s.synth.xoOk = false → exec .xoLoss s = .next s) ∧
  (∀ (s : State), s.power.inReset = false → s.asleep = false → exec .xoRecover s = .next { s with synth := { s.synth with xoOk := true } }) ∧
  (∀ (s : State), s.power.inReset = true ∨ (s.asleep = true ∧ (s.power.exiting = none ∨ s.power.supplied = false)) → exec .xoRecover s = .next s) ∧
  (∀ (s : State), s.synth.xoOk = true → exec .analogLockSet s = .next { s with synth := { s.synth with analogLock := true } }) ∧
  (∀ (s : State), s.synth.xoOk = false → exec .analogLockSet s = .next s) ∧
  (∀ (s : State) (errs : List Int), s.synth.analogLock = true → s.synth.lock = false → s.lockCount ≤ errs.length →
    (∀ e, e ∈ errs.drop (errs.length - s.lockCount) → e.natAbs ≤ s.lockWin) → s.lockCounted = true →
    Completes (.lockDeclare errs) s (fun t => t.synth = { s.synth with
        lock := true, quietLock := false, sleepGate := if s.power.entering = none then 0 else s.synth.sleepGate, phaseErr := sat 32 (errs.getLastD 0) } ∧
      t.clock = { s.clock with counting := true, rootRunning := true } ∧
      (s.synth.quietLock = false → t.bus.attn = s.bus.attn ||| BitVec.ofNat 32 (2 ^ 3)) ∧ (s.synth.quietLock = true → t.bus.attn = s.bus.attn) ∧
      (s.clock.counting = true → Frame [.synth, .clock, .bus] s t) ∧ Frame [.synth, .clock, .bus, .inp, .conv, .out] s t)) ∧
  (∀ (s : State) (errs : List Int), s.synth.analogLock = false ∨ s.synth.lock = true ∨ errs.length < s.lockCount ∨ s.lockCounted = false →
    exec (.lockDeclare errs) s = .next { s with synth := { s.synth with
      phaseErr := if errs = [] ∨ s.synth.analogLock = false then s.synth.phaseErr else sat 32 (errs.getLastD 0) } }) ∧
  (∀ (s : State) (errs : List Int), s.synth.lock = true →
    (errs = [] ∨ 4 ≤ errs.length ∧ ∀ e, e ∈ errs.drop (errs.length - 4) → s.unlockWin < e.natAbs) →
    Completes (.lockLoss errs) s (fun t => t.synth = { s.synth with
        lock := false, lostSticky := true, lockLosses := min (s.synth.lockLosses + 1) 65535
        analogLock := if errs = [] then false else s.synth.analogLock
        phaseErr := if errs = [] then s.synth.phaseErr else sat 32 (errs.getLastD 0) } ∧
      t.bus.attn = s.bus.attn ||| BitVec.ofNat 32 (2 ^ 3) ∧ Frame [.synth, .bus, .log] s t)) ∧
  (∀ (s : State) (errs : List Int), errs ≠ [] →
    (s.synth.lock = false ∨ errs.length < 4 ∨ ∃ e, e ∈ errs.drop (errs.length - 4) ∧ e.natAbs ≤ s.unlockWin) →
    exec (.lockLoss errs) s = .next { s with synth := { s.synth with
      phaseErr := if s.synth.analogLock = false then s.synth.phaseErr else sat 32 (errs.getLastD 0) } }) ∧
  (∀ (s : State), s.synth.lock = false → exec (.lockLoss []) s = .next { s with synth := { s.synth with analogLock := false } })

/-- R286-R288: a slew whose tick has come becomes the steering, clamped to 500 ppm, and the clamp is noted; a slew whose tick has not come waits.
At each tick boundary s_now moves toward s, with SLEW 0 by 100/96 ppt and to s itself when it is no farther, and with SLEW 4 it is s at once; with
an upstream link partner it is 0. That it has come to s is read from it, and changes nothing. -/
def Obligations.SteeringSlewsStartAndEnd : Prop :=
  (∀ (s : State) (t : Nat) (v : Int) (q : Nat), s.synth.steers = [(t, v, q)] → t ≤ s.tickNat →
    Completes .steerSlewStart s (fun u => u.synth.steers = [] ∧ u.synth.clamped = decide (v < -500000000 ∨ 500000000 < v) ∧
      u.cfg.direct = pSet s.cfg.direct 0x0103 (max (-500000000) (min 500000000 v) % 2 ^ 32).toNat ∧ u.synth.sNow = s.synth.sNow ∧
      Frame [.cfg, .synth] s u)) ∧
  (∀ (s : State), (∀ e, e ∈ s.synth.steers → s.tickNat < e.1) → exec .steerSlewStart s = .next s) ∧
  (∀ (s : State), exec .steerSlewEnd s = .next s) ∧
  (∀ (s : State) (goal : Int), s.follows = false → goal = 96 * max (-500000000) (min 500000000 (signed (s.dir 0x0103) 32)) →
    (field (s.dir 0x0104) 0 3 = 4 → s.steerTick.sNow = goal) ∧
    (field (s.dir 0x0104) 0 3 = 0 → (goal - s.synth.sNow).natAbs ≤ 100 → s.steerTick.sNow = goal) ∧
    (field (s.dir 0x0104) 0 3 = 0 → s.synth.sNow + 100 < goal → s.steerTick.sNow = s.synth.sNow + 100) ∧
    (field (s.dir 0x0104) 0 3 = 0 → goal < s.synth.sNow - 100 → s.steerTick.sNow = s.synth.sNow - 100)) ∧
  (∀ (s : State), s.follows = true → s.steerTick.sNow = 0)

/-- R292-R294: an output is gated while LOCK is lost, or by a write, or by its GATE_HO with no reference followed; it stops at the end of its
current cycle. It resumes when it is enabled and no condition holds, at a rise at least two root cycles ahead and
not before the cycle that the gating completes, as its parameter then reads. The
other outputs keep theirs. -/
def Obligations.ClockOutputsGateAndResume : Prop :=
  (∀ (s : State) (o : Fin 5), (s.synth.lock = false ∨ s.synth.writeGate.getLsbD o.val = true ∨ ((s.ckOut o.val).testBit 6 = true ∧ s.dpll.unreferenced = true)) →
    Completes (.clockOutputGate o) s (fun t => t.synth.gated.getLsbD o.val = true ∧ t.synth.writeGate.getLsbD o.val = false ∧
      (s.synth.gated.getLsbD o.val = false → (s.synth.out o.val).2.2 ≤ s.rootCycle →
        (t.synth.out o.val).2.1 = ckRise (s.synth.out o.val).1 s.dpll.align s.rootCycle) ∧
      (s.synth.gated.getLsbD o.val = true → t.synth.out o.val = s.synth.out o.val) ∧
      (∀ k, k < 5 → k ≠ o.val → t.synth.gated.getLsbD k = s.synth.gated.getLsbD k ∧ t.synth.writeGate.getLsbD k = s.synth.writeGate.getLsbD k ∧
        t.synth.out k = s.synth.out k) ∧
      t.synth = { s.synth with gated := t.synth.gated, writeGate := t.synth.writeGate, stopAt := t.synth.stopAt } ∧ Frame [.synth] s t)) ∧
  (∀ (s : State) (o : Fin 5), s.synth.lock = true → (s.ckOut o.val).testBit 6 = false → (s.ckOut o.val).testBit 7 = false →
    s.synth.writeGate.getLsbD o.val = false → s.synth.sleepGate.getLsbD o.val = false →
    exec (.clockOutputGate o) s = .next s ∧
    ((s.ckOut o.val).testBit 0 = true → s.synth.gated.getLsbD o.val = true → Completes (.clockOutputResume o) s (fun t =>
      t.synth.gated.getLsbD o.val = false ∧
      t.synth.out o.val = (s.ckOut o.val, (s.synth.out o.val).2.1, ckRise (s.ckOut o.val) s.dpll.align (max (s.rootCycle + 2) (s.synth.out o.val).2.1)) ∧
      (∀ k, k < 5 → k ≠ o.val → t.synth.gated.getLsbD k = s.synth.gated.getLsbD k ∧ t.synth.out k = s.synth.out k) ∧
      t.synth = { s.synth with
        gated := t.synth.gated, outs := t.synth.outs, resumeAt := t.synth.resumeAt, pulseTo := t.synth.pulseTo, riseFrom := t.synth.riseFrom } ∧ Frame [.synth] s t)) ∧
    ((s.ckOut o.val).testBit 0 = false ∨ s.synth.gated.getLsbD o.val = false → exec (.clockOutputResume o) s = .next s)) ∧
  (∀ (s : State) (o : Fin 5), s.synth.lock = false → exec (.clockOutputResume o) s = .next s)

/-- R301-R304, R318: the qualification of a reference source. A missed beat of a qualified source counts, beyond MISS_TOL it disqualifies with
reason 1, and the fourth in a row is no signal; a beat of a source without signal that can be a reference begins qualifying; a report keeps the
offset; after ACCEPT_TIME the source is QUALIFIED, and after the wait-to-restore time it may be restored to. ATTN_CAUSE bit 2 tells a change to or
from QUALIFIED. -/
def Obligations.ReferenceSourcesQualify : Prop :=
  (∀ (s : State) (n : Fin 8) (r : RefSource), s.refSrc n.val = r → s.awake = true → s.refNamed n.val = true → r.qstate = 3 →
    (r.misses < field (s.dir 0x0202) 24 2 → Completes (.refBeatMissed n) s (fun t =>
      t.dpll.src = tabSet (fun _ => {}) s.dpll.src n.val { r with misses := r.misses + 1, missSticky := true } ∧ t.bus = s.bus ∧ Frame [.dpll] s t)) ∧
    (field (s.dir 0x0202) 24 2 ≤ r.misses → r.misses < 3 → Completes (.refBeatMissed n) s (fun t =>
      t.dpll.src = tabSet (fun _ => {}) s.dpll.src n.val
        { r with misses := r.misses + 1, missSticky := true, qstate := 4, dqReason := 1, dqSticky := true, restorable := false } ∧
      t.bus.attn = s.bus.attn ||| BitVec.ofNat 32 (2 ^ 2) ∧ Frame [.dpll, .bus] s t)) ∧
    (r.misses = 3 → Completes (.refBeatMissed n) s (fun t => t.dpll.src = tabSet (fun _ => {}) s.dpll.src n.val
        { r with misses := 4, missSticky := true, qstate := 1, dqReason := 1, dqSticky := true, restorable := false, offsets := [] } ∧
      t.bus.attn = s.bus.attn ||| BitVec.ofNat 32 (2 ^ 2) ∧ Frame [.dpll, .bus] s t))) ∧
  (∀ (s : State) (n : Fin 8), s.awake = false ∨ s.refNamed n.val = false → exec (.refBeatMissed n) s = .next s ∧ exec (.refSignalSeen n) s = .next s) ∧
  (∀ (s : State) (n : Fin 8) (r : RefSource), s.refSrc n.val = r → s.awake = true → s.refNamed n.val = true → s.refPortOk n.val = true →
    s.refNarrow n.val = false → (r.qstate = 1 ∨ (r.qstate = 4 ∧ r.dqReason = 1)) →
    exec (.refSignalSeen n) s = .next { s with
      dpll := { s.dpll with src := tabSet (fun _ => {}) s.dpll.src n.val { r with misses := 0, qstate := 2, since := s.clock.now, cls := (s.port (n.val - 2)).cls } } }) ∧
  (∀ (s : State) (n : Fin 8) (r : RefSource) (ppb : Int), s.refSrc n.val = r → s.awake = true → s.refNamed n.val = true → s.tickNat % 9600 = 0 →
    r.qstate = 3 → s.refPortOk n.val = true → s.refNarrow n.val = false → field (s.dir 0x0203) 0 16 = 0 → (2 ≤ n.val → s.portSync (n.val - 2) ≠ 0) →
    (ppb.natAbs ≤ 1000 * field (s.dir 0x0202) 8 8 → Completes (.refFreqReport ⟨n.val, by omega⟩ ppb) s (fun t => ∃ d, t.dpll.src =
        tabSet (fun _ => {}) s.dpll.src n.val { r with
          offset := ppb, offsets := (ppb :: r.offsets).take (10 * field (s.dir 0x0203) 16 8 + 1), drift := d } ∧
      t.bus = s.bus ∧ Frame [.dpll, .free] s t)) ∧
    (1000 * field (s.dir 0x0202) 8 8 < ppb.natAbs → Completes (.refFreqReport ⟨n.val, by omega⟩ ppb) s (fun t => ∃ d, t.dpll.src =
        tabSet (fun _ => {}) s.dpll.src n.val { r with
          offset := ppb, offsets := (ppb :: r.offsets).take (10 * field (s.dir 0x0203) 16 8 + 1), drift := d, qstate := 4, dqReason := 2, dqSticky := true, restorable := false } ∧
      t.bus.attn = s.bus.attn ||| BitVec.ofNat 32 (2 ^ 2) ∧ Frame [.dpll, .bus, .free] s t))) ∧
  (∀ (s : State) (n : Fin 10) (ppb : Int), s.tickNat % 9600 ≠ 0 → exec (.refFreqReport n ppb) s = .next s) ∧
  (∀ (s : State) (n : Fin 8) (r : RefSource), s.refSrc n.val = r → s.awake = true → s.refNamed n.val = true → r.qstate = 2 →
    (r.since + 9600 * field (s.dir 0x0202) 16 8 ≤ s.clock.now → Completes (.acceptTimeEnd n) s (fun t =>
      t.dpll.src = tabSet (fun _ => {}) s.dpll.src n.val
        { r with qstate := 3, qualifiedAt := s.clock.now, restorable := decide (field (s.dir 0x0201) 8 8 = 0) } ∧
      t.bus.attn = s.bus.attn ||| BitVec.ofNat 32 (2 ^ 2) ∧ Frame [.dpll, .bus] s t)) ∧
    (s.clock.now < r.since + 9600 * field (s.dir 0x0202) 16 8 → exec (.acceptTimeEnd n) s = .next s)) ∧
  (∀ (s : State) (n : Fin 8) (r : RefSource), s.refSrc n.val = r → r.qstate = 3 → s.awake = true →
    (r.qualifiedAt + 96000 * field (s.dir 0x0201) 8 8 ≤ s.clock.now → exec (.wtrEnd n) s = .next { s with dpll := { s.dpll with
      src := tabSet (fun _ => {}) s.dpll.src n.val { r with restorable := true } } }) ∧
    (s.clock.now < r.qualifiedAt + 96000 * field (s.dir 0x0201) 8 8 → exec (.wtrEnd n) s = .next s)) ∧
  (∀ (s : State) (n : Fin 8), s.awake = false → exec (.wtrEnd n) s = .next s)

/-- R307, R309, R312-R315, R318: the handoff and holdover. Eight beats complete the measurement; the capture, at a later tick, follows the target with the measured
phase as the build-out, its offset as the output within PULL_IN, counts a switch and sets ATTN_CAUSE bit 2; a complete second of tracking with
LOCK joins the history unless it is spoiled; a holdover past its limits expires with ATTN_CAUSE bits 4 and 2, one that a handoff is to end with bit 4; a force whose
tick has come acts, a release of one in force with bit 2, but none on a source, holdover or free-run while the device aligns to a link partner.
Outside Idle and Run none of this happens. The
mean of the beats and of the second has no stated rounding. -/
def Obligations.HandoffHoldoverAndForce : Prop :=
  (∀ (s : State) (b : List Int) (pulse : Int), s.dpll.state = .handoff → s.awake = true → b.length = 8 →
    (∃ m, exec (.handoffMeasureDone b pulse) s = .next { s with dpll := { s.dpll with measured := some (m, pulse), measuredAt := s.clock.now }, free := s.free + 1 } ∧
      (b.sum % 8 = 0 → m = b.sum / 8))) ∧
  (∀ (s : State) (b : List Int) (pulse : Int), s.dpll.state ≠ .handoff ∨ s.awake = false ∨ b.length ≠ 8 → exec (.handoffMeasureDone b pulse) s = .next s) ∧
  (∀ (s : State) (phi pulse : Int), s.awake = true → s.dpll.state = .handoff → s.dpll.measured = some (phi, pulse) → s.dpll.measuredAt < s.clock.now →
    Completes .handoffCapture s (fun t => t.dpll.state = .tracking ∧ t.dpll.current = s.dpll.target ∧ t.dpll.target = 15 ∧ t.dpll.buildOut = phi ∧
      t.dpll.delta.natAbs ≤ s.pull.natAbs ∧ t.dpll.switches = min (s.dpll.switches + 1) 65535 ∧ t.dpll.switchSticky = true ∧
      t.dpll.lastCapture = s.clock.now ∧ (2 ≤ s.dpll.target → t.dpll.align = s.dpll.align ∧ t.synth = s.synth) ∧ t.dpll.src = s.dpll.src ∧ t.dpll.history = s.dpll.history ∧
      t.bus.attn = s.bus.attn ||| BitVec.ofNat 32 (2 ^ 2) ∧ Frame [.dpll, .synth, .log, .bus] s t)) ∧
  (∀ (s : State), s.awake = false ∨ s.dpll.state ≠ .handoff ∨ s.dpll.measured = none ∨ s.clock.now ≤ s.dpll.measuredAt → exec .handoffCapture s = .next s) ∧
  (∀ (s : State), s.dpll.state = .tracking → s.synth.lock = true → s.awake = true → 96000 ≤ s.dpll.secTicks →
    (s.dpll.secBad = false → ∃ m, exec .holdoverHistoryRecord s = .next { s with
      free := s.free + 1
      dpll := { s.dpll with history := ({ at_ := s.clock.now, mean := m } :: s.dpll.history).take 1024, secSum := 0, secTicks := 0, secBad := false } }) ∧
    (s.dpll.secBad = true → exec .holdoverHistoryRecord s = .next { s with
      free := s.free + 1
      dpll := { s.dpll with secSum := 0, secTicks := 0, secBad := false } })) ∧
  (∀ (s : State), s.dpll.state ≠ .tracking ∨ s.awake = false ∨ s.dpll.secTicks < 96000 → exec .holdoverHistoryRecord s = .next s) ∧
  (∀ (s : State), s.awake = true → field (s.dir 0x0206) 16 16 ≠ 0 → 5760000 * field (s.dir 0x0206) 16 16 < s.hoTime →
    (s.dpll.state = .holdover → Completes .holdoverExpire s (fun t => t.dpll = { s.dpll with state := .expired, expSticky := true } ∧
      t.bus.attn = s.bus.attn ||| BitVec.ofNat 32 (2 ^ 4 + 2 ^ 2) ∧ Frame [.dpll, .bus] s t)) ∧
    (s.dpll.state = .handoff → s.dpll.outgoing = .holdover →
      Completes .holdoverExpire s (fun t => t.dpll = { s.dpll with outgoing := .expired, expSticky := true } ∧
        t.bus.attn = s.bus.attn ||| BitVec.ofNat 32 (2 ^ 4) ∧ Frame [.dpll, .bus] s t))) ∧
  (∀ (s : State), s.dpll.stoppedAt = none → s.hoTime = s.clock.now - s.dpll.hoAt) ∧
  (∀ (s : State), s.awake = false ∨ s.dir 0x0206 = 0 ∨ (s.dpll.state ≠ .holdover ∧ (s.dpll.state ≠ .handoff ∨ s.dpll.outgoing ≠ .holdover)) →
    exec .holdoverExpire s = .next s) ∧
  (∀ (s : State) (t n q : Nat), s.awake = true → s.linkSource = none → s.dpll.forceNext = [(t, 1, n, q)] → t ≤ s.tickNat →
    Completes .forceAct s (fun u => u.dpll = { s.dpll with force := some (1, n), forceNext := [] } ∧ Frame [.dpll, .bus] s u)) ∧
  (∀ (s : State) (t n q : Nat), s.awake = true → s.dpll.forceNext = [(t, 0, n, q)] → t ≤ s.tickNat →
    Completes .forceAct s (fun u => u.dpll = { s.dpll with force := none, forceNext := [] } ∧
      (s.dpll.force.isSome = true → u.bus.attn = s.bus.attn ||| BitVec.ofNat 32 (2 ^ 2)) ∧ Frame [.dpll, .bus] s u)) ∧
  (∀ (s : State) (t n q : Nat), s.awake = true → s.linkSource = none → s.dpll.forceNext = [(t, 2, n, q)] → t ≤ s.tickNat →
    Completes .forceAct s (fun u => u.dpll.force = some (2, 0) ∧ u.dpll.state = .holdover ∧ u.dpll.current = 15 ∧ u.dpll.hoAt = s.clock.now ∧
      u.dpll.hoSticky = true ∧ u.dpll.src = s.dpll.src ∧ Frame [.dpll, .bus] s u)) ∧
  (∀ (s : State) (t n q : Nat), s.awake = true → s.linkSource = none → s.dpll.forceNext = [(t, 3, n, q)] → t ≤ s.tickNat →
    Completes .forceAct s (fun u => u.dpll.force = some (3, 0) ∧ u.dpll.state = .freerun ∧ u.dpll.current = 15 ∧ u.dpll.target = 15 ∧ u.dpll.delta = 0 ∧
      u.dpll.src = s.dpll.src ∧ Frame [.dpll, .bus] s u)) ∧
  (∀ (s : State) (t a n q : Nat), s.awake = true → s.linkSource.isSome = true → a ≠ 0 → s.dpll.forceNext = [(t, a, n, q)] → t ≤ s.tickNat →
    exec .forceAct s = .next { s with dpll := { s.dpll with forceNext := [] } }) ∧
  (∀ (s : State), s.awake = false ∨ (∀ e, e ∈ s.dpll.forceNext → s.tickNat < e.1) → exec .forceAct s = .next s)

/-- R199, R320, R322, R323, R330, R359: supplies and RESET_N. VAON lost, or RESET_N low, resets the whole device and keeps the MRAM; another
supply does so outside Rest and Watch, where it is kept as the reset's supply with the AON domain, and in Rest it is only noted; HPVDD lost stops the pump
as a failure. A reset ends when no supply of the five and no RESET_N holds it: the digits of the address
pins are sampled, two bits of the code each, and the boot begins. -/
def Obligations.SuppliesAndResetsAct : Prop :=
  (∀ (s : State), Completes (.supplyPorAssert 0) s (fun t =>
      t.power = { valid := s.power.valid &&& ~~~ 1#8, resetLow := s.power.resetLow, inReset := true, lastReset := 0, resetSupply := s.power.resetSupply } ∧
      t.clock = { now := s.clock.now } ∧ t.cfg = {} ∧ t.graph = {} ∧ t.dpll = {} ∧ t.wake = {} ∧ t.jtag = .idcode ∧ t.ctl.sessions = [] ∧
      t.ctl.ledger = s.mram.mirror ∧ t.ctl.fails = s.mram.fails ∧ t.ctl.lockedUntil = s.ctl.lockedUntil ∧ t.log.live = [] ∧ Frame [.power, .clock, .synth, .dpll, .bus, .ctl, .cfg, .dep, .log, .jtag, .inp, .conv, .sprint, .graph, .rout,
        .out, .ports, .link, .wake] s t)) ∧
  (∀ (s : State) (i : Fin 8), 1 ≤ i.val → i.val ≤ 5 → s.power.inReset = false → s.asleep = false →
    Completes (.supplyPorAssert i) s (fun t => t.power.inReset = true ∧ t.power.lastReset = 1 ∧ t.power.resetSupply = i.val - 1 ∧ t.power.mode = .boot ∧
      t.power.valid = s.power.valid &&& ~~~ BitVec.ofNat 8 (2 ^ i.val) ∧ t.power.lastWake = s.power.lastWake ∧ t.mram = s.mram ∧ t.cfg = {} ∧
      t.wake.ring = s.wake.ring ∧ t.ctl.sessions = [])) ∧
  (∀ (s : State), s.power.inReset = false → s.power.mode = .rest →
    exec (.supplyPorAssert 3) s = .next { s with power := { s.power with valid := s.power.valid &&& ~~~ 8#8 } }) ∧
  (∀ (s : State) (b : Nat), s.out.pump = .starting b ∨ s.out.pump = .ready →
    Completes (.supplyPorAssert 6) s (fun t => t.out.pump = .failed s.clock.now ∧ t.out.cpFault = true ∧
      t.bus.attn = s.bus.attn ||| BitVec.ofNat 32 (2 ^ 8) ∧ t.power = { s.power with valid := s.power.valid &&& ~~~ 64#8 } ∧
      (∀ i, i < 8 → (t.outCh (16 + i)).driving = false) ∧ Frame [.power, .out, .bus] s t)) ∧
  (∀ (s : State), Completes .resetNLow s (fun t => t.power.resetLow = true ∧ t.power.inReset = true ∧ t.power.lastReset = 2 ∧ t.power.mode = .boot ∧
      t.power.valid = s.power.valid ∧ t.clock = { now := s.clock.now } ∧ t.cfg = {} ∧ t.wake = {} ∧ t.ctl.sessions = [] ∧
      Frame [.power, .clock, .synth, .dpll, .bus, .ctl, .cfg, .dep, .log, .inp, .conv, .sprint, .graph, .rout, .out, .ports, .link, .wake] s t)) ∧
  (∀ (s : State) (d : Straps) (code : Nat), s.power.inReset = true → s.power.supplied = true →
    code = d.d0.val + 4 * d.d1.val + 16 * d.d2.val + 64 * d.d3.val + 256 * d.d4.val →
    Completes (.resetNRise d) s (fun t => t.power.inReset = false ∧ t.power.resetLow = false ∧ t.power.mode = .boot ∧ t.power.verified = false ∧
      t.bus.code = code ∧ t.bus.straps = d ∧ t.synth = { s.synth with xoFreq := s.dev 0x0100 } ∧
      (t.bus.addrReserved = true ↔ (s.dev 0x1900).testBit 0 = true ∧ (code % 128 < 8 ∨ 0x78 ≤ code % 128)) ∧
      Frame [.power, .bus, .synth, .log, .mram] s t)) ∧
  (∀ (s : State) (d : Straps), s.power.supplied = false → exec (.resetNRise d) s = .next { s with
    power := { s.power with resetLow := false }
    bus := { s.bus with straps := d } }) ∧
  (∀ (s : State) (d : Straps), Completes (.supplyPorRelease 7 d) s (fun t =>
    t.power.valid = s.power.valid ||| 128#8 ∧ (s.out.vspkSince = none → s.power.inReset = false → s.power.exiting = none → t.out.vspkSince = some s.clock.now) ∧
    t.mram.mirror = s.mram.mirror)) ∧
  (∀ (s : State) (i : Fin 8) (d : Straps), i.val ≠ 7 → s.power.inReset = true → s.power.mode = .boot → s.wake.listening = false →
    (s.power.resetLow = false → (s.power.valid ||| BitVec.ofNat 8 (2 ^ i.val)).toNat % 64 = 63 →
      Completes (.supplyPorRelease i d) s (fun t => t.power.inReset = false ∧ t.power.valid = s.power.valid ||| BitVec.ofNat 8 (2 ^ i.val) ∧
        t.bus.code = d.d0.val + 4 * d.d1.val + 16 * d.d2.val + 64 * d.d3.val + 256 * d.d4.val ∧ Frame [.power, .bus, .synth, .log, .mram] s t)) ∧
    ((s.power.resetLow = true ∨ (s.power.valid ||| BitVec.ofNat 8 (2 ^ i.val)).toNat % 64 ≠ 63) →
      exec (.supplyPorRelease i d) s = .next { s with
        power := { s.power with valid := s.power.valid ||| BitVec.ofNat 8 (2 ^ i.val) }
        bus := { s.bus with straps := d } }))

/-- R330-R332, R337, R408: a boot. With LOCK the active bank is verified, then the other one, once MRAM may be written, with the converter chains cleared;
with neither the device is in RECOVERY, and a boot after a reset is counted there as a power cycle; Idle is
reached with every parameter at its default, a kind 4 record, the references free-running and the line bias rising; the ledger keeps
its place. An exit from Watch keeps the configuration, sets WOKEN, ATTN_CAUSE bit 9 and the cause. An AUTORUN recall of an empty slot is refused with 0xA3 and
ends AUTORUN; AUTORUN with ARM starts the check. -/
def Obligations.BootAndExitReachIdle : Prop :=
  (∀ (s : State), s.power.mode = .boot → s.power.inReset = false → s.power.verified = false → s.synth.lock = true →
    ((s.mram.bank s.mram.active1).passes = true → Completes .firmwareVerify s (fun t =>
      t.power = { s.power with verified := true, bootBank := 0, fallback := false } ∧ (∀ n, n < 24 → (t.adcCh n).chain = []) ∧
      Frame [.power, .inp, .conv] s t)) ∧
    ((s.mram.bank s.mram.active1).passes = false → (s.mram.bank (!s.mram.active1)).passes = true → s.mramBlocked = false →
      Completes .firmwareVerify s (fun t => t.mram = { s.mram with active1 := !s.mram.active1 } ∧
        t.power = { s.power with verified := true, bootBank := 1, fallback := true } ∧ (∀ n, n < 24 → (t.adcCh n).chain = []) ∧
        Frame [.power, .mram, .inp, .conv] s t)) ∧
    ((s.mram.bank s.mram.active1).passes = false → (s.mram.bank (!s.mram.active1)).passes = true → s.mramBlocked = true →
      exec .firmwareVerify s = .next s) ∧
    (s.mram.bank0.passes = false → s.mram.bank1.passes = false → Completes .firmwareVerify s (fun t =>
      t.power = { s.power with mode := .recovery, bootBank := 2, fallback := false } ∧ (∃ r, t.ctl.ledger = (r :: s.ctl.ledger).take 2048 ∧ r.kind = 4) ∧
      t.log = (if s.power.bootFromRest = true ∨ s.power.bootFromRecovery = true then s.log else s.log.add 0x14 1) ∧
      Frame [.power, .ctl, .log] s t))) ∧
  (∀ (s : State), s.power.mode ≠ .boot ∨ s.synth.lock = false → exec .firmwareVerify s = .next s ∧ exec .bootIdleReached s = .next s) ∧
  (∀ (s : State), s.power.mode = .boot → s.power.inReset = false → s.power.verified = true → s.synth.lock = true → s.power.exiting = none →
    Completes .bootIdleReached s (fun t => t.power.mode = .idle ∧ t.power.woken = false ∧ t.cfg = {} ∧ t.dpll.state = .freerun ∧ t.dpll.current = 15 ∧
      t.dpll.history = [] ∧ t.out.bias = .rising 0 s.clock.now (s.clock.now + t.cmRamp) ∧ t.synth.sleepGate = 0 ∧
      t.ctl = s.ctl.record s.clock.tick 0 4 0 0 s.power.lastReset 0 0 0 ∧
      t.bus.attn = s.bus.attn ||| (if s.dpll.startNews = true then BitVec.ofNat 32 (2 ^ 2) else 0#32) |||
        (if s.power.fallback = true then BitVec.ofNat 32 (2 ^ 13) else 0#32) ∧
      t.power.autorun = (!s.power.bootFromRest && !s.power.bootFromRecovery && (s.dev 0x0000).testBit 0) ∧
      Frame [.power, .synth, .dpll, .bus, .ctl, .cfg, .log, .inp, .conv, .out, .ports, .link, .wake] s t)) ∧
  (∀ (s : State) (c : WakeCause), s.power.mode = .watch → s.power.exiting = some .watch → s.synth.lock = true → s.power.supplied = true →
    s.power.retentionLost = false → s.power.wake = some c →
    Completes .exitComplete s (fun t => t.power.mode = .idle ∧ t.power.exiting = none ∧ t.power.woken = true ∧ t.power.lastWake = c.code ∧
      t.power.wakeJs = c.js ∧ t.power.wake = none ∧ t.bus.attn.getLsbD 9 = true ∧ t.cfg = s.cfg ∧ t.clock = s.clock ∧ t.ctl = s.ctl ∧ t.mram = s.mram)) ∧
  (∀ (s : State), s.power.exiting = none → exec .exitComplete s = .next s) ∧
  (∀ (s : State), s.power.autorunDue = 0 ∨ s.inIdle = false → exec .autorun s = .next s) ∧
  (∀ (s : State), s.inIdle = true → s.power.entering = none → s.mramBlocked = false → s.frozen = false → s.ctl.running = true → s.cfg.check = none →
    (s.power.autorunDue = 1 → s.cfg.armed = none → (s.mram.slot 0).len = 0 → Completes .autorun s (fun t =>
      t.power = { s.power with autorunDue := 0, autorun := false, refusedAtBoot := true, bootReason := 0xA3 } ∧ t.cfg.lastReason = 0xA3 ∧
      t.bus.attn = s.bus.attn ||| BitVec.ofNat 32 (2 ^ 1) ∧ t.cfg.direct = s.cfg.direct ∧ t.cfg.active = s.cfg.active)) ∧
    (s.power.autorunDue = 2 → s.cfg.armed = none → Completes .autorun s (fun t => t.power = { s.power with autorunDue := 0 } ∧
      (∃ p, t.cfg.check = some p ∧ p.kind = .arm ∧ p.job.opcode = 0x0201) ∧ Frame [.power, .cfg, .conv, .ctl] s t)))

/-- R29, R212, R285, R333, R394: leaving Run and the sequence into Rest and Watch. When its mutes have ended the device is in Idle, with the graph's work
gone, line and speaker outputs off and, for Rest or Watch, the sequence begun; CM_RAMP later the clock outputs are gated, 1.6 ms later every session ends, and
1.0 ms later the root stops and the mode is reached with TICK held. No step comes before its time. -/
def Obligations.ModesAreLeftAndEnteredInOrder : Prop :=
  (∀ (s : State) (e : Nat), s.power.leaving = some (.idle, e) → e ≤ s.clock.now → s.power.leaveJob = none →
    Completes .modeMuteEnd s (fun t => t.power = { s.power with mode := .idle, leaving := none, leaveJob := none } ∧ t.graph.runners = [] ∧ t.graph.ready = [] ∧
      t.graph.queues = [] ∧ (∀ o, o < 28 → (t.outCh o).causes.getLsbD 1 = true ∧ (o < 16 ∨ 24 ≤ o → (t.outCh o).driving = false)) ∧
      Frame [.power, .graph, .out, .ports, .wake, .log] s t)) ∧
  (∀ (s : State) (e : Nat) (m : Mode), s.power.leaving = some (m, e) → (m = .rest ∨ m = .watch) → e ≤ s.clock.now → s.power.leaveJob = none →
    Completes .modeMuteEnd s (fun t => t.power.mode = .idle ∧ t.power.leaving = none ∧ t.power.entering = some (m, s.clock.now) ∧ t.power.entryStep = 0 ∧
      t.out.pump = .off ∧ (s.out.bias ≠ .down → t.out.bias = .falling (s.out.bias.level s.clock.now) s.clock.now (s.clock.now + s.cmRamp)) ∧ t.link.topo = [] ∧
      Frame [.power, .graph, .inp, .out, .ports, .link, .wake, .log] s t)) ∧
  (∀ (s : State) (e : Nat) (m : Mode), s.power.leaving = some (m, e) → s.clock.now < e → exec .modeMuteEnd s = .next s) ∧
  (∀ (s : State) (e : Nat) (m : Mode), s.power.entering = some (m, e) → s.power.entryStep = 0 → e + s.cmRamp ≤ s.clock.now →
    Completes .biasRampDownEnd s (fun t => t.power = { s.power with entryStep := 1, rampedAt := s.clock.now } ∧ t.synth = { s.synth with sleepGate := 31 } ∧
      t.out = { s.out with bias := .down } ∧ (s.mramBlocked = true → t.mram = s.mram) ∧ Frame [.power, .synth, .out, .mram, .log] s t)) ∧
  (∀ (s : State) (e : Nat) (m : Mode), s.power.entering = some (m, e) → s.clock.now < e + s.cmRamp → exec .biasRampDownEnd s = .next s) ∧
  (∀ (s : State) (x : Mode × Nat), s.power.entering = some x → s.power.entryStep = 1 → s.power.rampedAt + 154 ≤ s.clock.now →
    Completes .sessionsCloseAtEntry s (fun t => t.ctl.sessions = [] ∧ t.ctl.challenges = [] ∧ t.power = { s.power with entryStep := 2 } ∧
      ((∃ y, y ∈ s.ctl.sessions ∧ y.claims ≠ 0) → t.bus.attn = s.bus.attn ||| BitVec.ofNat 32 (2 ^ 17)) ∧
      ((∀ y, y ∈ s.ctl.sessions → y.claims = 0) → t.bus = s.bus) ∧ Frame [.power, .ctl, .bus] s t)) ∧
  (∀ (s : State), s.power.entering = none ∨ s.clock.now < s.power.rampedAt + 154 → exec .sessionsCloseAtEntry s = .next s) ∧
  (∀ (s : State) (e : Nat) (m : Mode), s.power.entering = some (m, e) → (m = .rest ∨ m = .watch) → s.power.entryStep = 2 → s.power.rampedAt + 250 ≤ s.clock.now →
    Completes .rootStop s (fun t => t.power.mode = m ∧ t.power.entering = none ∧ t.power.woken = false ∧ t.clock.rootRunning = false ∧
      t.clock.tick = s.clock.tick ∧ t.clock.now = s.clock.now ∧ t.synth.lock = false ∧ t.synth.xoOk = false ∧ t.synth.gated = 31 ∧ t.conv.current = none ∧
      t.dpll = { s.dpll with stoppedAt := some s.clock.now } ∧ t.power.enteredAt = s.clock.now ∧
      (m = .rest → t.wake.listening = false) ∧ Frame [.power, .clock, .synth, .dpll, .out, .conv, .wake, .log] s t)) ∧
  (∀ (s : State), s.power.entering = none ∨ s.power.entryStep ≠ 2 ∨ s.clock.now < s.power.rampedAt + 250 → exec .rootStop s = .next s)

/-- R333, R335-R337: the wake sources. In Watch an enabled one begins the exit and is latched; in Rest with the supplies valid it boots the
device with TICK kept; in the sequence of R333 it returns the device to Idle with ATTN_CAUSE bit 9; one that is not enabled, or finds the device in
no such mode, does nothing; the timer acts TIMER seconds after the entry. The bias ramps back from the level that its fall has reached, at the rate of
that fall. A jack wakes by two samples at the insertion level after one that was not. -/
def Obligations.WakeSourcesWake : Prop :=
  (∀ (s : State) (i : Instr) (k : Nat), ((i = .wakeN ∧ k = 1 ∧ (s.dir 0x0002).testBit 0 = true) ∨ (i = .restTimer ∧ k = 3 ∧ (s.dir 0x0002).testBit 5 = true ∧
        s.power.enteredAt + 96000 * field (s.dir 0x0002) 16 16 ≤ s.clock.now) ∨
      (i = .busWake ∧ k = 4 ∧ (s.dir 0x0002).testBit 6 = true)) →
    s.power.mode = .watch → s.power.exiting = none → s.power.retentionLost = false → s.power.inReset = false →
    exec i s = .next { s with
      power := { s.power with exiting := some .watch, wake := some { code := k } }
      wake := { s.wake with modeMarks := (s.wake.widx :: s.wake.modeMarks).take 64 } }) ∧
  (∀ (s : State) (i : Instr) (k : Nat), ((i = .wakeN ∧ k = 1 ∧ (s.dir 0x0002).testBit 0 = true) ∨ (i = .restTimer ∧ k = 3 ∧ (s.dir 0x0002).testBit 5 = true ∧
        s.power.enteredAt + 96000 * field (s.dir 0x0002) 16 16 ≤ s.clock.now)) →
    s.power.mode = .rest → s.power.exiting = none → s.power.inReset = false →
    (s.power.supplied = true → Completes i s (fun t => t.power.mode = .boot ∧ t.power.exiting = some .rest ∧ t.power.wake = some { code := k } ∧
      t.power.attnHeld = true ∧ t.power.bootFromRest = true ∧ t.clock.tick = s.clock.tick ∧ t.clock.rootRunning = false ∧ t.cfg = {} ∧ t.jtag = s.jtag)) ∧
    (s.power.supplied = false → exec i s = .next { s with power := { s.power with exiting := some .rest, wake := some { code := k }, attnHeld := true } })) ∧
  (∀ (s : State), s.power.mode = .rest → s.power.entering = none → exec .busWake s = .next s) ∧
  (∀ (s : State), s.clock.now < s.power.enteredAt + 96000 * field (s.dir 0x0002) 16 16 → exec .restTimer s = .next s) ∧
  (∀ (s : State) (i : Instr) (k : Nat) (m : Mode) (e : Nat), ((i = .wakeN ∧ k = 1 ∧ (s.dir 0x0002).testBit 0 = true ∧ (m = .rest ∨ m = .watch)) ∨
      (i = .busWake ∧ k = 4 ∧ (s.dir 0x0002).testBit 6 = true ∧ m = .watch)) →
    s.power.mode = .idle → s.power.entering = some (m, e) →
    Completes i s (fun t => t.power = { s.power with entering := none, entryStep := 0, woken := true, lastWake := k, wakeJs := 0, wake := none } ∧
      t.bus.attn = s.bus.attn ||| BitVec.ofNat 32 (2 ^ 9) ∧ t.synth = { s.synth with sleepGate := 0 } ∧
      (s.out.bias = .down → t.out.bias = .rising 0 s.clock.now (s.clock.now + s.cmRamp)) ∧
      (∀ a b l, s.out.bias = .falling (2 ^ 32) a b → s.out.bias.level s.clock.now = l →
        t.out.bias = .rising l s.clock.now (s.clock.now + ((2 ^ 32 - l) * (b - a) + 2 ^ 32 - 1) / 2 ^ 32)))) ∧
  (∀ (s : State), s.awake = true → s.power.entering = none → exec .wakeN s = .next s ∧ exec .restTimer s = .next s ∧ exec .busWake s = .next s ∧
    (∀ pin level, exec (.jackWake pin level) s = .next s)) ∧
  (∀ (s : State), s.dir 0x0002 = 0 → exec .wakeN s = .next s ∧ exec .restTimer s = .next s ∧ exec .busWake s = .next s) ∧
  (∀ (s : State) (pin : Fin 4) (l : Bool) (old : List Bool), s.power.mode = .watch → s.power.exiting = none → s.power.retentionLost = false → s.power.inReset = false →
    tabGet (fun _ => []) s.power.jackSamples pin.val = old → (s.dir (0x0600 + pin.val)).testBit 5 = l → s.hpPinOn pin.val = true →
    (s.dir 0x0002).testBit (1 + pin.val) = true →
    (old.take 2 = [l, !l] → Completes (.jackWake pin l) s (fun t => t.power.exiting = some .watch ∧ t.power.wake = some { code := 2, js := pin.val })) ∧
    (old.take 2 ≠ [l, !l] → Completes (.jackWake pin l) s (fun t => t.power.exiting = none ∧
      t.power.jackSamples = tabSet (fun _ => []) s.power.jackSamples pin.val ((l :: old).take 3) ∧ Frame [.power, .out] s t)))

/-- R213, R338-R340: a supply below its threshold for FILTER outside Rest, Watch and reset gives a power-fail warning: it is counted, sets ATTN_CAUSE bit 14, holds MRAM writes, ends a save, a stage and a
commit, begins the last lap and commits the log; a second one while it is present does nothing. It clears, and 100 ms later MRAM writes resume.
R213: 1 ms after a power-fail warning every speaker stage stops and is DISABLED; a warning that has been clear for 100 ms
ends the last lap, and no output holds LASTLAP. Until then nothing changes. -/
def Obligations.PowerFailAndTheLastLap : Prop :=
  ((∀ (s : State) (d : SupplyDip), s.warned d = true → s.power.inReset = false → s.asleep = false → s.power.pfw = false → s.cfg.save = none → s.cfg.commit = none →
       Completes (.powerFailWarning d) s (fun t =>
         t.power = { s.power with
           pfw := true, pfwSticky := true, pfwCount := min (s.power.pfwCount + 1) 255, pfwClear := none, mramHeld := true, entryCommitted := s.power.entering.isSome } ∧
         t.cfg = { s.cfg with stage := none, save := none, commit := none } ∧ t.bus.attn.getLsbD 14 = true ∧ t.out.lapAt = some s.clock.now ∧
         (∀ o, o < 28 → (t.outCh o).causes.getLsbD 5 = true) ∧ t.log.live = [] ∧ t.log.image1 = !s.log.image1 ∧
         Frame [.power, .cfg, .out, .bus, .mram, .log] s t)) ∧
     (∀ (s : State) (d : SupplyDip), s.warned d = true ↔
       d.mv.val < (if d.dvdd = true then 730 + 10 * field (s.dir 0x0001) 4 2 else 4600 + 50 * field (s.dir 0x0001) 0 3) ∧ field (s.dir 0x0001) 8 8 ≤ d.us.val) ∧
     (∀ (s : State) (d : SupplyDip), s.warned d = false ∨ s.power.pfw = true ∨ s.asleep = true ∨ s.power.inReset = true → exec (.powerFailWarning d) s = .next s) ∧
     (∀ (s : State), s.power.pfw = true → exec .powerFailClear s = .next { s with
       power := { s.power with pfw := false, pfwClear := some s.clock.now }, out := { s.out with lapClear := some s.clock.now } }) ∧
     (∀ (s : State), s.power.pfw = false → exec .powerFailClear s = .next s) ∧
     (∀ (s : State) (c : Nat), s.power.pfwClear = some c → s.power.pfw = false → c + 9600 ≤ s.clock.now →
       exec .mramWriteResume s = .next { s with
         power := { s.power with mramHeld := false, pfwClear := none }
         mram := { s.mram with fails := s.ctl.fails } }) ∧
     (∀ (s : State) (c : Nat), s.power.pfwClear = some c → s.clock.now < c + 9600 → exec .mramWriteResume s = .next s)) ∧
  ((∀ (s : State) (b : Nat), s.out.lapAt = some b → b + 96 ≤ s.clock.now →
       Completes .lastLapSpeakerStop s (fun t => Frame [.out] s t ∧
         (∀ n, n < 4 → (t.outCh (24 + n)).driving = false ∧ (t.outCh (24 + n)).step = 0 ∧ (t.outCh (24 + n)).causes.getLsbD 1 = true) ∧
         (∀ o, o < 24 → t.outCh o = s.outCh o))) ∧
     (∀ (s : State) (b : Nat), s.out.lapAt = some b → s.clock.now < b + 96 → exec .lastLapSpeakerStop s = .next s) ∧
     (∀ (s : State) (a b : Nat), s.power.pfw = false → s.out.lapAt = some a → s.out.lapClear = some b → b + 9600 ≤ s.clock.now →
       Completes .lastLapClear s (fun t => t.out.lapAt = none ∧ t.out.lapClear = none ∧ (∀ o, o < 28 → (t.outCh o).causes.getLsbD 5 = false) ∧
         Frame [.out, .bus] s t)) ∧
     (∀ (s : State) (b : Nat), s.out.lapClear = some b → s.clock.now < b + 9600 → exec .lastLapClear s = .next s) ∧
     (∀ (s : State), s.power.pfw = true → exec .lastLapClear s = .next s))

/-- R84, R344, R345: the PDM clocks. A clock whose rate or source is to change, and need not wait, changes, and CLK_SETTLE runs from a change to or from
3.072 MHz, and not from LOSC to the root clock; a clock as wanted, or that must wait, stays, and a channel whose clock is to leave 3.072 MHz gives 0 marked
UNSETTLED from then on. When CLK_SETTLE ends the full-quality chains of a fast clock start, marked for 12 samples. -/
def Obligations.PdmClocksSwitchAndSettle : Prop :=
  (∀ (s : State) (c : Fin 2), s.wake.clk c.val ≠ s.pdmWant c.val → s.pdmWaits c.val = false →
    Completes (.pdmClockSwitch c) s (fun t => t.wake.clk c.val = s.pdmWant c.val ∧ t.wake.clk (1 - c.val) = s.wake.clk (1 - c.val) ∧ t.wake.group = [] ∧
      (s.pdmWant c.val = .fast → t.wake.settle c.val = some (s.clock.now + 96 * field (s.dir 0x1802) 8 8)) ∧
      (s.pdmWant c.val = .stopped → t.wake.settle c.val = none) ∧
      (s.wake.clk c.val = .losc → s.pdmWant c.val = .slow → t.wake.settle c.val = s.wake.settle c.val) ∧ t.wake.settle (1 - c.val) = s.wake.settle (1 - c.val) ∧
      t.wake.ring = s.wake.ring ∧ t.wake.widx = s.wake.widx ∧ Frame [.wake] s t)) ∧
  (∀ (s : State) (c : Fin 2), s.wake.clk c.val = s.pdmWant c.val ∨ s.pdmWaits c.val = true → exec (.pdmClockSwitch c) s = .next s) ∧
  (∀ (s : State) (k : Nat), s.pdmWant (k / 4) ≠ .fast → (s.capturePdm k).sample = 0 ∧ (s.capturePdm k).unsettled = true) ∧
  (∀ (s : State) (c : Fin 2), s.power.mode = .rest → s.wake.episode = none → s.pdmWaits c.val = false ∧ s.pdmWant c.val = .stopped) ∧
  (∀ (s : State) (c : Fin 2) (e : Nat), s.wake.settle c.val = some e → e ≤ s.clock.now →
    Completes (.pdmClkSettleEnd c) s (fun t => t.wake.settle c.val = none ∧ t.wake.settle (1 - c.val) = s.wake.settle (1 - c.val) ∧
      (s.wake.clk c.val ≠ .fast → t.conv = s.conv) ∧
      (s.wake.clk c.val = .fast → ∀ k, k < 8 →
        tabGet (fun _ => ({} : PdmCh)) t.conv.pdm k = if k / 4 = c.val then { unsettledTo := s.clock.now + 12 } else tabGet (fun _ => {}) s.conv.pdm k) ∧
      Frame [.wake, .conv] s t)) ∧
  (∀ (s : State) (c : Fin 2), s.wake.settle c.val = none ∨ (∃ e, s.wake.settle c.val = some e ∧ s.clock.now < e) → exec (.pdmClkSettleEnd c) s = .next s)

/-- R343, R347-R350, R352: the wake chain and the detector. In Watch the bits of the listening source make one sample of the ring for every 48: of a PDM
channel those at its own edge of the data pin, which SWAP exchanges; without listening nothing is heard; the first whole frame sets the floor. A match found in the frames of an episode ends it and makes a record with its onset,
its last sample, the template that won and the path's D, within THRESHOLD, and ATTN_CAUSE bit 9; an episode of 128 frames, or 20 quiet ones, ends
without a match and is counted. -/
def Obligations.WakeDetectorHearsAndMatches : Prop :=
  (∀ (s : State) (bits : List (Bool × Bool)), s.wake.listening = true → s.clock.rootRunning = false → s.wakeOnOnset = false → s.wake.cic.count < 48 →
    Completes (.wakeFrameEnd bits) s (fun t => t.wake.widx = s.wake.widx + BitVec.ofNat 32 ((s.wake.cic.count + bits.length) / 48) ∧
      t.wake.cic.count = (s.wake.cic.count + bits.length) % 48 ∧ t.wake.records = s.wake.records ∧ t.wake.listening = true ∧
      t.free = s.free + bits.length ∧ Frame [.wake, .free] s t)) ∧
  (∀ (s : State) (bits other : List (Bool × Bool)), s.wakeOnOnset = false →
    ((s.wkSource = 8 ∨ (s.wkSource % 2 = 1 ↔ (s.dir 0x1802).testBit (2 + s.wkSource / 4) = true)) ∧ bits.map Prod.fst = other.map Prod.fst) ∨
      (s.wkSource < 8 ∧ ¬ (s.wkSource % 2 = 1 ↔ (s.dir 0x1802).testBit (2 + s.wkSource / 4) = true) ∧ bits.map Prod.snd = other.map Prod.snd) →
    exec (.wakeFrameEnd bits) s = exec (.wakeFrameEnd other) s) ∧
  (∀ (s : State) (bits : List (Bool × Bool)), s.wake.listening = false → exec (.wakeFrameEnd bits) s = .next s) ∧
  (∀ (s : State) (bits : List (Bool × Bool)), s.wake.listening = true → s.clock.rootRunning = true → s.wake.floor = none → 256 + s.wake.widx.toNat % 256 ≤ s.wake.ring.length →
    s.wake.widx - BitVec.ofNat 32 (s.wake.widx.toNat % 256) ≠ s.wake.frameDone →
    exec (.wakeFrameEnd bits) s = .next { s with wake := { s.wake with
      floor := some (frameEnergy ((s.wake.ring.drop (s.wake.widx.toNat % 256)).take 256), 0)
      framesOver := 0
      frameDone := s.wake.widx - BitVec.ofNat 32 (s.wake.widx.toNat % 256) } }) ∧
  (∀ (s : State) (x : Episode) (i k c : Nat), s.wake.episode = some x → s.wake.found x = some (i, k, c) → s.awake = true → s.power.entering = none →
    Completes .stage2Match s (fun t => t.wake.episode = none ∧ t.wake.seq = (s.wake.seq + 1) % 256 ∧
      (∃ r, t.wake.records = (r :: s.wake.records).take 8 ∧ r.start = x.onset ∧ r.template = k ∧ r.seq = (s.wake.seq + 1) % 256 ∧
        r.end_ = x.onset + BitVec.ofNat 32 (256 * (i + 1)) - 1 ∧ r.distance = (looseQuot s.free (50 * c) (16 * (s.wake.template k).frames)).toNat ∧
        r.distance ≤ (s.wake.template k).threshold ∧ r.modeEnd = (if s.inRun then 3 else 2)) ∧
      t.bus.attn = s.bus.attn ||| BitVec.ofNat 32 (2 ^ 9) ∧ t.wake.ring = s.wake.ring ∧ Frame [.wake, .log, .bus, .free] s t)) ∧
  (∀ (s : State) (x : Episode) (i k c : Nat), s.wake.episode = some x → s.wake.found x = some (i, k, c) → k < 4 → s.wakeOnOnset = false → s.power.mode = .watch →
    s.power.exiting = none → s.power.retentionLost = false → s.power.inReset = false →
    Completes .stage2Match s (fun t => t.power = { s.power with exiting := some .watch, wake := some { code := 5 } } ∧ t.wake.episode = none)) ∧
  (∀ (s : State), s.wake.episode = none → exec .stage2Match s = .next s ∧ exec .stage2End s = .next s) ∧
  (∀ (s : State) (x : Episode), s.wake.episode = some x → s.wake.found x = none → exec .stage2Match s = .next s) ∧
  (∀ (w : Wake) (x : Episode) (i k c : Nat), w.found x = some (i, k, c) →
    i < w.episodeFrames x ∧ k ∈ x.slots ∧ w.ready k = true ∧ w.within k c = true ∧ (w.paths (w.episodeLevels x) k)[i]? = some (some c) ∧
    (∀ j q d, j < i → q ∈ x.slots → w.ready q = true → (w.paths (w.episodeLevels x) q)[j]? = some (some d) → w.within q d = false)) ∧
  (∀ (s : State) (x : Episode), s.wake.episode = some x → (128 * 256 ≤ (s.wake.widx - x.onset).toNat ∨ 20 ≤ x.quiet) → s.wake.found x = none →
    exec .stage2End s = .next { s with wake := { s.wake with episode := none, rejected := min (s.wake.rejected + 1) 65535 } }) ∧
  (∀ (s : State) (x : Episode), s.wake.episode = some x → ((s.wake.widx - x.onset).toNat < 128 * 256 ∧ x.quiet < 20) ∨ s.wake.found x ≠ none →
    exec .stage2End s = .next s)

/-- R354: a handover that is due at its boundary starts the wake stream at the index S that its reply gave, or stops it, before the tick opens; later starts
wait. That a start given before listening started anew begins at START_IDX is the model's choice (log entry 74). A read
position within eight samples of the write position is caught up: H and T_H are set and the live rate begins. -/
def Obligations.HandoverStartsAndCatchesUp : Prop :=
  (∀ (s : State) (e : Nat) (i : BitVec 32) (r q : Nat), s.Between → (∀ p, p < 6 → s.exchangeDue p = false) → s.wake.handoverNext = [(e, some i, r, q)] →
    e ≤ s.tickNat → s.forceDue = false → 0 ≤ (i - s.wake.startIdx).toInt →
    (s.dep.injectNext ≠ 0 → exec .handoverStart s = .next { s with wake := { s.wake with
      handoverNext := [], handover := some { idx := i, r := r }, caughtUp := false, hIndex := 0xFFFFFFFF } }) ∧
    (s.dep.injectNext = 0 → Completes .handoverStart s (fun t => t.clock.opened = true ∧ t.clock.tick = s.clock.tick ∧ t.wake.handoverNext = [] ∧
      t.wake.handover = some { idx := i, r := r, ran := true } ∧ t.wake.stream = { sample := word (s.wake.at_ i * 256) } ∧ t.wake.caughtUp = false ∧
      t.wake.ring = s.wake.ring))) ∧
  (∀ (s : State) (e : Nat) (i : BitVec 32) (r q : Nat), s.Between → (∀ p, p < 6 → s.exchangeDue p = false) → s.wake.handoverNext = [(e, some i, r, q)] →
    e ≤ s.tickNat → (i - s.wake.startIdx).toInt < 0 → s.dep.injectNext ≠ 0 → exec .handoverStart s = .next { s with wake := { s.wake with
      handoverNext := [], handover := some { idx := s.wake.startIdx, r := r }, caughtUp := false, hIndex := 0xFFFFFFFF } }) ∧
  (∀ (s : State) (e r q : Nat), s.Between → (∀ p, p < 6 → s.exchangeDue p = false) → s.wake.handoverNext = [(e, none, r, q)] → e ≤ s.tickNat →
    s.dep.injectNext ≠ 0 → exec .handoverStart s = .next { s with wake := { s.wake with handoverNext := [], handover := none, caughtUp := false } }) ∧
  (∀ (s : State), s.clock.opened = true ∨ (∀ e, e ∈ s.wake.handoverNext → s.tickNat < e.1) → exec .handoverStart s = .next s) ∧
  (∀ (s : State) (h : Handover), s.wake.handover = some h → h.live = false → h.ran = true → h.sixth = 0 → (s.wake.widx - h.idx).toInt ≤ 8 →
    exec .handoverCaughtUp s = .next { s with wake := { s.wake with
      handover := some { h with live := true }, caughtUp := true, hIndex := h.idx, hTick := BitVec.ofNat 32 s.tickNat } }) ∧
  (∀ (s : State) (h : Handover), s.wake.handover = some h → h.sixth < 6 → 9 < (s.wake.widx - h.idx).toInt → exec .handoverCaughtUp s = .next s) ∧
  (∀ (s : State), s.wake.handover = none → exec .handoverCaughtUp s = .next s)

/-- R361-R363, R365, R366, R375, R388: a mailbox write. After the address or the instruction and the pointer, a whole packet written to the mailbox page of
a served port waits in its mailbox with its arrival tick, every byte acknowledged, and SPI answers with its status byte and zeros; a byte to another page
is refused. A transaction cut after one pointer byte leaves the pointer. An address that is not the device's, a reserved one, the general call and the
codes beside it are not acknowledged and nothing follows of them, after the latter until the next STOP; a bus that does not answer takes nothing, and
bytes without a transaction go nowhere. -/
def Obligations.MailboxWriteFramesPackets : Prop :=
  (∀ (s : State) (twi : Bool) (a : BitVec 16) (b : List Byte), s.Answers twi → s.served = true → a.toNat / 256 = 1 →
    b.length = 12 + 4 * (le b 1 1 % 2) + le b 6 2 → le b 6 2 ≤ 1024 → (s.bus.port twi).mailQueued + b.length ≤ 2080 →
    Completes (.mailboxWrite twi (some (s.writeHead twi a)) b) s (fun t =>
      (t.bus.port twi).mailbox = (s.bus.port twi).mailbox ++ [{ bytes := b, now := s.clock.now, tick := s.tickNat }] ∧ (t.bus.port twi).fragment = [] ∧
      (t.bus.port twi).lastAcks = b.length ∧ (t.bus.port twi).lastRefused = false ∧ (t.bus.port twi).pointer = a ∧ (t.bus.port twi).active = true ∧
      (t.bus.port twi).addrAck = twi ∧ (t.bus.port twi).lastRead = (if twi then [] else s.spiStatus :: List.replicate (2 + b.length) 0) ∧
      (t.bus.port twi).replies = (s.bus.port twi).replies ∧ t.bus.port (!twi) = s.bus.port (!twi) ∧ t.bus.discarded = s.bus.discarded ∧ Frame [.bus] s t)) ∧
  (∀ (s : State) (twi : Bool) (a : BitVec 16) (b : List Byte), s.Answers twi → b ≠ [] → (a.toNat / 256 ≠ 1 ∨ s.served = false) →
    Completes (.mailboxWrite twi (some (s.writeHead twi a)) b) s (fun t => (t.bus.port twi).mailbox = (s.bus.port twi).mailbox ∧
      (t.bus.port twi).lastAcks = 0 ∧ (t.bus.port twi).lastRefused = true ∧ (t.bus.port twi).fragment = [] ∧ (t.bus.port twi).pointer = a ∧
      t.bus.port (!twi) = s.bus.port (!twi) ∧ Frame [.bus] s t)) ∧
  (∀ (s : State) (twi : Bool) (b : Byte), s.Answers twi →
    Completes (.mailboxWrite twi (some ((if twi then s.addrWrite else [2]) ++ [b])) []) s (fun t => (t.bus.port twi).pointer = (s.bus.port twi).pointer ∧
      (t.bus.port twi).mailbox = (s.bus.port twi).mailbox ∧ t.bus.port (!twi) = s.bus.port (!twi) ∧ Frame [.bus] s t)) ∧
  (∀ (s : State) (b : Byte) (h l : List Byte), s.busAlive = true → s.bus.twi.fragment = [] → s.bus.twi.phase ≠ .deaf →
    (deafByte b = true ∨ s.bus.addrReserved = true ∨ (s.addrWrite.head? ≠ some b ∧ s.addrRead ≠ [b])) →
    Completes (.mailboxWrite true (some (b :: h)) l) s (fun t => t.bus.twi.addrAck = false ∧ t.bus.twi.lastAcks = 0 ∧ t.bus.twi.lastRead = [] ∧
      t.bus.twi.phase = (if deafByte b then .deaf else .ignored) ∧ t.bus.twi.mailbox = s.bus.twi.mailbox ∧ t.bus.twi.pointer = s.bus.twi.pointer ∧
      t.bus.twi.replies = s.bus.twi.replies ∧ t.bus.twi.fragment = [] ∧ t.bus.spi = s.bus.spi ∧ Frame [.bus] s t)) ∧
  (∀ (s : State) (h b : List Byte), s.bus.twi.phase = .deaf → exec (.mailboxWrite true (some h) b) s = .next s) ∧
  (∀ (s : State) (twi : Bool) (a : Option (List Byte)) (b : List Byte), s.busAlive = false → exec (.mailboxWrite twi a b) s = .next s) ∧
  (∀ (s : State) (twi : Bool) (b : List Byte), (s.bus.port twi).active = false → exec (.mailboxWrite twi none b) s = .next s)

/-- R364, R371, R375: reads. The reply page gives the bytes of the first whole reply, oldest first, and removes it; with no reply the two-wire target
acknowledges nothing and SPI reads zeros; the ID registers read 0x4B55 and 0x2428, the pointer counting on; ATTN_CAUSE reads its four bytes with
bit 0 for the port's own replies, and stays. SPI reads begin with the status byte and three zeros. A two-wire read may begin with its address alone, at
the pointer as it was left: in 7-bit mode always, in 10-bit mode after both address bytes since the last STOP. -/
def Obligations.RegisterWindowReads : Prop :=
  (∀ (s : State) (twi : Bool) (r : List Byte) (rs : List (List Byte)), s.Answers twi → s.ctl.running = true → s.power.mode ≠ .boot →
    (s.bus.port twi).held = [] → (s.bus.port twi).replies = r :: rs → r ≠ [] →
    Completes (.replyPageRead twi (some (s.readHead twi 0x0200)) r.length) s (fun t => (t.bus.port twi).replies = rs ∧
      (t.bus.port twi).lastRead = (if twi then [] else [s.spiStatus, 0, 0, 0]) ++ r ∧ (t.bus.port twi).pointer = 0x0200 ∧
      (t.bus.port twi).mailbox = (s.bus.port twi).mailbox ∧ t.bus.attn = s.bus.attn ∧ t.bus.port (!twi) = s.bus.port (!twi) ∧ Frame [.bus] s t)) ∧
  (∀ (s : State) (twi : Bool) (n : Nat), s.Answers twi → s.ctl.running = true → (s.bus.port twi).replies = [] →
    Completes (.replyPageRead twi (some (s.readHead twi 0x0200)) n) s (fun t => (t.bus.port twi).replies = [] ∧ (t.bus.port twi).addrAck = false ∧
      (t.bus.port twi).lastRead = (if twi then [] else [s.spiStatus, 0, 0, 0] ++ List.replicate n 0) ∧ Frame [.bus] s t)) ∧
  (∀ (s : State) (twi : Bool), s.Answers twi →
    Completes (.replyPageRead twi (some (s.readHead twi 0)) 4) s (fun t =>
      (t.bus.port twi).lastRead = (if twi then [] else [s.spiStatus, 0, 0, 0]) ++ [0x55, 0x4B, 0x28, 0x24] ∧
      (t.bus.port twi).pointer = 4 ∧ (t.bus.port twi).replies = (s.bus.port twi).replies ∧ t.bus.attn = s.bus.attn ∧ Frame [.bus] s t)) ∧
  (∀ (s : State) (twi : Bool), s.Answers twi →
    Completes (.attnCauseRead twi) s (fun t => (t.bus.port twi).lastRead = (if twi then [] else [s.spiStatus, 0, 0, 0]) ++
        leBytes 4 (s.bus.attn.toNat / 2 * 2 + if (s.bus.port twi).replies = [] then 0 else 1) ∧
      t.bus.attn = s.bus.attn ∧ (twi = true → t.bus.readSince = true) ∧ (t.bus.port twi).pointer = 0x0015 ∧
      (t.bus.port twi).replies = (s.bus.port twi).replies ∧ Frame [.bus] s t)) ∧
  (∀ (s : State) (n : Nat), s.Answers true → s.bus.twi.pointer.toNat / 256 ≠ 2 →
    (s.bus.twi.pointer.toNat + n ≤ 0x0200 ∨ (0x0300 ≤ s.bus.twi.pointer.toNat ∧ s.bus.twi.pointer.toNat + n ≤ 0x10000)) →
    Completes (.replyPageRead true (some { addr := s.addrRead }) n) s (fun t =>
      ((s.bus.addr7 = true ∨ s.bus.twi.addressed = true) → t.bus.twi.addrAck = true ∧ t.bus.twi.lastRead.length = n ∧
        t.bus.twi.pointer = s.bus.twi.pointer + BitVec.ofNat 16 n) ∧
      (s.bus.addr7 = false → s.bus.twi.addressed = false → t.bus.twi.addrAck = false ∧ t.bus.twi.lastRead = [] ∧ t.bus.twi.pointer = s.bus.twi.pointer) ∧
      t.bus.twi.replies = s.bus.twi.replies ∧ t.bus.spi = s.bus.spi ∧ Frame [.bus] s t)) ∧
  (∀ (s : State) (twi : Bool) (a : Option ReadHead) (n : Nat), s.busAlive = false →
    exec (.replyPageRead twi a n) s = .next s ∧ exec (.attnCauseRead twi) s = .next s)

/-- R365, R367-R369, R373, R377: the end of a transaction and the bus conditions. A fragment left over is discarded, counted and flagged, and answered
BAD_LENGTH (0x11) where it finds room. A repeated START at the acknowledge bit, a bus error, a timeout and an SPI frame error each end the transaction, set
their BUS_FLAGS bit and, but for the repeated START, ATTN_CAUSE bit 16, and are counted. No packet that waits, and no reply placed, is lost.
R380: in-band attention. A due pulse on an idle two-wire bus is counted and no longer due; with a packet half received, or none due, no pulse is made; a
pulse cut short is still due. -/
def Obligations.BusConditionsAndInBandPulses : Prop :=
  ((∀ (s : State) (twi : Bool) (p : BusPort), s.bus.port twi = p → s.busAlive = true → p.fragment ≠ [] → p.held = [] →
       p.queued + 14 ≤ 2080 →
       Completes (.packetFragmentDiscard twi) s (fun t => (t.bus.port twi).fragment = [] ∧ (t.bus.port twi).active = false ∧
         (t.bus.port twi).flags = p.flags ||| 32 ∧ t.bus.discarded = min (s.bus.discarded + 1) 65535 ∧
         (t.bus.port twi).replies = p.replies ++ [fragmentReply p.rev p.fragment] ∧ (t.bus.port twi).mailbox = p.mailbox ∧ t.bus.attn = s.bus.attn ∧
         Frame [.bus] s t)) ∧
     (∀ (s : State) (twi : Bool) (p : BusPort), s.bus.port twi = p → s.busAlive = true → p.fragment = [] →
       Completes (.packetFragmentDiscard twi) s (fun t => t.bus.port twi = { p with phase := .idle, addressed := false, refusing := false, firstPage := none } ∧
         t.bus.discarded = s.bus.discarded ∧ t.bus.port (!twi) = s.bus.port (!twi) ∧ Frame [.bus] s t)) ∧
     (∀ (s : State) (twi : Bool), s.busAlive = false → exec (.packetFragmentDiscard twi) s = .next s) ∧
     (∀ (s : State) (i : Instr) (held : Bool) (k : Nat), s.busAlive = true →
       ((i = .rstartAtAck ∧ k = 4 ∧ s.bus.twi.phase ≠ .deaf) ∨ (i = .busError ∧ k = 3) ∨ (i = .sclTimeout held ∧ k = 0) ∨ (i = .sdaTimeout held ∧ k = 1)) →
       Completes i s (fun t => t.bus.twi.fragment = [] ∧ t.bus.twi.active = false ∧ t.bus.twi.flags.getLsbD k = true ∧ t.bus.twi.mailbox = s.bus.twi.mailbox ∧
         s.bus.twi.replies <+: t.bus.twi.replies ∧ t.bus.spi = s.bus.spi ∧
         t.bus.rstarts = (if k = 4 then min (s.bus.rstarts + 1) 65535 else s.bus.rstarts) ∧
         t.bus.busErrors = (if k = 3 then min (s.bus.busErrors + 1) 65535 else s.bus.busErrors) ∧
         t.bus.timeouts = (if k ≤ 1 then min (s.bus.timeouts + 1) 65535 else s.bus.timeouts) ∧
         (k ≤ 1 → held = true → t.bus.twi.flags.getLsbD 2 = true) ∧
         t.bus.attn = (if k = 4 then s.bus.attn else s.bus.attn ||| BitVec.ofNat 32 (2 ^ 16)) ∧ Frame [.bus] s t)) ∧
     (∀ (s : State), s.bus.twi.phase = .deaf → exec .rstartAtAck s = .next s) ∧
     (∀ (s : State) (held : Bool), s.busAlive = false → exec .rstartAtAck s = .next s ∧ exec .busError s = .next s ∧
       exec (.sclTimeout held) s = .next s ∧ exec (.sdaTimeout held) s = .next s) ∧
     (∀ (s : State), s.busAlive = true → Completes .spiFrameError s (fun t => t.bus.spi.fragment = [] ∧ t.bus.spi.flags.getLsbD 8 = true ∧ t.bus.spi.active = false ∧
         t.bus.spi.lastRefused = (s.bus.spi.lastRefused && s.bus.spi.active) ∧
         t.bus.spi.mailbox = s.bus.spi.mailbox ∧ t.bus.twi = s.bus.twi ∧ t.bus.attn = s.bus.attn ||| BitVec.ofNat 32 (2 ^ 16) ∧ Frame [.bus] s t)) ∧
     (∀ (s : State), s.busAlive = false → exec .spiFrameError s = .next s)) ∧
  ((∀ (s : State), s.awake = true → (s.dir 0x1903).testBit 0 = true → s.bus.pulseDue = true →
       (s.bus.twi.fragment = [] → exec .inbandPulse s = .next { s with bus := { s.bus with
         pulseDue := false, lastPulse := some s.clock.now, readSince := false, pulses := min (s.bus.pulses + 1) 65535, twi := { s.bus.twi with phase := .idle, addressed := false } } }) ∧
       (s.bus.twi.fragment ≠ [] → exec .inbandPulse s = .next s) ∧ exec .inbandPulseAbort s = .next s) ∧
     (∀ (s : State) (b : Nat), s.awake = true → (s.dir 0x1903).testBit 0 = true → s.bus.pulseDue = false → s.bus.lastPulse = some b →
       field (s.dir 0x1903) 8 8 ≠ 0 → b + 960 * field (s.dir 0x1903) 8 8 ≤ s.clock.now → s.inbandSet = true → s.bus.readSince = false →
       exec .inbandPulseAbort s = .next { s with bus := { s.bus with pulseDue := true } }) ∧
     (∀ (s : State), s.awake = false ∨ (s.dir 0x1903).testBit 0 = false → exec .inbandPulse s = .next s ∧ exec .inbandPulseAbort s = .next s))

/-- R392-R394, R405, R408, R339, R458: time and sessions. A session idle for SESSION_TIMEOUT ends, its binding's next packet is told so, and a claim it held sets
ATTN_CAUSE bit 17; a challenge lapses after 10 s and a lockout at its end; the ledger's newest 1,024 records are mirrored, unless a power-fail warning holds
MRAM; the log is committed after 600 s of powered-on time into its other image. -/
def Obligations.SessionsLockoutsAndRecordsAge : Prop :=
  (∀ (s : State) (n : BitVec 16) (x : Session), s.ctl.sessions.find? (fun y => decide (y.number = n)) = some x →
    (x.lastPacket + 96000 * field (s.dir 0x1A00) 0 16 ≤ s.clock.now → Completes (.sessionIdleTimeout n) s (fun t =>
      t.ctl.sessions = s.ctl.sessions.filter (fun y => decide (y.number ≠ n)) ∧ x.binding ∈ t.ctl.expired ∧
      (∃ r, t.ctl.ledger = (r :: s.ctl.ledger).take 2048 ∧ r.kind = 2 ∧ r.session = n ∧ r.object = 1 ∧ r.tick = BitVec.ofNat 48 s.tickNat) ∧
      (x.claims ≠ 0 → t.bus.attn = s.bus.attn ||| BitVec.ofNat 32 (2 ^ 17)) ∧ (x.claims = 0 → t.bus = s.bus) ∧
      t.ctl.challenges = s.ctl.challenges ∧ Frame [.ctl, .bus] s t)) ∧
    (s.clock.now < x.lastPacket + 96000 * field (s.dir 0x1A00) 0 16 → exec (.sessionIdleTimeout n) s = .next s)) ∧
  (∀ (s : State) (n : BitVec 16), (∀ y, y ∈ s.ctl.sessions → y.number ≠ n) → exec (.sessionIdleTimeout n) s = .next s) ∧
  (∀ (s : State) (p : Fin 5), Completes (.challengeExpire p) s (fun t =>
    (∀ c, c ∈ t.ctl.challenges ↔ c ∈ s.ctl.challenges ∧ ¬ (c.binding.port = p.val ∧ c.made + 960000 ≤ s.clock.now)) ∧
    t.ctl = { s.ctl with challenges := t.ctl.challenges } ∧ Frame [.ctl] s t)) ∧
  (∀ (s : State) (p : Fin 5), (tabGet (fun _ => 0) s.ctl.lockedUntil p.val ≤ s.clock.now →
      exec (.lockedOutEnd p) s = .next { s with ctl := { s.ctl with lockedUntil := tabSet (fun _ => 0) s.ctl.lockedUntil p.val 0 } }) ∧
    (s.clock.now < tabGet (fun _ => 0) s.ctl.lockedUntil p.val → exec (.lockedOutEnd p) s = .next s)) ∧
  (∀ (s : State), s.mramBlocked = false → s.power.inReset = false → s.ctl.running = true →
    exec .ledgerMirror s = .next { s with mram := { s.mram with mirror := s.ctl.ledger.take 1024 } }) ∧
  (∀ (s : State), s.mramBlocked = true ∨ s.ctl.running = false → exec .ledgerMirror s = .next s) ∧
  (∀ (s : State), 600 ≤ s.log.sinceCommit → s.mramBlocked = false → s.asleep = false → s.power.inReset = false → s.log.due = false →
    (s.ctl.running = true → Completes .logCommit s (fun t => t.log = { s.log with live := [], sinceCommit := 0, image1 := !s.log.image1 } ∧
      t.logImage = { valid := true, seq := (s.logImage.seq + 1) % 2 ^ 32, info := 8 * b2n s.mram.logRestarted, counts := s.logCounts } ∧ Frame [.mram, .log] s t)) ∧
    (s.ctl.running = false → exec .logCommit s = .next { s with log := { s.log with due := true } })) ∧
  (∀ (s : State), (s.log.sinceCommit < 600 ∧ s.log.due = false) ∨ s.mramBlocked = true → exec .logCommit s = .next s)

/-- R37, R38, R394, R405, R408, R453: a restart of the control processor, by its fault or by the watchdog after 100 ms, stops service, discards the packets that wait,
the sessions, the check, the save and the stage, and keeps placed replies, the audio and an armed swap. When it completes, service resumes with the mirrored
ledger and a kind 5 record, the restart is counted, and ATTN_CAUSE bit 13 is set, with bit 17 when a claim was lost. -/
def Obligations.ControlRestartsAndResumes : Prop :=
  (∀ (s : State) (i : Instr) (cause : Nat), ((i = .controlRestart ∧ cause = 1) ∨ (i = .watchdogExpiry ∧ cause = 0 ∧ s.log.served + 9600 ≤ s.clock.now)) →
    s.firmware = true → s.ctl.running = true → s.ctl.inbox = [] →
    Completes i s (fun t => t.ctl.running = false ∧ t.ctl.restartAt = s.clock.now ∧ t.ctl.sessions = [] ∧ t.ctl.challenges = [] ∧ t.ctl.ledger = s.ctl.ledger ∧
      t.ctl.expired = s.ctl.expired ∧ t.ctl.fails = s.ctl.fails ∧
      t.cfg.check = none ∧ t.cfg.save = none ∧ t.cfg.stage = none ∧ t.cfg.queue = [] ∧ (t.cfg.armed.isSome ↔ s.cfg.armed.isSome) ∧
      t.bus.spi.mailbox = [] ∧ t.bus.twi.mailbox = [] ∧ t.bus.spi.replies = s.bus.spi.replies ∧ t.bus.twi.replies = s.bus.twi.replies ∧ t.bus.attn = s.bus.attn ∧
      t.dep = { s.dep with lastRestart := cause } ∧ Frame [.ctl, .cfg, .bus, .power, .dep] s t)) ∧
  (∀ (s : State), s.firmware = false → exec .controlRestart s = .next s ∧ exec .watchdogExpiry s = .next s ∧ exec .restartComplete s = .next s) ∧
  (∀ (s : State), s.ctl.running = true → s.clock.now < s.log.served + 9600 → exec .watchdogExpiry s = .next s) ∧
  (∀ (s : State), s.ctl.running = false → exec .controlRestart s = .next s) ∧
  (∀ (s : State), s.firmware = true → s.ctl.running = false → s.ctl.restartAt + 9600 ≤ s.clock.now →
    Completes .watchdogExpiry s (fun t => t.ctl = { s.ctl with restartAt := s.clock.now } ∧ t.dep.restarts = min (s.dep.restarts + 1) 65535 ∧
      t.dep.lastRestart = 0 ∧ Frame [.ctl, .dep, .log] s t)) ∧
  (∀ (s : State), s.firmware = true → s.ctl.running = false → s.log.due = false →
    Completes .restartComplete s (fun t => t.ctl.running = true ∧ (∃ r, t.ctl.ledger = (r :: s.mram.mirror).take 2048 ∧ r.kind = 5 ∧ r.seq = s.ctl.seq) ∧
      t.dep = { s.dep with restarts := min (s.dep.restarts + 1) 65535 } ∧ t.log.served = s.clock.now ∧
      t.bus.attn = (if s.ctl.claimsAtRestart then s.bus.attn ||| BitVec.ofNat 32 (2 ^ 13) ||| BitVec.ofNat 32 (2 ^ 17) else s.bus.attn ||| BitVec.ofNat 32 (2 ^ 13)) ∧
      Frame [.ctl, .dep, .bus, .log] s t)) ∧
  (∀ (s : State), s.ctl.running = true → exec .restartComplete s = .next s)

/-- R14, R446-R448, R451, R452: memory and bridges. A scrub visit that finds one or two bits inverted corrects and counts them without attention; one that finds
three notes the memory, word and tick and sets ATTN_CAUSE bit 11, and counts it; nothing found changes no count. A port ring is not scrubbed: there a word
fails as the audio path reads it, and an input slot is noted to repeat. A failing shadow parameter is copied
from the active bank. An injection acts at its boundary and clears DG_INJECT. A bridge parity error of a running root counts as uncorrectable; one
of a speaker holds its edges at those of the period before, and a second one in the next period trips it. -/
def Obligations.MemoryErrorsAreFoundAndRepaired : Prop :=
  (∀ (s : State) (m r w : Nat) (n : Fin 4) (late : Bool), s.scrubs m = true → (∀ x, x ∈ s.dep.injected → x.mem ≠ m ∨ x.word ≠ w) →
    (n.val = 0 → exec (.scrubVisit m r w n late) s = .next { s with dep := { s.dep with scrubLate := s.dep.scrubLate || late } }) ∧
    ((n.val = 1 ∨ n.val = 2) → Completes (.scrubVisit m r w n late) s (fun t => t.dep.ceSticky = true ∧ t.dep.ueSticky = s.dep.ueSticky ∧
      t.dep.corrected = tabMod (fun _ => 0) s.dep.corrected m (fun v => min (v + 1) 65535) ∧ t.bus = s.bus ∧ Frame [.dep, .log] s t)) ∧
    (n.val = 3 → Completes (.scrubVisit m r w n late) s (fun t => t.dep.ueSticky = true ∧ t.dep.lastUeMem = m ∧ t.dep.lastUeWord = w % 2 ^ 24 ∧
      t.dep.lastUeTick = BitVec.ofNat 32 s.tickNat ∧ t.dep.uncorrectable = tabMod (fun _ => 0) s.dep.uncorrectable m (fun v => min (v + 1) 65535) ∧
      t.bus.attn = s.bus.attn ||| BitVec.ofNat 32 (2 ^ 11)))) ∧
  (∀ (s : State) (r w : Nat) (n : Fin 4) (late : Bool),
    (n.val = 0 ∨ s.ringRead w = false → exec (.scrubVisit 6 r w n late) s = .next s) ∧
    (n.val ≠ 0 → s.ringRead w = true → Completes (.scrubVisit 6 r w n late) s (fun t => t.dep.ueSticky = true ∧ t.dep.lastUeMem = 6 ∧
      t.dep.uncorrectable = tabMod (fun _ => 0) s.dep.uncorrectable 6 (fun v => min (v + 1) 65535) ∧
      (w / 2048 % 2 = 0 → (t.port (w / 4096)).badSlots = w / 64 % 32 :: (s.port (w / 4096)).badSlots) ∧
      t.bus.attn = s.bus.attn ||| BitVec.ofNat 32 (2 ^ 11) ∧ Frame [.ports, .bus, .dep, .log, .out, .free] s t))) ∧
  (∀ (s : State) (m r w : Nat) (n : Fin 4) (late : Bool), m ≠ 6 → s.scrubs m = false → exec (.scrubVisit m r w n late) s = .next s) ∧
  (∀ (s : State) (id : Nat) (f : BankFault), f = { activeBank := false, kind := 1, index := id } → f ∈ s.dep.bankFaults → paramClass id = .banked →
    (1, id) ∉ s.dep.writtenShadow →
    exec (.bankWordRestore false 1 id) s = .next { s with
      cfg := { s.cfg with shadow := pSet s.cfg.shadow id (s.act id) }
      dep := { s.dep with bankFaults := s.dep.bankFaults.filter (fun x => decide (x ≠ f)) } }) ∧
  (∀ (s : State) (a : Bool) (k i : Nat), { activeBank := a, kind := k, index := i } ∉ s.dep.bankFaults → exec (.bankWordRestore a k i) s = .next s) ∧
  (∀ (s : State) (v : Nat), s.Between → (∀ p, p < 6 → s.exchangeDue p = false) → s.handoverDue = false → s.forceDue = false → s.dep.injectNext = v → v ≠ 0 → field v 0 4 ≠ 7 →
    Completes .errorInject s (fun t => t.dep.injectNext = 0 ∧ t.cfg.direct = pSet s.cfg.direct 0x1B01 0 ∧ t.clock.opened = true ∧ t.clock.tick = s.clock.tick ∧
      (1 ≤ field v 0 4 → ∃ x, x ∈ t.dep.injected ∧ x.mem = field v 0 4 - 1 ∧ x.word = field v 16 32 ∧ x.bits = field v 4 2))) ∧
  (∀ (s : State), s.clock.opened = true ∨ s.dep.injectNext = 0 → exec .errorInject s = .next s) ∧
  (∀ (s : State) (ch : Fin 52) (core : Bool), s.clock.rootRunning = true →
    Completes (.converterBridgeParityError ch core) s (fun t => t.conv.failing = (ch.val, core) :: s.conv.failing ∧
      (core = true → ch.val ∈ t.conv.substituted) ∧ (core = false → t.conv.substituted = s.conv.substituted) ∧ t.dep.lastUeMem = 9 ∧
      t.bus.attn = s.bus.attn ||| BitVec.ofNat 32 (2 ^ 11) ∧ Frame [.conv, .bus, .dep, .log, .free] s t)) ∧
  (∀ (s : State) (n : Fin 4), s.clock.rootRunning = true →
    (tabGet (fun _ => 0) s.out.bridgeFails n.val = 0 ∨ tabGet (fun _ => 0) s.out.bridgeFails n.val ≠ s.pwmPeriod n.val →
      Completes (.powerBridgeParityError n) s (fun t =>
        t.out = { s.out with bridgeFails := tabSet (fun _ => 0) s.out.bridgeFails n.val (1 + s.pwmPeriod n.val) } ∧ t.dep.lastUeMem = 10 ∧
        (t.dacCh (24 + n.val)).edges = (s.dacCh (24 + n.val)).edgesPrev ∧ (∀ o, o < 24 → t.dacCh o = s.dacCh o) ∧
        t.bus.attn = s.bus.attn ||| BitVec.ofNat 32 (2 ^ 11) ∧ Frame [.conv, .out, .bus, .dep, .log, .free] s t)) ∧
    (tabGet (fun _ => 0) s.out.bridgeFails n.val = s.pwmPeriod n.val → s.pwmPeriod n.val ≠ 0 → (s.outCh (24 + n.val)).driving = true →
      s.stages n.val = [n.val] → (s.outCh (24 + n.val)).prot.getLsbD 1 = false → Completes (.powerBridgeParityError n) s (fun t =>
        (t.outCh (24 + n.val)).driving = false ∧ (t.outCh (24 + n.val)).prot = (s.outCh (24 + n.val)).prot ||| 2#7 ∧
        (t.dacCh (24 + n.val)).edges = (s.dacCh (24 + n.val)).edgesPrev ∧
        t.bus.attn = s.bus.attn ||| BitVec.ofNat 32 (2 ^ 11 + 2 ^ 8)))) ∧
  (∀ (s : State) (ch : Fin 52) (core : Bool) (n : Fin 4), s.clock.rootRunning = false →
    exec (.converterBridgeParityError ch core) s = .next s ∧ exec (.powerBridgeParityError n) s = .next s)

/-- R454, R457, R462, R463: the histograms take a sample each second while MEAS_ENABLE is 1 and the device does not sleep: the latest valid
temperature joins its bin. A JTAG code selects its instruction, 5 to 15 BYPASS, and a TAP reset IDCODE; one that drives the pins silences every
output and lets the guard pins go; leaving it resets the device, which boots again. -/
def Obligations.HistogramsAndJtag : Prop :=
  (∀ (s : State), s.asleep = false → s.power.inReset = false → (s.dir 0x0480).testBit 8 = true → s.log.histAt + 96000 ≤ s.clock.now →
    (∀ k, 4 ≤ k → k < 14 → k ≠ 11 → (s.meas k).valid = false) →
    ((s.meas 11).valid = true → exec .histogramSample s = .next { s with log := { s.log with
      histAt := s.clock.now
      live := tabMod (fun _ => 0) s.log.live (0x100 + 4 * tempBin (s.meas 11).value) (fun v => min (v + 1) (2 ^ 32 - 1)) } }) ∧
    ((s.meas 11).valid = false → exec .histogramSample s = .next { s with log := { s.log with histAt := s.clock.now } })) ∧
  (∀ (s : State), s.asleep = true ∨ (s.dir 0x0480).testBit 8 = false ∨ s.clock.now < s.log.histAt + 96000 → exec .histogramSample s = .next s) ∧
  (∀ (s : State) (code : Nat), s.jtag.drives = false →
    (code % 16 = 1 → exec (.jtagInstruction code) s = .next { s with jtag := .sample }) ∧
    (code % 16 = 2 → exec (.jtagInstruction code) s = .next { s with jtag := .idcode }) ∧
    (5 ≤ code % 16 → exec (.jtagInstruction code) s = .next { s with jtag := .bypass }) ∧
    exec .tapReset s = .next { s with jtag := .idcode } ∧
    ((code % 16 = 0 ∨ code % 16 = 3 ∨ code % 16 = 4) → Completes (.jtagInstruction code) s (fun t => t.jtag.drives = true ∧
      (∀ o, o < 28 → (t.outCh o).mute = { gain := 0 }) ∧
      (∀ g, g < 4 → (t.gbyPin g).high = false) ∧ Frame [.jtag, .out] s t))) ∧
  (∀ (s : State), s.jtag.drives = true → s.power.supplied = true → s.power.resetLow = false →
    Completes .tapReset s (fun t => t.jtag = .idcode ∧ t.power.inReset = false ∧ t.power.lastReset = 2 ∧ t.power.mode = .boot ∧ t.cfg = {} ∧
      t.ctl.sessions = [] ∧ t.bus.code = addressCode s.bus.straps ∧ t.bus.straps = s.bus.straps ∧ t.clock.now = s.clock.now))

/-- R117, R120, R123, R125, R126, R147, R153: the graph's work. A swap that is due is made first; then an event whose tick has come is applied and leaves the queue, and its value stands in its node's slot;
later ones wait. Runners are heard in the order of their FABRIC cycles, those of one cycle by number. A runner's firing that completes moves its node on to the next tick; one whose flow was late changes no baton and no effect, one
dropped by an epoch is counted as squashed; without a firing nothing happens. -/
def Obligations.GraphEventsAndFiringsComplete : Prop :=
  (∀ (s : State) (e : GEvent) (n : NodeRec) (v : Word), s.graph.events = [e] → e.key ≤ s.tickNat → s.graph.active.nodes[e.node]? = some n → e.slot < n.pCount →
    e.values = [v] → (s.clock.opened = true ∨ s.swapDue = false) →
    Completes .paramEventApply s (fun t => t.graph.events = [] ∧ tabGet (fun _ => (0 : Word)) t.graph.nodeActive (n.pFirst + e.slot) = v ∧
      (∀ k, k ≠ n.pFirst + e.slot → tabGet (fun _ => (0 : Word)) t.graph.nodeActive k = tabGet (fun _ => (0 : Word)) s.graph.nodeActive k) ∧
      t.graph.queues = s.graph.queues ∧ Frame [.graph] s t)) ∧
  (∀ (s : State), (∀ e, e ∈ s.graph.events → s.tickNat < e.key) → (s.clock.opened = true ∨ s.swapDue = false) → exec .paramEventApply s = .next s) ∧
  (∀ (s : State) (p : Pending) (e : Nat), s.clock.opened = false → s.cfg.armed = some (p, e) → e ≤ s.tickNat → p.kind = .swap →
    Completes .paramEventApply s (fun t => t.cfg.active = s.cfg.shadow ∧ t.cfg.armed = none ∧ t.clock = s.clock ∧
      ∀ x, x ∈ t.graph.events → s.tickNat < x.key)) ∧
  (∀ (s : State) (q : Fin 16) (c : Nat) (f : Firing), s.completing q.val c = some f →
    Completes (.nodeFiringComplete q c) s (fun t => t.graph.cycle = max s.graph.cycle c ∧ t.graph.asked = (2048 * s.clock.now + c / 4, q.val + 1) ∧ t.graph.active = s.graph.active ∧ t.graph.nodeActive = s.graph.nodeActive ∧
      t.graph.events = s.graph.events ∧ Frame [.graph] s t ∧
      (f.late = false → s.graph.dropped f = false → f.write = false → (t.graph.rt f.node).next = f.made + 1) ∧
      (f.late = false → s.graph.dropped f = false → f.write = true → (t.graph.rt f.node).nextW = f.made + 1) ∧
      (f.late = true → t.graph.queues = s.graph.queues ∧ t.graph.sinks = s.graph.sinks ∧ t.graph.squashed = s.graph.squashed) ∧
      (f.late = false → s.graph.dropped f = true → t.graph.queues = s.graph.queues ∧ t.graph.sinks = s.graph.sinks ∧
        t.graph.squashed = min (s.graph.squashed + 1) (2 ^ 32 - 1)))) ∧
  (∀ (s : State) (q : Fin 16) (c : Nat), s.inRun = false ∨ 8192 ≤ c ∨ s.graph.runner q.val = none ∨ c / 4 < s.graph.cycle / 4 ∨
      2048 * s.clock.now + c / 4 < s.graph.asked.1 ∨ (2048 * s.clock.now + c / 4 = s.graph.asked.1 ∧ q.val < s.graph.asked.2) →
    exec (.nodeFiringComplete q c) s = .next s)

/-- R16, R18, R27, R29, R86: time. A sprint sample of an open tick of a running root is one of 128 of the tick and moves no TICK; where there is
no audio path, in RECOVERY, it does nothing else; a boundary comes after the 128th, and at it a tick passes, TICK
counts once LOCK has been declared, and the sprint samples begin again. Without the root TICK stands. That a tick's count passes with the root
stopped is the model's own time base (log entry 15). -/
def Obligations.TicksAndSprintSamplesPass : Prop :=
  (∀ (s : State) (lv : List (List Int)) (pdm : List Bool), s.clock.rootRunning = true → s.clock.phase < 128 → s.clock.opened = true → s.audioPath = false →
    exec (.sprintSample lv pdm) s = .next { s with clock := { s.clock with phase := s.clock.phase + 1 } }) ∧
  (∀ (s : State) (lv : List (List Int)) (pdm : List Bool), s.clock.rootRunning = true → s.clock.phase < 128 → s.clock.opened = true → s.audioPath = true →
    Completes (.sprintSample lv pdm) s (fun t => t.clock = { s.clock with phase := s.clock.phase + 1 } ∧ t.sprint.pipe.length = min 3 (s.sprint.pipe.length + 1) ∧
      t.sprint.pipe.drop 1 = s.sprint.pipe.take 2 ∧ Frame [.clock, .conv, .sprint, .wake, .free] s t)) ∧
  (∀ (s : State) (lv : List (List Int)) (pdm : List Bool), s.clock.rootRunning = false ∨ 128 ≤ s.clock.phase → exec (.sprintSample lv pdm) s = .next s) ∧
  (∀ (s : State), s.clock.rootRunning = true → s.clock.phase < 128 → exec .tickBoundary s = .next s) ∧
  (∀ (s : State), s.clock.rootRunning = true → s.clock.phase = 128 → s.clock.opened = true → s.bus.spi.mailbox = [] → s.bus.twi.mailbox = [] → s.ctl.inbox = [] →
    Completes .tickBoundary s (fun t => t.clock.now = s.clock.now + 1 ∧ t.clock.phase = 0 ∧
      t.clock.tick = (if s.clock.counting then s.clock.tick + 1 else s.clock.tick) ∧ t.ctl.sessions = s.ctl.sessions ∧ t.power.mode = s.power.mode)) ∧
  (∀ (s : State), s.clock.rootRunning = false → s.bus.spi.mailbox = [] → s.bus.twi.mailbox = [] → s.ctl.inbox = [] →
    Completes .tickBoundary s (fun t => t.clock = { s.clock with now := s.clock.now + 1, phase := 0 } ∧ Frame [.clock, .log] s t))

/-- R413-R417, R425: swap, ARM and their checks. A named tick that has come refuses a swap with 0xA6, a passed check arms it for its tick or the next boundary,
and a failed one refuses it with its code and ATTN_CAUSE bit 1. At the tick the shadow bank becomes the active one, the refill runs, the swap is counted and
recorded with its tick; an ARM puts the device in Run, but AUTORUN's own waits for 100 ms without a power-fail warning. The refill's end lets the queued writes act. -/
def Obligations.BanksSwapAtTheirTick : Prop :=
  (∀ (s : State) (p : Pending), s.cfg.check = some p → p.kind = .swap → s.checkReady = true →
    (p.named ≠ 0 → p.named ≤ s.tickNat → s.cfg.queue = [] → Completes .bankSwapCheckDone s (fun t => t.cfg.check = none ∧ t.cfg.armed = s.cfg.armed ∧
      t.cfg.lastReason = 0xA6 ∧ t.cfg.refusals = min (s.cfg.refusals + 1) 65535 ∧ t.bus.attn = s.bus.attn ||| BitVec.ofNat 32 (2 ^ 1) ∧ t.cfg.active = s.cfg.active)) ∧
    ((p.named = 0 ∨ s.tickNat < p.named) → (s.checkAll false s.enablesSpk).code = 0 →
      exec .bankSwapCheckDone s = .next { s with
        cfg := { s.cfg with check := none, armed := some (p, if p.named = 0 then s.tickNat + 1 else p.named) }
        graph := s.graph.reserve }) ∧
    ((p.named = 0 ∨ s.tickNat < p.named) → (s.checkAll false s.enablesSpk).code ≠ 0 → s.cfg.queue = [] → Completes .bankSwapCheckDone s (fun t => t.cfg.check = none ∧
      t.cfg.armed = s.cfg.armed ∧ t.cfg.lastReason = (s.checkAll false s.enablesSpk).code ∧ t.bus.attn = s.bus.attn ||| BitVec.ofNat 32 (2 ^ 1)))) ∧
  (∀ (s : State), s.cfg.check = none ∨ s.checkReady = false → exec .bankSwapCheckDone s = .next s) ∧
  (∀ (s : State) (p : Pending) (e : Nat), s.clock.opened = false → s.cfg.armed = some (p, e) → e ≤ s.tickNat → p.kind = .swap → p.lost = false →
    Completes .bankSwapAct s (fun t => t.cfg.active = s.cfg.shadow ∧ t.cfg.shadow = s.cfg.shadow ∧ t.cfg.cellsActive = s.cfg.cellsShadow ∧
      t.cfg.linkActive = s.cfg.linkShadow ∧ t.cfg.direct = s.cfg.direct ∧ t.cfg.refilling = true ∧ t.cfg.armed = none ∧
      t.cfg.swaps = min (s.cfg.swaps + 1) 65535 ∧ t.cfg.swapTick = BitVec.ofNat 32 s.tickNat ∧ t.power.mode = s.power.mode ∧ t.clock.tick = s.clock.tick ∧
      (∃ r, t.ctl.ledger = (r :: s.ctl.ledger).take 2048 ∧ r.value = BitVec.ofNat 64 e ∧ r.kind = 0))) ∧
  (∀ (s : State) (p : Pending) (e : Nat), s.clock.opened = false → s.cfg.armed = some (p, e) → e ≤ s.tickNat → p.kind = .arm → s.inIdle = true →
    Completes .armTick s (fun t => t.power.mode = .run ∧ t.cfg.active = s.cfg.shadow ∧ t.cfg.refilling = true ∧ t.cfg.armed = none ∧ t.cfg.swapTick = s.cfg.swapTick ∧
      t.power.autorun = false ∧ t.clock.tick = s.clock.tick)) ∧
  (∀ (s : State), s.clock.opened = true ∨ s.swapDue = false → exec .bankSwapAct s = .next s ∧ exec .armTick s = .next s) ∧
  (∀ (s : State), s.cfg.refilling = true → s.cfg.check = none → s.cfg.armed = none →
    (s.cfg.queue = [] → Completes .refillEnd s (fun t => t.cfg = { s.cfg with refilling := false } ∧ Frame [.cfg, .graph] s t)) ∧
    Completes .refillEnd s (fun t => t.cfg.queue = [] ∧ t.cfg.refilling = false ∧ t.cfg.active = s.cfg.active ∧ t.cfg.direct = s.cfg.direct)) ∧
  (∀ (s : State), s.cfg.refilling = false → exec .refillEnd s = .next s) ∧
  (∀ (s : State) (p : Pending), s.cfg.check = some p → p.kind = .arm → s.cfg.graphCheck = none → s.checkReady = true →
    ((s.checkAll true s.shadowSpk).code = 0 → s.power.pfw = false → s.power.mramHeld = true → p.job.req.port.val = 4 → s.cfg.queue = [] →
      Completes .consistencyCheckDone s (fun t => t.cfg.check = none ∧ t.cfg.armed = s.cfg.armed ∧ t.power = { s.power with autorunDue := 2 } ∧
        Frame [.cfg, .power] s t)) ∧
    ((s.checkAll true s.shadowSpk).code = 0 → s.power.pfw = false → (s.power.mramHeld = false ∨ p.job.req.port.val ≠ 4) → exec .consistencyCheckDone s = .next { s with
      cfg := { s.cfg with check := none, armed := some (p, s.tickNat + 1) }
      graph := s.graph.reserve }) ∧
    ((s.checkAll true s.shadowSpk).code ≠ 0 → s.cfg.queue = [] → Completes .consistencyCheckDone s (fun t => t.cfg.check = none ∧ t.cfg.armed = s.cfg.armed ∧
      t.cfg.lastReason = (s.checkAll true s.shadowSpk).code ∧ t.bus.attn = s.bus.attn ||| BitVec.ofNat 32 (2 ^ 1) ∧ t.power.mode = s.power.mode))) ∧
  (∀ (s : State), s.cfg.check = none → s.cfg.graphCheck = none → exec .consistencyCheckDone s = .next s)

/-- R424, R428, R429, R339: the end of a save and of a firmware commit. A save that the MRAM can take puts its image into its slot and is recorded; one that a warning
holds waits. A commit without a whole stage is refused with 0xB0 and changes no bank; one that passes makes the staged image the active bank, and the
control processor restarts. -/
def Obligations.SavesAndCommitsComplete : Prop :=
  (∀ (s : State) (x : SaveJob) (a : Nat) (img : List Byte), s.cfg.save = some x → x.image = some (a, img) → s.mramBlocked = false → s.ctl.running = true →
    Completes .configSaveComplete s (fun t => t.cfg = { s.cfg with save := none } ∧ t.mram = { s.mram with
        slots := tabSet (fun _ => ({} : Slot)) s.mram.slots x.slot { start := a, len := img.length / 8, label := x.label, image := img } } ∧
      (∃ r, t.ctl.ledger = (r :: s.ctl.ledger).take 2048 ∧ r.kind = 0) ∧ Frame [.cfg, .mram, .ctl, .bus, .link] s t)) ∧
  (∀ (s : State), s.cfg.save = none ∨ s.mramBlocked = true ∨ s.ctl.running = false → exec .configSaveComplete s = .next s) ∧
  (∀ (s : State) (j : Job), s.cfg.commit = some j → s.ctl.running = true → s.firmware = true → s.cfg.stage = none →
    Completes .fwCommitVerifyDone s (fun t => t.cfg.commit = none ∧ t.cfg.lastReason = 0xB0 ∧ t.cfg.refusals = min (s.cfg.refusals + 1) 65535 ∧ t.mram = s.mram ∧
      t.ctl.running = true)) ∧
  (∀ (s : State) (j : Job) (st : Tab Byte), s.cfg.commit = some j → s.ctl.running = true → s.firmware = true → s.cfg.stage = some st → s.stageVerdict = 0 →
    s.power.mode ≠ .recovery → Completes .fwCommitVerifyDone s (fun t => t.mram.active1 = !s.mram.active1 ∧
      t.mram.bank t.mram.active1 = { image := st, version := BitVec.ofNat 32 (stageField st 8 4) } ∧ t.mram.bank (!t.mram.active1) = s.mram.bank s.mram.active1 ∧
      t.ctl.running = false ∧ t.dep.lastRestart = 2 ∧ t.cfg.stage = none ∧ t.ctl.sessions = [] ∧ t.power.mode = s.power.mode)) ∧
  (∀ (s : State) (j : Job), s.cfg.commit = some j → s.ctl.running = true → s.firmware = true → s.stageVerdict = 0 → s.power.mode = .recovery → s.cfg.stage.isSome = true →
    Completes .fwCommitVerifyDone s (fun t => t.power.mode = .boot ∧ t.power.verified = false ∧ t.mram.active1 = !s.mram.active1)) ∧
  (∀ (s : State), s.cfg.commit = none ∨ s.ctl.running = false → exec .fwCommitVerifyDone s = .next s)

/-- R365, R381, R386, R388-R391, R394, R401, R404, R405: how a request is judged, for every packet opcode. A bus that is not served takes no packet, one whose mailbox
holds a packet or whose replies leave no room keeps it while its mailbox has room, and the link answers BUSY during a restart. A packet that waits and comes
before it, by arrival tick, port, origin and origin's port, is executed to its reply first. Then, in this order: a wrong revision is answered 0x13 with
the agreed one, an opcode newer than the revision 0x12, a missing session 0x20, or 0x23 once after it idled out, a wrong LENGTH 0x11, a claim of another session 0x30
with its lowest bit, and a state that does not serve it 0x41 with MODE. A refused request changes nothing else. -/
def Obligations.RequestsAreJudgedInOrder : Prop :=
  ∀ (s : State) (i : Instr) (op : Nat) (q : Req), requestOf i = some (op, q) →
    (q.port.val < 2 → s.served = false → exec i s = .next s) ∧
    (q.port.val < 2 → s.served = true → s.First q →
      ((s.bus.port (decide (q.port.val = 1))).ready = false ∨ (s.bus.port (decide (q.port.val = 1))).mailbox ≠ []) →
      ((s.bus.port (decide (q.port.val = 1))).mailQueued + (packet q.rev.val q.remote q.quiet op q.tag.toNat s.devId 0 q.payload).length ≤ 2080 →
        exec i s = .next (s.modBus (decide (q.port.val = 1)) (fun p => { p with mailbox := p.mailbox ++
          [{ bytes := packet q.rev.val q.remote q.quiet op q.tag.toNat s.devId 0 q.payload, now := s.clock.now, tick := s.tickNat }] }))) ∧
      (2080 < (s.bus.port (decide (q.port.val = 1))).mailQueued + (packet q.rev.val q.remote q.quiet op q.tag.toNat s.devId 0 q.payload).length →
        exec i s = .next s)) ∧
    (∀ (h : Nat × Nat × Nat × Nat × Waiting) (t : State), s.served = true → s.bus.spi.mailbox.length + s.bus.twi.mailbox.length + s.ctl.inbox.length = 1 →
      firstHead s.heads = some h → headBefore (s.clock.now, q.port.val, q.origin.val, q.oport.val, h.2.2.2.2) h = false →
      t = (s.takeHead h).runPacket h.2.1 h.2.2.1 h.2.2.2.1 h.2.2.2.2 → t.Takes q → exec i s = .next (t.execute State.dispatch (t.jobOf op q))) ∧
    ((q.port.val = 2 ∨ q.port.val = 3) → s.firmware = true → s.ctl.running = false →
      exec i s = .next (s.placeReply q.port.val q.origin.val (s.replyPacket (s.jobOf op q) 0x60 1 []))) ∧
    (s.Takes q → s.revisionOk op q = false → exec i s = .next ((s.seen q).reply (s.jobOf op q) 0x13 (s.agreed q.port.val) [])) ∧
    (∀ row, opRow op = some row → s.Takes q → s.revisionOk op q = true →
      (q.rev.val < row.rev → exec i s = .next ((s.seen q).reply (s.jobOf op q) 0x12 0 [])) ∧
      (row.rev ≤ q.rev.val → row.session = true → q.port.val ≠ 4 → s.ctl.sessionOf (bindingOf q) = none →
        (s.ctl.expired.contains (bindingOf q) = false → exec i s = .next ((s.seen q).reply (s.jobOf op q) 0x20 0 [])) ∧
        (s.ctl.expired.contains (bindingOf q) = true → exec i s = .next (({ s.seen q with ctl := { (s.seen q).ctl with
          expired := s.ctl.expired.filter (fun x => decide (x ≠ bindingOf q)) } }).reply (s.jobOf op q) 0x23 0 []))) ∧
      (row.rev ≤ q.rev.val → (row.session = false ∨ q.port.val = 4 ∨ (s.ctl.sessionOf (bindingOf q)).isSome = true) →
        (lengthOk op q.payload = false → exec i s = .next ((s.seen q).reply (s.jobOf op q) 0x11 0 [])) ∧
        (lengthOk op q.payload = true → s.claimClash (s.jobOf op q) ≠ 0 →
          exec i s = .next ((s.seen q).reply (s.jobOf op q) 0x30 (lowestBit (s.claimClash (s.jobOf op q))) [])) ∧
        (lengthOk op q.payload = true → s.claimClash (s.jobOf op q) = 0 → s.stateOk row = false →
          exec i s = .next ((s.seen q).reply (s.jobOf op q) 0x41 s.modeByte []))))

/-- R389, R391-R395, R397, R406: HELLO answers the highest revision of both ranges, agreed on a bus and nowhere else, or 0x13 where there is none. SESSION_OPEN opens a session at once while no key is set,
else a challenge; locked out, it is answered 0x22. SESSION_PROVE with the right proof opens the session and clears the failures, with a wrong one counts a failure; SESSION_CLOSE ends
the session without attention; KEY_CHANGE needs MRAM, takes the unwrapped key and ends every other session. Each is recorded by its kind. A number of an open session is nonzero and its own
(the number, the nonce are free values). -/
def Obligations.SessionRequestsAct : Prop :=
  (∀ (s : State) (q : Req) (lo hi : Byte), s.Admits 0x0001 q → q.payload = [lo, hi, 0, 0] → q.port.val < 2 →
    (lo.toNat ≤ hi.toNat → 1 ≤ hi.toNat → lo.toNat ≤ 3 → exec (.hello q) s = .next (((s.seen q).modBus (decide (q.port.val = 1)) (fun b => { b with rev := min 3 hi.toNat })).reply
      (s.jobOf 0x0001 q) 0 0 (leBytes 1 (min 3 hi.toNat) ++ [3] ++ leBytes 2 1024 ++ leBytes 2 s.devId ++ leBytes 1 (s.sessionState (bindingOf q)) ++ [0]))) ∧
    ((hi.toNat < lo.toNat ∨ hi.toNat = 0 ∨ 3 < lo.toNat) →
      exec (.hello q) s = .next ((s.seen q).reply (s.jobOf 0x0001 q) 0x13 (s.agreed q.port.val) []))) ∧
  (∀ (s : State) (q : Req) (lo hi : Byte), s.Admits 0x0001 q → q.payload = [lo, hi, 0, 0] → 2 ≤ q.port.val →
    (lo.toNat ≤ hi.toNat → 1 ≤ hi.toNat → lo.toNat ≤ 3 → exec (.hello q) s = .next ((s.seen q).reply (s.jobOf 0x0001 q) 0 0 (leBytes 1 (min 3 hi.toNat) ++ [3] ++
      leBytes 2 1024 ++ leBytes 2 s.devId ++ leBytes 1 (s.sessionState (bindingOf q)) ++ [0]))) ∧
    ((hi.toNat < lo.toNat ∨ hi.toNat = 0 ∨ 3 < lo.toNat) → exec (.hello q) s = .next ((s.seen q).reply (s.jobOf 0x0001 q) 0x13 0 []))) ∧
  (∀ (s : State) (q : Req), s.Admits 0x0002 q → s.lockedOut q.port.val = true →
    exec (.sessionOpen q) s = .next (((s.seen q).dropChallenge (bindingOf q)).reply (s.jobOf 0x0002 q) 0x22 0
      (leBytes 4 (ceilDiv (tabGet (fun _ => 0) s.ctl.lockedUntil q.port.val - s.clock.now) 96000)))) ∧
  (∀ (s : State) (q : Req), s.Admits 0x0002 q → s.lockedOut q.port.val = false → s.portFull (bindingOf q) = false → s.ctl.sessionOf (bindingOf q) = none →
    (s.mram.unprovisioned = true → Completes (.sessionOpen q) s (fun t => ∃ n, t.ctl.sessions = s.ctl.sessions ++ [{ binding := bindingOf q, number := n, lastPacket := s.clock.now }] ∧
      (s.ctl.sessions.length ≤ 18 → n ≠ 0 ∧ ∀ x, x ∈ s.ctl.sessions → x.number ≠ n) ∧ (∃ r, s.Records t r ∧ r.kind = 1 ∧ r.session = n) ∧ bindingOf q ∉ t.ctl.expired ∧
      t.free = s.free + 1 ∧ Frame [.ctl, .bus, .link, .free] s t)) ∧
    (s.mram.unprovisioned = false → Completes (.sessionOpen q) s (fun t => t.ctl.sessions = s.ctl.sessions ∧ t.ctl.ledger = s.ctl.ledger ∧
      (∃ c, t.ctl.challenges = s.ctl.challenges.filter (fun c => decide (c.binding ≠ bindingOf q)) ++ [c] ∧ c.binding = bindingOf q ∧ c.nh = q.payload ∧
        c.nd.length = 16 ∧ c.made = s.clock.now) ∧ t.free = s.free + 1 ∧ Frame [.ctl, .bus, .link, .free] s t))) ∧
  (∀ (s : State) (q : Req) (c : Challenge), s.Admits 0x0003 q → s.lockedOut q.port.val = false → s.portFull (bindingOf q) = false →
    s.ctl.challenges.find? (fun c => decide (c.binding = bindingOf q) && decide (s.clock.now < c.made + 960000)) = some c →
    (hmacSha256 s.mram.key (s.hostMessage q c) = q.payload → Completes (.sessionProve q) s (fun t => (∃ n, (t.ctl.sessions.map (fun x => (x.binding, x.number))) =
        (s.ctl.sessions.map (fun x => (x.binding, x.number))) ++ [(bindingOf q, n)] ∧ ∃ r, s.Records t r ∧ r.kind = 1 ∧ r.session = n) ∧
      t.ctl.fails = tabSet (fun _ => 0) s.ctl.fails q.port.val 0 ∧ t.mram = (if s.mramBlocked then s.mram else { s.mram with fails := t.ctl.fails }) ∧
      t.ctl.lockedUntil = tabSet (fun _ => 0) s.ctl.lockedUntil q.port.val 0 ∧ t.ctl.challenges = s.ctl.challenges.filter (fun c => decide (c.binding ≠ bindingOf q)) ∧
      Frame [.ctl, .bus, .link, .mram, .free] s t)) ∧
    (hmacSha256 s.mram.key (s.hostMessage q c) ≠ q.payload → Completes (.sessionProve q) s (fun t =>
      (let f := tabGet (fun _ => 0) s.ctl.fails q.port.val + 1
       t.ctl.fails = tabSet (fun _ => 0) s.ctl.fails q.port.val f ∧ t.mram = (if s.mramBlocked then s.mram else { s.mram with fails := t.ctl.fails }) ∧
       t.ctl.lockedUntil = tabSet (fun _ => 0) s.ctl.lockedUntil q.port.val (if f < 5 then 0 else s.clock.now + 96000 * min (2 ^ (f - 5)) 3600)) ∧
      t.ctl.authFails = min (s.ctl.authFails + 1) 65535 ∧ (t.ctl.sessions.map (fun x => x.number)) = (s.ctl.sessions.map (fun x => x.number)) ∧
      (∃ r, s.Records t r ∧ r.kind = 3) ∧ Frame [.ctl, .bus, .link, .mram] s t))) ∧
  (∀ (s : State) (q : Req), s.Admits 0x0004 q →
    (∀ x, (s.seen q).ctl.sessionOf (bindingOf q) = some x → Completes (.sessionClose q) s (fun t => t.ctl.sessions = (s.seen q).ctl.sessions.filter (fun y => decide (y.number ≠ x.number)) ∧
      (∃ r, s.Records t r ∧ r.kind = 2 ∧ r.session = x.number ∧ r.object = 0) ∧ t.bus.attn = s.bus.attn ∧ Frame [.ctl, .bus, .link] s t)) ∧
    (s.ctl.sessionOf (bindingOf q) = none → exec (.sessionClose q) s = .next (((s.seen q).dropChallenge (bindingOf q)).reply (s.jobOf 0x0004 q) 0 0 []))) ∧
  (∀ (s : State) (q : Req), s.Admits 0x0005 q →
    (s.mramBlocked = true → exec (.keyChange q) s = .next ((s.seen q).reply (s.jobOf 0x0005 q) 0x60 0x0E [])) ∧
    (s.mramBlocked = false → keyUnwrap s.mram.key q.payload = none → Completes (.keyChange q) s (fun t => t.mram = { s.mram with
        fails := tabSet (fun _ => 0) s.ctl.fails q.port.val (tabGet (fun _ => 0) s.ctl.fails q.port.val + 1) } ∧ t.ctl.fails = t.mram.fails ∧ Frame [.ctl, .bus, .link, .mram] s t)) ∧
    (∀ k, s.mramBlocked = false → keyUnwrap s.mram.key q.payload = some k → Completes (.keyChange q) s (fun t =>
      t.mram = { s.mram with key := k, keyGen := s.mram.keyGen + 1 } ∧ (∀ x, x ∈ t.ctl.sessions → x.binding = bindingOf q) ∧ Frame [.ctl, .bus, .link, .mram] s t)))

/-- R5, R155, R158, R261, R397, R400, R408, R433, R459: the reads. Whatever a read asks that no waiting packet comes before, and however it is answered, it changes nothing but what its reply, its session's time and
the draw of a free value touch. In its allowed range it is answered with what R397 lays out: a parameter of the bank asked for, node parameters, image bytes,
trace and ledger records from the one asked for, log bytes, the status words latched at the latest boundary with its TICK, the devices of the segment in ID order, and the identity. -/
def Obligations.ReadsAnswer : Prop :=
  (∀ (s : State) (q : Req) (i : Instr), (i = .identity q ∨ i = .paramRead q ∨ i = .nodeParamRead q ∨ i = .sprintRead q ∨ i = .traceRead q ∨ i = .statusRead q ∨
      i = .ledgerRead q ∨ i = .lifelogRead q ∨ i = .linkDiscover q ∨ i = .linkSlotRead q) → s.First q →
    Completes i s (fun t => t.ctl.ledger = s.ctl.ledger ∧ t.ctl.challenges = s.ctl.challenges ∧ t.ctl.sessions.map (fun x => (x.binding, x.number, x.claims)) =
      s.ctl.sessions.map (fun x => (x.binding, x.number, x.claims)) ∧ t.bus.attn = s.bus.attn ∧ Frame [.ctl, .bus, .link, .free] s t)) ∧
  (∀ (s : State) (q : Req), s.Admits 0x0006 q → exec (.identity q) s = .next ((s.seen q).reply (s.jobOf 0x0006 q) 0 0
    (leBytes 2 0x4B55 ++ leBytes 2 0x2428 ++ [0x10] ++ leBytes 1 s.power.bootBank ++ leBytes 8 Config.serial.toNat ++
      leBytes 4 (s.mram.bank s.mram.active1).version.toNat ++ leBytes 4 (s.mram.bank (!s.mram.active1)).version.toNat ++ leBytes 2 s.devId ++ [0, 0] ++
      leBytes 4 s.mram.keyGen.toNat))) ∧
  (∀ (s : State) (q : Req) (id bank : Nat), s.Admits 0x0101 q → le q.payload 0 2 = id → le q.payload 2 1 = bank → le q.payload 3 1 = 0 →
    (paramDefined id = true → (paramClass id = .banked → bank ≤ 1) → exec (.paramRead q) s = .next ((s.seen q).reply (s.jobOf 0x0101 q) 0 0 (leBytes 2 id ++
      leBytes 1 (paramWidth id) ++ leBytes 1 (paramClass id).code ++ [0, 0] ++ leBytes 8 (s.param (decide (bank = 1)) id)))) ∧
    (paramDefined id = false → exec (.paramRead q) s = .next ((s.seen q).reply (s.jobOf 0x0101 q) 0x14 0 [])) ∧
    (paramDefined id = true → paramClass id = .banked → 1 < bank → exec (.paramRead q) s = .next ((s.seen q).reply (s.jobOf 0x0101 q) 0x15 0 []))) ∧
  (∀ (s : State) (q : Req) (node slot n : Nat) (r : NodeRec), s.Admits 0x0106 q → le q.payload 0 2 = node → le q.payload 2 2 = slot → le q.payload 4 2 = n →
    le q.payload 6 1 = 0 → le q.payload 7 1 = 0 → s.graph.active.nodes[node]? = some r → 1 ≤ n → n ≤ 252 → slot + n ≤ r.pCount →
    exec (.nodeParamRead q) s = .next ((s.seen q).reply (s.jobOf 0x0106 q) 0 0 (leBytes 2 n ++
      (List.range n).flatMap (fun k => leBytes 4 (tabGet (fun _ => (0 : Word)) s.graph.nodeActive (r.pFirst + slot + k)).toNat)))) ∧
  (∀ (s : State) (q : Req) (cell bank ofs n : Nat), s.Admits 0x0108 q → le q.payload 0 1 = cell → le q.payload 1 1 = bank → le q.payload 2 2 = ofs →
    le q.payload 4 2 = n → cell < 16 → bank ≤ 1 → ofs % 4 = 0 → n % 4 = 0 → 4 ≤ n → n ≤ 1020 → ofs + n ≤ 2440 →
    exec (.sprintRead q) s = .next ((s.seen q).reply (s.jobOf 0x0108 q) 0 0 (leBytes 2 n ++
      tabGetRun (fun _ => 0) (if bank = 0 then s.cfg.cellsActive else s.cfg.cellsShadow) (2440 * cell + ofs) n))) ∧
  (∀ (s : State) (q : Req) (bank ofs n : Nat), s.Admits 0x0805 q → le q.payload 0 2 = ofs → le q.payload 2 1 = bank → le q.payload 3 1 = 0 → le q.payload 4 2 = n →
    bank ≤ 1 → ofs % 2 = 0 → n % 2 = 0 → 2 ≤ n → n ≤ 1020 → ofs + n ≤ 2048 →
    exec (.linkSlotRead q) s = .next ((s.seen q).reply (s.jobOf 0x0805 q) 0 0 (leBytes 2 n ++
      tabGetRun (fun _ => 0) (if bank = 0 then s.cfg.linkActive else s.cfg.linkShadow) ofs n))) ∧
  (∀ (s : State) (q : Req) (ofs n : Nat), s.Admits 0x0304 q → le q.payload 0 2 = ofs → le q.payload 2 2 = n → 1 ≤ n → n ≤ 63 →
    exec (.traceRead q) s = .next ((s.seen q).reply (s.jobOf 0x0304 q) 0 0 (leBytes 2 s.graph.trace.length ++ leBytes 2 (min n (s.graph.trace.length - ofs)) ++ [0, 0] ++
      ((s.graph.trace.drop ofs).take n).flatMap TraceRec.bytes))) ∧
  (∀ (s : State) (q : Req) (g first n : Nat) (w : List Nat), s.Admits 0x0401 q → le q.payload 0 1 = g → le q.payload 1 1 = 0 → le q.payload 2 2 = first →
    le q.payload 4 2 = n → le q.payload 6 2 = 0 → (s.seen q).latched g = some w → 1 ≤ n → n ≤ 254 → first + n ≤ w.length →
    exec (.statusRead q) s = .next ((s.seen q).draw.reply (s.jobOf 0x0401 q) 0 0 (leBytes 1 g ++ [0] ++ leBytes 4 s.latchTick ++ ((w.drop first).take n).flatMap (leBytes 4)))) ∧
  (∀ (s : State) (q : Req) (frm n : Nat), s.Admits 0x0605 q → le q.payload 0 4 = frm → le q.payload 4 2 = n → le q.payload 6 2 = 0 → 1 ≤ n → n ≤ 31 →
    s.ctl.ledger ≠ [] →
    let l := (s.ctl.ledger.reverse.filter (fun r => decide (frm ≤ r.seq.toNat))).take n
    exec (.ledgerRead q) s = .next ((s.seen q).draw.reply (s.jobOf 0x0605 q) 0 0 (leBytes 2 l.length ++
      leBytes 4 ((s.ctl.ledger.getLast?.map (fun r => r.seq.toNat)).getD 0) ++ l.flatMap LedgerRec.bytes))) ∧
  (∀ (s : State) (q : Req) (ofs n : Nat), s.Admits 0x0606 q → le q.payload 0 4 = ofs → le q.payload 4 2 = n → 1 ≤ n → n ≤ 1020 → ofs + n ≤ 1236 →
    exec (.lifelogRead q) s = .next ((s.seen q).reply (s.jobOf 0x0606 q) 0 0 (leBytes 2 n ++ (s.logBytes.drop ofs).take n))) ∧
  (∀ (s : State) (q : Req), s.Admits 0x0801 q → le q.payload 0 2 = 0 → 1 ≤ le q.payload 2 2 → le q.payload 2 2 ≤ 42 → s.link.topo = [] →
    exec (.linkDiscover q) s = .next ((s.seen q).draw.reply (s.jobOf 0x0801 q) 0 0 (leBytes 2 1 ++ leBytes 2 1 ++ [0, 0] ++
      discoverEntry s.free s.link.isPace false false s.ownAnn)))

/-- R99, R126, R128, R155, R261, R280, R286, R397, R403, R407, R411, R412, R415, R437-R440: the writes. A PARAM_WRITE that every step passes writes its parameter under its class and is answered OK with
the ID and recorded with the value; a command that names another parameter's write does nothing. A BANKED value goes to the shadow bank alone; a STATIC or LIVE one is in force
at once, with what its chapter sets going; a device record one goes to MRAM. A run writes its values in order or, at the first bad value, none. Images, node parameters and graph
pieces go to the shadow bank, or queue behind a swap; a node write with a tick becomes an event for that tick. -/
def Obligations.WritesAct : Prop :=
  (∀ (s : State) (q : Req) (id v : Nat) (i : Instr), s.Writes q id v → (i = .paramWrite q ∨ (i = .ckXoFreqWrite q ∧ id = 0x0100) ∨ (i = .ckSteerWrite q ∧ id = 0x0103) ∨
      (i = .cvOrderWrite q ∧ (0x0400 ≤ id ∧ id < 0x0418 ∨ 0x0430 ≤ id ∧ id < 0x044C)) ∨ (i = .spOrderWrite q ∧ id = 0x0710) ∨
      (i = .portMaskWrite q ∧ 0x140C ≤ id ∧ id < 0x1418) ∨ (i = .mtCfgWrite q ∧ id / 256 = 0x13) ∨ (i = .grRunaheadWrite q ∧ id = 0x1C00) ∨
      (i = .grTraceWrite q ∧ id = 0x1C01) ∨ (i = .refParamWrite q ∧ id / 256 = 0x02) ∨ (i = .wakeParamWrite q ∧ id / 256 = 0x18) ∨
      (i = .deviceRecordParamWrite q ∧ (id = 0 ∨ id = 0x1900))) →
    exec i s = .next ((((s.seen q).enterPhoto (s.jobOf 0x0102 q) (.params id 1)).writeParam id v).acceptWith (s.jobOf 0x0102 q)
      (if id = 0x0103 ∧ (signed v 32 < -500000000 ∨ 500000000 < signed v 32) then 1 else 0) (leBytes 2 id) 1 v) ∧
    Completes i s (fun t => (∃ r, s.Records t r ∧ r.kind = 0 ∧ r.count = 1 ∧ r.value = BitVec.ofNat 64 v) ∧
      (paramClass id = .banked → t.cfg = { s.cfg with shadow := pSet s.cfg.shadow id v } ∧ Frame [.cfg, .dep, .ctl, .bus, .link] s t) ∧
      (mramParam id = true → t.mram = { s.mram with device := pSet s.mram.device id v } ∧ t.cfg = s.cfg) ∧
      (id = 0x0100 → t.synth.lock = false ∧ (t.synth.xoFreq = v)) ∧
      (id = 0x0103 → t.cfg = { s.cfg with direct := pSet s.cfg.direct 0x0103 (max (-500000000) (min 500000000 (signed v 32)) % 2 ^ 32).toNat } ∧
        Frame [.cfg, .synth, .ctl, .bus, .link] s t) ∧
      (0x0400 ≤ id → id < 0x0418 → t.conv.adc = tabSet (fun _ => ({} : AdcCh)) s.conv.adc (id - 0x0400) { s.adcCh (id - 0x0400) with
        core := { count := 4 * (s.clock.phase % 4) }, sprint := {}, cicNow := 0, cicPrev := 0, chain := [], chainOut := 0,
        quick := { held := (s.adcCh (id - 0x0400)).sample } } ∧ Frame [.cfg, .conv, .inp, .ctl, .bus, .link] s t) ∧
      (id / 256 = 0x13 → t.cfg = { s.cfg with direct := pSet s.cfg.direct id v } ∧ Frame [.cfg, .ctl, .bus, .link] s t) ∧
      (id = 0x1C01 → v.testBit 0 = true → (s.dir 0x1C01).testBit 0 = false → t.graph.trace = [] ∧ Frame [.cfg, .graph, .ctl, .bus, .link] s t) ∧
      (id / 256 = 0x18 → t.cfg = { s.cfg with direct := pSet s.cfg.direct id v } ∧ t.wake.widx = s.wake.widx ∧ t.wake.records = s.wake.records ∧
        Frame [.cfg, .wake, .ctl, .bus, .link] s t))) ∧
  (∀ (s : State) (q : Req), le q.payload 0 2 = 0x0800 → exec (.ckXoFreqWrite q) s = .next s ∧ exec (.ckSteerWrite q) s = .next s ∧ exec (.cvOrderWrite q) s = .next s ∧
    exec (.spOrderWrite q) s = .next s ∧ exec (.portMaskWrite q) s = .next s ∧ exec (.mtCfgWrite q) s = .next s ∧ exec (.grRunaheadWrite q) s = .next s ∧
    exec (.grTraceWrite q) s = .next s ∧ exec (.refParamWrite q) s = .next s ∧ exec (.wakeParamWrite q) s = .next s ∧ exec (.deviceRecordParamWrite q) s = .next s) ∧
  (∀ (s : State) (q : Req) (first n w : Nat), s.Admits 0x0103 q → le q.payload 0 2 = first → le q.payload 2 2 = n → le q.payload 4 1 = w → le q.payload 5 3 = 0 →
    (w = 4 ∨ w = 8) → 1 ≤ n → n ≤ 1016 / w → s.inIdle = true → s.frozen = false → s.loses (s.jobOf 0x0103 q) (.params first n) = false →
    (∀ k, k < n → paramDefined (first + k) = true ∧ sameBlock first (first + k) = true ∧ paramWidth (first + k) = w ∧ mramParam (first + k) = false) →
    ((∀ k, k < n → s.valueOk (first + k) ((valuesOf q.payload 8 w n).getD k 0) = true) → exec (.paramWriteBlock q) s = .next
      ((State.writeRun (fun _ => true) first (valuesOf q.payload 8 w n) ((s.seen q).enterPhoto (s.jobOf 0x0103 q) (.params first n))).acceptWith (s.jobOf 0x0103 q)
        (if first ≤ 0x0103 ∧ 0x0103 < first + n ∧ (signed ((valuesOf q.payload 8 w n).getD (0x0103 - first) 0) 32 < -500000000 ∨
          500000000 < signed ((valuesOf q.payload 8 w n).getD (0x0103 - first) 0) 32) then 1 else 0)
        (leBytes 2 n) n (crc32c (q.payload.drop 8)))) ∧
    (∀ k, k < n → s.valueOk (first + k) ((valuesOf q.payload 8 w n).getD k 0) = false →
      (∀ j, j < k → s.valueOk (first + j) ((valuesOf q.payload 8 w n).getD j 0) = true) →
      exec (.paramWriteBlock q) s = .next ((s.seen q).reply (s.jobOf 0x0103 q) 0x15 0 (leBytes 2 k)))) ∧
  (∀ (s : State) (q : Req) (i : Instr) (op : Nat), ((i = .sprintWrite q ∧ op = 0x0107 ∧ le q.payload 0 1 < 16 ∧ le q.payload 1 1 = 0 ∧ le q.payload 2 2 % 4 = 0 ∧
        (q.payload.drop 4).length % 4 = 0 ∧ le q.payload 2 2 + (q.payload.drop 4).length ≤ 2440) ∨
      (i = .linkSlotWrite q ∧ op = 0x0804 ∧ le q.payload 2 2 = 0 ∧ le q.payload 0 2 % 2 = 0 ∧ (q.payload.drop 4).length % 2 = 0 ∧
        le q.payload 0 2 + (q.payload.drop 4).length ≤ 2048)) →
    s.Admits op q →
    (s.frozen = false → Completes i s (fun t =>
      (op = 0x0107 → t.cfg = { s.cfg with cellsShadow := tabSetRun (fun _ => 0) s.cfg.cellsShadow (2440 * le q.payload 0 1 + le q.payload 2 2) (q.payload.drop 4) }) ∧
      (op = 0x0804 → t.cfg = { s.cfg with linkShadow := tabSetRun (fun _ => 0) s.cfg.linkShadow (le q.payload 0 2) (q.payload.drop 4) }) ∧
      (∃ r, s.Records t r ∧ r.kind = 0 ∧ r.value = BitVec.ofNat 64 (crc32c (q.payload.drop 4))) ∧ Frame [.cfg, .dep, .ctl, .bus, .link] s t)) ∧
    (s.frozen = true → s.cfg.queue = [] → q.payload.length ≤ 8192 → exec i s = .next (({ s.seen q with cfg := { s.cfg with queue := [s.jobOf op q] } }).reply
      (s.jobOf op q) 0 2 []))) ∧
  (∀ (s : State) (q : Req) (node slot named : Nat) (v : Nat) (nr : NodeRec), s.Admits 0x0105 q → le q.payload 0 2 = node → le q.payload 2 2 = slot → le q.payload 4 2 = 1 →
    le q.payload 6 2 = 0 → le q.payload 8 8 = named → le q.payload 16 4 = v → s.tickNat < named → named < 2 ^ 48 → s.graph.active.nodes[node]? = some nr → slot < nr.pCount →
    (slotFmt nr.op nr.size slot).ok (BitVec.ofNat 32 v) = true → s.loses (s.jobOf 0x0105 q) (.slots node slot 1 named) = false → s.graph.events = [] → s.inRun = false →
    Completes (.nodeParamWrite q) s (fun t => (∃ e, t.graph.events = [e] ∧ e.key = named ∧ e.node = node ∧ e.slot = slot ∧ e.values = [BitVec.ofNat 32 v]) ∧
      t.graph.nodeActive = s.graph.nodeActive ∧ t.graph.nodeShadow = s.graph.nodeShadow ∧
      (∃ r, s.Records t r ∧ r.kind = 0 ∧ r.value = BitVec.ofNat 64 (v + 2 ^ 32 * (named % 2 ^ 32))) ∧ Frame [.graph, .ctl, .bus, .link] s t)) ∧
  (∀ (s : State) (q : Req) (d : List Byte), s.Admits 0x0301 q → q.payload = leBytes 4 0 ++ d → 1 ≤ d.length → d.length < 64 → s.frozen = false → s.cfg.queue = [] →
    Completes (.graphLoad q) s (fun t => t.graph.load = some (putBytes [] 0 d) ∧ t.graph.loadLen = 0 ∧ t.graph.active = s.graph.active ∧
      t.graph.nodeShadow = s.graph.nodeShadow ∧ (∃ r, s.Records t r ∧ r.kind = 0) ∧ Frame [.graph, .ctl, .bus, .link] s t))

/-- R128, R212, R237, R333, R339, R396-R398, R403, R413, R417, R424, R425, R427, R428: the requests that change modes, banks and stored content. BANK_SWAP, ARM and GRAPH_CHECK start their
check and are answered ACCEPTED_PENDING; ARM in Run is answered 0x41 and while another check runs BUSY. DISARM and SET_MODE leave Run, SET_MODE begins the sequence into Rest or Watch from Idle.
START_GROUP places a gun, in Run only. A save is taken up unless a warning holds MRAM; a recall of a good slot loads both banks and checks them; a stage from offset 0 empties the inactive
bank; a commit waits for its verification. -/
def Obligations.ModeBankAndStoreRequestsAct : Prop :=
  (∀ (s : State) (q : Req) (named : Nat), s.Admits 0x0104 q → le q.payload 0 8 = named → named < 2 ^ 48 → s.loses (s.jobOf 0x0104 q) .swap = false →
    (s.cfg.check = none → s.cfg.armed = none → Completes (.bankSwap q) s (fun t => t.cfg = { s.cfg with
        check := some { kind := .swap, job := s.jobOf 0x0104 q, named := named, ahead := s.cfg.queue.length } } ∧
      t.ctl.ledger = s.ctl.ledger ∧ Frame [.cfg, .graph, .conv, .ctl, .bus, .link, .free] s t)) ∧
    ((s.cfg.check.isSome = true ∨ s.cfg.armed.isSome = true) → exec (.bankSwap q) s = .next ((s.seen q).reply (s.jobOf 0x0104 q) 0x60 0 []))) ∧
  (∀ (s : State) (q : Req), s.Admits 0x0201 q →
    (s.inIdle = true → s.power.entering = none → s.power.pfw = false → s.cfg.check = none → s.cfg.armed = none → Completes (.arm q) s (fun t => t.cfg = { s.cfg with
        check := some { kind := .arm, job := s.jobOf 0x0201 q, named := 0, ahead := s.cfg.queue.length } } ∧ t.ctl.ledger = s.ctl.ledger ∧
      t.power = s.power ∧ Frame [.cfg, .conv, .ctl, .bus, .link] s t)) ∧
    (s.inIdle = true → s.power.entering = none → s.power.pfw = false → s.cfg.check.isSome = true → exec (.arm q) s = .next ((s.seen q).reply (s.jobOf 0x0201 q) 0x60 0 [])) ∧
    ((s.inIdle = false ∨ s.power.pfw = true) → exec (.arm q) s = .next ((s.seen q).reply (s.jobOf 0x0201 q) 0x41 s.modeByte []))) ∧
  (∀ (s : State) (q : Req), s.Admits 0x0202 q →
    (s.inRun = true → s.power.leaving = none → Completes (.disarm q) s (fun t =>
      t.power = { s.power with leaving := some (.idle, s.clock.now + s.leaveTicks), leaveJob := some (s.jobOf 0x0202 q) } ∧
      (∀ o, o < 28 → (t.outCh o).causes.getLsbD 0 = true) ∧ Frame [.power, .out, .ctl, .bus, .link] s t)) ∧
    (s.inRun = false → exec (.disarm q) s = .next ((s.seen q).reply (s.jobOf 0x0202 q) 0x41 s.modeByte []))) ∧
  (∀ (s : State) (q : Req) (m : Byte), s.Admits 0x0203 q → q.payload = [m, 0, 0, 0] → s.power.leaving = none → s.power.entering = none →
    (m = 2 → s.inIdle = true → exec (.setMode q) s = .next ((s.seen q).accept (s.jobOf 0x0203 q) (leBytes 4 0) 0 0)) ∧
    (m = 2 → s.inRun = true → Completes (.setMode q) s (fun t =>
      t.power = { s.power with leaving := some (.idle, s.clock.now + s.leaveTicks), leaveJob := some (s.jobOf 0x0203 q) } ∧
      Frame [.power, .out, .ctl, .bus, .link] s t)) ∧
    (m.toNat < 2 → s.inIdle = true → s.cfg.check = none → s.cfg.armed = none → Completes (.setMode q) s (fun t =>
      t.power.entering = some (if m = 0 then .rest else .watch, s.clock.now) ∧ t.power.entryStep = 0 ∧ t.power.mode = .idle ∧ t.out.pump = .off ∧ t.link.topo = [] ∧
      t.cfg = s.cfg ∧ t.clock = s.clock ∧ t.mram = s.mram ∧ (∃ r, s.Records t r ∧ r.kind = 0))) ∧
    (2 < m.toNat → exec (.setMode q) s = .next ((s.seen q).reply (s.jobOf 0x0203 q) 0x15 0 []))) ∧
  (∀ (s : State) (q : Req) (mask named : Nat), s.Admits 0x0204 q → le q.payload 0 1 = mask → le q.payload 1 1 = 0 → le q.payload 2 6 = 0 → le q.payload 8 8 = named → named < 2 ^ 48 →
    (s.inRun = true → s.loses (s.jobOf 0x0204 q) (.groups mask (s.effectTick named)) = false → Completes (.startGroup q) s (fun t =>
      t.ports = { s.ports with guns := s.ports.guns ++ [(mask, s.effectTick named, false, q.port.val)] } ∧
      (∃ r, s.Records t r ∧ r.kind = 0 ∧ r.value = BitVec.ofNat 64 (s.effectTick named)) ∧ Frame [.ports, .ctl, .bus, .link] s t)) ∧
    (s.inRun = false → exec (.startGroup q) s = .next ((s.seen q).reply (s.jobOf 0x0204 q) 0x41 s.modeByte []))) ∧
  (∀ (s : State) (q : Req), s.Admits 0x0302 q →
    (s.cfg.graphCheck = none → exec (.graphCheck q) s = .next (({ s.seen q with cfg := { s.cfg with
      graphCheck := some { kind := .graph, job := s.jobOf 0x0302 q, named := 0 } } }).reply (s.jobOf 0x0302 q) 1 0 [])) ∧
    (s.cfg.graphCheck.isSome = true → exec (.graphCheck q) s = .next ((s.seen q).reply (s.jobOf 0x0302 q) 0x60 0 []))) ∧
  (∀ (s : State) (q : Req) (slot label : Nat), s.Admits 0x0601 q → le q.payload 0 1 = slot → le q.payload 1 3 = 0 → le q.payload 4 4 = label → slot ≤ 7 →
    (s.mramBlocked = false → s.storeBusy = false → exec (.configSave q) s = .next (({ s.seen q with cfg := { s.cfg with
      save := some { job := s.jobOf 0x0601 q, slot := slot, label := BitVec.ofNat 32 label } } }).reply (s.jobOf 0x0601 q) 1 0 [])) ∧
    (s.mramBlocked = true → exec (.configSave q) s = .next ((s.seen q).reply (s.jobOf 0x0601 q) 0x60 0x0E []))) ∧
  (∀ (s : State) (q : Req) (slot arm : Nat), s.Admits 0x0602 q → le q.payload 0 1 = slot → le q.payload 1 1 = arm → le q.payload 2 2 = 0 → slot ≤ 7 → arm ≤ 1 →
    (s.inIdle = true → s.power.entering = none → s.frozen = false → s.cfg.check = none → s.cfg.armed = none → (s.mram.slot slot).judge.1 = 0 →
      Completes (.configRecall q) s (fun t => t.cfg.check = some { kind := .recall (decide (arm = 1)), job := s.jobOf 0x0602 q, named := 0 } ∧
        t.cfg.active = t.cfg.shadow ∧ t.cfg.cellsActive = t.cfg.cellsShadow ∧ t.cfg.linkActive = t.cfg.linkShadow ∧ t.power.mode = .idle ∧ t.clock = s.clock)) ∧
    (s.inIdle = true → s.power.entering = none → s.frozen = false → s.cfg.check = none → s.cfg.armed = none → (s.mram.slot slot).judge.1 ≠ 0 →
      Completes (.configRecall q) s (fun t => t.cfg.lastReason = (s.mram.slot slot).judge.1 ∧ t.cfg.lastKind = 15 ∧ t.cfg.lastIndex = slot ∧
        t.bus.attn = s.bus.attn ||| BitVec.ofNat 32 (2 ^ 1) ∧ t.cfg.active = s.cfg.active ∧ t.cfg.shadow = s.cfg.shadow ∧ t.cfg.direct = s.cfg.direct ∧ t.cfg.check = none)) ∧
    (s.inIdle = false → exec (.configRecall q) s = .next ((s.seen q).reply (s.jobOf 0x0602 q) 0x41 s.modeByte []))) ∧
  (∀ (s : State) (q : Req) (d : List Byte), s.Admits 0x0603 q → q.payload = leBytes 4 0 ++ d → d.length < 64 →
    (s.mramBlocked = false → s.storeBusy = false → Completes (.fwStage q) s (fun t => t.cfg = { s.cfg with stage := some (putBytes [] 0 d) } ∧
      t.mram.bank (!s.mram.active1) = {} ∧ t.mram.bank s.mram.active1 = s.mram.bank s.mram.active1 ∧ t.mram.active1 = s.mram.active1 ∧
      (∃ r, s.Records t r ∧ r.kind = 0 ∧ r.value = BitVec.ofNat 64 (crc32c d)) ∧ Frame [.cfg, .mram, .ctl, .bus, .link] s t)) ∧
    (s.mramBlocked = true → exec (.fwStage q) s = .next ((s.seen q).reply (s.jobOf 0x0603 q) 0x60 0x0E []))) ∧
  (∀ (s : State) (q : Req), s.Admits 0x0604 q →
    (s.mramBlocked = false → s.storeBusy = false → exec (.fwCommit q) s = .next { s.seen q with cfg := { s.cfg with commit := some (s.jobOf 0x0604 q) } }) ∧
    (s.mramBlocked = false → s.storeBusy = true → exec (.fwCommit q) s = .next ((s.seen q).reply (s.jobOf 0x0604 q) 0x60 0 [])) ∧
    (s.mramBlocked = true → exec (.fwCommit q) s = .next ((s.seen q).reply (s.jobOf 0x0604 q) 0x60 0x0E [])))

/-- R157, R253, R264, R273, R286, R287, R315, R351, R354, R378, R403-R405, R461: the remaining requests. A claim is granted whole or refused with 0x30 and the bits in the way, a release gives back what is held;
ATTN_ACK clears the bits written; STICKY_CLEAR clears its group; RUNAHEAD_SET takes a limit to 8; a force, a steering, a new L and a handover for a tick wait for it; an ID is taken when
the serial number is this device's and broadcast when not; a template piece is kept. What another request of the same arrival tick took first is answered LOST_PHOTO_FINISH, 0x31, and counted. -/
def Obligations.OtherRequestsAct : Prop :=
  (∀ (s : State) (q : Req) (m clash : Nat) (x : Session), s.Admits 0x0501 q → le q.payload 0 8 = m → m ||| claimBits = claimBits → s.ctl.sessionOf (bindingOf q) = some x →
    clash = (s.ctl.sessions.filter (fun y => decide (y.binding ≠ bindingOf q))).foldl (fun a y => a ||| (y.claims.toNat &&& m)) 0 → s.loses (s.jobOf 0x0501 q) (.claims m) = false →
    (clash = 0 → Completes (.claim q) s (fun t => t.ctl.sessions = (s.seen q).ctl.sessions.map (fun y => if y.binding = bindingOf q then { y with claims := x.claims ||| BitVec.ofNat 64 m } else y) ∧
      (∃ r, s.Records t r ∧ r.kind = 0 ∧ r.value = x.claims ||| BitVec.ofNat 64 m) ∧ Frame [.ctl, .bus, .link] s t)) ∧
    (clash ≠ 0 → exec (.claim q) s = .next ((s.seen q).reply (s.jobOf 0x0501 q) 0x30 (lowestBit clash) (leBytes 8 clash)))) ∧
  (∀ (s : State) (q : Req) (m : Nat), s.Admits 0x0501 q → le q.payload 0 8 = m → m ||| claimBits = claimBits → s.loses (s.jobOf 0x0501 q) (.claims m) = true →
    exec (.claim q) s = .next (({ s.seen q with ctl := { (s.seen q).ctl with photoLosses := min (s.ctl.photoLosses + 1) 65535 } }).reply (s.jobOf 0x0501 q) 0x31 0 [])) ∧
  (∀ (s : State) (q : Req) (m : Nat) (x : Session), s.Admits 0x0502 q → le q.payload 0 8 = m → s.ctl.sessionOf (bindingOf q) = some x →
    (m ||| claimBits = claimBits → Completes (.release q) s (fun t => t.ctl.sessions = (s.seen q).ctl.sessions.map (fun y => if y.binding = bindingOf q then
        { y with claims := x.claims &&& ~~~ BitVec.ofNat 64 m } else y) ∧ (∃ r, s.Records t r ∧ r.kind = 0) ∧ Frame [.ctl, .bus, .link] s t)) ∧
    (m ||| claimBits ≠ claimBits → exec (.release q) s = .next ((s.seen q).reply (s.jobOf 0x0502 q) 0x15 0 []))) ∧
  (∀ (s : State) (q : Req) (m : Nat), s.Admits 0x0403 q → le q.payload 0 4 = m →
    (m < 2 ^ 18 → Completes (.attnAck q) s (fun t => t.bus.attn = s.bus.attn &&& ~~~ BitVec.ofNat 32 m ∧ (∃ r, s.Records t r ∧ r.kind = 0) ∧ Frame [.ctl, .bus, .link] s t)) ∧
    (2 ^ 18 ≤ m → exec (.attnAck q) s = .next ((s.seen q).reply (s.jobOf 0x0403 q) 0x15 0 []))) ∧
  (∀ (s : State) (q : Req) (g : Byte), s.Admits 0x0402 q → q.payload = [g, 0, 0, 0] →
    (g = 10 → exec (.stickyClear q) s = .next (({ s.seen q with synth := { s.synth with lostSticky := false, wordLimit := false, lockLosses := 0 } }).accept (s.jobOf 0x0402 q) [] 0 0)) ∧
    (g = 12 → exec (.stickyClear q) s = .next (({ s.seen q with power := { s.power with pfwSticky := false, pfwCount := 0 } }).accept (s.jobOf 0x0402 q) [] 0 0)) ∧
    (g = 13 → exec (.stickyClear q) s = .next (({ s.seen q with wake := { s.wake with lostSticky := false, lostRest := 0, rejected := 0 } }).accept (s.jobOf 0x0402 q) [] 0 0)) ∧
    (17 < g.toNat → exec (.stickyClear q) s = .next ((s.seen q).reply (s.jobOf 0x0402 q) 0x15 0 []))) ∧
  (∀ (s : State) (q : Req) (l : Byte), s.Admits 0x0303 q → q.payload = [l, 0, 0, 0] →
    (l.toNat ≤ 8 → s.inRun = false → exec (.runaheadSet q) s = .next (({ s.seen q with cfg := { s.cfg with direct := pSet s.cfg.direct 0x1C00 l.toNat } }).accept
      (s.jobOf 0x0303 q) (leBytes 1 l.toNat) 0 0)) ∧
    (8 < l.toNat → exec (.runaheadSet q) s = .next ((s.seen q).reply (s.jobOf 0x0303 q) 0x15 0 []))) ∧
  (∀ (s : State) (q : Req) (a src named : Nat), s.Admits 0x0701 q → le q.payload 0 1 = a → le q.payload 1 1 = src → le q.payload 2 6 = 0 → le q.payload 8 8 = named →
    a ≤ 3 → src ≤ 7 → (a ≠ 1 → src = 0) → named < 2 ^ 48 →
    (s.forceBarred a src = false → s.loses (s.jobOf 0x0701 q) (.act 0x0701 (s.effectTick named)) = false → Completes (.refForce q) s (fun t =>
      t.dpll = { s.dpll with forceNext := s.dpll.forceNext ++ [(s.effectTick named, a, src, q.port.val)] } ∧
      (∃ r, s.Records t r ∧ r.kind = 0 ∧ r.value = BitVec.ofNat 64 (s.effectTick named)) ∧ Frame [.dpll, .ctl, .bus, .link] s t)) ∧
    (s.forceBarred a src = true → exec (.refForce q) s = .next ((s.seen q).reply (s.jobOf 0x0701 q) 0x41 s.modeByte []))) ∧
  (∀ (s : State) (q : Req) (v : Int) (named : Nat), s.Admits 0x0702 q → signed (le q.payload 0 4) 32 = v → le q.payload 4 4 = 0 → le q.payload 8 8 = named → named < 2 ^ 48 →
    s.loses (s.jobOf 0x0702 q) (steerThing (s.effectTick named) (s.effectTick 0)) = false →
    (s.tickNat < named → Completes (.steer q) s (fun t => t.synth = { s.synth with steers := s.synth.steers ++ [(named, v, q.port.val)] } ∧
      (∃ r, s.Records t r ∧ r.kind = 0) ∧ Frame [.synth, .ctl, .bus, .link] s t)) ∧
    (named ≤ s.tickNat → Completes (.steer q) s (fun t => t.cfg = { s.cfg with direct := pSet s.cfg.direct 0x0103 (max (-500000000) (min 500000000 v) % 2 ^ 32).toNat } ∧
      t.synth = { s.synth with clamped := decide (v < -500000000 ∨ 500000000 < v) } ∧ (∃ r, s.Records t r ∧ r.kind = 0) ∧ Frame [.synth, .cfg, .ctl, .bus, .link] s t))) ∧
  (∀ (s : State) (q : Req) (serial id : Nat), s.Admits 0x0802 q → le q.payload 0 8 = serial → le q.payload 8 2 = id → le q.payload 10 2 = 0 → id ≤ 1023 →
    (serial = Config.serial.toNat → Completes (.linkAssignId q) s (fun t => t.link.assigned = some id ∧ (s.link.isPace = true → t.link.pace = id) ∧
      (∀ x, x ∈ t.ctl.sessions → x.binding.port ≠ 2 ∧ x.binding.port ≠ 3) ∧ Frame [.ctl, .bus, .link] s t)) ∧
    (serial ≠ Config.serial.toNat → Completes (.linkAssignId q) s (fun t => t.link.assigned = s.link.assigned ∧ (∃ r, s.Records t r ∧ r.kind = 0) ∧ Frame [.ctl, .bus, .link] s t))) ∧
  (∀ (s : State) (q : Req) (l named : Nat), s.Admits 0x0803 q → le q.payload 0 1 = l → le q.payload 1 7 = 0 → le q.payload 8 8 = named → named < 2 ^ 48 → 2 ≤ l → l ≤ 63 →
    (s.link.isPace = true → s.lMin ≤ l → s.loses (s.jobOf 0x0803 q) (.act 0x0803 (max (s.effectTick named) (s.tickNat + s.link.l + 2))) = false →
      Completes (.linkSetOffset q) s (fun t => (∀ e, e = max (s.effectTick named) (s.tickNat + s.link.l + 2) →
          t.link.lNext = s.link.lNext.filter (fun x => decide (x.1 < e)) ++ (e, l) :: s.link.lNext.filter (fun x => decide (e < x.1))) ∧ t.link.l = s.link.l ∧
        (∃ r, s.Records t r ∧ r.kind = 0) ∧ Frame [.link, .ctl, .bus] s t)) ∧
    (s.link.isPace = false → exec (.linkSetOffset q) s = .next ((s.seen q).reply (s.jobOf 0x0803 q) 0x41 s.modeByte []))) ∧
  (∀ (s : State) (q : Req) (slot ofs : Nat) (d : List Byte) (w : Wake), s.Admits 0x0901 q → le q.payload 0 1 = slot → slot ≤ 3 → le q.payload 1 1 = 0 → le q.payload 2 2 = ofs →
    q.payload.drop 4 = d → s.wake.loadPiece slot ofs d = some w → Completes (.wakeTemplateLoad q) s (fun t => t.wake = w ∧
      (∃ r, s.Records t r ∧ r.kind = 0 ∧ r.value = BitVec.ofNat 64 (crc32c d)) ∧ Frame [.wake, .ctl, .bus, .link] s t)) ∧
  (∀ (s : State) (q : Req) (r frm named : Nat), s.Admits 0x0902 q → le q.payload 1 1 = r → le q.payload 2 2 = 0 → le q.payload 4 4 = frm → le q.payload 8 8 = named → named < 2 ^ 48 →
    s.awake = true → s.loses (s.jobOf 0x0902 q) (.act 0x0902 (s.effectTick named)) = false →
    (le q.payload 0 1 = 1 → (r = 2 ∨ r = 3 ∨ r = 6) → Completes (.historyHandover q) s (fun t => t.wake = { s.wake with
        handoverNext := s.wake.handoverNext ++ [(s.effectTick named, some (s.wake.startFrom (s.widxAt (s.effectTick named)) frm), r, q.port.val)] } ∧ (∃ r, s.Records t r ∧ r.kind = 0) ∧
      Frame [.wake, .ctl, .bus, .link, .free] s t)) ∧
    (le q.payload 0 1 = 0 → Completes (.historyHandover q) s (fun t => t.wake = { s.wake with
        handoverNext := s.wake.handoverNext ++ [(s.effectTick named, none, r, q.port.val)] } ∧ (∃ r, s.Records t r ∧ r.kind = 0) ∧
      Frame [.wake, .ctl, .bus, .link, .free] s t)))

/-- R388 and the form of a block: a step takes the command at the front of the queue and is its effect on the state with the rest of the queue.
Every command, of every kind and from every state, ends in a next state that has the same queue. That the block idles on an empty queue is the
model's own (log entry 1). -/
def Obligations.StepRunsTheFrontCommand : Prop :=
  (∀ (s : State) (c : Instr) (rest : List Instr), s.pending = c :: rest → step s = exec c (s.withPending rest)) ∧
  (∀ (s : State), s.pending = [] → step s = .next s) ∧
  (∀ (s : State) (c : Instr), ∃ t, exec c s = .next t ∧ t.pending = s.pending) ∧
  (∀ (s : State) (c : Instr) (rest : List Instr), s.pending = c :: rest → ∃ t, step s = .next t ∧ t.pending = rest)

/-- R29, R324, R329, R389, R391, R405, R442, R462: what the manual gives the machine at the release of a power-on reset: TICK 0, BOOT, LAST_RESET 0, no LOCK, no session
and no challenge, ATTN_CAUSE 0, the agreed revision 1 on both buses, every parameter of both banks, and every other, at its default, no output driven, and IDCODE selected. Such
a state has no session that another excludes. -/
def Obligations.ResetHoldsWhatTheManualGives : Prop :=
  State.reset.clock.tick = 0 ∧ State.reset.clock.counting = false ∧ State.reset.power.mode = .boot ∧ State.reset.power.lastReset = 0 ∧
  State.reset.synth.lock = false ∧ State.reset.ctl.sessions = [] ∧ State.reset.ctl.challenges = [] ∧ State.reset.bus.attn = 0 ∧
  State.reset.bus.spi.rev = 1 ∧ State.reset.bus.twi.rev = 1 ∧ State.reset.jtag = .idcode ∧ State.reset.pending = [] ∧
  (∀ id, State.reset.act id = paramDefault id ∧ State.reset.shd id = paramDefault id ∧ State.reset.dir id = paramDefault id ∧
    State.reset.dev id = paramDefault id) ∧
  (∀ o, (State.reset.outCh o).driving = false) ∧ State.reset.Exclusive

/-- R391, R392, R405: from every state in which the sessions exclude one another, every step leads to such a state: no binding gets two sessions, no claim two
holders, and no binding a session beside a pending challenge. -/
def Obligations.SessionsStayExclusive : Prop :=
  ∀ (s t : State), s.Exclusive → step s = .next t → t.Exclusive

/-- A command that resets the device: a supply's reset, RESET_N, and what leaves an instruction that drives the pins, as RESET_N does (R463). -/
def resetsDevice : Instr → Bool
  | .supplyPorAssert _ => true | .resetNLow => true | .jtagInstruction _ => true | .tapReset => true
  | _ => false

/-- R29, whole. A power-on reset or RESET_N sets TICK to 0, and it does not count. It counts from the first boundary after LOCK has been declared, locked or not from then on, while
the root runs, a boundary coming after 128 sprint samples; in Rest and Watch the root is stopped and TICK holds; a join may load it; no other command changes it. -/
def Obligations.TickFollowsItsRule : Prop :=
  (∀ (s : State) (i : Fin 8), (i = 0 ∨ (i.val ≤ 5 ∧ s.power.inReset = false ∧ s.asleep = false)) →
    Completes (.supplyPorAssert i) s (fun t => t.clock.tick = 0 ∧ t.clock.counting = false ∧ t.clock.rootRunning = false)) ∧
  (∀ (s : State), Completes .resetNLow s (fun t => t.clock.tick = 0 ∧ t.clock.counting = false ∧ t.clock.rootRunning = false)) ∧
  (∀ (s : State) (errs : List Int), s.synth.analogLock = true → s.synth.lock = false → s.lockCount ≤ errs.length →
    (∀ e, e ∈ errs.drop (errs.length - s.lockCount) → e.natAbs ≤ s.lockWin) → s.lockCounted = true →
    Completes (.lockDeclare errs) s (fun t => t.synth.lock = true ∧ t.clock.counting = true ∧ t.clock.rootRunning = true ∧ t.clock.tick = s.clock.tick)) ∧
  (∀ (s t : State) (i : Instr), exec i s = .next t → s.asleep = false → s.clock.counting = true → s.clock.rootRunning = true →
    (t.clock.counting = true ∧ t.clock.rootRunning = true) ∨ resetsDevice i = true ∨ i = .rootStop) ∧
  (∀ (s : State), (s.clock.rootRunning = true → s.clock.phase = 128) → Completes .tickBoundary s (fun t =>
    t.clock.tick = if s.clock.counting = true ∧ s.clock.rootRunning = true then s.clock.tick + 1 else s.clock.tick)) ∧
  (∀ (s : State), s.clock.rootRunning = true → s.clock.phase < 128 → exec .tickBoundary s = .next s) ∧
  (∀ (s : State) (target : Mode) (b : Nat), s.power.entering = some (target, b) → s.power.entryStep = 2 → s.power.rampedAt + 250 ≤ s.clock.now →
    Completes .rootStop s (fun t => t.power.mode = target ∧ t.clock.rootRunning = false ∧ t.clock.tick = s.clock.tick ∧ t.clock.counting = s.clock.counting)) ∧
  (∀ (s : State) (tick : BitVec 48) (p : LinkPort) (i : HopInfo), s.link.port 0 = p → (s.link.port 1).state ≠ 4 → p.state = 4 → p.joins = true → p.partner = some i →
    s.link.aligned = true → s.link.identity ≠ i.identity → s.segIdle = true → ∀ sys, Completes (.linkJoinAlign ⟨tick, sys⟩) s (fun t => t.clock.tick = tick)) ∧
  (∀ (s t : State) (i : Instr), exec i s = .next t → t.clock.tick = s.clock.tick ∨ i = .tickBoundary ∨ (∃ v, i = .linkJoinAlign v) ∨
    (resetsDevice i = true ∧ t.clock.tick = 0))

/-- R432, R40, both whole. Every parameter is 32 or 64 bits wide. A write whose LENGTH does not suit the width of its ID is answered BAD_LENGTH, 0x11; one to an
undefined ID, which LENGTH 8 and 12 suit, BAD_PARAM_ID, 0x14, when everything before is in order; and one that sets IN_MODE of AIN16-AIN23 to other than 0, or of
any channel to 3, OUT_OF_RANGE, 0x15. None of them writes anything. -/
def Obligations.ParamWritesAreJudgedByWidthAndRange : Prop :=
  (∀ id, paramWidth id = 4 ∨ paramWidth id = 8) ∧
  (∀ (s : State) (q : Req) (id : Nat), le q.payload 0 2 = id → s.Takes q → s.revisionOk 0x0102 q = true → 1 ≤ q.rev.val →
    (q.port.val = 4 ∨ (s.ctl.sessionOf (bindingOf q)).isSome = true) →
    ((paramDefined id = true → q.payload.length ≠ 4 + paramWidth id → exec (.paramWrite q) s = .next ((s.seen q).reply (s.jobOf 0x0102 q) 0x11 0 [])) ∧
     (paramDefined id = false → q.payload.length ≠ 8 → q.payload.length ≠ 12 → exec (.paramWrite q) s = .next ((s.seen q).reply (s.jobOf 0x0102 q) 0x11 0 [])) ∧
     (paramDefined id = true → q.payload.length = 4 + paramWidth id → lengthOk 0x0102 q.payload = true))) ∧
  (∀ (q : Req), paramDefined (le q.payload 0 2) = false → (q.payload.length = 8 ∨ q.payload.length = 12) → lengthOk 0x0102 q.payload = true) ∧
  (∀ (s : State) (q : Req), s.Admits 0x0102 q → paramDefined (le q.payload 0 2) = false →
    exec (.paramWrite q) s = .next ((s.seen q).reply (s.jobOf 0x0102 q) 0x14 0 [])) ∧
  (∀ (s : State) (q : Req) (c : Fin 24) (v : Nat), s.Admits 0x0102 q → le q.payload 0 2 = 0x0300 + c.val → leNat (q.payload.drop 4) = v →
    ((16 ≤ c.val ∧ v ≠ 0) ∨ v = 3) → exec (.paramWrite q) s = .next ((s.seen q).reply (s.jobOf 0x0102 q) 0x15 0 []))
end

