-- ==== Sys2Proof/Laws/Keeps.lean ====
section
/-! SUPPORT. What each shared operation leaves unchanged: for every operation on the State, the components that it keeps. -/
namespace Sys2Proof.Machine

-- One proof after another: a check of the whole text in one process stays within its memory.
set_option Elab.async false

@[simp] theorem State.ite_clock (c : Prop) [Decidable c] (a b : State) : (if c then a else b).clock = if c then a.clock else b.clock := by split <;> rfl
@[simp] theorem State.foldl_clock {β : Type} (f : State → β → State) (h : ∀ s x, (f s x).clock = s.clock) (l : List β) (s : State) :
    (l.foldl f s).clock = s.clock := by
  induction l generalizing s with
  | nil => rfl
  | cons a l ih => rw [List.foldl_cons, ih, h]

@[simp] theorem State.ite_power (c : Prop) [Decidable c] (a b : State) : (if c then a else b).power = if c then a.power else b.power := by split <;> rfl
@[simp] theorem State.foldl_power {β : Type} (f : State → β → State) (h : ∀ s x, (f s x).power = s.power) (l : List β) (s : State) :
    (l.foldl f s).power = s.power := by
  induction l generalizing s with
  | nil => rfl
  | cons a l ih => rw [List.foldl_cons, ih, h]

@[simp] theorem State.ite_synth (c : Prop) [Decidable c] (a b : State) : (if c then a else b).synth = if c then a.synth else b.synth := by split <;> rfl
@[simp] theorem State.foldl_synth {β : Type} (f : State → β → State) (h : ∀ s x, (f s x).synth = s.synth) (l : List β) (s : State) :
    (l.foldl f s).synth = s.synth := by
  induction l generalizing s with
  | nil => rfl
  | cons a l ih => rw [List.foldl_cons, ih, h]

@[simp] theorem State.ite_dpll (c : Prop) [Decidable c] (a b : State) : (if c then a else b).dpll = if c then a.dpll else b.dpll := by split <;> rfl
@[simp] theorem State.foldl_dpll {β : Type} (f : State → β → State) (h : ∀ s x, (f s x).dpll = s.dpll) (l : List β) (s : State) :
    (l.foldl f s).dpll = s.dpll := by
  induction l generalizing s with
  | nil => rfl
  | cons a l ih => rw [List.foldl_cons, ih, h]

@[simp] theorem State.ite_bus (c : Prop) [Decidable c] (a b : State) : (if c then a else b).bus = if c then a.bus else b.bus := by split <;> rfl
@[simp] theorem State.foldl_bus {β : Type} (f : State → β → State) (h : ∀ s x, (f s x).bus = s.bus) (l : List β) (s : State) :
    (l.foldl f s).bus = s.bus := by
  induction l generalizing s with
  | nil => rfl
  | cons a l ih => rw [List.foldl_cons, ih, h]

@[simp] theorem State.ite_ctl (c : Prop) [Decidable c] (a b : State) : (if c then a else b).ctl = if c then a.ctl else b.ctl := by split <;> rfl
@[simp] theorem State.foldl_ctl {β : Type} (f : State → β → State) (h : ∀ s x, (f s x).ctl = s.ctl) (l : List β) (s : State) :
    (l.foldl f s).ctl = s.ctl := by
  induction l generalizing s with
  | nil => rfl
  | cons a l ih => rw [List.foldl_cons, ih, h]

@[simp] theorem State.ite_mram (c : Prop) [Decidable c] (a b : State) : (if c then a else b).mram = if c then a.mram else b.mram := by split <;> rfl
@[simp] theorem State.foldl_mram {β : Type} (f : State → β → State) (h : ∀ s x, (f s x).mram = s.mram) (l : List β) (s : State) :
    (l.foldl f s).mram = s.mram := by
  induction l generalizing s with
  | nil => rfl
  | cons a l ih => rw [List.foldl_cons, ih, h]

@[simp] theorem State.ite_cfg (c : Prop) [Decidable c] (a b : State) : (if c then a else b).cfg = if c then a.cfg else b.cfg := by split <;> rfl
@[simp] theorem State.foldl_cfg {β : Type} (f : State → β → State) (h : ∀ s x, (f s x).cfg = s.cfg) (l : List β) (s : State) :
    (l.foldl f s).cfg = s.cfg := by
  induction l generalizing s with
  | nil => rfl
  | cons a l ih => rw [List.foldl_cons, ih, h]

@[simp] theorem State.ite_dep (c : Prop) [Decidable c] (a b : State) : (if c then a else b).dep = if c then a.dep else b.dep := by split <;> rfl
@[simp] theorem State.foldl_dep {β : Type} (f : State → β → State) (h : ∀ s x, (f s x).dep = s.dep) (l : List β) (s : State) :
    (l.foldl f s).dep = s.dep := by
  induction l generalizing s with
  | nil => rfl
  | cons a l ih => rw [List.foldl_cons, ih, h]

@[simp] theorem State.ite_log (c : Prop) [Decidable c] (a b : State) : (if c then a else b).log = if c then a.log else b.log := by split <;> rfl
@[simp] theorem State.foldl_log {β : Type} (f : State → β → State) (h : ∀ s x, (f s x).log = s.log) (l : List β) (s : State) :
    (l.foldl f s).log = s.log := by
  induction l generalizing s with
  | nil => rfl
  | cons a l ih => rw [List.foldl_cons, ih, h]

@[simp] theorem State.ite_jtag (c : Prop) [Decidable c] (a b : State) : (if c then a else b).jtag = if c then a.jtag else b.jtag := by split <;> rfl
@[simp] theorem State.foldl_jtag {β : Type} (f : State → β → State) (h : ∀ s x, (f s x).jtag = s.jtag) (l : List β) (s : State) :
    (l.foldl f s).jtag = s.jtag := by
  induction l generalizing s with
  | nil => rfl
  | cons a l ih => rw [List.foldl_cons, ih, h]

@[simp] theorem State.ite_inp (c : Prop) [Decidable c] (a b : State) : (if c then a else b).inp = if c then a.inp else b.inp := by split <;> rfl
@[simp] theorem State.foldl_inp {β : Type} (f : State → β → State) (h : ∀ s x, (f s x).inp = s.inp) (l : List β) (s : State) :
    (l.foldl f s).inp = s.inp := by
  induction l generalizing s with
  | nil => rfl
  | cons a l ih => rw [List.foldl_cons, ih, h]

@[simp] theorem State.ite_conv (c : Prop) [Decidable c] (a b : State) : (if c then a else b).conv = if c then a.conv else b.conv := by split <;> rfl
@[simp] theorem State.foldl_conv {β : Type} (f : State → β → State) (h : ∀ s x, (f s x).conv = s.conv) (l : List β) (s : State) :
    (l.foldl f s).conv = s.conv := by
  induction l generalizing s with
  | nil => rfl
  | cons a l ih => rw [List.foldl_cons, ih, h]

@[simp] theorem State.ite_sprint (c : Prop) [Decidable c] (a b : State) : (if c then a else b).sprint = if c then a.sprint else b.sprint := by split <;> rfl
@[simp] theorem State.foldl_sprint {β : Type} (f : State → β → State) (h : ∀ s x, (f s x).sprint = s.sprint) (l : List β) (s : State) :
    (l.foldl f s).sprint = s.sprint := by
  induction l generalizing s with
  | nil => rfl
  | cons a l ih => rw [List.foldl_cons, ih, h]

@[simp] theorem State.ite_graph (c : Prop) [Decidable c] (a b : State) : (if c then a else b).graph = if c then a.graph else b.graph := by split <;> rfl
@[simp] theorem State.foldl_graph {β : Type} (f : State → β → State) (h : ∀ s x, (f s x).graph = s.graph) (l : List β) (s : State) :
    (l.foldl f s).graph = s.graph := by
  induction l generalizing s with
  | nil => rfl
  | cons a l ih => rw [List.foldl_cons, ih, h]

@[simp] theorem State.ite_rout (c : Prop) [Decidable c] (a b : State) : (if c then a else b).rout = if c then a.rout else b.rout := by split <;> rfl
@[simp] theorem State.foldl_rout {β : Type} (f : State → β → State) (h : ∀ s x, (f s x).rout = s.rout) (l : List β) (s : State) :
    (l.foldl f s).rout = s.rout := by
  induction l generalizing s with
  | nil => rfl
  | cons a l ih => rw [List.foldl_cons, ih, h]

@[simp] theorem State.ite_out (c : Prop) [Decidable c] (a b : State) : (if c then a else b).out = if c then a.out else b.out := by split <;> rfl
@[simp] theorem State.foldl_out {β : Type} (f : State → β → State) (h : ∀ s x, (f s x).out = s.out) (l : List β) (s : State) :
    (l.foldl f s).out = s.out := by
  induction l generalizing s with
  | nil => rfl
  | cons a l ih => rw [List.foldl_cons, ih, h]

@[simp] theorem State.ite_ports (c : Prop) [Decidable c] (a b : State) : (if c then a else b).ports = if c then a.ports else b.ports := by split <;> rfl
@[simp] theorem State.foldl_ports {β : Type} (f : State → β → State) (h : ∀ s x, (f s x).ports = s.ports) (l : List β) (s : State) :
    (l.foldl f s).ports = s.ports := by
  induction l generalizing s with
  | nil => rfl
  | cons a l ih => rw [List.foldl_cons, ih, h]

@[simp] theorem State.ite_link (c : Prop) [Decidable c] (a b : State) : (if c then a else b).link = if c then a.link else b.link := by split <;> rfl
@[simp] theorem State.foldl_link {β : Type} (f : State → β → State) (h : ∀ s x, (f s x).link = s.link) (l : List β) (s : State) :
    (l.foldl f s).link = s.link := by
  induction l generalizing s with
  | nil => rfl
  | cons a l ih => rw [List.foldl_cons, ih, h]

@[simp] theorem State.ite_wake (c : Prop) [Decidable c] (a b : State) : (if c then a else b).wake = if c then a.wake else b.wake := by split <;> rfl
@[simp] theorem State.foldl_wake {β : Type} (f : State → β → State) (h : ∀ s x, (f s x).wake = s.wake) (l : List β) (s : State) :
    (l.foldl f s).wake = s.wake := by
  induction l generalizing s with
  | nil => rfl
  | cons a l ih => rw [List.foldl_cons, ih, h]

@[simp] theorem State.ite_free (c : Prop) [Decidable c] (a b : State) : (if c then a else b).free = if c then a.free else b.free := by split <;> rfl
@[simp] theorem State.foldl_free {β : Type} (f : State → β → State) (h : ∀ s x, (f s x).free = s.free) (l : List β) (s : State) :
    (l.foldl f s).free = s.free := by
  induction l generalizing s with
  | nil => rfl
  | cons a l ih => rw [List.foldl_cons, ih, h]

@[simp] theorem State.ite_pending (c : Prop) [Decidable c] (a b : State) : (if c then a else b).pending = if c then a.pending else b.pending := by split <;> rfl
@[simp] theorem State.foldl_pending {β : Type} (f : State → β → State) (h : ∀ s x, (f s x).pending = s.pending) (l : List β) (s : State) :
    (l.foldl f s).pending = s.pending := by
  induction l generalizing s with
  | nil => rfl
  | cons a l ih => rw [List.foldl_cons, ih, h]

@[simp] theorem State.draw_keeps (s : State) :
    (State.draw s).clock = s.clock ∧ (State.draw s).power = s.power ∧ (State.draw s).synth = s.synth ∧ (State.draw s).dpll = s.dpll ∧ (State.draw s).bus = s.bus ∧ (State.draw s).ctl = s.ctl ∧ (State.draw s).mram = s.mram ∧ (State.draw s).cfg = s.cfg ∧ (State.draw s).dep = s.dep ∧ (State.draw s).log = s.log ∧ (State.draw s).jtag = s.jtag ∧ (State.draw s).inp = s.inp ∧ (State.draw s).conv = s.conv ∧ (State.draw s).sprint = s.sprint ∧ (State.draw s).graph = s.graph ∧ (State.draw s).rout = s.rout ∧ (State.draw s).out = s.out ∧ (State.draw s).ports = s.ports ∧ (State.draw s).link = s.link ∧ (State.draw s).wake = s.wake ∧ (State.draw s).pending = s.pending := by
  simp only [State.draw]
  all_goals simp

@[simp] theorem State.count_keeps (s : State) (ofs n : Nat) :
    (State.count s ofs n).clock = s.clock ∧ (State.count s ofs n).power = s.power ∧ (State.count s ofs n).synth = s.synth ∧ (State.count s ofs n).dpll = s.dpll ∧ (State.count s ofs n).bus = s.bus ∧ (State.count s ofs n).ctl = s.ctl ∧ (State.count s ofs n).mram = s.mram ∧ (State.count s ofs n).cfg = s.cfg ∧ (State.count s ofs n).dep = s.dep ∧ (State.count s ofs n).jtag = s.jtag ∧ (State.count s ofs n).inp = s.inp ∧ (State.count s ofs n).conv = s.conv ∧ (State.count s ofs n).sprint = s.sprint ∧ (State.count s ofs n).graph = s.graph ∧ (State.count s ofs n).rout = s.rout ∧ (State.count s ofs n).out = s.out ∧ (State.count s ofs n).ports = s.ports ∧ (State.count s ofs n).link = s.link ∧ (State.count s ofs n).wake = s.wake ∧ (State.count s ofs n).free = s.free ∧ (State.count s ofs n).pending = s.pending := by
  simp only [State.count]
  all_goals simp

@[simp] theorem State.raise_keeps (s : State) (k : Nat) :
    (State.raise s k).clock = s.clock ∧ (State.raise s k).power = s.power ∧ (State.raise s k).synth = s.synth ∧ (State.raise s k).dpll = s.dpll ∧ (State.raise s k).ctl = s.ctl ∧ (State.raise s k).mram = s.mram ∧ (State.raise s k).cfg = s.cfg ∧ (State.raise s k).dep = s.dep ∧ (State.raise s k).log = s.log ∧ (State.raise s k).jtag = s.jtag ∧ (State.raise s k).inp = s.inp ∧ (State.raise s k).conv = s.conv ∧ (State.raise s k).sprint = s.sprint ∧ (State.raise s k).graph = s.graph ∧ (State.raise s k).rout = s.rout ∧ (State.raise s k).out = s.out ∧ (State.raise s k).ports = s.ports ∧ (State.raise s k).link = s.link ∧ (State.raise s k).wake = s.wake ∧ (State.raise s k).free = s.free ∧ (State.raise s k).pending = s.pending := by
  simp only [State.raise]
  all_goals simp

@[simp] theorem State.raiseIf_keeps (s : State) (c : Bool) (k : Nat) :
    (State.raiseIf s c k).clock = s.clock ∧ (State.raiseIf s c k).power = s.power ∧ (State.raiseIf s c k).synth = s.synth ∧ (State.raiseIf s c k).dpll = s.dpll ∧ (State.raiseIf s c k).ctl = s.ctl ∧ (State.raiseIf s c k).mram = s.mram ∧ (State.raiseIf s c k).cfg = s.cfg ∧ (State.raiseIf s c k).dep = s.dep ∧ (State.raiseIf s c k).log = s.log ∧ (State.raiseIf s c k).jtag = s.jtag ∧ (State.raiseIf s c k).inp = s.inp ∧ (State.raiseIf s c k).conv = s.conv ∧ (State.raiseIf s c k).sprint = s.sprint ∧ (State.raiseIf s c k).graph = s.graph ∧ (State.raiseIf s c k).rout = s.rout ∧ (State.raiseIf s c k).out = s.out ∧ (State.raiseIf s c k).ports = s.ports ∧ (State.raiseIf s c k).link = s.link ∧ (State.raiseIf s c k).wake = s.wake ∧ (State.raiseIf s c k).free = s.free ∧ (State.raiseIf s c k).pending = s.pending := by
  simp only [State.raiseIf]
  all_goals simp

@[simp] theorem State.placeReply_keeps (s : State) (port origin : Nat) (r : List Byte) :
    (State.placeReply s port origin r).clock = s.clock ∧ (State.placeReply s port origin r).power = s.power ∧ (State.placeReply s port origin r).synth = s.synth ∧ (State.placeReply s port origin r).dpll = s.dpll ∧ (State.placeReply s port origin r).mram = s.mram ∧ (State.placeReply s port origin r).cfg = s.cfg ∧ (State.placeReply s port origin r).dep = s.dep ∧ (State.placeReply s port origin r).log = s.log ∧ (State.placeReply s port origin r).jtag = s.jtag ∧ (State.placeReply s port origin r).inp = s.inp ∧ (State.placeReply s port origin r).conv = s.conv ∧ (State.placeReply s port origin r).sprint = s.sprint ∧ (State.placeReply s port origin r).graph = s.graph ∧ (State.placeReply s port origin r).rout = s.rout ∧ (State.placeReply s port origin r).out = s.out ∧ (State.placeReply s port origin r).ports = s.ports ∧ (State.placeReply s port origin r).wake = s.wake ∧ (State.placeReply s port origin r).free = s.free ∧ (State.placeReply s port origin r).pending = s.pending := by
  simp only [State.placeReply]
  all_goals simp

@[simp] theorem State.reply_keeps (s : State) (j : Job) (status detail : Nat) (data : List Byte) :
    (State.reply s j status detail data).clock = s.clock ∧ (State.reply s j status detail data).power = s.power ∧ (State.reply s j status detail data).synth = s.synth ∧ (State.reply s j status detail data).dpll = s.dpll ∧ (State.reply s j status detail data).mram = s.mram ∧ (State.reply s j status detail data).cfg = s.cfg ∧ (State.reply s j status detail data).dep = s.dep ∧ (State.reply s j status detail data).log = s.log ∧ (State.reply s j status detail data).jtag = s.jtag ∧ (State.reply s j status detail data).inp = s.inp ∧ (State.reply s j status detail data).conv = s.conv ∧ (State.reply s j status detail data).sprint = s.sprint ∧ (State.reply s j status detail data).graph = s.graph ∧ (State.reply s j status detail data).rout = s.rout ∧ (State.reply s j status detail data).out = s.out ∧ (State.reply s j status detail data).ports = s.ports ∧ (State.reply s j status detail data).wake = s.wake ∧ (State.reply s j status detail data).free = s.free ∧ (State.reply s j status detail data).pending = s.pending := by
  simp only [State.reply]
  all_goals repeat' split
  all_goals simp

@[simp] theorem State.recordJob_keeps (s : State) (j : Job) (count value : Nat) :
    (State.recordJob s j count value).clock = s.clock ∧ (State.recordJob s j count value).power = s.power ∧ (State.recordJob s j count value).synth = s.synth ∧ (State.recordJob s j count value).dpll = s.dpll ∧ (State.recordJob s j count value).bus = s.bus ∧ (State.recordJob s j count value).mram = s.mram ∧ (State.recordJob s j count value).cfg = s.cfg ∧ (State.recordJob s j count value).dep = s.dep ∧ (State.recordJob s j count value).log = s.log ∧ (State.recordJob s j count value).jtag = s.jtag ∧ (State.recordJob s j count value).inp = s.inp ∧ (State.recordJob s j count value).conv = s.conv ∧ (State.recordJob s j count value).sprint = s.sprint ∧ (State.recordJob s j count value).graph = s.graph ∧ (State.recordJob s j count value).rout = s.rout ∧ (State.recordJob s j count value).out = s.out ∧ (State.recordJob s j count value).ports = s.ports ∧ (State.recordJob s j count value).link = s.link ∧ (State.recordJob s j count value).wake = s.wake ∧ (State.recordJob s j count value).free = s.free ∧ (State.recordJob s j count value).pending = s.pending := by
  simp only [State.recordJob]
  all_goals simp

@[simp] theorem State.accept_keeps (s : State) (j : Job) (data : List Byte) (count value : Nat) :
    (State.accept s j data count value).clock = s.clock ∧ (State.accept s j data count value).power = s.power ∧ (State.accept s j data count value).synth = s.synth ∧ (State.accept s j data count value).dpll = s.dpll ∧ (State.accept s j data count value).mram = s.mram ∧ (State.accept s j data count value).cfg = s.cfg ∧ (State.accept s j data count value).dep = s.dep ∧ (State.accept s j data count value).log = s.log ∧ (State.accept s j data count value).jtag = s.jtag ∧ (State.accept s j data count value).inp = s.inp ∧ (State.accept s j data count value).conv = s.conv ∧ (State.accept s j data count value).sprint = s.sprint ∧ (State.accept s j data count value).graph = s.graph ∧ (State.accept s j data count value).rout = s.rout ∧ (State.accept s j data count value).out = s.out ∧ (State.accept s j data count value).ports = s.ports ∧ (State.accept s j data count value).wake = s.wake ∧ (State.accept s j data count value).free = s.free ∧ (State.accept s j data count value).pending = s.pending := by
  simp only [State.accept]
  all_goals simp

@[simp] theorem State.acceptWith_keeps (s : State) (j : Job) (detail : Nat) (data : List Byte) (count value : Nat) :
    (State.acceptWith s j detail data count value).clock = s.clock ∧ (State.acceptWith s j detail data count value).power = s.power ∧ (State.acceptWith s j detail data count value).synth = s.synth ∧ (State.acceptWith s j detail data count value).dpll = s.dpll ∧ (State.acceptWith s j detail data count value).mram = s.mram ∧ (State.acceptWith s j detail data count value).cfg = s.cfg ∧ (State.acceptWith s j detail data count value).dep = s.dep ∧ (State.acceptWith s j detail data count value).log = s.log ∧ (State.acceptWith s j detail data count value).jtag = s.jtag ∧ (State.acceptWith s j detail data count value).inp = s.inp ∧ (State.acceptWith s j detail data count value).conv = s.conv ∧ (State.acceptWith s j detail data count value).sprint = s.sprint ∧ (State.acceptWith s j detail data count value).graph = s.graph ∧ (State.acceptWith s j detail data count value).rout = s.rout ∧ (State.acceptWith s j detail data count value).out = s.out ∧ (State.acceptWith s j detail data count value).ports = s.ports ∧ (State.acceptWith s j detail data count value).wake = s.wake ∧ (State.acceptWith s j detail data count value).free = s.free ∧ (State.acceptWith s j detail data count value).pending = s.pending := by
  simp only [State.acceptWith]
  all_goals simp

@[simp] theorem State.notInState_keeps (s : State) (j : Job) :
    (State.notInState s j).clock = s.clock ∧ (State.notInState s j).power = s.power ∧ (State.notInState s j).synth = s.synth ∧ (State.notInState s j).dpll = s.dpll ∧ (State.notInState s j).mram = s.mram ∧ (State.notInState s j).cfg = s.cfg ∧ (State.notInState s j).dep = s.dep ∧ (State.notInState s j).log = s.log ∧ (State.notInState s j).jtag = s.jtag ∧ (State.notInState s j).inp = s.inp ∧ (State.notInState s j).conv = s.conv ∧ (State.notInState s j).sprint = s.sprint ∧ (State.notInState s j).graph = s.graph ∧ (State.notInState s j).rout = s.rout ∧ (State.notInState s j).out = s.out ∧ (State.notInState s j).ports = s.ports ∧ (State.notInState s j).wake = s.wake ∧ (State.notInState s j).free = s.free ∧ (State.notInState s j).pending = s.pending := by
  simp only [State.notInState]
  all_goals simp

@[simp] theorem State.outOfRange_keeps (s : State) (j : Job) :
    (State.outOfRange s j).clock = s.clock ∧ (State.outOfRange s j).power = s.power ∧ (State.outOfRange s j).synth = s.synth ∧ (State.outOfRange s j).dpll = s.dpll ∧ (State.outOfRange s j).mram = s.mram ∧ (State.outOfRange s j).cfg = s.cfg ∧ (State.outOfRange s j).dep = s.dep ∧ (State.outOfRange s j).log = s.log ∧ (State.outOfRange s j).jtag = s.jtag ∧ (State.outOfRange s j).inp = s.inp ∧ (State.outOfRange s j).conv = s.conv ∧ (State.outOfRange s j).sprint = s.sprint ∧ (State.outOfRange s j).graph = s.graph ∧ (State.outOfRange s j).rout = s.rout ∧ (State.outOfRange s j).out = s.out ∧ (State.outOfRange s j).ports = s.ports ∧ (State.outOfRange s j).wake = s.wake ∧ (State.outOfRange s j).free = s.free ∧ (State.outOfRange s j).pending = s.pending := by
  simp only [State.outOfRange]
  all_goals simp

@[simp] theorem State.busy_keeps (s : State) (j : Job) (detail : Nat) :
    (State.busy s j detail).clock = s.clock ∧ (State.busy s j detail).power = s.power ∧ (State.busy s j detail).synth = s.synth ∧ (State.busy s j detail).dpll = s.dpll ∧ (State.busy s j detail).mram = s.mram ∧ (State.busy s j detail).cfg = s.cfg ∧ (State.busy s j detail).dep = s.dep ∧ (State.busy s j detail).log = s.log ∧ (State.busy s j detail).jtag = s.jtag ∧ (State.busy s j detail).inp = s.inp ∧ (State.busy s j detail).conv = s.conv ∧ (State.busy s j detail).sprint = s.sprint ∧ (State.busy s j detail).graph = s.graph ∧ (State.busy s j detail).rout = s.rout ∧ (State.busy s j detail).out = s.out ∧ (State.busy s j detail).ports = s.ports ∧ (State.busy s j detail).wake = s.wake ∧ (State.busy s j detail).free = s.free ∧ (State.busy s j detail).pending = s.pending := by
  simp only [State.busy]
  all_goals simp

@[simp] theorem State.noteRefusal_keeps (s : State) (code kind index : Nat) :
    (State.noteRefusal s code kind index).clock = s.clock ∧ (State.noteRefusal s code kind index).power = s.power ∧ (State.noteRefusal s code kind index).synth = s.synth ∧ (State.noteRefusal s code kind index).dpll = s.dpll ∧ (State.noteRefusal s code kind index).bus = s.bus ∧ (State.noteRefusal s code kind index).ctl = s.ctl ∧ (State.noteRefusal s code kind index).mram = s.mram ∧ (State.noteRefusal s code kind index).dep = s.dep ∧ (State.noteRefusal s code kind index).jtag = s.jtag ∧ (State.noteRefusal s code kind index).inp = s.inp ∧ (State.noteRefusal s code kind index).conv = s.conv ∧ (State.noteRefusal s code kind index).sprint = s.sprint ∧ (State.noteRefusal s code kind index).graph = s.graph ∧ (State.noteRefusal s code kind index).rout = s.rout ∧ (State.noteRefusal s code kind index).out = s.out ∧ (State.noteRefusal s code kind index).ports = s.ports ∧ (State.noteRefusal s code kind index).link = s.link ∧ (State.noteRefusal s code kind index).wake = s.wake ∧ (State.noteRefusal s code kind index).free = s.free ∧ (State.noteRefusal s code kind index).pending = s.pending := by
  simp only [State.noteRefusal]
  all_goals simp

@[simp] theorem State.refuseConfig_keeps (s : State) (j : Job) (code kind index : Nat) (figures : List Byte) :
    (State.refuseConfig s j code kind index figures).clock = s.clock ∧ (State.refuseConfig s j code kind index figures).power = s.power ∧ (State.refuseConfig s j code kind index figures).synth = s.synth ∧ (State.refuseConfig s j code kind index figures).dpll = s.dpll ∧ (State.refuseConfig s j code kind index figures).mram = s.mram ∧ (State.refuseConfig s j code kind index figures).dep = s.dep ∧ (State.refuseConfig s j code kind index figures).jtag = s.jtag ∧ (State.refuseConfig s j code kind index figures).inp = s.inp ∧ (State.refuseConfig s j code kind index figures).conv = s.conv ∧ (State.refuseConfig s j code kind index figures).sprint = s.sprint ∧ (State.refuseConfig s j code kind index figures).graph = s.graph ∧ (State.refuseConfig s j code kind index figures).rout = s.rout ∧ (State.refuseConfig s j code kind index figures).out = s.out ∧ (State.refuseConfig s j code kind index figures).ports = s.ports ∧ (State.refuseConfig s j code kind index figures).wake = s.wake ∧ (State.refuseConfig s j code kind index figures).free = s.free ∧ (State.refuseConfig s j code kind index figures).pending = s.pending := by
  simp only [State.refuseConfig]
  all_goals simp

@[simp] theorem State.logCommit_keeps (s : State) (cause : Nat) :
    (State.logCommit s cause).clock = s.clock ∧ (State.logCommit s cause).power = s.power ∧ (State.logCommit s cause).synth = s.synth ∧ (State.logCommit s cause).dpll = s.dpll ∧ (State.logCommit s cause).bus = s.bus ∧ (State.logCommit s cause).ctl = s.ctl ∧ (State.logCommit s cause).cfg = s.cfg ∧ (State.logCommit s cause).dep = s.dep ∧ (State.logCommit s cause).jtag = s.jtag ∧ (State.logCommit s cause).inp = s.inp ∧ (State.logCommit s cause).conv = s.conv ∧ (State.logCommit s cause).sprint = s.sprint ∧ (State.logCommit s cause).graph = s.graph ∧ (State.logCommit s cause).rout = s.rout ∧ (State.logCommit s cause).out = s.out ∧ (State.logCommit s cause).ports = s.ports ∧ (State.logCommit s cause).link = s.link ∧ (State.logCommit s cause).wake = s.wake ∧ (State.logCommit s cause).free = s.free ∧ (State.logCommit s cause).pending = s.pending := by
  simp only [State.logCommit]
  all_goals simp

@[simp] theorem State.logCommitIf_keeps (s : State) (cause : Nat) :
    (State.logCommitIf s cause).clock = s.clock ∧ (State.logCommitIf s cause).power = s.power ∧ (State.logCommitIf s cause).synth = s.synth ∧ (State.logCommitIf s cause).dpll = s.dpll ∧ (State.logCommitIf s cause).bus = s.bus ∧ (State.logCommitIf s cause).ctl = s.ctl ∧ (State.logCommitIf s cause).cfg = s.cfg ∧ (State.logCommitIf s cause).dep = s.dep ∧ (State.logCommitIf s cause).jtag = s.jtag ∧ (State.logCommitIf s cause).inp = s.inp ∧ (State.logCommitIf s cause).conv = s.conv ∧ (State.logCommitIf s cause).sprint = s.sprint ∧ (State.logCommitIf s cause).graph = s.graph ∧ (State.logCommitIf s cause).rout = s.rout ∧ (State.logCommitIf s cause).out = s.out ∧ (State.logCommitIf s cause).ports = s.ports ∧ (State.logCommitIf s cause).link = s.link ∧ (State.logCommitIf s cause).wake = s.wake ∧ (State.logCommitIf s cause).free = s.free ∧ (State.logCommitIf s cause).pending = s.pending := by
  simp only [State.logCommitIf]
  all_goals repeat' split
  all_goals simp

@[simp] theorem State.logBoot_keeps (s : State) :
    (State.logBoot s).clock = s.clock ∧ (State.logBoot s).power = s.power ∧ (State.logBoot s).synth = s.synth ∧ (State.logBoot s).dpll = s.dpll ∧ (State.logBoot s).bus = s.bus ∧ (State.logBoot s).ctl = s.ctl ∧ (State.logBoot s).cfg = s.cfg ∧ (State.logBoot s).dep = s.dep ∧ (State.logBoot s).jtag = s.jtag ∧ (State.logBoot s).inp = s.inp ∧ (State.logBoot s).conv = s.conv ∧ (State.logBoot s).sprint = s.sprint ∧ (State.logBoot s).graph = s.graph ∧ (State.logBoot s).rout = s.rout ∧ (State.logBoot s).out = s.out ∧ (State.logBoot s).ports = s.ports ∧ (State.logBoot s).link = s.link ∧ (State.logBoot s).wake = s.wake ∧ (State.logBoot s).free = s.free ∧ (State.logBoot s).pending = s.pending := by
  simp only [State.logBoot]
  all_goals repeat' split
  all_goals simp

@[simp] theorem State.endSession_keeps (s : State) (x : Session) (reason opcode tick : Nat) :
    (State.endSession s x reason opcode tick).clock = s.clock ∧ (State.endSession s x reason opcode tick).power = s.power ∧ (State.endSession s x reason opcode tick).synth = s.synth ∧ (State.endSession s x reason opcode tick).dpll = s.dpll ∧ (State.endSession s x reason opcode tick).mram = s.mram ∧ (State.endSession s x reason opcode tick).cfg = s.cfg ∧ (State.endSession s x reason opcode tick).dep = s.dep ∧ (State.endSession s x reason opcode tick).log = s.log ∧ (State.endSession s x reason opcode tick).jtag = s.jtag ∧ (State.endSession s x reason opcode tick).inp = s.inp ∧ (State.endSession s x reason opcode tick).conv = s.conv ∧ (State.endSession s x reason opcode tick).sprint = s.sprint ∧ (State.endSession s x reason opcode tick).graph = s.graph ∧ (State.endSession s x reason opcode tick).rout = s.rout ∧ (State.endSession s x reason opcode tick).out = s.out ∧ (State.endSession s x reason opcode tick).ports = s.ports ∧ (State.endSession s x reason opcode tick).link = s.link ∧ (State.endSession s x reason opcode tick).wake = s.wake ∧ (State.endSession s x reason opcode tick).free = s.free ∧ (State.endSession s x reason opcode tick).pending = s.pending := by
  simp only [State.endSession]
  all_goals simp

@[simp] theorem State.endSessions_keeps (s : State) (l : List Session) (reason opcode tick : Nat) :
    (State.endSessions s l reason opcode tick).clock = s.clock ∧ (State.endSessions s l reason opcode tick).power = s.power ∧ (State.endSessions s l reason opcode tick).synth = s.synth ∧ (State.endSessions s l reason opcode tick).dpll = s.dpll ∧ (State.endSessions s l reason opcode tick).mram = s.mram ∧ (State.endSessions s l reason opcode tick).cfg = s.cfg ∧ (State.endSessions s l reason opcode tick).dep = s.dep ∧ (State.endSessions s l reason opcode tick).log = s.log ∧ (State.endSessions s l reason opcode tick).jtag = s.jtag ∧ (State.endSessions s l reason opcode tick).inp = s.inp ∧ (State.endSessions s l reason opcode tick).conv = s.conv ∧ (State.endSessions s l reason opcode tick).sprint = s.sprint ∧ (State.endSessions s l reason opcode tick).graph = s.graph ∧ (State.endSessions s l reason opcode tick).rout = s.rout ∧ (State.endSessions s l reason opcode tick).out = s.out ∧ (State.endSessions s l reason opcode tick).ports = s.ports ∧ (State.endSessions s l reason opcode tick).link = s.link ∧ (State.endSessions s l reason opcode tick).wake = s.wake ∧ (State.endSessions s l reason opcode tick).free = s.free ∧ (State.endSessions s l reason opcode tick).pending = s.pending := by
  simp only [State.endSessions]
  all_goals simp

@[simp] theorem State.modIn_keeps (s : State) (n : Nat) (f : InputCh → InputCh) :
    (State.modIn s n f).clock = s.clock ∧ (State.modIn s n f).power = s.power ∧ (State.modIn s n f).synth = s.synth ∧ (State.modIn s n f).dpll = s.dpll ∧ (State.modIn s n f).bus = s.bus ∧ (State.modIn s n f).ctl = s.ctl ∧ (State.modIn s n f).mram = s.mram ∧ (State.modIn s n f).cfg = s.cfg ∧ (State.modIn s n f).dep = s.dep ∧ (State.modIn s n f).log = s.log ∧ (State.modIn s n f).jtag = s.jtag ∧ (State.modIn s n f).conv = s.conv ∧ (State.modIn s n f).sprint = s.sprint ∧ (State.modIn s n f).graph = s.graph ∧ (State.modIn s n f).rout = s.rout ∧ (State.modIn s n f).out = s.out ∧ (State.modIn s n f).ports = s.ports ∧ (State.modIn s n f).link = s.link ∧ (State.modIn s n f).wake = s.wake ∧ (State.modIn s n f).free = s.free ∧ (State.modIn s n f).pending = s.pending := by
  simp only [State.modIn]
  all_goals simp

@[simp] theorem State.jsCfgWritten_keeps (s : State) (j old : Nat) :
    (State.jsCfgWritten s j old).clock = s.clock ∧ (State.jsCfgWritten s j old).power = s.power ∧ (State.jsCfgWritten s j old).synth = s.synth ∧ (State.jsCfgWritten s j old).dpll = s.dpll ∧ (State.jsCfgWritten s j old).bus = s.bus ∧ (State.jsCfgWritten s j old).ctl = s.ctl ∧ (State.jsCfgWritten s j old).mram = s.mram ∧ (State.jsCfgWritten s j old).cfg = s.cfg ∧ (State.jsCfgWritten s j old).dep = s.dep ∧ (State.jsCfgWritten s j old).log = s.log ∧ (State.jsCfgWritten s j old).jtag = s.jtag ∧ (State.jsCfgWritten s j old).conv = s.conv ∧ (State.jsCfgWritten s j old).sprint = s.sprint ∧ (State.jsCfgWritten s j old).graph = s.graph ∧ (State.jsCfgWritten s j old).rout = s.rout ∧ (State.jsCfgWritten s j old).out = s.out ∧ (State.jsCfgWritten s j old).ports = s.ports ∧ (State.jsCfgWritten s j old).link = s.link ∧ (State.jsCfgWritten s j old).wake = s.wake ∧ (State.jsCfgWritten s j old).free = s.free ∧ (State.jsCfgWritten s j old).pending = s.pending := by
  simp only [State.jsCfgWritten]
  all_goals simp

@[simp] theorem State.inputsSwapped_keeps (s : State) (old : Tab PVal) :
    (State.inputsSwapped s old).clock = s.clock ∧ (State.inputsSwapped s old).power = s.power ∧ (State.inputsSwapped s old).synth = s.synth ∧ (State.inputsSwapped s old).dpll = s.dpll ∧ (State.inputsSwapped s old).bus = s.bus ∧ (State.inputsSwapped s old).ctl = s.ctl ∧ (State.inputsSwapped s old).mram = s.mram ∧ (State.inputsSwapped s old).cfg = s.cfg ∧ (State.inputsSwapped s old).dep = s.dep ∧ (State.inputsSwapped s old).log = s.log ∧ (State.inputsSwapped s old).jtag = s.jtag ∧ (State.inputsSwapped s old).conv = s.conv ∧ (State.inputsSwapped s old).sprint = s.sprint ∧ (State.inputsSwapped s old).graph = s.graph ∧ (State.inputsSwapped s old).rout = s.rout ∧ (State.inputsSwapped s old).out = s.out ∧ (State.inputsSwapped s old).ports = s.ports ∧ (State.inputsSwapped s old).link = s.link ∧ (State.inputsSwapped s old).wake = s.wake ∧ (State.inputsSwapped s old).free = s.free ∧ (State.inputsSwapped s old).pending = s.pending := by
  simp only [State.inputsSwapped]
  all_goals simp

@[simp] theorem State.clearInputs_keeps (s : State) :
    (State.clearInputs s).clock = s.clock ∧ (State.clearInputs s).power = s.power ∧ (State.clearInputs s).synth = s.synth ∧ (State.clearInputs s).dpll = s.dpll ∧ (State.clearInputs s).bus = s.bus ∧ (State.clearInputs s).ctl = s.ctl ∧ (State.clearInputs s).mram = s.mram ∧ (State.clearInputs s).cfg = s.cfg ∧ (State.clearInputs s).dep = s.dep ∧ (State.clearInputs s).log = s.log ∧ (State.clearInputs s).jtag = s.jtag ∧ (State.clearInputs s).conv = s.conv ∧ (State.clearInputs s).sprint = s.sprint ∧ (State.clearInputs s).graph = s.graph ∧ (State.clearInputs s).rout = s.rout ∧ (State.clearInputs s).out = s.out ∧ (State.clearInputs s).ports = s.ports ∧ (State.clearInputs s).link = s.link ∧ (State.clearInputs s).wake = s.wake ∧ (State.clearInputs s).free = s.free ∧ (State.clearInputs s).pending = s.pending := by
  simp only [State.clearInputs]
  all_goals simp

@[simp] theorem State.modAdc_keeps (s : State) (n : Nat) (f : AdcCh → AdcCh) :
    (State.modAdc s n f).clock = s.clock ∧ (State.modAdc s n f).power = s.power ∧ (State.modAdc s n f).synth = s.synth ∧ (State.modAdc s n f).dpll = s.dpll ∧ (State.modAdc s n f).bus = s.bus ∧ (State.modAdc s n f).ctl = s.ctl ∧ (State.modAdc s n f).mram = s.mram ∧ (State.modAdc s n f).cfg = s.cfg ∧ (State.modAdc s n f).dep = s.dep ∧ (State.modAdc s n f).log = s.log ∧ (State.modAdc s n f).jtag = s.jtag ∧ (State.modAdc s n f).inp = s.inp ∧ (State.modAdc s n f).sprint = s.sprint ∧ (State.modAdc s n f).graph = s.graph ∧ (State.modAdc s n f).rout = s.rout ∧ (State.modAdc s n f).out = s.out ∧ (State.modAdc s n f).ports = s.ports ∧ (State.modAdc s n f).link = s.link ∧ (State.modAdc s n f).wake = s.wake ∧ (State.modAdc s n f).free = s.free ∧ (State.modAdc s n f).pending = s.pending := by
  simp only [State.modAdc]
  all_goals simp

@[simp] theorem State.startChain_keeps (s : State) (n : Nat) :
    (State.startChain s n).clock = s.clock ∧ (State.startChain s n).power = s.power ∧ (State.startChain s n).synth = s.synth ∧ (State.startChain s n).dpll = s.dpll ∧ (State.startChain s n).bus = s.bus ∧ (State.startChain s n).ctl = s.ctl ∧ (State.startChain s n).mram = s.mram ∧ (State.startChain s n).cfg = s.cfg ∧ (State.startChain s n).dep = s.dep ∧ (State.startChain s n).log = s.log ∧ (State.startChain s n).jtag = s.jtag ∧ (State.startChain s n).sprint = s.sprint ∧ (State.startChain s n).graph = s.graph ∧ (State.startChain s n).rout = s.rout ∧ (State.startChain s n).out = s.out ∧ (State.startChain s n).ports = s.ports ∧ (State.startChain s n).link = s.link ∧ (State.startChain s n).wake = s.wake ∧ (State.startChain s n).free = s.free ∧ (State.startChain s n).pending = s.pending := by
  simp only [State.startChain]
  all_goals simp

@[simp] theorem State.startOutChain_keeps (s : State) (o : Nat) :
    (State.startOutChain s o).clock = s.clock ∧ (State.startOutChain s o).power = s.power ∧ (State.startOutChain s o).synth = s.synth ∧ (State.startOutChain s o).dpll = s.dpll ∧ (State.startOutChain s o).bus = s.bus ∧ (State.startOutChain s o).ctl = s.ctl ∧ (State.startOutChain s o).mram = s.mram ∧ (State.startOutChain s o).cfg = s.cfg ∧ (State.startOutChain s o).dep = s.dep ∧ (State.startOutChain s o).log = s.log ∧ (State.startOutChain s o).jtag = s.jtag ∧ (State.startOutChain s o).inp = s.inp ∧ (State.startOutChain s o).sprint = s.sprint ∧ (State.startOutChain s o).graph = s.graph ∧ (State.startOutChain s o).rout = s.rout ∧ (State.startOutChain s o).out = s.out ∧ (State.startOutChain s o).ports = s.ports ∧ (State.startOutChain s o).link = s.link ∧ (State.startOutChain s o).wake = s.wake ∧ (State.startOutChain s o).free = s.free ∧ (State.startOutChain s o).pending = s.pending := by
  simp only [State.startOutChain]
  all_goals simp

@[simp] theorem State.startChains_keeps (s : State) :
    (State.startChains s).clock = s.clock ∧ (State.startChains s).power = s.power ∧ (State.startChains s).synth = s.synth ∧ (State.startChains s).dpll = s.dpll ∧ (State.startChains s).bus = s.bus ∧ (State.startChains s).ctl = s.ctl ∧ (State.startChains s).mram = s.mram ∧ (State.startChains s).cfg = s.cfg ∧ (State.startChains s).dep = s.dep ∧ (State.startChains s).log = s.log ∧ (State.startChains s).jtag = s.jtag ∧ (State.startChains s).sprint = s.sprint ∧ (State.startChains s).graph = s.graph ∧ (State.startChains s).rout = s.rout ∧ (State.startChains s).out = s.out ∧ (State.startChains s).ports = s.ports ∧ (State.startChains s).link = s.link ∧ (State.startChains s).wake = s.wake ∧ (State.startChains s).free = s.free ∧ (State.startChains s).pending = s.pending := by
  simp only [State.startChains]
  all_goals simp

@[simp] theorem State.phasesSwapped_keeps (s : State) (old : Tab PVal) :
    (State.phasesSwapped s old).clock = s.clock ∧ (State.phasesSwapped s old).power = s.power ∧ (State.phasesSwapped s old).synth = s.synth ∧ (State.phasesSwapped s old).dpll = s.dpll ∧ (State.phasesSwapped s old).bus = s.bus ∧ (State.phasesSwapped s old).ctl = s.ctl ∧ (State.phasesSwapped s old).mram = s.mram ∧ (State.phasesSwapped s old).cfg = s.cfg ∧ (State.phasesSwapped s old).dep = s.dep ∧ (State.phasesSwapped s old).log = s.log ∧ (State.phasesSwapped s old).jtag = s.jtag ∧ (State.phasesSwapped s old).sprint = s.sprint ∧ (State.phasesSwapped s old).graph = s.graph ∧ (State.phasesSwapped s old).rout = s.rout ∧ (State.phasesSwapped s old).out = s.out ∧ (State.phasesSwapped s old).ports = s.ports ∧ (State.phasesSwapped s old).link = s.link ∧ (State.phasesSwapped s old).wake = s.wake ∧ (State.phasesSwapped s old).free = s.free ∧ (State.phasesSwapped s old).pending = s.pending := by
  simp only [State.phasesSwapped]
  all_goals simp

@[simp] theorem State.startMeas_keeps (s : State) :
    (State.startMeas s).clock = s.clock ∧ (State.startMeas s).power = s.power ∧ (State.startMeas s).synth = s.synth ∧ (State.startMeas s).dpll = s.dpll ∧ (State.startMeas s).bus = s.bus ∧ (State.startMeas s).ctl = s.ctl ∧ (State.startMeas s).mram = s.mram ∧ (State.startMeas s).cfg = s.cfg ∧ (State.startMeas s).dep = s.dep ∧ (State.startMeas s).log = s.log ∧ (State.startMeas s).jtag = s.jtag ∧ (State.startMeas s).inp = s.inp ∧ (State.startMeas s).sprint = s.sprint ∧ (State.startMeas s).graph = s.graph ∧ (State.startMeas s).rout = s.rout ∧ (State.startMeas s).out = s.out ∧ (State.startMeas s).ports = s.ports ∧ (State.startMeas s).link = s.link ∧ (State.startMeas s).wake = s.wake ∧ (State.startMeas s).free = s.free ∧ (State.startMeas s).pending = s.pending := by
  simp only [State.startMeas]
  all_goals simp

@[simp] theorem State.qsWritten_keeps (s : State) (old : Nat) :
    (State.qsWritten s old).clock = s.clock ∧ (State.qsWritten s old).power = s.power ∧ (State.qsWritten s old).synth = s.synth ∧ (State.qsWritten s old).dpll = s.dpll ∧ (State.qsWritten s old).bus = s.bus ∧ (State.qsWritten s old).ctl = s.ctl ∧ (State.qsWritten s old).mram = s.mram ∧ (State.qsWritten s old).cfg = s.cfg ∧ (State.qsWritten s old).dep = s.dep ∧ (State.qsWritten s old).log = s.log ∧ (State.qsWritten s old).jtag = s.jtag ∧ (State.qsWritten s old).inp = s.inp ∧ (State.qsWritten s old).sprint = s.sprint ∧ (State.qsWritten s old).graph = s.graph ∧ (State.qsWritten s old).rout = s.rout ∧ (State.qsWritten s old).out = s.out ∧ (State.qsWritten s old).ports = s.ports ∧ (State.qsWritten s old).link = s.link ∧ (State.qsWritten s old).wake = s.wake ∧ (State.qsWritten s old).free = s.free ∧ (State.qsWritten s old).pending = s.pending := by
  simp only [State.qsWritten]
  all_goals simp

@[simp] theorem State.askMeas_keeps (s : State) (k : Nat) :
    (State.askMeas s k).clock = s.clock ∧ (State.askMeas s k).power = s.power ∧ (State.askMeas s k).synth = s.synth ∧ (State.askMeas s k).dpll = s.dpll ∧ (State.askMeas s k).bus = s.bus ∧ (State.askMeas s k).ctl = s.ctl ∧ (State.askMeas s k).mram = s.mram ∧ (State.askMeas s k).cfg = s.cfg ∧ (State.askMeas s k).dep = s.dep ∧ (State.askMeas s k).log = s.log ∧ (State.askMeas s k).jtag = s.jtag ∧ (State.askMeas s k).inp = s.inp ∧ (State.askMeas s k).sprint = s.sprint ∧ (State.askMeas s k).graph = s.graph ∧ (State.askMeas s k).rout = s.rout ∧ (State.askMeas s k).out = s.out ∧ (State.askMeas s k).ports = s.ports ∧ (State.askMeas s k).link = s.link ∧ (State.askMeas s k).wake = s.wake ∧ (State.askMeas s k).free = s.free ∧ (State.askMeas s k).pending = s.pending := by
  simp only [State.askMeas]
  all_goals simp

@[simp] theorem State.modCell_keeps (s : State) (n : Nat) (f : Cell → Cell) :
    (State.modCell s n f).clock = s.clock ∧ (State.modCell s n f).power = s.power ∧ (State.modCell s n f).synth = s.synth ∧ (State.modCell s n f).dpll = s.dpll ∧ (State.modCell s n f).bus = s.bus ∧ (State.modCell s n f).ctl = s.ctl ∧ (State.modCell s n f).mram = s.mram ∧ (State.modCell s n f).cfg = s.cfg ∧ (State.modCell s n f).dep = s.dep ∧ (State.modCell s n f).log = s.log ∧ (State.modCell s n f).jtag = s.jtag ∧ (State.modCell s n f).inp = s.inp ∧ (State.modCell s n f).conv = s.conv ∧ (State.modCell s n f).graph = s.graph ∧ (State.modCell s n f).rout = s.rout ∧ (State.modCell s n f).out = s.out ∧ (State.modCell s n f).ports = s.ports ∧ (State.modCell s n f).link = s.link ∧ (State.modCell s n f).wake = s.wake ∧ (State.modCell s n f).free = s.free ∧ (State.modCell s n f).pending = s.pending := by
  simp only [State.modCell]
  all_goals simp

@[simp] theorem State.tapsFollow_keeps (s : State) :
    (State.tapsFollow s).clock = s.clock ∧ (State.tapsFollow s).power = s.power ∧ (State.tapsFollow s).synth = s.synth ∧ (State.tapsFollow s).dpll = s.dpll ∧ (State.tapsFollow s).bus = s.bus ∧ (State.tapsFollow s).ctl = s.ctl ∧ (State.tapsFollow s).mram = s.mram ∧ (State.tapsFollow s).cfg = s.cfg ∧ (State.tapsFollow s).dep = s.dep ∧ (State.tapsFollow s).log = s.log ∧ (State.tapsFollow s).jtag = s.jtag ∧ (State.tapsFollow s).inp = s.inp ∧ (State.tapsFollow s).conv = s.conv ∧ (State.tapsFollow s).graph = s.graph ∧ (State.tapsFollow s).rout = s.rout ∧ (State.tapsFollow s).out = s.out ∧ (State.tapsFollow s).ports = s.ports ∧ (State.tapsFollow s).link = s.link ∧ (State.tapsFollow s).wake = s.wake ∧ (State.tapsFollow s).free = s.free ∧ (State.tapsFollow s).pending = s.pending := by
  simp only [State.tapsFollow]
  all_goals simp

@[simp] theorem State.ordersSwapped_keeps (s : State) (old : Tab PVal) (oldImg : Tab Byte) :
    (State.ordersSwapped s old oldImg).clock = s.clock ∧ (State.ordersSwapped s old oldImg).power = s.power ∧ (State.ordersSwapped s old oldImg).synth = s.synth ∧ (State.ordersSwapped s old oldImg).dpll = s.dpll ∧ (State.ordersSwapped s old oldImg).bus = s.bus ∧ (State.ordersSwapped s old oldImg).ctl = s.ctl ∧ (State.ordersSwapped s old oldImg).mram = s.mram ∧ (State.ordersSwapped s old oldImg).cfg = s.cfg ∧ (State.ordersSwapped s old oldImg).dep = s.dep ∧ (State.ordersSwapped s old oldImg).log = s.log ∧ (State.ordersSwapped s old oldImg).jtag = s.jtag ∧ (State.ordersSwapped s old oldImg).inp = s.inp ∧ (State.ordersSwapped s old oldImg).sprint = s.sprint ∧ (State.ordersSwapped s old oldImg).graph = s.graph ∧ (State.ordersSwapped s old oldImg).rout = s.rout ∧ (State.ordersSwapped s old oldImg).out = s.out ∧ (State.ordersSwapped s old oldImg).ports = s.ports ∧ (State.ordersSwapped s old oldImg).link = s.link ∧ (State.ordersSwapped s old oldImg).wake = s.wake ∧ (State.ordersSwapped s old oldImg).free = s.free ∧ (State.ordersSwapped s old oldImg).pending = s.pending := by
  simp only [State.ordersSwapped]
  all_goals simp

@[simp] theorem State.switchOrders_keeps (s : State) :
    (State.switchOrders s).clock = s.clock ∧ (State.switchOrders s).power = s.power ∧ (State.switchOrders s).synth = s.synth ∧ (State.switchOrders s).dpll = s.dpll ∧ (State.switchOrders s).bus = s.bus ∧ (State.switchOrders s).ctl = s.ctl ∧ (State.switchOrders s).mram = s.mram ∧ (State.switchOrders s).cfg = s.cfg ∧ (State.switchOrders s).dep = s.dep ∧ (State.switchOrders s).log = s.log ∧ (State.switchOrders s).jtag = s.jtag ∧ (State.switchOrders s).inp = s.inp ∧ (State.switchOrders s).sprint = s.sprint ∧ (State.switchOrders s).graph = s.graph ∧ (State.switchOrders s).rout = s.rout ∧ (State.switchOrders s).out = s.out ∧ (State.switchOrders s).ports = s.ports ∧ (State.switchOrders s).link = s.link ∧ (State.switchOrders s).wake = s.wake ∧ (State.switchOrders s).free = s.free ∧ (State.switchOrders s).pending = s.pending := by
  simp only [State.switchOrders]
  all_goals simp

@[simp] theorem State.cellsSwapped_keeps (s : State) (old : Tab PVal) (oldImg : Tab Byte) :
    (State.cellsSwapped s old oldImg).clock = s.clock ∧ (State.cellsSwapped s old oldImg).power = s.power ∧ (State.cellsSwapped s old oldImg).synth = s.synth ∧ (State.cellsSwapped s old oldImg).dpll = s.dpll ∧ (State.cellsSwapped s old oldImg).bus = s.bus ∧ (State.cellsSwapped s old oldImg).ctl = s.ctl ∧ (State.cellsSwapped s old oldImg).mram = s.mram ∧ (State.cellsSwapped s old oldImg).cfg = s.cfg ∧ (State.cellsSwapped s old oldImg).dep = s.dep ∧ (State.cellsSwapped s old oldImg).log = s.log ∧ (State.cellsSwapped s old oldImg).jtag = s.jtag ∧ (State.cellsSwapped s old oldImg).inp = s.inp ∧ (State.cellsSwapped s old oldImg).conv = s.conv ∧ (State.cellsSwapped s old oldImg).graph = s.graph ∧ (State.cellsSwapped s old oldImg).rout = s.rout ∧ (State.cellsSwapped s old oldImg).out = s.out ∧ (State.cellsSwapped s old oldImg).ports = s.ports ∧ (State.cellsSwapped s old oldImg).link = s.link ∧ (State.cellsSwapped s old oldImg).wake = s.wake ∧ (State.cellsSwapped s old oldImg).free = s.free ∧ (State.cellsSwapped s old oldImg).pending = s.pending := by
  simp only [State.cellsSwapped]
  all_goals simp

@[simp] theorem State.spOrderWritten_keeps (s : State) :
    (State.spOrderWritten s).clock = s.clock ∧ (State.spOrderWritten s).power = s.power ∧ (State.spOrderWritten s).synth = s.synth ∧ (State.spOrderWritten s).dpll = s.dpll ∧ (State.spOrderWritten s).bus = s.bus ∧ (State.spOrderWritten s).ctl = s.ctl ∧ (State.spOrderWritten s).mram = s.mram ∧ (State.spOrderWritten s).cfg = s.cfg ∧ (State.spOrderWritten s).dep = s.dep ∧ (State.spOrderWritten s).log = s.log ∧ (State.spOrderWritten s).jtag = s.jtag ∧ (State.spOrderWritten s).inp = s.inp ∧ (State.spOrderWritten s).sprint = s.sprint ∧ (State.spOrderWritten s).graph = s.graph ∧ (State.spOrderWritten s).rout = s.rout ∧ (State.spOrderWritten s).out = s.out ∧ (State.spOrderWritten s).ports = s.ports ∧ (State.spOrderWritten s).link = s.link ∧ (State.spOrderWritten s).wake = s.wake ∧ (State.spOrderWritten s).free = s.free ∧ (State.spOrderWritten s).pending = s.pending := by
  simp only [State.spOrderWritten]
  all_goals simp

@[simp] theorem State.clearSprint_keeps (s : State) :
    (State.clearSprint s).clock = s.clock ∧ (State.clearSprint s).power = s.power ∧ (State.clearSprint s).synth = s.synth ∧ (State.clearSprint s).dpll = s.dpll ∧ (State.clearSprint s).bus = s.bus ∧ (State.clearSprint s).ctl = s.ctl ∧ (State.clearSprint s).mram = s.mram ∧ (State.clearSprint s).cfg = s.cfg ∧ (State.clearSprint s).dep = s.dep ∧ (State.clearSprint s).log = s.log ∧ (State.clearSprint s).jtag = s.jtag ∧ (State.clearSprint s).inp = s.inp ∧ (State.clearSprint s).conv = s.conv ∧ (State.clearSprint s).graph = s.graph ∧ (State.clearSprint s).rout = s.rout ∧ (State.clearSprint s).out = s.out ∧ (State.clearSprint s).ports = s.ports ∧ (State.clearSprint s).link = s.link ∧ (State.clearSprint s).wake = s.wake ∧ (State.clearSprint s).free = s.free ∧ (State.clearSprint s).pending = s.pending := by
  simp only [State.clearSprint]
  all_goals simp

@[simp] theorem State.modOut_keeps (s : State) (o : Nat) (f : OutCh → OutCh) :
    (State.modOut s o f).clock = s.clock ∧ (State.modOut s o f).power = s.power ∧ (State.modOut s o f).synth = s.synth ∧ (State.modOut s o f).dpll = s.dpll ∧ (State.modOut s o f).bus = s.bus ∧ (State.modOut s o f).ctl = s.ctl ∧ (State.modOut s o f).mram = s.mram ∧ (State.modOut s o f).cfg = s.cfg ∧ (State.modOut s o f).dep = s.dep ∧ (State.modOut s o f).log = s.log ∧ (State.modOut s o f).jtag = s.jtag ∧ (State.modOut s o f).inp = s.inp ∧ (State.modOut s o f).conv = s.conv ∧ (State.modOut s o f).sprint = s.sprint ∧ (State.modOut s o f).graph = s.graph ∧ (State.modOut s o f).rout = s.rout ∧ (State.modOut s o f).ports = s.ports ∧ (State.modOut s o f).link = s.link ∧ (State.modOut s o f).wake = s.wake ∧ (State.modOut s o f).free = s.free ∧ (State.modOut s o f).pending = s.pending := by
  simp only [State.modOut]
  all_goals simp

@[simp] theorem State.modOuts_keeps (s : State) (l : List Nat) (f : Nat → OutCh → OutCh) :
    (State.modOuts s l f).clock = s.clock ∧ (State.modOuts s l f).power = s.power ∧ (State.modOuts s l f).synth = s.synth ∧ (State.modOuts s l f).dpll = s.dpll ∧ (State.modOuts s l f).bus = s.bus ∧ (State.modOuts s l f).ctl = s.ctl ∧ (State.modOuts s l f).mram = s.mram ∧ (State.modOuts s l f).cfg = s.cfg ∧ (State.modOuts s l f).dep = s.dep ∧ (State.modOuts s l f).log = s.log ∧ (State.modOuts s l f).jtag = s.jtag ∧ (State.modOuts s l f).inp = s.inp ∧ (State.modOuts s l f).conv = s.conv ∧ (State.modOuts s l f).sprint = s.sprint ∧ (State.modOuts s l f).graph = s.graph ∧ (State.modOuts s l f).rout = s.rout ∧ (State.modOuts s l f).ports = s.ports ∧ (State.modOuts s l f).link = s.link ∧ (State.modOuts s l f).wake = s.wake ∧ (State.modOuts s l f).free = s.free ∧ (State.modOuts s l f).pending = s.pending := by
  simp only [State.modOuts]
  all_goals simp

@[simp] theorem State.rankSpk_keeps (s : State) :
    (State.rankSpk s).clock = s.clock ∧ (State.rankSpk s).power = s.power ∧ (State.rankSpk s).synth = s.synth ∧ (State.rankSpk s).dpll = s.dpll ∧ (State.rankSpk s).bus = s.bus ∧ (State.rankSpk s).ctl = s.ctl ∧ (State.rankSpk s).mram = s.mram ∧ (State.rankSpk s).cfg = s.cfg ∧ (State.rankSpk s).dep = s.dep ∧ (State.rankSpk s).log = s.log ∧ (State.rankSpk s).jtag = s.jtag ∧ (State.rankSpk s).inp = s.inp ∧ (State.rankSpk s).conv = s.conv ∧ (State.rankSpk s).sprint = s.sprint ∧ (State.rankSpk s).graph = s.graph ∧ (State.rankSpk s).rout = s.rout ∧ (State.rankSpk s).ports = s.ports ∧ (State.rankSpk s).link = s.link ∧ (State.rankSpk s).wake = s.wake ∧ (State.rankSpk s).free = s.free ∧ (State.rankSpk s).pending = s.pending := by
  simp only [State.rankSpk]
  all_goals simp

@[simp] theorem State.pairFollow_keeps (s : State) :
    (State.pairFollow s).clock = s.clock ∧ (State.pairFollow s).power = s.power ∧ (State.pairFollow s).synth = s.synth ∧ (State.pairFollow s).dpll = s.dpll ∧ (State.pairFollow s).bus = s.bus ∧ (State.pairFollow s).ctl = s.ctl ∧ (State.pairFollow s).mram = s.mram ∧ (State.pairFollow s).cfg = s.cfg ∧ (State.pairFollow s).dep = s.dep ∧ (State.pairFollow s).log = s.log ∧ (State.pairFollow s).jtag = s.jtag ∧ (State.pairFollow s).inp = s.inp ∧ (State.pairFollow s).conv = s.conv ∧ (State.pairFollow s).sprint = s.sprint ∧ (State.pairFollow s).graph = s.graph ∧ (State.pairFollow s).rout = s.rout ∧ (State.pairFollow s).ports = s.ports ∧ (State.pairFollow s).link = s.link ∧ (State.pairFollow s).wake = s.wake ∧ (State.pairFollow s).free = s.free ∧ (State.pairFollow s).pending = s.pending := by
  simp only [State.pairFollow]
  all_goals simp

@[simp] theorem State.beginOuts_keeps (s : State) (l : List Nat) :
    (State.beginOuts s l).clock = s.clock ∧ (State.beginOuts s l).power = s.power ∧ (State.beginOuts s l).synth = s.synth ∧ (State.beginOuts s l).dpll = s.dpll ∧ (State.beginOuts s l).bus = s.bus ∧ (State.beginOuts s l).ctl = s.ctl ∧ (State.beginOuts s l).mram = s.mram ∧ (State.beginOuts s l).cfg = s.cfg ∧ (State.beginOuts s l).dep = s.dep ∧ (State.beginOuts s l).log = s.log ∧ (State.beginOuts s l).jtag = s.jtag ∧ (State.beginOuts s l).inp = s.inp ∧ (State.beginOuts s l).conv = s.conv ∧ (State.beginOuts s l).sprint = s.sprint ∧ (State.beginOuts s l).graph = s.graph ∧ (State.beginOuts s l).rout = s.rout ∧ (State.beginOuts s l).ports = s.ports ∧ (State.beginOuts s l).link = s.link ∧ (State.beginOuts s l).wake = s.wake ∧ (State.beginOuts s l).free = s.free ∧ (State.beginOuts s l).pending = s.pending := by
  simp only [State.beginOuts]
  all_goals repeat' split
  all_goals simp

@[simp] theorem State.outputsSwapped_keeps (s : State) (old : Nat → Nat) :
    (State.outputsSwapped s old).clock = s.clock ∧ (State.outputsSwapped s old).power = s.power ∧ (State.outputsSwapped s old).synth = s.synth ∧ (State.outputsSwapped s old).dpll = s.dpll ∧ (State.outputsSwapped s old).bus = s.bus ∧ (State.outputsSwapped s old).ctl = s.ctl ∧ (State.outputsSwapped s old).mram = s.mram ∧ (State.outputsSwapped s old).cfg = s.cfg ∧ (State.outputsSwapped s old).dep = s.dep ∧ (State.outputsSwapped s old).log = s.log ∧ (State.outputsSwapped s old).jtag = s.jtag ∧ (State.outputsSwapped s old).inp = s.inp ∧ (State.outputsSwapped s old).conv = s.conv ∧ (State.outputsSwapped s old).sprint = s.sprint ∧ (State.outputsSwapped s old).graph = s.graph ∧ (State.outputsSwapped s old).rout = s.rout ∧ (State.outputsSwapped s old).ports = s.ports ∧ (State.outputsSwapped s old).link = s.link ∧ (State.outputsSwapped s old).wake = s.wake ∧ (State.outputsSwapped s old).free = s.free ∧ (State.outputsSwapped s old).pending = s.pending := by
  simp only [State.outputsSwapped]
  all_goals repeat' split
  all_goals simp

@[simp] theorem State.jackOuts_keeps (s : State) (h : Nat) :
    (State.jackOuts s h).clock = s.clock ∧ (State.jackOuts s h).power = s.power ∧ (State.jackOuts s h).synth = s.synth ∧ (State.jackOuts s h).dpll = s.dpll ∧ (State.jackOuts s h).bus = s.bus ∧ (State.jackOuts s h).ctl = s.ctl ∧ (State.jackOuts s h).mram = s.mram ∧ (State.jackOuts s h).cfg = s.cfg ∧ (State.jackOuts s h).dep = s.dep ∧ (State.jackOuts s h).log = s.log ∧ (State.jackOuts s h).jtag = s.jtag ∧ (State.jackOuts s h).inp = s.inp ∧ (State.jackOuts s h).conv = s.conv ∧ (State.jackOuts s h).sprint = s.sprint ∧ (State.jackOuts s h).graph = s.graph ∧ (State.jackOuts s h).rout = s.rout ∧ (State.jackOuts s h).ports = s.ports ∧ (State.jackOuts s h).link = s.link ∧ (State.jackOuts s h).wake = s.wake ∧ (State.jackOuts s h).free = s.free ∧ (State.jackOuts s h).pending = s.pending := by
  simp only [State.jackOuts]
  all_goals simp

@[simp] theorem State.modJack_keeps (s : State) (h : Nat) (f : HpJack → HpJack) :
    (State.modJack s h f).clock = s.clock ∧ (State.modJack s h f).power = s.power ∧ (State.modJack s h f).synth = s.synth ∧ (State.modJack s h f).dpll = s.dpll ∧ (State.modJack s h f).bus = s.bus ∧ (State.modJack s h f).ctl = s.ctl ∧ (State.modJack s h f).mram = s.mram ∧ (State.modJack s h f).cfg = s.cfg ∧ (State.modJack s h f).dep = s.dep ∧ (State.modJack s h f).log = s.log ∧ (State.modJack s h f).jtag = s.jtag ∧ (State.modJack s h f).inp = s.inp ∧ (State.modJack s h f).conv = s.conv ∧ (State.modJack s h f).sprint = s.sprint ∧ (State.modJack s h f).graph = s.graph ∧ (State.modJack s h f).rout = s.rout ∧ (State.modJack s h f).ports = s.ports ∧ (State.modJack s h f).link = s.link ∧ (State.modJack s h f).wake = s.wake ∧ (State.modJack s h f).free = s.free ∧ (State.modJack s h f).pending = s.pending := by
  simp only [State.modJack]
  all_goals simp

@[simp] theorem State.modHpPin_keeps (s : State) (j : Nat) (f : JackPin → JackPin) :
    (State.modHpPin s j f).clock = s.clock ∧ (State.modHpPin s j f).power = s.power ∧ (State.modHpPin s j f).synth = s.synth ∧ (State.modHpPin s j f).dpll = s.dpll ∧ (State.modHpPin s j f).bus = s.bus ∧ (State.modHpPin s j f).ctl = s.ctl ∧ (State.modHpPin s j f).mram = s.mram ∧ (State.modHpPin s j f).cfg = s.cfg ∧ (State.modHpPin s j f).dep = s.dep ∧ (State.modHpPin s j f).log = s.log ∧ (State.modHpPin s j f).jtag = s.jtag ∧ (State.modHpPin s j f).inp = s.inp ∧ (State.modHpPin s j f).conv = s.conv ∧ (State.modHpPin s j f).sprint = s.sprint ∧ (State.modHpPin s j f).graph = s.graph ∧ (State.modHpPin s j f).rout = s.rout ∧ (State.modHpPin s j f).ports = s.ports ∧ (State.modHpPin s j f).link = s.link ∧ (State.modHpPin s j f).wake = s.wake ∧ (State.modHpPin s j f).free = s.free ∧ (State.modHpPin s j f).pending = s.pending := by
  simp only [State.modHpPin]
  all_goals simp

@[simp] theorem State.measureHp_keeps (s : State) (h : Nat) :
    (State.measureHp s h).clock = s.clock ∧ (State.measureHp s h).power = s.power ∧ (State.measureHp s h).synth = s.synth ∧ (State.measureHp s h).dpll = s.dpll ∧ (State.measureHp s h).bus = s.bus ∧ (State.measureHp s h).ctl = s.ctl ∧ (State.measureHp s h).mram = s.mram ∧ (State.measureHp s h).cfg = s.cfg ∧ (State.measureHp s h).dep = s.dep ∧ (State.measureHp s h).log = s.log ∧ (State.measureHp s h).jtag = s.jtag ∧ (State.measureHp s h).inp = s.inp ∧ (State.measureHp s h).conv = s.conv ∧ (State.measureHp s h).sprint = s.sprint ∧ (State.measureHp s h).graph = s.graph ∧ (State.measureHp s h).rout = s.rout ∧ (State.measureHp s h).ports = s.ports ∧ (State.measureHp s h).link = s.link ∧ (State.measureHp s h).wake = s.wake ∧ (State.measureHp s h).free = s.free ∧ (State.measureHp s h).pending = s.pending := by
  simp only [State.measureHp]
  all_goals simp

@[simp] theorem State.removeHp_keeps (s : State) (j : Nat) :
    (State.removeHp s j).clock = s.clock ∧ (State.removeHp s j).power = s.power ∧ (State.removeHp s j).synth = s.synth ∧ (State.removeHp s j).dpll = s.dpll ∧ (State.removeHp s j).ctl = s.ctl ∧ (State.removeHp s j).mram = s.mram ∧ (State.removeHp s j).cfg = s.cfg ∧ (State.removeHp s j).dep = s.dep ∧ (State.removeHp s j).log = s.log ∧ (State.removeHp s j).jtag = s.jtag ∧ (State.removeHp s j).inp = s.inp ∧ (State.removeHp s j).sprint = s.sprint ∧ (State.removeHp s j).graph = s.graph ∧ (State.removeHp s j).rout = s.rout ∧ (State.removeHp s j).ports = s.ports ∧ (State.removeHp s j).link = s.link ∧ (State.removeHp s j).wake = s.wake ∧ (State.removeHp s j).free = s.free ∧ (State.removeHp s j).pending = s.pending := by
  simp only [State.removeHp]
  all_goals repeat' split
  all_goals simp

@[simp] theorem State.insertHp_keeps (s : State) (j : Nat) :
    (State.insertHp s j).clock = s.clock ∧ (State.insertHp s j).power = s.power ∧ (State.insertHp s j).synth = s.synth ∧ (State.insertHp s j).dpll = s.dpll ∧ (State.insertHp s j).bus = s.bus ∧ (State.insertHp s j).ctl = s.ctl ∧ (State.insertHp s j).mram = s.mram ∧ (State.insertHp s j).cfg = s.cfg ∧ (State.insertHp s j).dep = s.dep ∧ (State.insertHp s j).log = s.log ∧ (State.insertHp s j).jtag = s.jtag ∧ (State.insertHp s j).inp = s.inp ∧ (State.insertHp s j).conv = s.conv ∧ (State.insertHp s j).sprint = s.sprint ∧ (State.insertHp s j).graph = s.graph ∧ (State.insertHp s j).rout = s.rout ∧ (State.insertHp s j).ports = s.ports ∧ (State.insertHp s j).link = s.link ∧ (State.insertHp s j).wake = s.wake ∧ (State.insertHp s j).free = s.free ∧ (State.insertHp s j).pending = s.pending := by
  simp only [State.insertHp]
  all_goals repeat' split
  all_goals simp

@[simp] theorem State.hpReading_keeps (s : State) (h : Nat) (v : Int) :
    (State.hpReading s h v).clock = s.clock ∧ (State.hpReading s h v).power = s.power ∧ (State.hpReading s h v).synth = s.synth ∧ (State.hpReading s h v).dpll = s.dpll ∧ (State.hpReading s h v).bus = s.bus ∧ (State.hpReading s h v).ctl = s.ctl ∧ (State.hpReading s h v).mram = s.mram ∧ (State.hpReading s h v).cfg = s.cfg ∧ (State.hpReading s h v).dep = s.dep ∧ (State.hpReading s h v).log = s.log ∧ (State.hpReading s h v).jtag = s.jtag ∧ (State.hpReading s h v).inp = s.inp ∧ (State.hpReading s h v).sprint = s.sprint ∧ (State.hpReading s h v).graph = s.graph ∧ (State.hpReading s h v).rout = s.rout ∧ (State.hpReading s h v).ports = s.ports ∧ (State.hpReading s h v).link = s.link ∧ (State.hpReading s h v).wake = s.wake ∧ (State.hpReading s h v).free = s.free ∧ (State.hpReading s h v).pending = s.pending := by
  simp only [State.hpReading]
  all_goals repeat' split
  all_goals simp

@[simp] theorem State.jsHpWritten_keeps (s : State) (j old : Nat) :
    (State.jsHpWritten s j old).clock = s.clock ∧ (State.jsHpWritten s j old).power = s.power ∧ (State.jsHpWritten s j old).synth = s.synth ∧ (State.jsHpWritten s j old).dpll = s.dpll ∧ (State.jsHpWritten s j old).bus = s.bus ∧ (State.jsHpWritten s j old).ctl = s.ctl ∧ (State.jsHpWritten s j old).mram = s.mram ∧ (State.jsHpWritten s j old).cfg = s.cfg ∧ (State.jsHpWritten s j old).dep = s.dep ∧ (State.jsHpWritten s j old).log = s.log ∧ (State.jsHpWritten s j old).jtag = s.jtag ∧ (State.jsHpWritten s j old).inp = s.inp ∧ (State.jsHpWritten s j old).conv = s.conv ∧ (State.jsHpWritten s j old).sprint = s.sprint ∧ (State.jsHpWritten s j old).graph = s.graph ∧ (State.jsHpWritten s j old).rout = s.rout ∧ (State.jsHpWritten s j old).ports = s.ports ∧ (State.jsHpWritten s j old).link = s.link ∧ (State.jsHpWritten s j old).wake = s.wake ∧ (State.jsHpWritten s j old).free = s.free ∧ (State.jsHpWritten s j old).pending = s.pending := by
  simp only [State.jsHpWritten]
  all_goals repeat' split
  all_goals simp

@[simp] theorem State.tripSpk_keeps (s : State) (l : List Nat) (k : Nat) :
    (State.tripSpk s l k).clock = s.clock ∧ (State.tripSpk s l k).power = s.power ∧ (State.tripSpk s l k).synth = s.synth ∧ (State.tripSpk s l k).dpll = s.dpll ∧ (State.tripSpk s l k).ctl = s.ctl ∧ (State.tripSpk s l k).mram = s.mram ∧ (State.tripSpk s l k).cfg = s.cfg ∧ (State.tripSpk s l k).dep = s.dep ∧ (State.tripSpk s l k).jtag = s.jtag ∧ (State.tripSpk s l k).inp = s.inp ∧ (State.tripSpk s l k).conv = s.conv ∧ (State.tripSpk s l k).sprint = s.sprint ∧ (State.tripSpk s l k).graph = s.graph ∧ (State.tripSpk s l k).rout = s.rout ∧ (State.tripSpk s l k).ports = s.ports ∧ (State.tripSpk s l k).link = s.link ∧ (State.tripSpk s l k).wake = s.wake ∧ (State.tripSpk s l k).free = s.free ∧ (State.tripSpk s l k).pending = s.pending := by
  simp only [State.tripSpk]
  all_goals repeat' split
  all_goals simp

@[simp] theorem State.vspkRead_keeps (s : State) (mv : Int) :
    (State.vspkRead s mv).clock = s.clock ∧ (State.vspkRead s mv).power = s.power ∧ (State.vspkRead s mv).synth = s.synth ∧ (State.vspkRead s mv).dpll = s.dpll ∧ (State.vspkRead s mv).bus = s.bus ∧ (State.vspkRead s mv).ctl = s.ctl ∧ (State.vspkRead s mv).mram = s.mram ∧ (State.vspkRead s mv).cfg = s.cfg ∧ (State.vspkRead s mv).dep = s.dep ∧ (State.vspkRead s mv).log = s.log ∧ (State.vspkRead s mv).jtag = s.jtag ∧ (State.vspkRead s mv).inp = s.inp ∧ (State.vspkRead s mv).conv = s.conv ∧ (State.vspkRead s mv).sprint = s.sprint ∧ (State.vspkRead s mv).graph = s.graph ∧ (State.vspkRead s mv).rout = s.rout ∧ (State.vspkRead s mv).ports = s.ports ∧ (State.vspkRead s mv).link = s.link ∧ (State.vspkRead s mv).wake = s.wake ∧ (State.vspkRead s mv).free = s.free ∧ (State.vspkRead s mv).pending = s.pending := by
  simp only [State.vspkRead]
  all_goals repeat' split
  all_goals simp

@[simp] theorem State.vspkBack_keeps (s : State) :
    (State.vspkBack s).clock = s.clock ∧ (State.vspkBack s).power = s.power ∧ (State.vspkBack s).synth = s.synth ∧ (State.vspkBack s).dpll = s.dpll ∧ (State.vspkBack s).bus = s.bus ∧ (State.vspkBack s).ctl = s.ctl ∧ (State.vspkBack s).mram = s.mram ∧ (State.vspkBack s).cfg = s.cfg ∧ (State.vspkBack s).dep = s.dep ∧ (State.vspkBack s).log = s.log ∧ (State.vspkBack s).jtag = s.jtag ∧ (State.vspkBack s).inp = s.inp ∧ (State.vspkBack s).conv = s.conv ∧ (State.vspkBack s).sprint = s.sprint ∧ (State.vspkBack s).graph = s.graph ∧ (State.vspkBack s).rout = s.rout ∧ (State.vspkBack s).ports = s.ports ∧ (State.vspkBack s).link = s.link ∧ (State.vspkBack s).wake = s.wake ∧ (State.vspkBack s).free = s.free ∧ (State.vspkBack s).pending = s.pending := by
  simp only [State.vspkBack]
  all_goals simp

@[simp] theorem State.foldRead_keeps (s : State) (t : Int) :
    (State.foldRead s t).clock = s.clock ∧ (State.foldRead s t).power = s.power ∧ (State.foldRead s t).synth = s.synth ∧ (State.foldRead s t).dpll = s.dpll ∧ (State.foldRead s t).ctl = s.ctl ∧ (State.foldRead s t).mram = s.mram ∧ (State.foldRead s t).cfg = s.cfg ∧ (State.foldRead s t).dep = s.dep ∧ (State.foldRead s t).log = s.log ∧ (State.foldRead s t).jtag = s.jtag ∧ (State.foldRead s t).inp = s.inp ∧ (State.foldRead s t).conv = s.conv ∧ (State.foldRead s t).sprint = s.sprint ∧ (State.foldRead s t).graph = s.graph ∧ (State.foldRead s t).rout = s.rout ∧ (State.foldRead s t).ports = s.ports ∧ (State.foldRead s t).link = s.link ∧ (State.foldRead s t).wake = s.wake ∧ (State.foldRead s t).free = s.free ∧ (State.foldRead s t).pending = s.pending := by
  simp only [State.foldRead]
  all_goals simp

@[simp] theorem State.foldEnd_keeps (s : State) :
    (State.foldEnd s).clock = s.clock ∧ (State.foldEnd s).power = s.power ∧ (State.foldEnd s).synth = s.synth ∧ (State.foldEnd s).dpll = s.dpll ∧ (State.foldEnd s).ctl = s.ctl ∧ (State.foldEnd s).mram = s.mram ∧ (State.foldEnd s).cfg = s.cfg ∧ (State.foldEnd s).dep = s.dep ∧ (State.foldEnd s).log = s.log ∧ (State.foldEnd s).jtag = s.jtag ∧ (State.foldEnd s).inp = s.inp ∧ (State.foldEnd s).conv = s.conv ∧ (State.foldEnd s).sprint = s.sprint ∧ (State.foldEnd s).graph = s.graph ∧ (State.foldEnd s).rout = s.rout ∧ (State.foldEnd s).ports = s.ports ∧ (State.foldEnd s).link = s.link ∧ (State.foldEnd s).wake = s.wake ∧ (State.foldEnd s).free = s.free ∧ (State.foldEnd s).pending = s.pending := by
  simp only [State.foldEnd]
  all_goals repeat' split
  all_goals simp

@[simp] theorem State.guardOuts_keeps (s : State) :
    (State.guardOuts s).clock = s.clock ∧ (State.guardOuts s).power = s.power ∧ (State.guardOuts s).synth = s.synth ∧ (State.guardOuts s).dpll = s.dpll ∧ (State.guardOuts s).bus = s.bus ∧ (State.guardOuts s).ctl = s.ctl ∧ (State.guardOuts s).mram = s.mram ∧ (State.guardOuts s).cfg = s.cfg ∧ (State.guardOuts s).dep = s.dep ∧ (State.guardOuts s).log = s.log ∧ (State.guardOuts s).jtag = s.jtag ∧ (State.guardOuts s).inp = s.inp ∧ (State.guardOuts s).conv = s.conv ∧ (State.guardOuts s).sprint = s.sprint ∧ (State.guardOuts s).graph = s.graph ∧ (State.guardOuts s).rout = s.rout ∧ (State.guardOuts s).ports = s.ports ∧ (State.guardOuts s).link = s.link ∧ (State.guardOuts s).wake = s.wake ∧ (State.guardOuts s).free = s.free ∧ (State.guardOuts s).pending = s.pending := by
  simp only [State.guardOuts]
  all_goals simp

@[simp] theorem State.modGby_keeps (s : State) (g : Nat) (f : GbyPin → GbyPin) :
    (State.modGby s g f).clock = s.clock ∧ (State.modGby s g f).power = s.power ∧ (State.modGby s g f).synth = s.synth ∧ (State.modGby s g f).dpll = s.dpll ∧ (State.modGby s g f).bus = s.bus ∧ (State.modGby s g f).ctl = s.ctl ∧ (State.modGby s g f).mram = s.mram ∧ (State.modGby s g f).cfg = s.cfg ∧ (State.modGby s g f).dep = s.dep ∧ (State.modGby s g f).log = s.log ∧ (State.modGby s g f).jtag = s.jtag ∧ (State.modGby s g f).inp = s.inp ∧ (State.modGby s g f).conv = s.conv ∧ (State.modGby s g f).sprint = s.sprint ∧ (State.modGby s g f).graph = s.graph ∧ (State.modGby s g f).rout = s.rout ∧ (State.modGby s g f).ports = s.ports ∧ (State.modGby s g f).link = s.link ∧ (State.modGby s g f).wake = s.wake ∧ (State.modGby s g f).free = s.free ∧ (State.modGby s g f).pending = s.pending := by
  simp only [State.modGby]
  all_goals simp

@[simp] theorem State.gbyLow_keeps (s : State) (g : Nat) :
    (State.gbyLow s g).clock = s.clock ∧ (State.gbyLow s g).power = s.power ∧ (State.gbyLow s g).synth = s.synth ∧ (State.gbyLow s g).dpll = s.dpll ∧ (State.gbyLow s g).ctl = s.ctl ∧ (State.gbyLow s g).mram = s.mram ∧ (State.gbyLow s g).cfg = s.cfg ∧ (State.gbyLow s g).dep = s.dep ∧ (State.gbyLow s g).log = s.log ∧ (State.gbyLow s g).jtag = s.jtag ∧ (State.gbyLow s g).inp = s.inp ∧ (State.gbyLow s g).conv = s.conv ∧ (State.gbyLow s g).sprint = s.sprint ∧ (State.gbyLow s g).graph = s.graph ∧ (State.gbyLow s g).rout = s.rout ∧ (State.gbyLow s g).ports = s.ports ∧ (State.gbyLow s g).link = s.link ∧ (State.gbyLow s g).wake = s.wake ∧ (State.gbyLow s g).free = s.free ∧ (State.gbyLow s g).pending = s.pending := by
  simp only [State.gbyLow]
  all_goals simp

@[simp] theorem State.gbyHigh_keeps (s : State) (g : Nat) :
    (State.gbyHigh s g).clock = s.clock ∧ (State.gbyHigh s g).power = s.power ∧ (State.gbyHigh s g).synth = s.synth ∧ (State.gbyHigh s g).dpll = s.dpll ∧ (State.gbyHigh s g).ctl = s.ctl ∧ (State.gbyHigh s g).mram = s.mram ∧ (State.gbyHigh s g).cfg = s.cfg ∧ (State.gbyHigh s g).dep = s.dep ∧ (State.gbyHigh s g).log = s.log ∧ (State.gbyHigh s g).jtag = s.jtag ∧ (State.gbyHigh s g).inp = s.inp ∧ (State.gbyHigh s g).conv = s.conv ∧ (State.gbyHigh s g).sprint = s.sprint ∧ (State.gbyHigh s g).graph = s.graph ∧ (State.gbyHigh s g).rout = s.rout ∧ (State.gbyHigh s g).ports = s.ports ∧ (State.gbyHigh s g).link = s.link ∧ (State.gbyHigh s g).wake = s.wake ∧ (State.gbyHigh s g).free = s.free ∧ (State.gbyHigh s g).pending = s.pending := by
  simp only [State.gbyHigh]
  all_goals simp

@[simp] theorem State.gbyLose_keeps (s : State) (g cause : Nat) :
    (State.gbyLose s g cause).clock = s.clock ∧ (State.gbyLose s g cause).power = s.power ∧ (State.gbyLose s g cause).synth = s.synth ∧ (State.gbyLose s g cause).dpll = s.dpll ∧ (State.gbyLose s g cause).ctl = s.ctl ∧ (State.gbyLose s g cause).mram = s.mram ∧ (State.gbyLose s g cause).cfg = s.cfg ∧ (State.gbyLose s g cause).dep = s.dep ∧ (State.gbyLose s g cause).log = s.log ∧ (State.gbyLose s g cause).jtag = s.jtag ∧ (State.gbyLose s g cause).inp = s.inp ∧ (State.gbyLose s g cause).conv = s.conv ∧ (State.gbyLose s g cause).sprint = s.sprint ∧ (State.gbyLose s g cause).graph = s.graph ∧ (State.gbyLose s g cause).rout = s.rout ∧ (State.gbyLose s g cause).ports = s.ports ∧ (State.gbyLose s g cause).link = s.link ∧ (State.gbyLose s g cause).wake = s.wake ∧ (State.gbyLose s g cause).free = s.free ∧ (State.gbyLose s g cause).pending = s.pending := by
  simp only [State.gbyLose]
  all_goals repeat' split
  all_goals simp

@[simp] theorem State.gbyWatch_keeps (s : State) :
    (State.gbyWatch s).clock = s.clock ∧ (State.gbyWatch s).power = s.power ∧ (State.gbyWatch s).synth = s.synth ∧ (State.gbyWatch s).dpll = s.dpll ∧ (State.gbyWatch s).bus = s.bus ∧ (State.gbyWatch s).ctl = s.ctl ∧ (State.gbyWatch s).mram = s.mram ∧ (State.gbyWatch s).cfg = s.cfg ∧ (State.gbyWatch s).dep = s.dep ∧ (State.gbyWatch s).log = s.log ∧ (State.gbyWatch s).jtag = s.jtag ∧ (State.gbyWatch s).inp = s.inp ∧ (State.gbyWatch s).conv = s.conv ∧ (State.gbyWatch s).sprint = s.sprint ∧ (State.gbyWatch s).graph = s.graph ∧ (State.gbyWatch s).rout = s.rout ∧ (State.gbyWatch s).ports = s.ports ∧ (State.gbyWatch s).link = s.link ∧ (State.gbyWatch s).wake = s.wake ∧ (State.gbyWatch s).free = s.free ∧ (State.gbyWatch s).pending = s.pending := by
  simp only [State.gbyWatch]
  all_goals simp

@[simp] theorem State.gbyWritten_keeps (s : State) (g : Nat) :
    (State.gbyWritten s g).clock = s.clock ∧ (State.gbyWritten s g).power = s.power ∧ (State.gbyWritten s g).synth = s.synth ∧ (State.gbyWritten s g).dpll = s.dpll ∧ (State.gbyWritten s g).ctl = s.ctl ∧ (State.gbyWritten s g).mram = s.mram ∧ (State.gbyWritten s g).cfg = s.cfg ∧ (State.gbyWritten s g).dep = s.dep ∧ (State.gbyWritten s g).log = s.log ∧ (State.gbyWritten s g).jtag = s.jtag ∧ (State.gbyWritten s g).inp = s.inp ∧ (State.gbyWritten s g).conv = s.conv ∧ (State.gbyWritten s g).sprint = s.sprint ∧ (State.gbyWritten s g).graph = s.graph ∧ (State.gbyWritten s g).rout = s.rout ∧ (State.gbyWritten s g).ports = s.ports ∧ (State.gbyWritten s g).link = s.link ∧ (State.gbyWritten s g).wake = s.wake ∧ (State.gbyWritten s g).free = s.free ∧ (State.gbyWritten s g).pending = s.pending := by
  simp only [State.gbyWritten]
  all_goals repeat' split
  all_goals simp

@[simp] theorem State.gbyArm_keeps (s : State) :
    (State.gbyArm s).clock = s.clock ∧ (State.gbyArm s).power = s.power ∧ (State.gbyArm s).synth = s.synth ∧ (State.gbyArm s).dpll = s.dpll ∧ (State.gbyArm s).ctl = s.ctl ∧ (State.gbyArm s).mram = s.mram ∧ (State.gbyArm s).cfg = s.cfg ∧ (State.gbyArm s).dep = s.dep ∧ (State.gbyArm s).log = s.log ∧ (State.gbyArm s).jtag = s.jtag ∧ (State.gbyArm s).inp = s.inp ∧ (State.gbyArm s).conv = s.conv ∧ (State.gbyArm s).sprint = s.sprint ∧ (State.gbyArm s).graph = s.graph ∧ (State.gbyArm s).rout = s.rout ∧ (State.gbyArm s).ports = s.ports ∧ (State.gbyArm s).link = s.link ∧ (State.gbyArm s).wake = s.wake ∧ (State.gbyArm s).free = s.free ∧ (State.gbyArm s).pending = s.pending := by
  simp only [State.gbyArm]
  all_goals simp

@[simp] theorem State.outputsArm_keeps (s : State) :
    (State.outputsArm s).clock = s.clock ∧ (State.outputsArm s).power = s.power ∧ (State.outputsArm s).synth = s.synth ∧ (State.outputsArm s).dpll = s.dpll ∧ (State.outputsArm s).ctl = s.ctl ∧ (State.outputsArm s).mram = s.mram ∧ (State.outputsArm s).cfg = s.cfg ∧ (State.outputsArm s).dep = s.dep ∧ (State.outputsArm s).log = s.log ∧ (State.outputsArm s).jtag = s.jtag ∧ (State.outputsArm s).inp = s.inp ∧ (State.outputsArm s).conv = s.conv ∧ (State.outputsArm s).sprint = s.sprint ∧ (State.outputsArm s).graph = s.graph ∧ (State.outputsArm s).rout = s.rout ∧ (State.outputsArm s).ports = s.ports ∧ (State.outputsArm s).link = s.link ∧ (State.outputsArm s).wake = s.wake ∧ (State.outputsArm s).free = s.free ∧ (State.outputsArm s).pending = s.pending := by
  simp only [State.outputsArm]
  all_goals simp

@[simp] theorem State.outputsLeave_keeps (s : State) :
    (State.outputsLeave s).clock = s.clock ∧ (State.outputsLeave s).power = s.power ∧ (State.outputsLeave s).synth = s.synth ∧ (State.outputsLeave s).dpll = s.dpll ∧ (State.outputsLeave s).ctl = s.ctl ∧ (State.outputsLeave s).mram = s.mram ∧ (State.outputsLeave s).cfg = s.cfg ∧ (State.outputsLeave s).dep = s.dep ∧ (State.outputsLeave s).log = s.log ∧ (State.outputsLeave s).jtag = s.jtag ∧ (State.outputsLeave s).inp = s.inp ∧ (State.outputsLeave s).conv = s.conv ∧ (State.outputsLeave s).sprint = s.sprint ∧ (State.outputsLeave s).graph = s.graph ∧ (State.outputsLeave s).rout = s.rout ∧ (State.outputsLeave s).ports = s.ports ∧ (State.outputsLeave s).link = s.link ∧ (State.outputsLeave s).wake = s.wake ∧ (State.outputsLeave s).free = s.free ∧ (State.outputsLeave s).pending = s.pending := by
  simp only [State.outputsLeave]
  all_goals simp

@[simp] theorem State.outputsIdle_keeps (s : State) :
    (State.outputsIdle s).clock = s.clock ∧ (State.outputsIdle s).power = s.power ∧ (State.outputsIdle s).synth = s.synth ∧ (State.outputsIdle s).dpll = s.dpll ∧ (State.outputsIdle s).bus = s.bus ∧ (State.outputsIdle s).ctl = s.ctl ∧ (State.outputsIdle s).mram = s.mram ∧ (State.outputsIdle s).cfg = s.cfg ∧ (State.outputsIdle s).dep = s.dep ∧ (State.outputsIdle s).log = s.log ∧ (State.outputsIdle s).jtag = s.jtag ∧ (State.outputsIdle s).inp = s.inp ∧ (State.outputsIdle s).conv = s.conv ∧ (State.outputsIdle s).sprint = s.sprint ∧ (State.outputsIdle s).graph = s.graph ∧ (State.outputsIdle s).rout = s.rout ∧ (State.outputsIdle s).ports = s.ports ∧ (State.outputsIdle s).link = s.link ∧ (State.outputsIdle s).wake = s.wake ∧ (State.outputsIdle s).free = s.free ∧ (State.outputsIdle s).pending = s.pending := by
  simp only [State.outputsIdle]
  all_goals simp

@[simp] theorem State.lastLap_keeps (s : State) :
    (State.lastLap s).clock = s.clock ∧ (State.lastLap s).power = s.power ∧ (State.lastLap s).synth = s.synth ∧ (State.lastLap s).dpll = s.dpll ∧ (State.lastLap s).ctl = s.ctl ∧ (State.lastLap s).mram = s.mram ∧ (State.lastLap s).cfg = s.cfg ∧ (State.lastLap s).dep = s.dep ∧ (State.lastLap s).log = s.log ∧ (State.lastLap s).jtag = s.jtag ∧ (State.lastLap s).inp = s.inp ∧ (State.lastLap s).conv = s.conv ∧ (State.lastLap s).sprint = s.sprint ∧ (State.lastLap s).graph = s.graph ∧ (State.lastLap s).rout = s.rout ∧ (State.lastLap s).ports = s.ports ∧ (State.lastLap s).link = s.link ∧ (State.lastLap s).wake = s.wake ∧ (State.lastLap s).free = s.free ∧ (State.lastLap s).pending = s.pending := by
  simp only [State.lastLap]
  all_goals simp

@[simp] theorem State.lapEnd_keeps (s : State) :
    (State.lapEnd s).clock = s.clock ∧ (State.lapEnd s).power = s.power ∧ (State.lapEnd s).synth = s.synth ∧ (State.lapEnd s).dpll = s.dpll ∧ (State.lapEnd s).bus = s.bus ∧ (State.lapEnd s).ctl = s.ctl ∧ (State.lapEnd s).mram = s.mram ∧ (State.lapEnd s).cfg = s.cfg ∧ (State.lapEnd s).dep = s.dep ∧ (State.lapEnd s).log = s.log ∧ (State.lapEnd s).jtag = s.jtag ∧ (State.lapEnd s).inp = s.inp ∧ (State.lapEnd s).conv = s.conv ∧ (State.lapEnd s).sprint = s.sprint ∧ (State.lapEnd s).graph = s.graph ∧ (State.lapEnd s).rout = s.rout ∧ (State.lapEnd s).ports = s.ports ∧ (State.lapEnd s).link = s.link ∧ (State.lapEnd s).wake = s.wake ∧ (State.lapEnd s).free = s.free ∧ (State.lapEnd s).pending = s.pending := by
  simp only [State.lapEnd]
  all_goals simp

@[simp] theorem State.clearOutputs_keeps (s : State) :
    (State.clearOutputs s).clock = s.clock ∧ (State.clearOutputs s).power = s.power ∧ (State.clearOutputs s).synth = s.synth ∧ (State.clearOutputs s).dpll = s.dpll ∧ (State.clearOutputs s).bus = s.bus ∧ (State.clearOutputs s).ctl = s.ctl ∧ (State.clearOutputs s).mram = s.mram ∧ (State.clearOutputs s).cfg = s.cfg ∧ (State.clearOutputs s).dep = s.dep ∧ (State.clearOutputs s).log = s.log ∧ (State.clearOutputs s).jtag = s.jtag ∧ (State.clearOutputs s).inp = s.inp ∧ (State.clearOutputs s).conv = s.conv ∧ (State.clearOutputs s).sprint = s.sprint ∧ (State.clearOutputs s).graph = s.graph ∧ (State.clearOutputs s).rout = s.rout ∧ (State.clearOutputs s).ports = s.ports ∧ (State.clearOutputs s).link = s.link ∧ (State.clearOutputs s).wake = s.wake ∧ (State.clearOutputs s).free = s.free ∧ (State.clearOutputs s).pending = s.pending := by
  simp only [State.clearOutputs]
  all_goals simp

@[simp] theorem State.modPort_keeps (s : State) (p : Nat) (f : Port → Port) :
    (State.modPort s p f).clock = s.clock ∧ (State.modPort s p f).power = s.power ∧ (State.modPort s p f).synth = s.synth ∧ (State.modPort s p f).dpll = s.dpll ∧ (State.modPort s p f).bus = s.bus ∧ (State.modPort s p f).ctl = s.ctl ∧ (State.modPort s p f).mram = s.mram ∧ (State.modPort s p f).cfg = s.cfg ∧ (State.modPort s p f).dep = s.dep ∧ (State.modPort s p f).log = s.log ∧ (State.modPort s p f).jtag = s.jtag ∧ (State.modPort s p f).inp = s.inp ∧ (State.modPort s p f).conv = s.conv ∧ (State.modPort s p f).sprint = s.sprint ∧ (State.modPort s p f).graph = s.graph ∧ (State.modPort s p f).rout = s.rout ∧ (State.modPort s p f).out = s.out ∧ (State.modPort s p f).link = s.link ∧ (State.modPort s p f).wake = s.wake ∧ (State.modPort s p f).free = s.free ∧ (State.modPort s p f).pending = s.pending := by
  simp only [State.modPort]
  all_goals simp

@[simp] theorem State.countSent_keeps (s : State) (p : Nat) :
    (State.countSent s p).clock = s.clock ∧ (State.countSent s p).power = s.power ∧ (State.countSent s p).synth = s.synth ∧ (State.countSent s p).dpll = s.dpll ∧ (State.countSent s p).bus = s.bus ∧ (State.countSent s p).ctl = s.ctl ∧ (State.countSent s p).mram = s.mram ∧ (State.countSent s p).cfg = s.cfg ∧ (State.countSent s p).dep = s.dep ∧ (State.countSent s p).jtag = s.jtag ∧ (State.countSent s p).inp = s.inp ∧ (State.countSent s p).conv = s.conv ∧ (State.countSent s p).sprint = s.sprint ∧ (State.countSent s p).graph = s.graph ∧ (State.countSent s p).rout = s.rout ∧ (State.countSent s p).out = s.out ∧ (State.countSent s p).link = s.link ∧ (State.countSent s p).wake = s.wake ∧ (State.countSent s p).free = s.free ∧ (State.countSent s p).pending = s.pending := by
  simp only [State.countSent]
  all_goals simp

@[simp] theorem State.settleStart_keeps (s : State) (p : Nat) :
    (State.settleStart s p).clock = s.clock ∧ (State.settleStart s p).power = s.power ∧ (State.settleStart s p).synth = s.synth ∧ (State.settleStart s p).dpll = s.dpll ∧ (State.settleStart s p).bus = s.bus ∧ (State.settleStart s p).ctl = s.ctl ∧ (State.settleStart s p).mram = s.mram ∧ (State.settleStart s p).cfg = s.cfg ∧ (State.settleStart s p).dep = s.dep ∧ (State.settleStart s p).log = s.log ∧ (State.settleStart s p).jtag = s.jtag ∧ (State.settleStart s p).inp = s.inp ∧ (State.settleStart s p).conv = s.conv ∧ (State.settleStart s p).sprint = s.sprint ∧ (State.settleStart s p).graph = s.graph ∧ (State.settleStart s p).rout = s.rout ∧ (State.settleStart s p).out = s.out ∧ (State.settleStart s p).link = s.link ∧ (State.settleStart s p).wake = s.wake ∧ (State.settleStart s p).free = s.free ∧ (State.settleStart s p).pending = s.pending := by
  simp only [State.settleStart]
  all_goals repeat' split
  all_goals simp

@[simp] theorem State.portExchange_keeps (s : State) (p : Nat) :
    (State.portExchange s p).clock = s.clock ∧ (State.portExchange s p).power = s.power ∧ (State.portExchange s p).synth = s.synth ∧ (State.portExchange s p).dpll = s.dpll ∧ (State.portExchange s p).ctl = s.ctl ∧ (State.portExchange s p).mram = s.mram ∧ (State.portExchange s p).cfg = s.cfg ∧ (State.portExchange s p).dep = s.dep ∧ (State.portExchange s p).jtag = s.jtag ∧ (State.portExchange s p).inp = s.inp ∧ (State.portExchange s p).conv = s.conv ∧ (State.portExchange s p).sprint = s.sprint ∧ (State.portExchange s p).graph = s.graph ∧ (State.portExchange s p).rout = s.rout ∧ (State.portExchange s p).out = s.out ∧ (State.portExchange s p).link = s.link ∧ (State.portExchange s p).wake = s.wake ∧ (State.portExchange s p).free = s.free ∧ (State.portExchange s p).pending = s.pending := by
  simp only [State.portExchange]
  all_goals repeat' split
  all_goals simp

@[simp] theorem State.portsOpen_keeps (s : State) :
    (State.portsOpen s).clock = s.clock ∧ (State.portsOpen s).power = s.power ∧ (State.portsOpen s).synth = s.synth ∧ (State.portsOpen s).dpll = s.dpll ∧ (State.portsOpen s).bus = s.bus ∧ (State.portsOpen s).ctl = s.ctl ∧ (State.portsOpen s).mram = s.mram ∧ (State.portsOpen s).cfg = s.cfg ∧ (State.portsOpen s).dep = s.dep ∧ (State.portsOpen s).log = s.log ∧ (State.portsOpen s).jtag = s.jtag ∧ (State.portsOpen s).inp = s.inp ∧ (State.portsOpen s).conv = s.conv ∧ (State.portsOpen s).sprint = s.sprint ∧ (State.portsOpen s).graph = s.graph ∧ (State.portsOpen s).rout = s.rout ∧ (State.portsOpen s).out = s.out ∧ (State.portsOpen s).link = s.link ∧ (State.portsOpen s).wake = s.wake ∧ (State.portsOpen s).pending = s.pending := by
  simp only [State.portsOpen]
  all_goals simp

@[simp] theorem State.gunFire_keeps (s0 : State) :
    (State.gunFire s0).clock = s0.clock ∧ (State.gunFire s0).power = s0.power ∧ (State.gunFire s0).synth = s0.synth ∧ (State.gunFire s0).dpll = s0.dpll ∧ (State.gunFire s0).bus = s0.bus ∧ (State.gunFire s0).ctl = s0.ctl ∧ (State.gunFire s0).mram = s0.mram ∧ (State.gunFire s0).cfg = s0.cfg ∧ (State.gunFire s0).dep = s0.dep ∧ (State.gunFire s0).jtag = s0.jtag ∧ (State.gunFire s0).inp = s0.inp ∧ (State.gunFire s0).conv = s0.conv ∧ (State.gunFire s0).sprint = s0.sprint ∧ (State.gunFire s0).graph = s0.graph ∧ (State.gunFire s0).rout = s0.rout ∧ (State.gunFire s0).out = s0.out ∧ (State.gunFire s0).wake = s0.wake ∧ (State.gunFire s0).free = s0.free ∧ (State.gunFire s0).pending = s0.pending := by
  simp only [State.gunFire]
  all_goals simp

@[simp] theorem State.portsArm_keeps (s : State) :
    (State.portsArm s).clock = s.clock ∧ (State.portsArm s).power = s.power ∧ (State.portsArm s).synth = s.synth ∧ (State.portsArm s).dpll = s.dpll ∧ (State.portsArm s).bus = s.bus ∧ (State.portsArm s).ctl = s.ctl ∧ (State.portsArm s).mram = s.mram ∧ (State.portsArm s).cfg = s.cfg ∧ (State.portsArm s).dep = s.dep ∧ (State.portsArm s).log = s.log ∧ (State.portsArm s).jtag = s.jtag ∧ (State.portsArm s).inp = s.inp ∧ (State.portsArm s).conv = s.conv ∧ (State.portsArm s).sprint = s.sprint ∧ (State.portsArm s).graph = s.graph ∧ (State.portsArm s).rout = s.rout ∧ (State.portsArm s).out = s.out ∧ (State.portsArm s).link = s.link ∧ (State.portsArm s).wake = s.wake ∧ (State.portsArm s).free = s.free ∧ (State.portsArm s).pending = s.pending := by
  simp only [State.portsArm]
  all_goals simp

@[simp] theorem State.portsLeave_keeps (s0 : State) :
    (State.portsLeave s0).clock = s0.clock ∧ (State.portsLeave s0).power = s0.power ∧ (State.portsLeave s0).synth = s0.synth ∧ (State.portsLeave s0).dpll = s0.dpll ∧ (State.portsLeave s0).bus = s0.bus ∧ (State.portsLeave s0).ctl = s0.ctl ∧ (State.portsLeave s0).mram = s0.mram ∧ (State.portsLeave s0).cfg = s0.cfg ∧ (State.portsLeave s0).dep = s0.dep ∧ (State.portsLeave s0).jtag = s0.jtag ∧ (State.portsLeave s0).inp = s0.inp ∧ (State.portsLeave s0).conv = s0.conv ∧ (State.portsLeave s0).sprint = s0.sprint ∧ (State.portsLeave s0).graph = s0.graph ∧ (State.portsLeave s0).rout = s0.rout ∧ (State.portsLeave s0).out = s0.out ∧ (State.portsLeave s0).link = s0.link ∧ (State.portsLeave s0).wake = s0.wake ∧ (State.portsLeave s0).free = s0.free ∧ (State.portsLeave s0).pending = s0.pending := by
  simp only [State.portsLeave]
  all_goals simp

@[simp] theorem State.portMaskWritten_keeps (s : State) (p : Nat) :
    (State.portMaskWritten s p).clock = s.clock ∧ (State.portMaskWritten s p).power = s.power ∧ (State.portMaskWritten s p).synth = s.synth ∧ (State.portMaskWritten s p).dpll = s.dpll ∧ (State.portMaskWritten s p).bus = s.bus ∧ (State.portMaskWritten s p).ctl = s.ctl ∧ (State.portMaskWritten s p).mram = s.mram ∧ (State.portMaskWritten s p).cfg = s.cfg ∧ (State.portMaskWritten s p).dep = s.dep ∧ (State.portMaskWritten s p).log = s.log ∧ (State.portMaskWritten s p).jtag = s.jtag ∧ (State.portMaskWritten s p).inp = s.inp ∧ (State.portMaskWritten s p).conv = s.conv ∧ (State.portMaskWritten s p).sprint = s.sprint ∧ (State.portMaskWritten s p).graph = s.graph ∧ (State.portMaskWritten s p).rout = s.rout ∧ (State.portMaskWritten s p).out = s.out ∧ (State.portMaskWritten s p).link = s.link ∧ (State.portMaskWritten s p).wake = s.wake ∧ (State.portMaskWritten s p).free = s.free ∧ (State.portMaskWritten s p).pending = s.pending := by
  simp only [State.portMaskWritten]
  all_goals simp

@[simp] theorem State.portClkWritten_keeps (s : State) (p : Nat) :
    (State.portClkWritten s p).clock = s.clock ∧ (State.portClkWritten s p).power = s.power ∧ (State.portClkWritten s p).synth = s.synth ∧ (State.portClkWritten s p).dpll = s.dpll ∧ (State.portClkWritten s p).bus = s.bus ∧ (State.portClkWritten s p).ctl = s.ctl ∧ (State.portClkWritten s p).mram = s.mram ∧ (State.portClkWritten s p).cfg = s.cfg ∧ (State.portClkWritten s p).dep = s.dep ∧ (State.portClkWritten s p).log = s.log ∧ (State.portClkWritten s p).jtag = s.jtag ∧ (State.portClkWritten s p).inp = s.inp ∧ (State.portClkWritten s p).conv = s.conv ∧ (State.portClkWritten s p).sprint = s.sprint ∧ (State.portClkWritten s p).graph = s.graph ∧ (State.portClkWritten s p).rout = s.rout ∧ (State.portClkWritten s p).out = s.out ∧ (State.portClkWritten s p).link = s.link ∧ (State.portClkWritten s p).wake = s.wake ∧ (State.portClkWritten s p).free = s.free ∧ (State.portClkWritten s p).pending = s.pending := by
  simp only [State.portClkWritten]
  all_goals repeat' split
  all_goals simp

@[simp] theorem State.portsUnmeasured_keeps (s : State) :
    (State.portsUnmeasured s).clock = s.clock ∧ (State.portsUnmeasured s).power = s.power ∧ (State.portsUnmeasured s).synth = s.synth ∧ (State.portsUnmeasured s).dpll = s.dpll ∧ (State.portsUnmeasured s).bus = s.bus ∧ (State.portsUnmeasured s).ctl = s.ctl ∧ (State.portsUnmeasured s).mram = s.mram ∧ (State.portsUnmeasured s).cfg = s.cfg ∧ (State.portsUnmeasured s).dep = s.dep ∧ (State.portsUnmeasured s).log = s.log ∧ (State.portsUnmeasured s).jtag = s.jtag ∧ (State.portsUnmeasured s).inp = s.inp ∧ (State.portsUnmeasured s).conv = s.conv ∧ (State.portsUnmeasured s).sprint = s.sprint ∧ (State.portsUnmeasured s).graph = s.graph ∧ (State.portsUnmeasured s).rout = s.rout ∧ (State.portsUnmeasured s).out = s.out ∧ (State.portsUnmeasured s).link = s.link ∧ (State.portsUnmeasured s).wake = s.wake ∧ (State.portsUnmeasured s).free = s.free ∧ (State.portsUnmeasured s).pending = s.pending := by
  simp only [State.portsUnmeasured]
  all_goals simp

@[simp] theorem State.clearPorts_keeps (s : State) :
    (State.clearPorts s).clock = s.clock ∧ (State.clearPorts s).power = s.power ∧ (State.clearPorts s).synth = s.synth ∧ (State.clearPorts s).dpll = s.dpll ∧ (State.clearPorts s).bus = s.bus ∧ (State.clearPorts s).ctl = s.ctl ∧ (State.clearPorts s).mram = s.mram ∧ (State.clearPorts s).cfg = s.cfg ∧ (State.clearPorts s).dep = s.dep ∧ (State.clearPorts s).log = s.log ∧ (State.clearPorts s).jtag = s.jtag ∧ (State.clearPorts s).inp = s.inp ∧ (State.clearPorts s).conv = s.conv ∧ (State.clearPorts s).sprint = s.sprint ∧ (State.clearPorts s).graph = s.graph ∧ (State.clearPorts s).rout = s.rout ∧ (State.clearPorts s).out = s.out ∧ (State.clearPorts s).link = s.link ∧ (State.clearPorts s).wake = s.wake ∧ (State.clearPorts s).free = s.free ∧ (State.clearPorts s).pending = s.pending := by
  simp only [State.clearPorts]
  all_goals simp

@[simp] theorem State.modLink_keeps (s : State) (x : Nat) (f : LinkPort → LinkPort) :
    (State.modLink s x f).clock = s.clock ∧ (State.modLink s x f).power = s.power ∧ (State.modLink s x f).synth = s.synth ∧ (State.modLink s x f).dpll = s.dpll ∧ (State.modLink s x f).bus = s.bus ∧ (State.modLink s x f).ctl = s.ctl ∧ (State.modLink s x f).mram = s.mram ∧ (State.modLink s x f).cfg = s.cfg ∧ (State.modLink s x f).dep = s.dep ∧ (State.modLink s x f).log = s.log ∧ (State.modLink s x f).jtag = s.jtag ∧ (State.modLink s x f).inp = s.inp ∧ (State.modLink s x f).conv = s.conv ∧ (State.modLink s x f).sprint = s.sprint ∧ (State.modLink s x f).graph = s.graph ∧ (State.modLink s x f).rout = s.rout ∧ (State.modLink s x f).out = s.out ∧ (State.modLink s x f).ports = s.ports ∧ (State.modLink s x f).wake = s.wake ∧ (State.modLink s x f).free = s.free ∧ (State.modLink s x f).pending = s.pending := by
  simp only [State.modLink]
  all_goals simp

@[simp] theorem State.linkSwapped_keeps (s : State) (old : Tab Byte) :
    (State.linkSwapped s old).clock = s.clock ∧ (State.linkSwapped s old).power = s.power ∧ (State.linkSwapped s old).synth = s.synth ∧ (State.linkSwapped s old).dpll = s.dpll ∧ (State.linkSwapped s old).bus = s.bus ∧ (State.linkSwapped s old).ctl = s.ctl ∧ (State.linkSwapped s old).mram = s.mram ∧ (State.linkSwapped s old).cfg = s.cfg ∧ (State.linkSwapped s old).dep = s.dep ∧ (State.linkSwapped s old).log = s.log ∧ (State.linkSwapped s old).jtag = s.jtag ∧ (State.linkSwapped s old).inp = s.inp ∧ (State.linkSwapped s old).conv = s.conv ∧ (State.linkSwapped s old).sprint = s.sprint ∧ (State.linkSwapped s old).graph = s.graph ∧ (State.linkSwapped s old).rout = s.rout ∧ (State.linkSwapped s old).out = s.out ∧ (State.linkSwapped s old).ports = s.ports ∧ (State.linkSwapped s old).wake = s.wake ∧ (State.linkSwapped s old).free = s.free ∧ (State.linkSwapped s old).pending = s.pending := by
  simp only [State.linkSwapped]
  all_goals repeat' split
  all_goals simp

@[simp] theorem State.sendFrame_keeps (s : State) (y t : Nat) (f : LinkFrame) :
    (State.sendFrame s y t f).clock = s.clock ∧ (State.sendFrame s y t f).power = s.power ∧ (State.sendFrame s y t f).synth = s.synth ∧ (State.sendFrame s y t f).dpll = s.dpll ∧ (State.sendFrame s y t f).bus = s.bus ∧ (State.sendFrame s y t f).ctl = s.ctl ∧ (State.sendFrame s y t f).mram = s.mram ∧ (State.sendFrame s y t f).cfg = s.cfg ∧ (State.sendFrame s y t f).dep = s.dep ∧ (State.sendFrame s y t f).log = s.log ∧ (State.sendFrame s y t f).jtag = s.jtag ∧ (State.sendFrame s y t f).inp = s.inp ∧ (State.sendFrame s y t f).conv = s.conv ∧ (State.sendFrame s y t f).sprint = s.sprint ∧ (State.sendFrame s y t f).graph = s.graph ∧ (State.sendFrame s y t f).rout = s.rout ∧ (State.sendFrame s y t f).out = s.out ∧ (State.sendFrame s y t f).ports = s.ports ∧ (State.sendFrame s y t f).wake = s.wake ∧ (State.sendFrame s y t f).free = s.free ∧ (State.sendFrame s y t f).pending = s.pending := by
  simp only [State.sendFrame]
  all_goals repeat' split
  all_goals simp

@[simp] theorem State.takeGun_keeps (s : State) (f : LinkFrame) :
    (State.takeGun s f).clock = s.clock ∧ (State.takeGun s f).power = s.power ∧ (State.takeGun s f).synth = s.synth ∧ (State.takeGun s f).dpll = s.dpll ∧ (State.takeGun s f).bus = s.bus ∧ (State.takeGun s f).ctl = s.ctl ∧ (State.takeGun s f).mram = s.mram ∧ (State.takeGun s f).cfg = s.cfg ∧ (State.takeGun s f).dep = s.dep ∧ (State.takeGun s f).log = s.log ∧ (State.takeGun s f).jtag = s.jtag ∧ (State.takeGun s f).inp = s.inp ∧ (State.takeGun s f).conv = s.conv ∧ (State.takeGun s f).sprint = s.sprint ∧ (State.takeGun s f).graph = s.graph ∧ (State.takeGun s f).rout = s.rout ∧ (State.takeGun s f).out = s.out ∧ (State.takeGun s f).ports = s.ports ∧ (State.takeGun s f).wake = s.wake ∧ (State.takeGun s f).free = s.free ∧ (State.takeGun s f).pending = s.pending := by
  simp only [State.takeGun]
  all_goals repeat' split
  all_goals simp

@[simp] theorem State.adopt_keeps (s : State) (x : Nat) (f : LinkFrame) :
    (State.adopt s x f).clock = s.clock ∧ (State.adopt s x f).power = s.power ∧ (State.adopt s x f).synth = s.synth ∧ (State.adopt s x f).dpll = s.dpll ∧ (State.adopt s x f).bus = s.bus ∧ (State.adopt s x f).ctl = s.ctl ∧ (State.adopt s x f).mram = s.mram ∧ (State.adopt s x f).cfg = s.cfg ∧ (State.adopt s x f).dep = s.dep ∧ (State.adopt s x f).log = s.log ∧ (State.adopt s x f).jtag = s.jtag ∧ (State.adopt s x f).inp = s.inp ∧ (State.adopt s x f).conv = s.conv ∧ (State.adopt s x f).sprint = s.sprint ∧ (State.adopt s x f).graph = s.graph ∧ (State.adopt s x f).rout = s.rout ∧ (State.adopt s x f).out = s.out ∧ (State.adopt s x f).ports = s.ports ∧ (State.adopt s x f).wake = s.wake ∧ (State.adopt s x f).free = s.free ∧ (State.adopt s x f).pending = s.pending := by
  simp only [State.adopt]
  all_goals repeat' split
  all_goals simp

@[simp] theorem State.carryCells_keeps (s : State) (x : Nat) (f : LinkFrame) :
    (State.carryCells s x f).clock = s.clock ∧ (State.carryCells s x f).power = s.power ∧ (State.carryCells s x f).synth = s.synth ∧ (State.carryCells s x f).dpll = s.dpll ∧ (State.carryCells s x f).bus = s.bus ∧ (State.carryCells s x f).ctl = s.ctl ∧ (State.carryCells s x f).mram = s.mram ∧ (State.carryCells s x f).cfg = s.cfg ∧ (State.carryCells s x f).dep = s.dep ∧ (State.carryCells s x f).log = s.log ∧ (State.carryCells s x f).jtag = s.jtag ∧ (State.carryCells s x f).inp = s.inp ∧ (State.carryCells s x f).conv = s.conv ∧ (State.carryCells s x f).sprint = s.sprint ∧ (State.carryCells s x f).graph = s.graph ∧ (State.carryCells s x f).rout = s.rout ∧ (State.carryCells s x f).out = s.out ∧ (State.carryCells s x f).ports = s.ports ∧ (State.carryCells s x f).wake = s.wake ∧ (State.carryCells s x f).free = s.free ∧ (State.carryCells s x f).pending = s.pending := by
  simp only [State.carryCells]
  all_goals repeat' split
  all_goals simp

@[simp] theorem State.passFrame_keeps (s : State) (x t : Nat) (f : LinkFrame) :
    (State.passFrame s x t f).clock = s.clock ∧ (State.passFrame s x t f).power = s.power ∧ (State.passFrame s x t f).synth = s.synth ∧ (State.passFrame s x t f).dpll = s.dpll ∧ (State.passFrame s x t f).bus = s.bus ∧ (State.passFrame s x t f).ctl = s.ctl ∧ (State.passFrame s x t f).mram = s.mram ∧ (State.passFrame s x t f).cfg = s.cfg ∧ (State.passFrame s x t f).dep = s.dep ∧ (State.passFrame s x t f).log = s.log ∧ (State.passFrame s x t f).jtag = s.jtag ∧ (State.passFrame s x t f).inp = s.inp ∧ (State.passFrame s x t f).conv = s.conv ∧ (State.passFrame s x t f).sprint = s.sprint ∧ (State.passFrame s x t f).graph = s.graph ∧ (State.passFrame s x t f).rout = s.rout ∧ (State.passFrame s x t f).out = s.out ∧ (State.passFrame s x t f).ports = s.ports ∧ (State.passFrame s x t f).wake = s.wake ∧ (State.passFrame s x t f).pending = s.pending := by
  simp only [State.passFrame]
  all_goals repeat' split
  all_goals simp

@[simp] theorem State.keepFrame_keeps (s : State) (x : Nat) (f : LinkFrame) :
    (State.keepFrame s x f).clock = s.clock ∧ (State.keepFrame s x f).power = s.power ∧ (State.keepFrame s x f).synth = s.synth ∧ (State.keepFrame s x f).dpll = s.dpll ∧ (State.keepFrame s x f).bus = s.bus ∧ (State.keepFrame s x f).ctl = s.ctl ∧ (State.keepFrame s x f).mram = s.mram ∧ (State.keepFrame s x f).cfg = s.cfg ∧ (State.keepFrame s x f).dep = s.dep ∧ (State.keepFrame s x f).log = s.log ∧ (State.keepFrame s x f).jtag = s.jtag ∧ (State.keepFrame s x f).inp = s.inp ∧ (State.keepFrame s x f).conv = s.conv ∧ (State.keepFrame s x f).sprint = s.sprint ∧ (State.keepFrame s x f).graph = s.graph ∧ (State.keepFrame s x f).rout = s.rout ∧ (State.keepFrame s x f).out = s.out ∧ (State.keepFrame s x f).ports = s.ports ∧ (State.keepFrame s x f).wake = s.wake ∧ (State.keepFrame s x f).free = s.free ∧ (State.keepFrame s x f).pending = s.pending := by
  simp only [State.keepFrame]
  all_goals simp

@[simp] theorem State.rxRead_keeps (s : State) :
    (State.rxRead s).clock = s.clock ∧ (State.rxRead s).power = s.power ∧ (State.rxRead s).synth = s.synth ∧ (State.rxRead s).dpll = s.dpll ∧ (State.rxRead s).bus = s.bus ∧ (State.rxRead s).ctl = s.ctl ∧ (State.rxRead s).mram = s.mram ∧ (State.rxRead s).cfg = s.cfg ∧ (State.rxRead s).dep = s.dep ∧ (State.rxRead s).log = s.log ∧ (State.rxRead s).jtag = s.jtag ∧ (State.rxRead s).inp = s.inp ∧ (State.rxRead s).conv = s.conv ∧ (State.rxRead s).sprint = s.sprint ∧ (State.rxRead s).graph = s.graph ∧ (State.rxRead s).rout = s.rout ∧ (State.rxRead s).out = s.out ∧ (State.rxRead s).ports = s.ports ∧ (State.rxRead s).wake = s.wake ∧ (State.rxRead s).pending = s.pending := by
  simp only [State.rxRead]
  all_goals simp

@[simp] theorem State.elect_keeps (s : State) (out : TopoEntry → Bool) :
    (State.elect s out).clock = s.clock ∧ (State.elect s out).power = s.power ∧ (State.elect s out).synth = s.synth ∧ (State.elect s out).dpll = s.dpll ∧ (State.elect s out).bus = s.bus ∧ (State.elect s out).ctl = s.ctl ∧ (State.elect s out).mram = s.mram ∧ (State.elect s out).cfg = s.cfg ∧ (State.elect s out).dep = s.dep ∧ (State.elect s out).log = s.log ∧ (State.elect s out).jtag = s.jtag ∧ (State.elect s out).inp = s.inp ∧ (State.elect s out).conv = s.conv ∧ (State.elect s out).sprint = s.sprint ∧ (State.elect s out).graph = s.graph ∧ (State.elect s out).rout = s.rout ∧ (State.elect s out).out = s.out ∧ (State.elect s out).ports = s.ports ∧ (State.elect s out).wake = s.wake ∧ (State.elect s out).free = s.free ∧ (State.elect s out).pending = s.pending := by
  simp only [State.elect]
  all_goals simp

@[simp] theorem State.announceRing_keeps (s : State) :
    (State.announceRing s).clock = s.clock ∧ (State.announceRing s).power = s.power ∧ (State.announceRing s).synth = s.synth ∧ (State.announceRing s).dpll = s.dpll ∧ (State.announceRing s).bus = s.bus ∧ (State.announceRing s).ctl = s.ctl ∧ (State.announceRing s).mram = s.mram ∧ (State.announceRing s).cfg = s.cfg ∧ (State.announceRing s).dep = s.dep ∧ (State.announceRing s).log = s.log ∧ (State.announceRing s).jtag = s.jtag ∧ (State.announceRing s).inp = s.inp ∧ (State.announceRing s).conv = s.conv ∧ (State.announceRing s).sprint = s.sprint ∧ (State.announceRing s).graph = s.graph ∧ (State.announceRing s).rout = s.rout ∧ (State.announceRing s).out = s.out ∧ (State.announceRing s).ports = s.ports ∧ (State.announceRing s).wake = s.wake ∧ (State.announceRing s).free = s.free ∧ (State.announceRing s).pending = s.pending := by
  simp only [State.announceRing]
  all_goals simp

@[simp] theorem State.announceReturn_keeps (s : State) (back : Option Nat) :
    (State.announceReturn s back).clock = s.clock ∧ (State.announceReturn s back).power = s.power ∧ (State.announceReturn s back).synth = s.synth ∧ (State.announceReturn s back).dpll = s.dpll ∧ (State.announceReturn s back).bus = s.bus ∧ (State.announceReturn s back).ctl = s.ctl ∧ (State.announceReturn s back).mram = s.mram ∧ (State.announceReturn s back).cfg = s.cfg ∧ (State.announceReturn s back).dep = s.dep ∧ (State.announceReturn s back).log = s.log ∧ (State.announceReturn s back).jtag = s.jtag ∧ (State.announceReturn s back).inp = s.inp ∧ (State.announceReturn s back).conv = s.conv ∧ (State.announceReturn s back).sprint = s.sprint ∧ (State.announceReturn s back).graph = s.graph ∧ (State.announceReturn s back).rout = s.rout ∧ (State.announceReturn s back).out = s.out ∧ (State.announceReturn s back).ports = s.ports ∧ (State.announceReturn s back).wake = s.wake ∧ (State.announceReturn s back).free = s.free ∧ (State.announceReturn s back).pending = s.pending := by
  simp only [State.announceReturn]
  all_goals repeat' split
  all_goals simp

@[simp] theorem State.takeSystem_keeps (s : State) (pace : Nat) (identity : BitVec 64) (tick : BitVec 48) (l k : Nat) :
    (State.takeSystem s pace identity tick l k).power = s.power ∧ (State.takeSystem s pace identity tick l k).synth = s.synth ∧ (State.takeSystem s pace identity tick l k).dpll = s.dpll ∧ (State.takeSystem s pace identity tick l k).bus = s.bus ∧ (State.takeSystem s pace identity tick l k).ctl = s.ctl ∧ (State.takeSystem s pace identity tick l k).mram = s.mram ∧ (State.takeSystem s pace identity tick l k).cfg = s.cfg ∧ (State.takeSystem s pace identity tick l k).dep = s.dep ∧ (State.takeSystem s pace identity tick l k).log = s.log ∧ (State.takeSystem s pace identity tick l k).jtag = s.jtag ∧ (State.takeSystem s pace identity tick l k).inp = s.inp ∧ (State.takeSystem s pace identity tick l k).conv = s.conv ∧ (State.takeSystem s pace identity tick l k).sprint = s.sprint ∧ (State.takeSystem s pace identity tick l k).graph = s.graph ∧ (State.takeSystem s pace identity tick l k).rout = s.rout ∧ (State.takeSystem s pace identity tick l k).out = s.out ∧ (State.takeSystem s pace identity tick l k).ports = s.ports ∧ (State.takeSystem s pace identity tick l k).wake = s.wake ∧ (State.takeSystem s pace identity tick l k).free = s.free ∧ (State.takeSystem s pace identity tick l k).pending = s.pending := by
  simp only [State.takeSystem]
  all_goals repeat' split
  all_goals simp

@[simp] theorem State.judgeIds_keeps (s : State) :
    (State.judgeIds s).clock = s.clock ∧ (State.judgeIds s).power = s.power ∧ (State.judgeIds s).synth = s.synth ∧ (State.judgeIds s).dpll = s.dpll ∧ (State.judgeIds s).bus = s.bus ∧ (State.judgeIds s).ctl = s.ctl ∧ (State.judgeIds s).mram = s.mram ∧ (State.judgeIds s).cfg = s.cfg ∧ (State.judgeIds s).dep = s.dep ∧ (State.judgeIds s).log = s.log ∧ (State.judgeIds s).jtag = s.jtag ∧ (State.judgeIds s).inp = s.inp ∧ (State.judgeIds s).conv = s.conv ∧ (State.judgeIds s).sprint = s.sprint ∧ (State.judgeIds s).graph = s.graph ∧ (State.judgeIds s).rout = s.rout ∧ (State.judgeIds s).out = s.out ∧ (State.judgeIds s).ports = s.ports ∧ (State.judgeIds s).wake = s.wake ∧ (State.judgeIds s).free = s.free ∧ (State.judgeIds s).pending = s.pending := by
  simp only [State.judgeIds]
  all_goals simp

@[simp] theorem State.sysGun_keeps (s : State) (mask tick : Nat) :
    (State.sysGun s mask tick).clock = s.clock ∧ (State.sysGun s mask tick).power = s.power ∧ (State.sysGun s mask tick).synth = s.synth ∧ (State.sysGun s mask tick).dpll = s.dpll ∧ (State.sysGun s mask tick).bus = s.bus ∧ (State.sysGun s mask tick).ctl = s.ctl ∧ (State.sysGun s mask tick).mram = s.mram ∧ (State.sysGun s mask tick).cfg = s.cfg ∧ (State.sysGun s mask tick).dep = s.dep ∧ (State.sysGun s mask tick).log = s.log ∧ (State.sysGun s mask tick).jtag = s.jtag ∧ (State.sysGun s mask tick).inp = s.inp ∧ (State.sysGun s mask tick).conv = s.conv ∧ (State.sysGun s mask tick).sprint = s.sprint ∧ (State.sysGun s mask tick).graph = s.graph ∧ (State.sysGun s mask tick).rout = s.rout ∧ (State.sysGun s mask tick).out = s.out ∧ (State.sysGun s mask tick).ports = s.ports ∧ (State.sysGun s mask tick).wake = s.wake ∧ (State.sysGun s mask tick).free = s.free ∧ (State.sysGun s mask tick).pending = s.pending := by
  simp only [State.sysGun]
  all_goals simp

@[simp] theorem State.takeId_keeps (s : State) (id : Nat) :
    (State.takeId s id).clock = s.clock ∧ (State.takeId s id).power = s.power ∧ (State.takeId s id).synth = s.synth ∧ (State.takeId s id).dpll = s.dpll ∧ (State.takeId s id).bus = s.bus ∧ (State.takeId s id).ctl = s.ctl ∧ (State.takeId s id).mram = s.mram ∧ (State.takeId s id).cfg = s.cfg ∧ (State.takeId s id).dep = s.dep ∧ (State.takeId s id).log = s.log ∧ (State.takeId s id).jtag = s.jtag ∧ (State.takeId s id).inp = s.inp ∧ (State.takeId s id).conv = s.conv ∧ (State.takeId s id).sprint = s.sprint ∧ (State.takeId s id).graph = s.graph ∧ (State.takeId s id).rout = s.rout ∧ (State.takeId s id).out = s.out ∧ (State.takeId s id).ports = s.ports ∧ (State.takeId s id).wake = s.wake ∧ (State.takeId s id).free = s.free ∧ (State.takeId s id).pending = s.pending := by
  simp only [State.takeId]
  all_goals repeat' split
  all_goals simp

@[simp] theorem State.clearLink_keeps (s : State) :
    (State.clearLink s).clock = s.clock ∧ (State.clearLink s).power = s.power ∧ (State.clearLink s).synth = s.synth ∧ (State.clearLink s).dpll = s.dpll ∧ (State.clearLink s).bus = s.bus ∧ (State.clearLink s).ctl = s.ctl ∧ (State.clearLink s).mram = s.mram ∧ (State.clearLink s).cfg = s.cfg ∧ (State.clearLink s).dep = s.dep ∧ (State.clearLink s).log = s.log ∧ (State.clearLink s).jtag = s.jtag ∧ (State.clearLink s).inp = s.inp ∧ (State.clearLink s).conv = s.conv ∧ (State.clearLink s).sprint = s.sprint ∧ (State.clearLink s).graph = s.graph ∧ (State.clearLink s).rout = s.rout ∧ (State.clearLink s).out = s.out ∧ (State.clearLink s).ports = s.ports ∧ (State.clearLink s).wake = s.wake ∧ (State.clearLink s).free = s.free ∧ (State.clearLink s).pending = s.pending := by
  simp only [State.clearLink]
  all_goals simp

@[simp] theorem State.linkStart_keeps (s : State) :
    (State.linkStart s).clock = s.clock ∧ (State.linkStart s).power = s.power ∧ (State.linkStart s).synth = s.synth ∧ (State.linkStart s).dpll = s.dpll ∧ (State.linkStart s).bus = s.bus ∧ (State.linkStart s).ctl = s.ctl ∧ (State.linkStart s).mram = s.mram ∧ (State.linkStart s).cfg = s.cfg ∧ (State.linkStart s).dep = s.dep ∧ (State.linkStart s).log = s.log ∧ (State.linkStart s).jtag = s.jtag ∧ (State.linkStart s).inp = s.inp ∧ (State.linkStart s).conv = s.conv ∧ (State.linkStart s).sprint = s.sprint ∧ (State.linkStart s).graph = s.graph ∧ (State.linkStart s).rout = s.rout ∧ (State.linkStart s).out = s.out ∧ (State.linkStart s).ports = s.ports ∧ (State.linkStart s).wake = s.wake ∧ (State.linkStart s).free = s.free ∧ (State.linkStart s).pending = s.pending := by
  simp only [State.linkStart]
  all_goals simp

@[simp] theorem State.linkStop_keeps (s : State) :
    (State.linkStop s).clock = s.clock ∧ (State.linkStop s).power = s.power ∧ (State.linkStop s).synth = s.synth ∧ (State.linkStop s).dpll = s.dpll ∧ (State.linkStop s).bus = s.bus ∧ (State.linkStop s).ctl = s.ctl ∧ (State.linkStop s).mram = s.mram ∧ (State.linkStop s).cfg = s.cfg ∧ (State.linkStop s).dep = s.dep ∧ (State.linkStop s).log = s.log ∧ (State.linkStop s).jtag = s.jtag ∧ (State.linkStop s).inp = s.inp ∧ (State.linkStop s).conv = s.conv ∧ (State.linkStop s).sprint = s.sprint ∧ (State.linkStop s).graph = s.graph ∧ (State.linkStop s).rout = s.rout ∧ (State.linkStop s).out = s.out ∧ (State.linkStop s).ports = s.ports ∧ (State.linkStop s).wake = s.wake ∧ (State.linkStop s).free = s.free ∧ (State.linkStop s).pending = s.pending := by
  simp only [State.linkStop]
  all_goals simp

@[simp] theorem State.linkWritten_keeps (s : State) :
    (State.linkWritten s).clock = s.clock ∧ (State.linkWritten s).power = s.power ∧ (State.linkWritten s).synth = s.synth ∧ (State.linkWritten s).dpll = s.dpll ∧ (State.linkWritten s).bus = s.bus ∧ (State.linkWritten s).ctl = s.ctl ∧ (State.linkWritten s).mram = s.mram ∧ (State.linkWritten s).cfg = s.cfg ∧ (State.linkWritten s).dep = s.dep ∧ (State.linkWritten s).log = s.log ∧ (State.linkWritten s).jtag = s.jtag ∧ (State.linkWritten s).inp = s.inp ∧ (State.linkWritten s).conv = s.conv ∧ (State.linkWritten s).sprint = s.sprint ∧ (State.linkWritten s).graph = s.graph ∧ (State.linkWritten s).rout = s.rout ∧ (State.linkWritten s).out = s.out ∧ (State.linkWritten s).ports = s.ports ∧ (State.linkWritten s).wake = s.wake ∧ (State.linkWritten s).free = s.free ∧ (State.linkWritten s).pending = s.pending := by
  simp only [State.linkWritten]
  all_goals repeat' split
  all_goals simp

@[simp] theorem State.setSteer_keeps (s : State) (v : Int) :
    (State.setSteer s v).clock = s.clock ∧ (State.setSteer s v).power = s.power ∧ (State.setSteer s v).dpll = s.dpll ∧ (State.setSteer s v).bus = s.bus ∧ (State.setSteer s v).ctl = s.ctl ∧ (State.setSteer s v).mram = s.mram ∧ (State.setSteer s v).dep = s.dep ∧ (State.setSteer s v).log = s.log ∧ (State.setSteer s v).jtag = s.jtag ∧ (State.setSteer s v).inp = s.inp ∧ (State.setSteer s v).conv = s.conv ∧ (State.setSteer s v).sprint = s.sprint ∧ (State.setSteer s v).graph = s.graph ∧ (State.setSteer s v).rout = s.rout ∧ (State.setSteer s v).out = s.out ∧ (State.setSteer s v).ports = s.ports ∧ (State.setSteer s v).link = s.link ∧ (State.setSteer s v).wake = s.wake ∧ (State.setSteer s v).free = s.free ∧ (State.setSteer s v).pending = s.pending := by
  simp only [State.setSteer]
  all_goals simp

@[simp] theorem State.loseLock_keeps (s : State) :
    (State.loseLock s).clock = s.clock ∧ (State.loseLock s).power = s.power ∧ (State.loseLock s).dpll = s.dpll ∧ (State.loseLock s).ctl = s.ctl ∧ (State.loseLock s).mram = s.mram ∧ (State.loseLock s).cfg = s.cfg ∧ (State.loseLock s).dep = s.dep ∧ (State.loseLock s).jtag = s.jtag ∧ (State.loseLock s).inp = s.inp ∧ (State.loseLock s).conv = s.conv ∧ (State.loseLock s).sprint = s.sprint ∧ (State.loseLock s).graph = s.graph ∧ (State.loseLock s).rout = s.rout ∧ (State.loseLock s).out = s.out ∧ (State.loseLock s).ports = s.ports ∧ (State.loseLock s).link = s.link ∧ (State.loseLock s).wake = s.wake ∧ (State.loseLock s).free = s.free ∧ (State.loseLock s).pending = s.pending := by
  simp only [State.loseLock]
  all_goals repeat' split
  all_goals simp

@[simp] theorem State.compared_keeps (s : State) (errs : List Int) :
    (State.compared s errs).clock = s.clock ∧ (State.compared s errs).power = s.power ∧ (State.compared s errs).dpll = s.dpll ∧ (State.compared s errs).bus = s.bus ∧ (State.compared s errs).ctl = s.ctl ∧ (State.compared s errs).mram = s.mram ∧ (State.compared s errs).cfg = s.cfg ∧ (State.compared s errs).dep = s.dep ∧ (State.compared s errs).log = s.log ∧ (State.compared s errs).jtag = s.jtag ∧ (State.compared s errs).inp = s.inp ∧ (State.compared s errs).conv = s.conv ∧ (State.compared s errs).sprint = s.sprint ∧ (State.compared s errs).graph = s.graph ∧ (State.compared s errs).rout = s.rout ∧ (State.compared s errs).out = s.out ∧ (State.compared s errs).ports = s.ports ∧ (State.compared s errs).link = s.link ∧ (State.compared s errs).wake = s.wake ∧ (State.compared s errs).free = s.free ∧ (State.compared s errs).pending = s.pending := by
  simp only [State.compared]
  all_goals repeat' split
  all_goals simp

@[simp] theorem State.xoFreqWritten_keeps (s : State) (f : Nat) :
    (State.xoFreqWritten s f).clock = s.clock ∧ (State.xoFreqWritten s f).power = s.power ∧ (State.xoFreqWritten s f).dpll = s.dpll ∧ (State.xoFreqWritten s f).ctl = s.ctl ∧ (State.xoFreqWritten s f).mram = s.mram ∧ (State.xoFreqWritten s f).cfg = s.cfg ∧ (State.xoFreqWritten s f).dep = s.dep ∧ (State.xoFreqWritten s f).jtag = s.jtag ∧ (State.xoFreqWritten s f).inp = s.inp ∧ (State.xoFreqWritten s f).conv = s.conv ∧ (State.xoFreqWritten s f).sprint = s.sprint ∧ (State.xoFreqWritten s f).graph = s.graph ∧ (State.xoFreqWritten s f).rout = s.rout ∧ (State.xoFreqWritten s f).out = s.out ∧ (State.xoFreqWritten s f).ports = s.ports ∧ (State.xoFreqWritten s f).link = s.link ∧ (State.xoFreqWritten s f).wake = s.wake ∧ (State.xoFreqWritten s f).free = s.free ∧ (State.xoFreqWritten s f).pending = s.pending := by
  simp only [State.xoFreqWritten]
  all_goals simp

@[simp] theorem State.ckOutWritten_keeps (s : State) (o : Nat) :
    (State.ckOutWritten s o).clock = s.clock ∧ (State.ckOutWritten s o).power = s.power ∧ (State.ckOutWritten s o).dpll = s.dpll ∧ (State.ckOutWritten s o).bus = s.bus ∧ (State.ckOutWritten s o).ctl = s.ctl ∧ (State.ckOutWritten s o).mram = s.mram ∧ (State.ckOutWritten s o).cfg = s.cfg ∧ (State.ckOutWritten s o).dep = s.dep ∧ (State.ckOutWritten s o).log = s.log ∧ (State.ckOutWritten s o).jtag = s.jtag ∧ (State.ckOutWritten s o).inp = s.inp ∧ (State.ckOutWritten s o).conv = s.conv ∧ (State.ckOutWritten s o).sprint = s.sprint ∧ (State.ckOutWritten s o).graph = s.graph ∧ (State.ckOutWritten s o).rout = s.rout ∧ (State.ckOutWritten s o).out = s.out ∧ (State.ckOutWritten s o).ports = s.ports ∧ (State.ckOutWritten s o).link = s.link ∧ (State.ckOutWritten s o).wake = s.wake ∧ (State.ckOutWritten s o).free = s.free ∧ (State.ckOutWritten s o).pending = s.pending := by
  simp only [State.ckOutWritten]
  all_goals simp

@[simp] theorem State.clearClocks_keeps (s : State) :
    (State.clearClocks s).clock = s.clock ∧ (State.clearClocks s).power = s.power ∧ (State.clearClocks s).dpll = s.dpll ∧ (State.clearClocks s).bus = s.bus ∧ (State.clearClocks s).ctl = s.ctl ∧ (State.clearClocks s).mram = s.mram ∧ (State.clearClocks s).cfg = s.cfg ∧ (State.clearClocks s).dep = s.dep ∧ (State.clearClocks s).log = s.log ∧ (State.clearClocks s).jtag = s.jtag ∧ (State.clearClocks s).inp = s.inp ∧ (State.clearClocks s).conv = s.conv ∧ (State.clearClocks s).sprint = s.sprint ∧ (State.clearClocks s).graph = s.graph ∧ (State.clearClocks s).rout = s.rout ∧ (State.clearClocks s).out = s.out ∧ (State.clearClocks s).ports = s.ports ∧ (State.clearClocks s).link = s.link ∧ (State.clearClocks s).wake = s.wake ∧ (State.clearClocks s).free = s.free ∧ (State.clearClocks s).pending = s.pending := by
  simp only [State.clearClocks]
  all_goals simp

@[simp] theorem State.refChange_keeps (s : State) (n : Nat) (r : RefSource) :
    (State.refChange s n r).clock = s.clock ∧ (State.refChange s n r).power = s.power ∧ (State.refChange s n r).synth = s.synth ∧ (State.refChange s n r).ctl = s.ctl ∧ (State.refChange s n r).mram = s.mram ∧ (State.refChange s n r).cfg = s.cfg ∧ (State.refChange s n r).dep = s.dep ∧ (State.refChange s n r).log = s.log ∧ (State.refChange s n r).jtag = s.jtag ∧ (State.refChange s n r).inp = s.inp ∧ (State.refChange s n r).conv = s.conv ∧ (State.refChange s n r).sprint = s.sprint ∧ (State.refChange s n r).graph = s.graph ∧ (State.refChange s n r).rout = s.rout ∧ (State.refChange s n r).out = s.out ∧ (State.refChange s n r).ports = s.ports ∧ (State.refChange s n r).link = s.link ∧ (State.refChange s n r).wake = s.wake ∧ (State.refChange s n r).free = s.free ∧ (State.refChange s n r).pending = s.pending := by
  simp only [State.refChange]
  all_goals simp

@[simp] theorem State.enterHoldover_keeps (s : State) :
    (State.enterHoldover s).clock = s.clock ∧ (State.enterHoldover s).power = s.power ∧ (State.enterHoldover s).synth = s.synth ∧ (State.enterHoldover s).ctl = s.ctl ∧ (State.enterHoldover s).mram = s.mram ∧ (State.enterHoldover s).cfg = s.cfg ∧ (State.enterHoldover s).dep = s.dep ∧ (State.enterHoldover s).log = s.log ∧ (State.enterHoldover s).jtag = s.jtag ∧ (State.enterHoldover s).inp = s.inp ∧ (State.enterHoldover s).conv = s.conv ∧ (State.enterHoldover s).sprint = s.sprint ∧ (State.enterHoldover s).graph = s.graph ∧ (State.enterHoldover s).rout = s.rout ∧ (State.enterHoldover s).out = s.out ∧ (State.enterHoldover s).ports = s.ports ∧ (State.enterHoldover s).link = s.link ∧ (State.enterHoldover s).wake = s.wake ∧ (State.enterHoldover s).free = s.free ∧ (State.enterHoldover s).pending = s.pending := by
  simp only [State.enterHoldover]
  all_goals simp

@[simp] theorem State.outgoingHolds_keeps (s : State) :
    (State.outgoingHolds s).clock = s.clock ∧ (State.outgoingHolds s).power = s.power ∧ (State.outgoingHolds s).synth = s.synth ∧ (State.outgoingHolds s).ctl = s.ctl ∧ (State.outgoingHolds s).mram = s.mram ∧ (State.outgoingHolds s).cfg = s.cfg ∧ (State.outgoingHolds s).dep = s.dep ∧ (State.outgoingHolds s).log = s.log ∧ (State.outgoingHolds s).jtag = s.jtag ∧ (State.outgoingHolds s).inp = s.inp ∧ (State.outgoingHolds s).conv = s.conv ∧ (State.outgoingHolds s).sprint = s.sprint ∧ (State.outgoingHolds s).graph = s.graph ∧ (State.outgoingHolds s).rout = s.rout ∧ (State.outgoingHolds s).out = s.out ∧ (State.outgoingHolds s).ports = s.ports ∧ (State.outgoingHolds s).link = s.link ∧ (State.outgoingHolds s).wake = s.wake ∧ (State.outgoingHolds s).free = s.free ∧ (State.outgoingHolds s).pending = s.pending := by
  simp only [State.outgoingHolds]
  all_goals simp

@[simp] theorem State.startHandoff_keeps (s : State) (target : Nat) (revertive : Bool) :
    (State.startHandoff s target revertive).clock = s.clock ∧ (State.startHandoff s target revertive).power = s.power ∧ (State.startHandoff s target revertive).synth = s.synth ∧ (State.startHandoff s target revertive).ctl = s.ctl ∧ (State.startHandoff s target revertive).mram = s.mram ∧ (State.startHandoff s target revertive).cfg = s.cfg ∧ (State.startHandoff s target revertive).dep = s.dep ∧ (State.startHandoff s target revertive).log = s.log ∧ (State.startHandoff s target revertive).jtag = s.jtag ∧ (State.startHandoff s target revertive).inp = s.inp ∧ (State.startHandoff s target revertive).conv = s.conv ∧ (State.startHandoff s target revertive).sprint = s.sprint ∧ (State.startHandoff s target revertive).graph = s.graph ∧ (State.startHandoff s target revertive).rout = s.rout ∧ (State.startHandoff s target revertive).out = s.out ∧ (State.startHandoff s target revertive).ports = s.ports ∧ (State.startHandoff s target revertive).link = s.link ∧ (State.startHandoff s target revertive).wake = s.wake ∧ (State.startHandoff s target revertive).free = s.free ∧ (State.startHandoff s target revertive).pending = s.pending := by
  simp only [State.startHandoff]
  all_goals simp

@[simp] theorem State.refPorts_keeps (s : State) :
    (State.refPorts s).clock = s.clock ∧ (State.refPorts s).power = s.power ∧ (State.refPorts s).synth = s.synth ∧ (State.refPorts s).ctl = s.ctl ∧ (State.refPorts s).mram = s.mram ∧ (State.refPorts s).cfg = s.cfg ∧ (State.refPorts s).dep = s.dep ∧ (State.refPorts s).log = s.log ∧ (State.refPorts s).jtag = s.jtag ∧ (State.refPorts s).inp = s.inp ∧ (State.refPorts s).conv = s.conv ∧ (State.refPorts s).sprint = s.sprint ∧ (State.refPorts s).graph = s.graph ∧ (State.refPorts s).rout = s.rout ∧ (State.refPorts s).out = s.out ∧ (State.refPorts s).ports = s.ports ∧ (State.refPorts s).link = s.link ∧ (State.refPorts s).wake = s.wake ∧ (State.refPorts s).free = s.free ∧ (State.refPorts s).pending = s.pending := by
  simp only [State.refPorts]
  all_goals simp

@[simp] theorem State.linkQualified_keeps (s : State) :
    (State.linkQualified s).clock = s.clock ∧ (State.linkQualified s).power = s.power ∧ (State.linkQualified s).synth = s.synth ∧ (State.linkQualified s).ctl = s.ctl ∧ (State.linkQualified s).mram = s.mram ∧ (State.linkQualified s).cfg = s.cfg ∧ (State.linkQualified s).dep = s.dep ∧ (State.linkQualified s).log = s.log ∧ (State.linkQualified s).jtag = s.jtag ∧ (State.linkQualified s).inp = s.inp ∧ (State.linkQualified s).conv = s.conv ∧ (State.linkQualified s).sprint = s.sprint ∧ (State.linkQualified s).graph = s.graph ∧ (State.linkQualified s).rout = s.rout ∧ (State.linkQualified s).out = s.out ∧ (State.linkQualified s).ports = s.ports ∧ (State.linkQualified s).link = s.link ∧ (State.linkQualified s).wake = s.wake ∧ (State.linkQualified s).free = s.free ∧ (State.linkQualified s).pending = s.pending := by
  simp only [State.linkQualified]
  all_goals simp

@[simp] theorem State.refForced_keeps (s : State) :
    (State.refForced s).clock = s.clock ∧ (State.refForced s).power = s.power ∧ (State.refForced s).synth = s.synth ∧ (State.refForced s).ctl = s.ctl ∧ (State.refForced s).mram = s.mram ∧ (State.refForced s).cfg = s.cfg ∧ (State.refForced s).dep = s.dep ∧ (State.refForced s).log = s.log ∧ (State.refForced s).jtag = s.jtag ∧ (State.refForced s).inp = s.inp ∧ (State.refForced s).conv = s.conv ∧ (State.refForced s).sprint = s.sprint ∧ (State.refForced s).graph = s.graph ∧ (State.refForced s).rout = s.rout ∧ (State.refForced s).out = s.out ∧ (State.refForced s).ports = s.ports ∧ (State.refForced s).link = s.link ∧ (State.refForced s).wake = s.wake ∧ (State.refForced s).free = s.free ∧ (State.refForced s).pending = s.pending := by
  simp only [State.refForced]
  all_goals repeat' split
  all_goals simp

@[simp] theorem State.refChoose_keeps (s : State) :
    (State.refChoose s).clock = s.clock ∧ (State.refChoose s).power = s.power ∧ (State.refChoose s).synth = s.synth ∧ (State.refChoose s).ctl = s.ctl ∧ (State.refChoose s).mram = s.mram ∧ (State.refChoose s).cfg = s.cfg ∧ (State.refChoose s).dep = s.dep ∧ (State.refChoose s).log = s.log ∧ (State.refChoose s).jtag = s.jtag ∧ (State.refChoose s).inp = s.inp ∧ (State.refChoose s).conv = s.conv ∧ (State.refChoose s).sprint = s.sprint ∧ (State.refChoose s).graph = s.graph ∧ (State.refChoose s).rout = s.rout ∧ (State.refChoose s).out = s.out ∧ (State.refChoose s).ports = s.ports ∧ (State.refChoose s).link = s.link ∧ (State.refChoose s).wake = s.wake ∧ (State.refChoose s).free = s.free ∧ (State.refChoose s).pending = s.pending := by
  simp only [State.refChoose]
  all_goals repeat' split
  all_goals simp

@[simp] theorem State.refDuring_keeps (s : State) :
    (State.refDuring s).clock = s.clock ∧ (State.refDuring s).power = s.power ∧ (State.refDuring s).synth = s.synth ∧ (State.refDuring s).ctl = s.ctl ∧ (State.refDuring s).mram = s.mram ∧ (State.refDuring s).cfg = s.cfg ∧ (State.refDuring s).dep = s.dep ∧ (State.refDuring s).log = s.log ∧ (State.refDuring s).jtag = s.jtag ∧ (State.refDuring s).inp = s.inp ∧ (State.refDuring s).conv = s.conv ∧ (State.refDuring s).sprint = s.sprint ∧ (State.refDuring s).graph = s.graph ∧ (State.refDuring s).rout = s.rout ∧ (State.refDuring s).out = s.out ∧ (State.refDuring s).ports = s.ports ∧ (State.refDuring s).link = s.link ∧ (State.refDuring s).wake = s.wake ∧ (State.refDuring s).free = s.free ∧ (State.refDuring s).pending = s.pending := by
  simp only [State.refDuring]
  all_goals repeat' split
  all_goals simp

@[simp] theorem State.refSelect_keeps (s : State) :
    (State.refSelect s).clock = s.clock ∧ (State.refSelect s).power = s.power ∧ (State.refSelect s).synth = s.synth ∧ (State.refSelect s).ctl = s.ctl ∧ (State.refSelect s).mram = s.mram ∧ (State.refSelect s).cfg = s.cfg ∧ (State.refSelect s).dep = s.dep ∧ (State.refSelect s).log = s.log ∧ (State.refSelect s).jtag = s.jtag ∧ (State.refSelect s).inp = s.inp ∧ (State.refSelect s).conv = s.conv ∧ (State.refSelect s).sprint = s.sprint ∧ (State.refSelect s).graph = s.graph ∧ (State.refSelect s).rout = s.rout ∧ (State.refSelect s).out = s.out ∧ (State.refSelect s).ports = s.ports ∧ (State.refSelect s).link = s.link ∧ (State.refSelect s).wake = s.wake ∧ (State.refSelect s).free = s.free ∧ (State.refSelect s).pending = s.pending := by
  simp only [State.refSelect]
  all_goals repeat' split
  all_goals simp

@[simp] theorem State.dpllTick_keeps (s : State) :
    (State.dpllTick s).clock = s.clock ∧ (State.dpllTick s).power = s.power ∧ (State.dpllTick s).synth = s.synth ∧ (State.dpllTick s).bus = s.bus ∧ (State.dpllTick s).ctl = s.ctl ∧ (State.dpllTick s).mram = s.mram ∧ (State.dpllTick s).cfg = s.cfg ∧ (State.dpllTick s).dep = s.dep ∧ (State.dpllTick s).jtag = s.jtag ∧ (State.dpllTick s).inp = s.inp ∧ (State.dpllTick s).conv = s.conv ∧ (State.dpllTick s).sprint = s.sprint ∧ (State.dpllTick s).graph = s.graph ∧ (State.dpllTick s).rout = s.rout ∧ (State.dpllTick s).out = s.out ∧ (State.dpllTick s).ports = s.ports ∧ (State.dpllTick s).link = s.link ∧ (State.dpllTick s).wake = s.wake ∧ (State.dpllTick s).pending = s.pending := by
  simp only [State.dpllTick]
  all_goals simp

@[simp] theorem State.forceTo_keeps (s : State) (action src : Nat) :
    (State.forceTo s action src).clock = s.clock ∧ (State.forceTo s action src).power = s.power ∧ (State.forceTo s action src).synth = s.synth ∧ (State.forceTo s action src).ctl = s.ctl ∧ (State.forceTo s action src).mram = s.mram ∧ (State.forceTo s action src).cfg = s.cfg ∧ (State.forceTo s action src).dep = s.dep ∧ (State.forceTo s action src).log = s.log ∧ (State.forceTo s action src).jtag = s.jtag ∧ (State.forceTo s action src).inp = s.inp ∧ (State.forceTo s action src).conv = s.conv ∧ (State.forceTo s action src).sprint = s.sprint ∧ (State.forceTo s action src).graph = s.graph ∧ (State.forceTo s action src).rout = s.rout ∧ (State.forceTo s action src).out = s.out ∧ (State.forceTo s action src).ports = s.ports ∧ (State.forceTo s action src).link = s.link ∧ (State.forceTo s action src).wake = s.wake ∧ (State.forceTo s action src).free = s.free ∧ (State.forceTo s action src).pending = s.pending := by
  simp only [State.forceTo]
  all_goals repeat' split
  all_goals simp

@[simp] theorem State.forcesAct_keeps (s : State) :
    (State.forcesAct s).clock = s.clock ∧ (State.forcesAct s).power = s.power ∧ (State.forcesAct s).synth = s.synth ∧ (State.forcesAct s).ctl = s.ctl ∧ (State.forcesAct s).mram = s.mram ∧ (State.forcesAct s).cfg = s.cfg ∧ (State.forcesAct s).dep = s.dep ∧ (State.forcesAct s).log = s.log ∧ (State.forcesAct s).jtag = s.jtag ∧ (State.forcesAct s).inp = s.inp ∧ (State.forcesAct s).conv = s.conv ∧ (State.forcesAct s).sprint = s.sprint ∧ (State.forcesAct s).graph = s.graph ∧ (State.forcesAct s).rout = s.rout ∧ (State.forcesAct s).out = s.out ∧ (State.forcesAct s).ports = s.ports ∧ (State.forcesAct s).link = s.link ∧ (State.forcesAct s).wake = s.wake ∧ (State.forcesAct s).free = s.free ∧ (State.forcesAct s).pending = s.pending := by
  simp only [State.forcesAct]
  all_goals repeat' split
  all_goals simp

@[simp] theorem State.refWritten_keeps (s : State) (id old : Nat) :
    (State.refWritten s id old).clock = s.clock ∧ (State.refWritten s id old).power = s.power ∧ (State.refWritten s id old).synth = s.synth ∧ (State.refWritten s id old).ctl = s.ctl ∧ (State.refWritten s id old).mram = s.mram ∧ (State.refWritten s id old).cfg = s.cfg ∧ (State.refWritten s id old).dep = s.dep ∧ (State.refWritten s id old).log = s.log ∧ (State.refWritten s id old).jtag = s.jtag ∧ (State.refWritten s id old).inp = s.inp ∧ (State.refWritten s id old).conv = s.conv ∧ (State.refWritten s id old).sprint = s.sprint ∧ (State.refWritten s id old).graph = s.graph ∧ (State.refWritten s id old).rout = s.rout ∧ (State.refWritten s id old).out = s.out ∧ (State.refWritten s id old).ports = s.ports ∧ (State.refWritten s id old).link = s.link ∧ (State.refWritten s id old).wake = s.wake ∧ (State.refWritten s id old).free = s.free ∧ (State.refWritten s id old).pending = s.pending := by
  simp only [State.refWritten]
  all_goals repeat' split
  all_goals simp

@[simp] theorem State.clearRefs_keeps (s : State) :
    (State.clearRefs s).clock = s.clock ∧ (State.clearRefs s).power = s.power ∧ (State.clearRefs s).synth = s.synth ∧ (State.clearRefs s).bus = s.bus ∧ (State.clearRefs s).ctl = s.ctl ∧ (State.clearRefs s).mram = s.mram ∧ (State.clearRefs s).cfg = s.cfg ∧ (State.clearRefs s).dep = s.dep ∧ (State.clearRefs s).log = s.log ∧ (State.clearRefs s).jtag = s.jtag ∧ (State.clearRefs s).inp = s.inp ∧ (State.clearRefs s).conv = s.conv ∧ (State.clearRefs s).sprint = s.sprint ∧ (State.clearRefs s).graph = s.graph ∧ (State.clearRefs s).rout = s.rout ∧ (State.clearRefs s).out = s.out ∧ (State.clearRefs s).ports = s.ports ∧ (State.clearRefs s).link = s.link ∧ (State.clearRefs s).wake = s.wake ∧ (State.clearRefs s).free = s.free ∧ (State.clearRefs s).pending = s.pending := by
  simp only [State.clearRefs]
  all_goals simp

@[simp] theorem State.loseEpisode_keeps (s : State) :
    (State.loseEpisode s).clock = s.clock ∧ (State.loseEpisode s).power = s.power ∧ (State.loseEpisode s).synth = s.synth ∧ (State.loseEpisode s).dpll = s.dpll ∧ (State.loseEpisode s).bus = s.bus ∧ (State.loseEpisode s).ctl = s.ctl ∧ (State.loseEpisode s).mram = s.mram ∧ (State.loseEpisode s).cfg = s.cfg ∧ (State.loseEpisode s).dep = s.dep ∧ (State.loseEpisode s).jtag = s.jtag ∧ (State.loseEpisode s).inp = s.inp ∧ (State.loseEpisode s).conv = s.conv ∧ (State.loseEpisode s).sprint = s.sprint ∧ (State.loseEpisode s).graph = s.graph ∧ (State.loseEpisode s).rout = s.rout ∧ (State.loseEpisode s).out = s.out ∧ (State.loseEpisode s).ports = s.ports ∧ (State.loseEpisode s).link = s.link ∧ (State.loseEpisode s).free = s.free ∧ (State.loseEpisode s).pending = s.pending := by
  simp only [State.loseEpisode]
  all_goals repeat' split
  all_goals simp

@[simp] theorem State.listenUpdate_keeps (s : State) :
    (State.listenUpdate s).clock = s.clock ∧ (State.listenUpdate s).power = s.power ∧ (State.listenUpdate s).synth = s.synth ∧ (State.listenUpdate s).dpll = s.dpll ∧ (State.listenUpdate s).bus = s.bus ∧ (State.listenUpdate s).ctl = s.ctl ∧ (State.listenUpdate s).mram = s.mram ∧ (State.listenUpdate s).cfg = s.cfg ∧ (State.listenUpdate s).dep = s.dep ∧ (State.listenUpdate s).jtag = s.jtag ∧ (State.listenUpdate s).inp = s.inp ∧ (State.listenUpdate s).conv = s.conv ∧ (State.listenUpdate s).sprint = s.sprint ∧ (State.listenUpdate s).graph = s.graph ∧ (State.listenUpdate s).rout = s.rout ∧ (State.listenUpdate s).out = s.out ∧ (State.listenUpdate s).ports = s.ports ∧ (State.listenUpdate s).link = s.link ∧ (State.listenUpdate s).free = s.free ∧ (State.listenUpdate s).pending = s.pending := by
  simp only [State.listenUpdate]
  all_goals repeat' split
  all_goals simp

@[simp] theorem State.wakeWritten_keeps (s : State) :
    (State.wakeWritten s).clock = s.clock ∧ (State.wakeWritten s).power = s.power ∧ (State.wakeWritten s).synth = s.synth ∧ (State.wakeWritten s).dpll = s.dpll ∧ (State.wakeWritten s).bus = s.bus ∧ (State.wakeWritten s).ctl = s.ctl ∧ (State.wakeWritten s).mram = s.mram ∧ (State.wakeWritten s).cfg = s.cfg ∧ (State.wakeWritten s).dep = s.dep ∧ (State.wakeWritten s).log = s.log ∧ (State.wakeWritten s).jtag = s.jtag ∧ (State.wakeWritten s).inp = s.inp ∧ (State.wakeWritten s).conv = s.conv ∧ (State.wakeWritten s).sprint = s.sprint ∧ (State.wakeWritten s).graph = s.graph ∧ (State.wakeWritten s).rout = s.rout ∧ (State.wakeWritten s).out = s.out ∧ (State.wakeWritten s).ports = s.ports ∧ (State.wakeWritten s).link = s.link ∧ (State.wakeWritten s).free = s.free ∧ (State.wakeWritten s).pending = s.pending := by
  simp only [State.wakeWritten]
  all_goals simp

@[simp] theorem State.markMode_keeps (s : State) :
    (State.markMode s).clock = s.clock ∧ (State.markMode s).power = s.power ∧ (State.markMode s).synth = s.synth ∧ (State.markMode s).dpll = s.dpll ∧ (State.markMode s).bus = s.bus ∧ (State.markMode s).ctl = s.ctl ∧ (State.markMode s).mram = s.mram ∧ (State.markMode s).cfg = s.cfg ∧ (State.markMode s).dep = s.dep ∧ (State.markMode s).log = s.log ∧ (State.markMode s).jtag = s.jtag ∧ (State.markMode s).inp = s.inp ∧ (State.markMode s).conv = s.conv ∧ (State.markMode s).sprint = s.sprint ∧ (State.markMode s).graph = s.graph ∧ (State.markMode s).rout = s.rout ∧ (State.markMode s).out = s.out ∧ (State.markMode s).ports = s.ports ∧ (State.markMode s).link = s.link ∧ (State.markMode s).free = s.free ∧ (State.markMode s).pending = s.pending := by
  simp only [State.markMode]
  all_goals simp

@[simp] theorem State.handoverAct_keeps (s : State) :
    (State.handoverAct s).clock = s.clock ∧ (State.handoverAct s).power = s.power ∧ (State.handoverAct s).synth = s.synth ∧ (State.handoverAct s).dpll = s.dpll ∧ (State.handoverAct s).bus = s.bus ∧ (State.handoverAct s).ctl = s.ctl ∧ (State.handoverAct s).mram = s.mram ∧ (State.handoverAct s).cfg = s.cfg ∧ (State.handoverAct s).dep = s.dep ∧ (State.handoverAct s).log = s.log ∧ (State.handoverAct s).jtag = s.jtag ∧ (State.handoverAct s).inp = s.inp ∧ (State.handoverAct s).conv = s.conv ∧ (State.handoverAct s).sprint = s.sprint ∧ (State.handoverAct s).graph = s.graph ∧ (State.handoverAct s).rout = s.rout ∧ (State.handoverAct s).out = s.out ∧ (State.handoverAct s).ports = s.ports ∧ (State.handoverAct s).link = s.link ∧ (State.handoverAct s).free = s.free ∧ (State.handoverAct s).pending = s.pending := by
  simp only [State.handoverAct]
  all_goals simp

@[simp] theorem State.clearWake_keeps (s : State) :
    (State.clearWake s).clock = s.clock ∧ (State.clearWake s).power = s.power ∧ (State.clearWake s).synth = s.synth ∧ (State.clearWake s).dpll = s.dpll ∧ (State.clearWake s).bus = s.bus ∧ (State.clearWake s).ctl = s.ctl ∧ (State.clearWake s).mram = s.mram ∧ (State.clearWake s).cfg = s.cfg ∧ (State.clearWake s).dep = s.dep ∧ (State.clearWake s).log = s.log ∧ (State.clearWake s).jtag = s.jtag ∧ (State.clearWake s).inp = s.inp ∧ (State.clearWake s).conv = s.conv ∧ (State.clearWake s).sprint = s.sprint ∧ (State.clearWake s).graph = s.graph ∧ (State.clearWake s).rout = s.rout ∧ (State.clearWake s).out = s.out ∧ (State.clearWake s).ports = s.ports ∧ (State.clearWake s).link = s.link ∧ (State.clearWake s).free = s.free ∧ (State.clearWake s).pending = s.pending := by
  simp only [State.clearWake]
  all_goals simp

@[simp] theorem State.modBus_keeps (s : State) (twi : Bool) (f : BusPort → BusPort) :
    (State.modBus s twi f).clock = s.clock ∧ (State.modBus s twi f).power = s.power ∧ (State.modBus s twi f).synth = s.synth ∧ (State.modBus s twi f).dpll = s.dpll ∧ (State.modBus s twi f).ctl = s.ctl ∧ (State.modBus s twi f).mram = s.mram ∧ (State.modBus s twi f).cfg = s.cfg ∧ (State.modBus s twi f).dep = s.dep ∧ (State.modBus s twi f).log = s.log ∧ (State.modBus s twi f).jtag = s.jtag ∧ (State.modBus s twi f).inp = s.inp ∧ (State.modBus s twi f).conv = s.conv ∧ (State.modBus s twi f).sprint = s.sprint ∧ (State.modBus s twi f).graph = s.graph ∧ (State.modBus s twi f).rout = s.rout ∧ (State.modBus s twi f).out = s.out ∧ (State.modBus s twi f).ports = s.ports ∧ (State.modBus s twi f).link = s.link ∧ (State.modBus s twi f).wake = s.wake ∧ (State.modBus s twi f).free = s.free ∧ (State.modBus s twi f).pending = s.pending := by
  simp only [State.modBus]
  all_goals simp

@[simp] theorem State.deviceReset_keeps (s : State) (cause supply : Nat) (aonLost : Bool) :
    (State.deviceReset s cause supply aonLost).mram = s.mram ∧ (State.deviceReset s cause supply aonLost).jtag = s.jtag ∧ (State.deviceReset s cause supply aonLost).free = s.free ∧ (State.deviceReset s cause supply aonLost).pending = s.pending := by
  simp only [State.deviceReset]
  all_goals simp

@[simp] theorem State.bootBegin_keeps (s : State) :
    (State.bootBegin s).clock = s.clock ∧ (State.bootBegin s).dpll = s.dpll ∧ (State.bootBegin s).ctl = s.ctl ∧ (State.bootBegin s).cfg = s.cfg ∧ (State.bootBegin s).dep = s.dep ∧ (State.bootBegin s).jtag = s.jtag ∧ (State.bootBegin s).inp = s.inp ∧ (State.bootBegin s).conv = s.conv ∧ (State.bootBegin s).sprint = s.sprint ∧ (State.bootBegin s).graph = s.graph ∧ (State.bootBegin s).rout = s.rout ∧ (State.bootBegin s).out = s.out ∧ (State.bootBegin s).ports = s.ports ∧ (State.bootBegin s).link = s.link ∧ (State.bootBegin s).wake = s.wake ∧ (State.bootBegin s).free = s.free ∧ (State.bootBegin s).pending = s.pending := by
  simp only [State.bootBegin]
  all_goals simp

@[simp] theorem State.restBoot_keeps (s : State) :
    (State.restBoot s).jtag = s.jtag ∧ (State.restBoot s).free = s.free ∧ (State.restBoot s).pending = s.pending := by
  simp only [State.restBoot]
  all_goals simp

@[simp] theorem State.tryBoot_keeps (s : State) :
    (State.tryBoot s).jtag = s.jtag ∧ (State.tryBoot s).free = s.free ∧ (State.tryBoot s).pending = s.pending := by
  simp only [State.tryBoot]
  all_goals repeat' split
  all_goals simp

@[simp] theorem State.bootRecord_keeps (s : State) :
    (State.bootRecord s).clock = s.clock ∧ (State.bootRecord s).power = s.power ∧ (State.bootRecord s).synth = s.synth ∧ (State.bootRecord s).dpll = s.dpll ∧ (State.bootRecord s).bus = s.bus ∧ (State.bootRecord s).mram = s.mram ∧ (State.bootRecord s).cfg = s.cfg ∧ (State.bootRecord s).dep = s.dep ∧ (State.bootRecord s).log = s.log ∧ (State.bootRecord s).jtag = s.jtag ∧ (State.bootRecord s).inp = s.inp ∧ (State.bootRecord s).conv = s.conv ∧ (State.bootRecord s).sprint = s.sprint ∧ (State.bootRecord s).graph = s.graph ∧ (State.bootRecord s).rout = s.rout ∧ (State.bootRecord s).out = s.out ∧ (State.bootRecord s).ports = s.ports ∧ (State.bootRecord s).link = s.link ∧ (State.bootRecord s).wake = s.wake ∧ (State.bootRecord s).free = s.free ∧ (State.bootRecord s).pending = s.pending := by
  simp only [State.bootRecord]
  all_goals simp

@[simp] theorem State.firmwareStarts_keeps (s : State) (bank : Nat) :
    (State.firmwareStarts s bank).clock = s.clock ∧ (State.firmwareStarts s bank).synth = s.synth ∧ (State.firmwareStarts s bank).dpll = s.dpll ∧ (State.firmwareStarts s bank).bus = s.bus ∧ (State.firmwareStarts s bank).ctl = s.ctl ∧ (State.firmwareStarts s bank).mram = s.mram ∧ (State.firmwareStarts s bank).cfg = s.cfg ∧ (State.firmwareStarts s bank).dep = s.dep ∧ (State.firmwareStarts s bank).log = s.log ∧ (State.firmwareStarts s bank).jtag = s.jtag ∧ (State.firmwareStarts s bank).sprint = s.sprint ∧ (State.firmwareStarts s bank).graph = s.graph ∧ (State.firmwareStarts s bank).rout = s.rout ∧ (State.firmwareStarts s bank).out = s.out ∧ (State.firmwareStarts s bank).ports = s.ports ∧ (State.firmwareStarts s bank).link = s.link ∧ (State.firmwareStarts s bank).wake = s.wake ∧ (State.firmwareStarts s bank).free = s.free ∧ (State.firmwareStarts s bank).pending = s.pending := by
  simp only [State.firmwareStarts]
  all_goals simp

@[simp] theorem State.inputsReturn_keeps (s : State) :
    (State.inputsReturn s).clock = s.clock ∧ (State.inputsReturn s).power = s.power ∧ (State.inputsReturn s).synth = s.synth ∧ (State.inputsReturn s).dpll = s.dpll ∧ (State.inputsReturn s).bus = s.bus ∧ (State.inputsReturn s).ctl = s.ctl ∧ (State.inputsReturn s).mram = s.mram ∧ (State.inputsReturn s).cfg = s.cfg ∧ (State.inputsReturn s).dep = s.dep ∧ (State.inputsReturn s).log = s.log ∧ (State.inputsReturn s).jtag = s.jtag ∧ (State.inputsReturn s).conv = s.conv ∧ (State.inputsReturn s).sprint = s.sprint ∧ (State.inputsReturn s).graph = s.graph ∧ (State.inputsReturn s).rout = s.rout ∧ (State.inputsReturn s).out = s.out ∧ (State.inputsReturn s).ports = s.ports ∧ (State.inputsReturn s).link = s.link ∧ (State.inputsReturn s).wake = s.wake ∧ (State.inputsReturn s).free = s.free ∧ (State.inputsReturn s).pending = s.pending := by
  simp only [State.inputsReturn]
  all_goals simp

@[simp] theorem State.phantomOff_keeps (s : State) :
    (State.phantomOff s).clock = s.clock ∧ (State.phantomOff s).power = s.power ∧ (State.phantomOff s).synth = s.synth ∧ (State.phantomOff s).dpll = s.dpll ∧ (State.phantomOff s).bus = s.bus ∧ (State.phantomOff s).ctl = s.ctl ∧ (State.phantomOff s).mram = s.mram ∧ (State.phantomOff s).cfg = s.cfg ∧ (State.phantomOff s).dep = s.dep ∧ (State.phantomOff s).log = s.log ∧ (State.phantomOff s).jtag = s.jtag ∧ (State.phantomOff s).conv = s.conv ∧ (State.phantomOff s).sprint = s.sprint ∧ (State.phantomOff s).graph = s.graph ∧ (State.phantomOff s).rout = s.rout ∧ (State.phantomOff s).out = s.out ∧ (State.phantomOff s).ports = s.ports ∧ (State.phantomOff s).link = s.link ∧ (State.phantomOff s).wake = s.wake ∧ (State.phantomOff s).free = s.free ∧ (State.phantomOff s).pending = s.pending := by
  simp only [State.phantomOff]
  all_goals simp

@[simp] theorem State.idleEntry_keeps (s : State) (exit : Bool) :
    (State.idleEntry s exit).clock = s.clock ∧ (State.idleEntry s exit).ctl = s.ctl ∧ (State.idleEntry s exit).mram = s.mram ∧ (State.idleEntry s exit).cfg = s.cfg ∧ (State.idleEntry s exit).dep = s.dep ∧ (State.idleEntry s exit).jtag = s.jtag ∧ (State.idleEntry s exit).sprint = s.sprint ∧ (State.idleEntry s exit).graph = s.graph ∧ (State.idleEntry s exit).rout = s.rout ∧ (State.idleEntry s exit).free = s.free ∧ (State.idleEntry s exit).pending = s.pending := by
  simp only [State.idleEntry]
  all_goals repeat' split
  all_goals simp

@[simp] theorem State.jacksReturn_keeps (s : State) (wakePin : Option Nat) :
    (State.jacksReturn s wakePin).clock = s.clock ∧ (State.jacksReturn s wakePin).power = s.power ∧ (State.jacksReturn s wakePin).synth = s.synth ∧ (State.jacksReturn s wakePin).dpll = s.dpll ∧ (State.jacksReturn s wakePin).ctl = s.ctl ∧ (State.jacksReturn s wakePin).mram = s.mram ∧ (State.jacksReturn s wakePin).cfg = s.cfg ∧ (State.jacksReturn s wakePin).dep = s.dep ∧ (State.jacksReturn s wakePin).jtag = s.jtag ∧ (State.jacksReturn s wakePin).inp = s.inp ∧ (State.jacksReturn s wakePin).conv = s.conv ∧ (State.jacksReturn s wakePin).sprint = s.sprint ∧ (State.jacksReturn s wakePin).graph = s.graph ∧ (State.jacksReturn s wakePin).rout = s.rout ∧ (State.jacksReturn s wakePin).ports = s.ports ∧ (State.jacksReturn s wakePin).link = s.link ∧ (State.jacksReturn s wakePin).wake = s.wake ∧ (State.jacksReturn s wakePin).free = s.free ∧ (State.jacksReturn s wakePin).pending = s.pending := by
  simp only [State.jacksReturn]
  all_goals simp

@[simp] theorem State.pinsReturn_keeps (s : State) :
    (State.pinsReturn s).clock = s.clock ∧ (State.pinsReturn s).power = s.power ∧ (State.pinsReturn s).synth = s.synth ∧ (State.pinsReturn s).dpll = s.dpll ∧ (State.pinsReturn s).bus = s.bus ∧ (State.pinsReturn s).ctl = s.ctl ∧ (State.pinsReturn s).mram = s.mram ∧ (State.pinsReturn s).cfg = s.cfg ∧ (State.pinsReturn s).dep = s.dep ∧ (State.pinsReturn s).log = s.log ∧ (State.pinsReturn s).jtag = s.jtag ∧ (State.pinsReturn s).conv = s.conv ∧ (State.pinsReturn s).sprint = s.sprint ∧ (State.pinsReturn s).graph = s.graph ∧ (State.pinsReturn s).rout = s.rout ∧ (State.pinsReturn s).out = s.out ∧ (State.pinsReturn s).ports = s.ports ∧ (State.pinsReturn s).link = s.link ∧ (State.pinsReturn s).wake = s.wake ∧ (State.pinsReturn s).free = s.free ∧ (State.pinsReturn s).pending = s.pending := by
  simp only [State.pinsReturn]
  all_goals simp

@[simp] theorem State.exitDone_keeps (s : State) (slot0 : Bool) :
    (State.exitDone s slot0).clock = s.clock ∧ (State.exitDone s slot0).synth = s.synth ∧ (State.exitDone s slot0).dpll = s.dpll ∧ (State.exitDone s slot0).ctl = s.ctl ∧ (State.exitDone s slot0).mram = s.mram ∧ (State.exitDone s slot0).cfg = s.cfg ∧ (State.exitDone s slot0).dep = s.dep ∧ (State.exitDone s slot0).jtag = s.jtag ∧ (State.exitDone s slot0).inp = s.inp ∧ (State.exitDone s slot0).conv = s.conv ∧ (State.exitDone s slot0).sprint = s.sprint ∧ (State.exitDone s slot0).graph = s.graph ∧ (State.exitDone s slot0).rout = s.rout ∧ (State.exitDone s slot0).ports = s.ports ∧ (State.exitDone s slot0).link = s.link ∧ (State.exitDone s slot0).wake = s.wake ∧ (State.exitDone s slot0).free = s.free ∧ (State.exitDone s slot0).pending = s.pending := by
  simp only [State.exitDone]
  all_goals repeat' split
  all_goals simp

@[simp] theorem State.bootIdle_keeps (s : State) :
    (State.bootIdle s).clock = s.clock ∧ (State.bootIdle s).mram = s.mram ∧ (State.bootIdle s).dep = s.dep ∧ (State.bootIdle s).jtag = s.jtag ∧ (State.bootIdle s).sprint = s.sprint ∧ (State.bootIdle s).graph = s.graph ∧ (State.bootIdle s).rout = s.rout ∧ (State.bootIdle s).free = s.free ∧ (State.bootIdle s).pending = s.pending := by
  simp only [State.bootIdle]
  all_goals repeat' split
  all_goals simp

@[simp] theorem State.wakeUp_keeps (s : State) (c : WakeCause) :
    (State.wakeUp s c).jtag = s.jtag ∧ (State.wakeUp s c).free = s.free ∧ (State.wakeUp s c).pending = s.pending := by
  simp only [State.wakeUp]
  all_goals repeat' split
  all_goals simp

@[simp] theorem State.beginEntry_keeps (s : State) (target : Mode) :
    (State.beginEntry s target).clock = s.clock ∧ (State.beginEntry s target).synth = s.synth ∧ (State.beginEntry s target).dpll = s.dpll ∧ (State.beginEntry s target).bus = s.bus ∧ (State.beginEntry s target).ctl = s.ctl ∧ (State.beginEntry s target).mram = s.mram ∧ (State.beginEntry s target).cfg = s.cfg ∧ (State.beginEntry s target).dep = s.dep ∧ (State.beginEntry s target).jtag = s.jtag ∧ (State.beginEntry s target).conv = s.conv ∧ (State.beginEntry s target).sprint = s.sprint ∧ (State.beginEntry s target).graph = s.graph ∧ (State.beginEntry s target).rout = s.rout ∧ (State.beginEntry s target).free = s.free ∧ (State.beginEntry s target).pending = s.pending := by
  simp only [State.beginEntry]
  all_goals repeat' split
  all_goals simp

@[simp] theorem State.leaveRun_keeps (s : State) (target : Mode) (job : Option Job) :
    (State.leaveRun s target job).clock = s.clock ∧ (State.leaveRun s target job).synth = s.synth ∧ (State.leaveRun s target job).dpll = s.dpll ∧ (State.leaveRun s target job).ctl = s.ctl ∧ (State.leaveRun s target job).mram = s.mram ∧ (State.leaveRun s target job).cfg = s.cfg ∧ (State.leaveRun s target job).dep = s.dep ∧ (State.leaveRun s target job).log = s.log ∧ (State.leaveRun s target job).jtag = s.jtag ∧ (State.leaveRun s target job).inp = s.inp ∧ (State.leaveRun s target job).conv = s.conv ∧ (State.leaveRun s target job).sprint = s.sprint ∧ (State.leaveRun s target job).graph = s.graph ∧ (State.leaveRun s target job).rout = s.rout ∧ (State.leaveRun s target job).ports = s.ports ∧ (State.leaveRun s target job).link = s.link ∧ (State.leaveRun s target job).wake = s.wake ∧ (State.leaveRun s target job).free = s.free ∧ (State.leaveRun s target job).pending = s.pending := by
  simp only [State.leaveRun]
  all_goals simp

@[simp] theorem State.clearPower_keeps (s : State) :
    (State.clearPower s).clock = s.clock ∧ (State.clearPower s).synth = s.synth ∧ (State.clearPower s).dpll = s.dpll ∧ (State.clearPower s).bus = s.bus ∧ (State.clearPower s).ctl = s.ctl ∧ (State.clearPower s).mram = s.mram ∧ (State.clearPower s).cfg = s.cfg ∧ (State.clearPower s).dep = s.dep ∧ (State.clearPower s).log = s.log ∧ (State.clearPower s).jtag = s.jtag ∧ (State.clearPower s).inp = s.inp ∧ (State.clearPower s).conv = s.conv ∧ (State.clearPower s).sprint = s.sprint ∧ (State.clearPower s).graph = s.graph ∧ (State.clearPower s).rout = s.rout ∧ (State.clearPower s).out = s.out ∧ (State.clearPower s).ports = s.ports ∧ (State.clearPower s).link = s.link ∧ (State.clearPower s).wake = s.wake ∧ (State.clearPower s).free = s.free ∧ (State.clearPower s).pending = s.pending := by
  simp only [State.clearPower]
  all_goals simp

@[simp] theorem State.routesSwapped_keeps (s : State) (old : Nat → Nat) :
    (State.routesSwapped s old).clock = s.clock ∧ (State.routesSwapped s old).power = s.power ∧ (State.routesSwapped s old).synth = s.synth ∧ (State.routesSwapped s old).dpll = s.dpll ∧ (State.routesSwapped s old).bus = s.bus ∧ (State.routesSwapped s old).ctl = s.ctl ∧ (State.routesSwapped s old).mram = s.mram ∧ (State.routesSwapped s old).cfg = s.cfg ∧ (State.routesSwapped s old).dep = s.dep ∧ (State.routesSwapped s old).log = s.log ∧ (State.routesSwapped s old).jtag = s.jtag ∧ (State.routesSwapped s old).inp = s.inp ∧ (State.routesSwapped s old).conv = s.conv ∧ (State.routesSwapped s old).sprint = s.sprint ∧ (State.routesSwapped s old).graph = s.graph ∧ (State.routesSwapped s old).out = s.out ∧ (State.routesSwapped s old).ports = s.ports ∧ (State.routesSwapped s old).link = s.link ∧ (State.routesSwapped s old).wake = s.wake ∧ (State.routesSwapped s old).free = s.free ∧ (State.routesSwapped s old).pending = s.pending := by
  simp only [State.routesSwapped]
  all_goals simp

@[simp] theorem State.stepGain_keeps (s : State) (index : Nat) (timeout : Bool) :
    (State.stepGain s index timeout).clock = s.clock ∧ (State.stepGain s index timeout).power = s.power ∧ (State.stepGain s index timeout).synth = s.synth ∧ (State.stepGain s index timeout).dpll = s.dpll ∧ (State.stepGain s index timeout).bus = s.bus ∧ (State.stepGain s index timeout).ctl = s.ctl ∧ (State.stepGain s index timeout).mram = s.mram ∧ (State.stepGain s index timeout).cfg = s.cfg ∧ (State.stepGain s index timeout).dep = s.dep ∧ (State.stepGain s index timeout).log = s.log ∧ (State.stepGain s index timeout).jtag = s.jtag ∧ (State.stepGain s index timeout).inp = s.inp ∧ (State.stepGain s index timeout).conv = s.conv ∧ (State.stepGain s index timeout).sprint = s.sprint ∧ (State.stepGain s index timeout).graph = s.graph ∧ (State.stepGain s index timeout).out = s.out ∧ (State.stepGain s index timeout).ports = s.ports ∧ (State.stepGain s index timeout).link = s.link ∧ (State.stepGain s index timeout).wake = s.wake ∧ (State.stepGain s index timeout).free = s.free ∧ (State.stepGain s index timeout).pending = s.pending := by
  simp only [State.stepGain]
  all_goals simp

@[simp] theorem State.metersConfigure_keeps (s : State) :
    (State.metersConfigure s).clock = s.clock ∧ (State.metersConfigure s).power = s.power ∧ (State.metersConfigure s).synth = s.synth ∧ (State.metersConfigure s).dpll = s.dpll ∧ (State.metersConfigure s).bus = s.bus ∧ (State.metersConfigure s).ctl = s.ctl ∧ (State.metersConfigure s).mram = s.mram ∧ (State.metersConfigure s).cfg = s.cfg ∧ (State.metersConfigure s).dep = s.dep ∧ (State.metersConfigure s).log = s.log ∧ (State.metersConfigure s).jtag = s.jtag ∧ (State.metersConfigure s).inp = s.inp ∧ (State.metersConfigure s).conv = s.conv ∧ (State.metersConfigure s).sprint = s.sprint ∧ (State.metersConfigure s).graph = s.graph ∧ (State.metersConfigure s).out = s.out ∧ (State.metersConfigure s).ports = s.ports ∧ (State.metersConfigure s).link = s.link ∧ (State.metersConfigure s).wake = s.wake ∧ (State.metersConfigure s).free = s.free ∧ (State.metersConfigure s).pending = s.pending := by
  simp only [State.metersConfigure]
  all_goals simp

@[simp] theorem State.clearMeters_keeps (s : State) :
    (State.clearMeters s).clock = s.clock ∧ (State.clearMeters s).power = s.power ∧ (State.clearMeters s).synth = s.synth ∧ (State.clearMeters s).dpll = s.dpll ∧ (State.clearMeters s).bus = s.bus ∧ (State.clearMeters s).ctl = s.ctl ∧ (State.clearMeters s).mram = s.mram ∧ (State.clearMeters s).cfg = s.cfg ∧ (State.clearMeters s).dep = s.dep ∧ (State.clearMeters s).log = s.log ∧ (State.clearMeters s).jtag = s.jtag ∧ (State.clearMeters s).inp = s.inp ∧ (State.clearMeters s).conv = s.conv ∧ (State.clearMeters s).sprint = s.sprint ∧ (State.clearMeters s).graph = s.graph ∧ (State.clearMeters s).out = s.out ∧ (State.clearMeters s).ports = s.ports ∧ (State.clearMeters s).link = s.link ∧ (State.clearMeters s).wake = s.wake ∧ (State.clearMeters s).free = s.free ∧ (State.clearMeters s).pending = s.pending := by
  simp only [State.clearMeters]
  all_goals simp

@[simp] theorem State.enterPhoto_keeps (s : State) (j : Job) (x : PhotoThing) :
    (State.enterPhoto s j x).clock = s.clock ∧ (State.enterPhoto s j x).power = s.power ∧ (State.enterPhoto s j x).synth = s.synth ∧ (State.enterPhoto s j x).dpll = s.dpll ∧ (State.enterPhoto s j x).bus = s.bus ∧ (State.enterPhoto s j x).mram = s.mram ∧ (State.enterPhoto s j x).cfg = s.cfg ∧ (State.enterPhoto s j x).dep = s.dep ∧ (State.enterPhoto s j x).log = s.log ∧ (State.enterPhoto s j x).jtag = s.jtag ∧ (State.enterPhoto s j x).inp = s.inp ∧ (State.enterPhoto s j x).conv = s.conv ∧ (State.enterPhoto s j x).sprint = s.sprint ∧ (State.enterPhoto s j x).graph = s.graph ∧ (State.enterPhoto s j x).rout = s.rout ∧ (State.enterPhoto s j x).out = s.out ∧ (State.enterPhoto s j x).ports = s.ports ∧ (State.enterPhoto s j x).link = s.link ∧ (State.enterPhoto s j x).wake = s.wake ∧ (State.enterPhoto s j x).free = s.free ∧ (State.enterPhoto s j x).pending = s.pending := by
  simp only [State.enterPhoto]
  all_goals simp

@[simp] theorem State.losePhoto_keeps (s : State) (j : Job) :
    (State.losePhoto s j).clock = s.clock ∧ (State.losePhoto s j).power = s.power ∧ (State.losePhoto s j).synth = s.synth ∧ (State.losePhoto s j).dpll = s.dpll ∧ (State.losePhoto s j).mram = s.mram ∧ (State.losePhoto s j).cfg = s.cfg ∧ (State.losePhoto s j).dep = s.dep ∧ (State.losePhoto s j).log = s.log ∧ (State.losePhoto s j).jtag = s.jtag ∧ (State.losePhoto s j).inp = s.inp ∧ (State.losePhoto s j).conv = s.conv ∧ (State.losePhoto s j).sprint = s.sprint ∧ (State.losePhoto s j).graph = s.graph ∧ (State.losePhoto s j).rout = s.rout ∧ (State.losePhoto s j).out = s.out ∧ (State.losePhoto s j).ports = s.ports ∧ (State.losePhoto s j).wake = s.wake ∧ (State.losePhoto s j).free = s.free ∧ (State.losePhoto s j).pending = s.pending := by
  simp only [State.losePhoto]
  all_goals simp

@[simp] theorem State.writeShadow_keeps (s : State) (id v : Nat) :
    (State.writeShadow s id v).clock = s.clock ∧ (State.writeShadow s id v).power = s.power ∧ (State.writeShadow s id v).synth = s.synth ∧ (State.writeShadow s id v).dpll = s.dpll ∧ (State.writeShadow s id v).bus = s.bus ∧ (State.writeShadow s id v).ctl = s.ctl ∧ (State.writeShadow s id v).mram = s.mram ∧ (State.writeShadow s id v).log = s.log ∧ (State.writeShadow s id v).jtag = s.jtag ∧ (State.writeShadow s id v).inp = s.inp ∧ (State.writeShadow s id v).conv = s.conv ∧ (State.writeShadow s id v).sprint = s.sprint ∧ (State.writeShadow s id v).graph = s.graph ∧ (State.writeShadow s id v).rout = s.rout ∧ (State.writeShadow s id v).out = s.out ∧ (State.writeShadow s id v).ports = s.ports ∧ (State.writeShadow s id v).link = s.link ∧ (State.writeShadow s id v).wake = s.wake ∧ (State.writeShadow s id v).free = s.free ∧ (State.writeShadow s id v).pending = s.pending := by
  simp only [State.writeShadow]
  all_goals simp

@[simp] theorem State.inbandMaskWritten_keeps (s : State) (old : Nat) :
    (State.inbandMaskWritten s old).clock = s.clock ∧ (State.inbandMaskWritten s old).power = s.power ∧ (State.inbandMaskWritten s old).synth = s.synth ∧ (State.inbandMaskWritten s old).dpll = s.dpll ∧ (State.inbandMaskWritten s old).ctl = s.ctl ∧ (State.inbandMaskWritten s old).mram = s.mram ∧ (State.inbandMaskWritten s old).cfg = s.cfg ∧ (State.inbandMaskWritten s old).dep = s.dep ∧ (State.inbandMaskWritten s old).log = s.log ∧ (State.inbandMaskWritten s old).jtag = s.jtag ∧ (State.inbandMaskWritten s old).inp = s.inp ∧ (State.inbandMaskWritten s old).conv = s.conv ∧ (State.inbandMaskWritten s old).sprint = s.sprint ∧ (State.inbandMaskWritten s old).graph = s.graph ∧ (State.inbandMaskWritten s old).rout = s.rout ∧ (State.inbandMaskWritten s old).out = s.out ∧ (State.inbandMaskWritten s old).ports = s.ports ∧ (State.inbandMaskWritten s old).link = s.link ∧ (State.inbandMaskWritten s old).wake = s.wake ∧ (State.inbandMaskWritten s old).free = s.free ∧ (State.inbandMaskWritten s old).pending = s.pending := by
  simp only [State.inbandMaskWritten]
  all_goals simp

@[simp] theorem State.limitWritten_keeps (s : State) (old : Nat) :
    (State.limitWritten s old).clock = s.clock ∧ (State.limitWritten s old).power = s.power ∧ (State.limitWritten s old).synth = s.synth ∧ (State.limitWritten s old).dpll = s.dpll ∧ (State.limitWritten s old).bus = s.bus ∧ (State.limitWritten s old).ctl = s.ctl ∧ (State.limitWritten s old).mram = s.mram ∧ (State.limitWritten s old).cfg = s.cfg ∧ (State.limitWritten s old).dep = s.dep ∧ (State.limitWritten s old).log = s.log ∧ (State.limitWritten s old).jtag = s.jtag ∧ (State.limitWritten s old).inp = s.inp ∧ (State.limitWritten s old).conv = s.conv ∧ (State.limitWritten s old).sprint = s.sprint ∧ (State.limitWritten s old).rout = s.rout ∧ (State.limitWritten s old).out = s.out ∧ (State.limitWritten s old).ports = s.ports ∧ (State.limitWritten s old).link = s.link ∧ (State.limitWritten s old).wake = s.wake ∧ (State.limitWritten s old).free = s.free ∧ (State.limitWritten s old).pending = s.pending := by
  simp only [State.limitWritten]
  all_goals repeat' split
  all_goals simp

@[simp] theorem State.traceWritten_keeps (s : State) (old : Nat) :
    (State.traceWritten s old).clock = s.clock ∧ (State.traceWritten s old).power = s.power ∧ (State.traceWritten s old).synth = s.synth ∧ (State.traceWritten s old).dpll = s.dpll ∧ (State.traceWritten s old).bus = s.bus ∧ (State.traceWritten s old).ctl = s.ctl ∧ (State.traceWritten s old).mram = s.mram ∧ (State.traceWritten s old).cfg = s.cfg ∧ (State.traceWritten s old).dep = s.dep ∧ (State.traceWritten s old).log = s.log ∧ (State.traceWritten s old).jtag = s.jtag ∧ (State.traceWritten s old).inp = s.inp ∧ (State.traceWritten s old).conv = s.conv ∧ (State.traceWritten s old).sprint = s.sprint ∧ (State.traceWritten s old).rout = s.rout ∧ (State.traceWritten s old).out = s.out ∧ (State.traceWritten s old).ports = s.ports ∧ (State.traceWritten s old).link = s.link ∧ (State.traceWritten s old).wake = s.wake ∧ (State.traceWritten s old).free = s.free ∧ (State.traceWritten s old).pending = s.pending := by
  simp only [State.traceWritten]
  all_goals repeat' split
  all_goals simp

@[simp] theorem State.paramWritten_keeps (s : State) (id old : Nat) :
    (State.paramWritten s id old).clock = s.clock ∧ (State.paramWritten s id old).power = s.power ∧ (State.paramWritten s id old).ctl = s.ctl ∧ (State.paramWritten s id old).mram = s.mram ∧ (State.paramWritten s id old).cfg = s.cfg ∧ (State.paramWritten s id old).jtag = s.jtag ∧ (State.paramWritten s id old).sprint = s.sprint ∧ (State.paramWritten s id old).rout = s.rout ∧ (State.paramWritten s id old).free = s.free ∧ (State.paramWritten s id old).pending = s.pending := by
  simp only [State.paramWritten]
  all_goals simp

@[simp] theorem State.writeDirect_keeps (s : State) (id v : Nat) :
    (State.writeDirect s id v).clock = s.clock ∧ (State.writeDirect s id v).power = s.power ∧ (State.writeDirect s id v).ctl = s.ctl ∧ (State.writeDirect s id v).jtag = s.jtag ∧ (State.writeDirect s id v).sprint = s.sprint ∧ (State.writeDirect s id v).rout = s.rout ∧ (State.writeDirect s id v).free = s.free ∧ (State.writeDirect s id v).pending = s.pending := by
  simp only [State.writeDirect]
  all_goals repeat' split
  all_goals simp

@[simp] theorem State.writeParam_keeps (s : State) (id v : Nat) :
    (State.writeParam s id v).clock = s.clock ∧ (State.writeParam s id v).power = s.power ∧ (State.writeParam s id v).ctl = s.ctl ∧ (State.writeParam s id v).jtag = s.jtag ∧ (State.writeParam s id v).sprint = s.sprint ∧ (State.writeParam s id v).rout = s.rout ∧ (State.writeParam s id v).free = s.free ∧ (State.writeParam s id v).pending = s.pending := by
  simp only [State.writeParam]
  all_goals repeat' split
  all_goals simp

@[simp] theorem State.writeRun_keeps (keep : PClass → Bool) (id : Nat) (vs : List Nat) (s : State) :
    (State.writeRun keep id vs s).clock = s.clock ∧ (State.writeRun keep id vs s).power = s.power ∧ (State.writeRun keep id vs s).ctl = s.ctl ∧ (State.writeRun keep id vs s).jtag = s.jtag ∧ (State.writeRun keep id vs s).sprint = s.sprint ∧ (State.writeRun keep id vs s).rout = s.rout ∧ (State.writeRun keep id vs s).free = s.free ∧ (State.writeRun keep id vs s).pending = s.pending := by
  induction vs generalizing id s with
  | nil => simp [State.writeRun]
  | cons v vs ih => simp only [State.writeRun]; split <;> simp [ih]

@[simp] theorem State.enqueue_clock (s : State) (j : Job) (data : List Byte) (now_ : State → State) (h : (now_ s).clock = s.clock) :
    (s.enqueue j data now_).clock = s.clock := by
  simp only [State.enqueue]
  split <;> simp [h]

@[simp] theorem State.enqueue_power (s : State) (j : Job) (data : List Byte) (now_ : State → State) (h : (now_ s).power = s.power) :
    (s.enqueue j data now_).power = s.power := by
  simp only [State.enqueue]
  split <;> simp [h]

@[simp] theorem State.enqueue_synth (s : State) (j : Job) (data : List Byte) (now_ : State → State) (h : (now_ s).synth = s.synth) :
    (s.enqueue j data now_).synth = s.synth := by
  simp only [State.enqueue]
  split <;> simp [h]

@[simp] theorem State.enqueue_dpll (s : State) (j : Job) (data : List Byte) (now_ : State → State) (h : (now_ s).dpll = s.dpll) :
    (s.enqueue j data now_).dpll = s.dpll := by
  simp only [State.enqueue]
  split <;> simp [h]

@[simp] theorem State.enqueue_mram (s : State) (j : Job) (data : List Byte) (now_ : State → State) (h : (now_ s).mram = s.mram) :
    (s.enqueue j data now_).mram = s.mram := by
  simp only [State.enqueue]
  split <;> simp [h]

@[simp] theorem State.enqueue_dep (s : State) (j : Job) (data : List Byte) (now_ : State → State) (h : (now_ s).dep = s.dep) :
    (s.enqueue j data now_).dep = s.dep := by
  simp only [State.enqueue]
  split <;> simp [h]

@[simp] theorem State.enqueue_log (s : State) (j : Job) (data : List Byte) (now_ : State → State) (h : (now_ s).log = s.log) :
    (s.enqueue j data now_).log = s.log := by
  simp only [State.enqueue]
  split <;> simp [h]

@[simp] theorem State.enqueue_jtag (s : State) (j : Job) (data : List Byte) (now_ : State → State) (h : (now_ s).jtag = s.jtag) :
    (s.enqueue j data now_).jtag = s.jtag := by
  simp only [State.enqueue]
  split <;> simp [h]

@[simp] theorem State.enqueue_inp (s : State) (j : Job) (data : List Byte) (now_ : State → State) (h : (now_ s).inp = s.inp) :
    (s.enqueue j data now_).inp = s.inp := by
  simp only [State.enqueue]
  split <;> simp [h]

@[simp] theorem State.enqueue_conv (s : State) (j : Job) (data : List Byte) (now_ : State → State) (h : (now_ s).conv = s.conv) :
    (s.enqueue j data now_).conv = s.conv := by
  simp only [State.enqueue]
  split <;> simp [h]

@[simp] theorem State.enqueue_sprint (s : State) (j : Job) (data : List Byte) (now_ : State → State) (h : (now_ s).sprint = s.sprint) :
    (s.enqueue j data now_).sprint = s.sprint := by
  simp only [State.enqueue]
  split <;> simp [h]

@[simp] theorem State.enqueue_graph (s : State) (j : Job) (data : List Byte) (now_ : State → State) (h : (now_ s).graph = s.graph) :
    (s.enqueue j data now_).graph = s.graph := by
  simp only [State.enqueue]
  split <;> simp [h]

@[simp] theorem State.enqueue_rout (s : State) (j : Job) (data : List Byte) (now_ : State → State) (h : (now_ s).rout = s.rout) :
    (s.enqueue j data now_).rout = s.rout := by
  simp only [State.enqueue]
  split <;> simp [h]

@[simp] theorem State.enqueue_out (s : State) (j : Job) (data : List Byte) (now_ : State → State) (h : (now_ s).out = s.out) :
    (s.enqueue j data now_).out = s.out := by
  simp only [State.enqueue]
  split <;> simp [h]

@[simp] theorem State.enqueue_ports (s : State) (j : Job) (data : List Byte) (now_ : State → State) (h : (now_ s).ports = s.ports) :
    (s.enqueue j data now_).ports = s.ports := by
  simp only [State.enqueue]
  split <;> simp [h]

@[simp] theorem State.enqueue_wake (s : State) (j : Job) (data : List Byte) (now_ : State → State) (h : (now_ s).wake = s.wake) :
    (s.enqueue j data now_).wake = s.wake := by
  simp only [State.enqueue]
  split <;> simp [h]

@[simp] theorem State.enqueue_free (s : State) (j : Job) (data : List Byte) (now_ : State → State) (h : (now_ s).free = s.free) :
    (s.enqueue j data now_).free = s.free := by
  simp only [State.enqueue]
  split <;> simp [h]

@[simp] theorem State.enqueue_pending (s : State) (j : Job) (data : List Byte) (now_ : State → State) (h : (now_ s).pending = s.pending) :
    (s.enqueue j data now_).pending = s.pending := by
  simp only [State.enqueue]
  split <;> simp [h]

@[simp] theorem State.doParamWrite_keeps (s : State) (j : Job) :
    (State.doParamWrite s j).clock = s.clock ∧ (State.doParamWrite s j).power = s.power ∧ (State.doParamWrite s j).jtag = s.jtag ∧ (State.doParamWrite s j).sprint = s.sprint ∧ (State.doParamWrite s j).rout = s.rout ∧ (State.doParamWrite s j).free = s.free ∧ (State.doParamWrite s j).pending = s.pending := by
  simp only [State.doParamWrite]
  all_goals repeat' split
  all_goals simp

@[simp] theorem State.doParamBlock_keeps (s : State) (j : Job) :
    (State.doParamBlock s j).clock = s.clock ∧ (State.doParamBlock s j).power = s.power ∧ (State.doParamBlock s j).jtag = s.jtag ∧ (State.doParamBlock s j).sprint = s.sprint ∧ (State.doParamBlock s j).rout = s.rout ∧ (State.doParamBlock s j).free = s.free ∧ (State.doParamBlock s j).pending = s.pending := by
  simp only [State.doParamBlock]
  all_goals repeat' split
  all_goals simp

@[simp] theorem State.doParamRead_keeps (s : State) (j : Job) :
    (State.doParamRead s j).clock = s.clock ∧ (State.doParamRead s j).power = s.power ∧ (State.doParamRead s j).synth = s.synth ∧ (State.doParamRead s j).dpll = s.dpll ∧ (State.doParamRead s j).mram = s.mram ∧ (State.doParamRead s j).cfg = s.cfg ∧ (State.doParamRead s j).dep = s.dep ∧ (State.doParamRead s j).log = s.log ∧ (State.doParamRead s j).jtag = s.jtag ∧ (State.doParamRead s j).inp = s.inp ∧ (State.doParamRead s j).conv = s.conv ∧ (State.doParamRead s j).sprint = s.sprint ∧ (State.doParamRead s j).graph = s.graph ∧ (State.doParamRead s j).rout = s.rout ∧ (State.doParamRead s j).out = s.out ∧ (State.doParamRead s j).ports = s.ports ∧ (State.doParamRead s j).wake = s.wake ∧ (State.doParamRead s j).free = s.free ∧ (State.doParamRead s j).pending = s.pending := by
  simp only [State.doParamRead]
  all_goals repeat' split
  all_goals simp

@[simp] theorem Job.onShadow_keeps (s : State) (j : Job) :
    (Job.onShadow s j).clock = s.clock ∧ (Job.onShadow s j).power = s.power ∧ (Job.onShadow s j).ctl = s.ctl ∧ (Job.onShadow s j).jtag = s.jtag ∧ (Job.onShadow s j).sprint = s.sprint ∧ (Job.onShadow s j).rout = s.rout ∧ (Job.onShadow s j).free = s.free ∧ (Job.onShadow s j).pending = s.pending := by
  simp only [Job.onShadow]
  simp

@[simp] theorem State.applyJobs_keeps (s : State) (l : List Job) :
    (State.applyJobs s l).clock = s.clock ∧ (State.applyJobs s l).power = s.power ∧ (State.applyJobs s l).jtag = s.jtag ∧ (State.applyJobs s l).sprint = s.sprint ∧ (State.applyJobs s l).rout = s.rout ∧ (State.applyJobs s l).free = s.free ∧ (State.applyJobs s l).pending = s.pending := by
  simp only [State.applyJobs]
  all_goals simp

@[simp] theorem State.applyQueue_keeps (s : State) (n : Nat) :
    (State.applyQueue s n).clock = s.clock ∧ (State.applyQueue s n).power = s.power ∧ (State.applyQueue s n).jtag = s.jtag ∧ (State.applyQueue s n).sprint = s.sprint ∧ (State.applyQueue s n).rout = s.rout ∧ (State.applyQueue s n).free = s.free ∧ (State.applyQueue s n).pending = s.pending := by
  simp only [State.applyQueue]
  all_goals simp

@[simp] theorem State.shadowWrite_keeps (s : State) (j : Job) (data : List Byte) :
    (State.shadowWrite s j data).clock = s.clock ∧ (State.shadowWrite s j data).power = s.power ∧ (State.shadowWrite s j data).jtag = s.jtag ∧ (State.shadowWrite s j data).sprint = s.sprint ∧ (State.shadowWrite s j data).rout = s.rout ∧ (State.shadowWrite s j data).free = s.free ∧ (State.shadowWrite s j data).pending = s.pending := by
  simp only [State.shadowWrite]
  all_goals repeat' split
  all_goals simp

@[simp] theorem State.abandonLoad_keeps (s : State) (j : Job) (g : Graph) :
    (State.abandonLoad s j g).clock = s.clock ∧ (State.abandonLoad s j g).power = s.power ∧ (State.abandonLoad s j g).synth = s.synth ∧ (State.abandonLoad s j g).dpll = s.dpll ∧ (State.abandonLoad s j g).bus = s.bus ∧ (State.abandonLoad s j g).ctl = s.ctl ∧ (State.abandonLoad s j g).mram = s.mram ∧ (State.abandonLoad s j g).dep = s.dep ∧ (State.abandonLoad s j g).log = s.log ∧ (State.abandonLoad s j g).jtag = s.jtag ∧ (State.abandonLoad s j g).inp = s.inp ∧ (State.abandonLoad s j g).conv = s.conv ∧ (State.abandonLoad s j g).sprint = s.sprint ∧ (State.abandonLoad s j g).rout = s.rout ∧ (State.abandonLoad s j g).out = s.out ∧ (State.abandonLoad s j g).ports = s.ports ∧ (State.abandonLoad s j g).link = s.link ∧ (State.abandonLoad s j g).wake = s.wake ∧ (State.abandonLoad s j g).free = s.free ∧ (State.abandonLoad s j g).pending = s.pending := by
  simp only [State.abandonLoad]
  all_goals repeat' split
  all_goals simp

@[simp] theorem State.doGraphLoad_keeps (s : State) (j : Job) :
    (State.doGraphLoad s j).clock = s.clock ∧ (State.doGraphLoad s j).power = s.power ∧ (State.doGraphLoad s j).jtag = s.jtag ∧ (State.doGraphLoad s j).sprint = s.sprint ∧ (State.doGraphLoad s j).rout = s.rout ∧ (State.doGraphLoad s j).pending = s.pending := by
  simp only [State.doGraphLoad]
  all_goals repeat' split
  all_goals simp

@[simp] theorem State.placeNode_keeps (s : State) (node slot tick : Nat) (n : NodeRec) (vals : List Nat) :
    (State.placeNode s node slot tick n vals).clock = s.clock ∧ (State.placeNode s node slot tick n vals).power = s.power ∧ (State.placeNode s node slot tick n vals).synth = s.synth ∧ (State.placeNode s node slot tick n vals).dpll = s.dpll ∧ (State.placeNode s node slot tick n vals).bus = s.bus ∧ (State.placeNode s node slot tick n vals).ctl = s.ctl ∧ (State.placeNode s node slot tick n vals).mram = s.mram ∧ (State.placeNode s node slot tick n vals).cfg = s.cfg ∧ (State.placeNode s node slot tick n vals).dep = s.dep ∧ (State.placeNode s node slot tick n vals).log = s.log ∧ (State.placeNode s node slot tick n vals).jtag = s.jtag ∧ (State.placeNode s node slot tick n vals).inp = s.inp ∧ (State.placeNode s node slot tick n vals).conv = s.conv ∧ (State.placeNode s node slot tick n vals).sprint = s.sprint ∧ (State.placeNode s node slot tick n vals).rout = s.rout ∧ (State.placeNode s node slot tick n vals).out = s.out ∧ (State.placeNode s node slot tick n vals).ports = s.ports ∧ (State.placeNode s node slot tick n vals).link = s.link ∧ (State.placeNode s node slot tick n vals).wake = s.wake ∧ (State.placeNode s node slot tick n vals).free = s.free ∧ (State.placeNode s node slot tick n vals).pending = s.pending := by
  simp only [State.placeNode]
  all_goals simp

@[simp] theorem State.doNodeWrite_keeps (s : State) (j : Job) :
    (State.doNodeWrite s j).clock = s.clock ∧ (State.doNodeWrite s j).power = s.power ∧ (State.doNodeWrite s j).jtag = s.jtag ∧ (State.doNodeWrite s j).sprint = s.sprint ∧ (State.doNodeWrite s j).rout = s.rout ∧ (State.doNodeWrite s j).free = s.free ∧ (State.doNodeWrite s j).pending = s.pending := by
  simp only [State.doNodeWrite]
  all_goals repeat' split
  all_goals simp

@[simp] theorem State.doNodeRead_keeps (s : State) (j : Job) :
    (State.doNodeRead s j).clock = s.clock ∧ (State.doNodeRead s j).power = s.power ∧ (State.doNodeRead s j).synth = s.synth ∧ (State.doNodeRead s j).dpll = s.dpll ∧ (State.doNodeRead s j).mram = s.mram ∧ (State.doNodeRead s j).cfg = s.cfg ∧ (State.doNodeRead s j).dep = s.dep ∧ (State.doNodeRead s j).log = s.log ∧ (State.doNodeRead s j).jtag = s.jtag ∧ (State.doNodeRead s j).inp = s.inp ∧ (State.doNodeRead s j).conv = s.conv ∧ (State.doNodeRead s j).sprint = s.sprint ∧ (State.doNodeRead s j).graph = s.graph ∧ (State.doNodeRead s j).rout = s.rout ∧ (State.doNodeRead s j).out = s.out ∧ (State.doNodeRead s j).ports = s.ports ∧ (State.doNodeRead s j).wake = s.wake ∧ (State.doNodeRead s j).free = s.free ∧ (State.doNodeRead s j).pending = s.pending := by
  simp only [State.doNodeRead]
  all_goals repeat' split
  all_goals simp

@[simp] theorem State.doSprintWrite_keeps (s : State) (j : Job) :
    (State.doSprintWrite s j).clock = s.clock ∧ (State.doSprintWrite s j).power = s.power ∧ (State.doSprintWrite s j).jtag = s.jtag ∧ (State.doSprintWrite s j).sprint = s.sprint ∧ (State.doSprintWrite s j).rout = s.rout ∧ (State.doSprintWrite s j).free = s.free ∧ (State.doSprintWrite s j).pending = s.pending := by
  simp only [State.doSprintWrite]
  all_goals repeat' split
  all_goals simp

@[simp] theorem State.doSprintRead_keeps (s : State) (j : Job) :
    (State.doSprintRead s j).clock = s.clock ∧ (State.doSprintRead s j).power = s.power ∧ (State.doSprintRead s j).synth = s.synth ∧ (State.doSprintRead s j).dpll = s.dpll ∧ (State.doSprintRead s j).mram = s.mram ∧ (State.doSprintRead s j).cfg = s.cfg ∧ (State.doSprintRead s j).dep = s.dep ∧ (State.doSprintRead s j).log = s.log ∧ (State.doSprintRead s j).jtag = s.jtag ∧ (State.doSprintRead s j).inp = s.inp ∧ (State.doSprintRead s j).conv = s.conv ∧ (State.doSprintRead s j).sprint = s.sprint ∧ (State.doSprintRead s j).graph = s.graph ∧ (State.doSprintRead s j).rout = s.rout ∧ (State.doSprintRead s j).out = s.out ∧ (State.doSprintRead s j).ports = s.ports ∧ (State.doSprintRead s j).wake = s.wake ∧ (State.doSprintRead s j).free = s.free ∧ (State.doSprintRead s j).pending = s.pending := by
  simp only [State.doSprintRead]
  all_goals repeat' split
  all_goals simp

@[simp] theorem State.doSlotWrite_keeps (s : State) (j : Job) :
    (State.doSlotWrite s j).clock = s.clock ∧ (State.doSlotWrite s j).power = s.power ∧ (State.doSlotWrite s j).jtag = s.jtag ∧ (State.doSlotWrite s j).sprint = s.sprint ∧ (State.doSlotWrite s j).rout = s.rout ∧ (State.doSlotWrite s j).free = s.free ∧ (State.doSlotWrite s j).pending = s.pending := by
  simp only [State.doSlotWrite]
  all_goals repeat' split
  all_goals simp

@[simp] theorem State.doSlotRead_keeps (s : State) (j : Job) :
    (State.doSlotRead s j).clock = s.clock ∧ (State.doSlotRead s j).power = s.power ∧ (State.doSlotRead s j).synth = s.synth ∧ (State.doSlotRead s j).dpll = s.dpll ∧ (State.doSlotRead s j).mram = s.mram ∧ (State.doSlotRead s j).cfg = s.cfg ∧ (State.doSlotRead s j).dep = s.dep ∧ (State.doSlotRead s j).log = s.log ∧ (State.doSlotRead s j).jtag = s.jtag ∧ (State.doSlotRead s j).inp = s.inp ∧ (State.doSlotRead s j).conv = s.conv ∧ (State.doSlotRead s j).sprint = s.sprint ∧ (State.doSlotRead s j).graph = s.graph ∧ (State.doSlotRead s j).rout = s.rout ∧ (State.doSlotRead s j).out = s.out ∧ (State.doSlotRead s j).ports = s.ports ∧ (State.doSlotRead s j).wake = s.wake ∧ (State.doSlotRead s j).free = s.free ∧ (State.doSlotRead s j).pending = s.pending := by
  simp only [State.doSlotRead]
  all_goals repeat' split
  all_goals simp

@[simp] theorem State.bankActs_keeps (s : State) (old : Tab PVal) (oldCells oldLink : Tab Byte) :
    (State.bankActs s old oldCells oldLink).clock = s.clock ∧ (State.bankActs s old oldCells oldLink).power = s.power ∧ (State.bankActs s old oldCells oldLink).synth = s.synth ∧ (State.bankActs s old oldCells oldLink).dpll = s.dpll ∧ (State.bankActs s old oldCells oldLink).bus = s.bus ∧ (State.bankActs s old oldCells oldLink).ctl = s.ctl ∧ (State.bankActs s old oldCells oldLink).mram = s.mram ∧ (State.bankActs s old oldCells oldLink).cfg = s.cfg ∧ (State.bankActs s old oldCells oldLink).dep = s.dep ∧ (State.bankActs s old oldCells oldLink).log = s.log ∧ (State.bankActs s old oldCells oldLink).jtag = s.jtag ∧ (State.bankActs s old oldCells oldLink).graph = s.graph ∧ (State.bankActs s old oldCells oldLink).ports = s.ports ∧ (State.bankActs s old oldCells oldLink).wake = s.wake ∧ (State.bankActs s old oldCells oldLink).free = s.free ∧ (State.bankActs s old oldCells oldLink).pending = s.pending := by
  simp only [State.bankActs]
  all_goals simp

@[simp] theorem State.exchange_keeps (s : State) (restart : Bool) :
    (State.exchange s restart).clock = s.clock ∧ (State.exchange s restart).power = s.power ∧ (State.exchange s restart).synth = s.synth ∧ (State.exchange s restart).dpll = s.dpll ∧ (State.exchange s restart).bus = s.bus ∧ (State.exchange s restart).ctl = s.ctl ∧ (State.exchange s restart).mram = s.mram ∧ (State.exchange s restart).log = s.log ∧ (State.exchange s restart).jtag = s.jtag ∧ (State.exchange s restart).ports = s.ports ∧ (State.exchange s restart).wake = s.wake ∧ (State.exchange s restart).free = s.free ∧ (State.exchange s restart).pending = s.pending := by
  simp only [State.exchange]
  all_goals repeat' split
  all_goals simp

@[simp] theorem State.askChecks_keeps (s : State) (spk : Bool) :
    (State.askChecks s spk).clock = s.clock ∧ (State.askChecks s spk).power = s.power ∧ (State.askChecks s spk).synth = s.synth ∧ (State.askChecks s spk).dpll = s.dpll ∧ (State.askChecks s spk).bus = s.bus ∧ (State.askChecks s spk).ctl = s.ctl ∧ (State.askChecks s spk).mram = s.mram ∧ (State.askChecks s spk).cfg = s.cfg ∧ (State.askChecks s spk).dep = s.dep ∧ (State.askChecks s spk).log = s.log ∧ (State.askChecks s spk).jtag = s.jtag ∧ (State.askChecks s spk).inp = s.inp ∧ (State.askChecks s spk).sprint = s.sprint ∧ (State.askChecks s spk).graph = s.graph ∧ (State.askChecks s spk).rout = s.rout ∧ (State.askChecks s spk).out = s.out ∧ (State.askChecks s spk).ports = s.ports ∧ (State.askChecks s spk).link = s.link ∧ (State.askChecks s spk).wake = s.wake ∧ (State.askChecks s spk).free = s.free ∧ (State.askChecks s spk).pending = s.pending := by
  simp only [State.askChecks]
  all_goals repeat' split
  all_goals simp

@[simp] theorem State.endFreeze_keeps (s : State) :
    (State.endFreeze s).clock = s.clock ∧ (State.endFreeze s).power = s.power ∧ (State.endFreeze s).jtag = s.jtag ∧ (State.endFreeze s).sprint = s.sprint ∧ (State.endFreeze s).rout = s.rout ∧ (State.endFreeze s).free = s.free ∧ (State.endFreeze s).pending = s.pending := by
  simp only [State.endFreeze]
  all_goals repeat' split
  all_goals simp

@[simp] theorem State.refuseCheck_keeps (s : State) (j : Job) (v : Verdict) :
    (State.refuseCheck s j v).clock = s.clock ∧ (State.refuseCheck s j v).power = s.power ∧ (State.refuseCheck s j v).jtag = s.jtag ∧ (State.refuseCheck s j v).sprint = s.sprint ∧ (State.refuseCheck s j v).rout = s.rout ∧ (State.refuseCheck s j v).pending = s.pending := by
  simp only [State.refuseCheck]
  all_goals simp

@[simp] theorem State.doBankSwap_keeps (s : State) (j : Job) :
    (State.doBankSwap s j).clock = s.clock ∧ (State.doBankSwap s j).power = s.power ∧ (State.doBankSwap s j).synth = s.synth ∧ (State.doBankSwap s j).dpll = s.dpll ∧ (State.doBankSwap s j).mram = s.mram ∧ (State.doBankSwap s j).dep = s.dep ∧ (State.doBankSwap s j).log = s.log ∧ (State.doBankSwap s j).jtag = s.jtag ∧ (State.doBankSwap s j).inp = s.inp ∧ (State.doBankSwap s j).sprint = s.sprint ∧ (State.doBankSwap s j).rout = s.rout ∧ (State.doBankSwap s j).out = s.out ∧ (State.doBankSwap s j).ports = s.ports ∧ (State.doBankSwap s j).wake = s.wake ∧ (State.doBankSwap s j).pending = s.pending := by
  simp only [State.doBankSwap]
  all_goals repeat' split
  all_goals simp

@[simp] theorem State.doArm_keeps (s : State) (j : Job) :
    (State.doArm s j).clock = s.clock ∧ (State.doArm s j).power = s.power ∧ (State.doArm s j).synth = s.synth ∧ (State.doArm s j).dpll = s.dpll ∧ (State.doArm s j).mram = s.mram ∧ (State.doArm s j).dep = s.dep ∧ (State.doArm s j).log = s.log ∧ (State.doArm s j).jtag = s.jtag ∧ (State.doArm s j).inp = s.inp ∧ (State.doArm s j).sprint = s.sprint ∧ (State.doArm s j).graph = s.graph ∧ (State.doArm s j).rout = s.rout ∧ (State.doArm s j).out = s.out ∧ (State.doArm s j).ports = s.ports ∧ (State.doArm s j).wake = s.wake ∧ (State.doArm s j).free = s.free ∧ (State.doArm s j).pending = s.pending := by
  simp only [State.doArm]
  all_goals repeat' split
  all_goals simp

@[simp] theorem State.noteBoot_keeps (s : State) (j : Job) (code : Nat) :
    (State.noteBoot s j code).clock = s.clock ∧ (State.noteBoot s j code).synth = s.synth ∧ (State.noteBoot s j code).dpll = s.dpll ∧ (State.noteBoot s j code).bus = s.bus ∧ (State.noteBoot s j code).ctl = s.ctl ∧ (State.noteBoot s j code).mram = s.mram ∧ (State.noteBoot s j code).cfg = s.cfg ∧ (State.noteBoot s j code).dep = s.dep ∧ (State.noteBoot s j code).log = s.log ∧ (State.noteBoot s j code).jtag = s.jtag ∧ (State.noteBoot s j code).inp = s.inp ∧ (State.noteBoot s j code).conv = s.conv ∧ (State.noteBoot s j code).sprint = s.sprint ∧ (State.noteBoot s j code).graph = s.graph ∧ (State.noteBoot s j code).rout = s.rout ∧ (State.noteBoot s j code).out = s.out ∧ (State.noteBoot s j code).ports = s.ports ∧ (State.noteBoot s j code).link = s.link ∧ (State.noteBoot s j code).wake = s.wake ∧ (State.noteBoot s j code).free = s.free ∧ (State.noteBoot s j code).pending = s.pending := by
  simp only [State.noteBoot]
  all_goals repeat' split
  all_goals simp

@[simp] theorem State.armChecked_keeps (s : State) (p : Pending) :
    (State.armChecked s p).clock = s.clock ∧ (State.armChecked s p).jtag = s.jtag ∧ (State.armChecked s p).sprint = s.sprint ∧ (State.armChecked s p).rout = s.rout ∧ (State.armChecked s p).pending = s.pending := by
  simp only [State.armChecked]
  all_goals repeat' split
  all_goals simp

@[simp] theorem State.recallChecked_keeps (s : State) (p : Pending) (arm : Bool) :
    (State.recallChecked s p arm).clock = s.clock ∧ (State.recallChecked s p arm).jtag = s.jtag ∧ (State.recallChecked s p arm).sprint = s.sprint ∧ (State.recallChecked s p arm).rout = s.rout ∧ (State.recallChecked s p arm).pending = s.pending := by
  simp only [State.recallChecked]
  all_goals repeat' split
  all_goals simp

@[simp] theorem State.doGraphCheck_keeps (s : State) (j : Job) :
    (State.doGraphCheck s j).clock = s.clock ∧ (State.doGraphCheck s j).power = s.power ∧ (State.doGraphCheck s j).synth = s.synth ∧ (State.doGraphCheck s j).dpll = s.dpll ∧ (State.doGraphCheck s j).mram = s.mram ∧ (State.doGraphCheck s j).dep = s.dep ∧ (State.doGraphCheck s j).log = s.log ∧ (State.doGraphCheck s j).jtag = s.jtag ∧ (State.doGraphCheck s j).inp = s.inp ∧ (State.doGraphCheck s j).conv = s.conv ∧ (State.doGraphCheck s j).sprint = s.sprint ∧ (State.doGraphCheck s j).graph = s.graph ∧ (State.doGraphCheck s j).rout = s.rout ∧ (State.doGraphCheck s j).out = s.out ∧ (State.doGraphCheck s j).ports = s.ports ∧ (State.doGraphCheck s j).wake = s.wake ∧ (State.doGraphCheck s j).free = s.free ∧ (State.doGraphCheck s j).pending = s.pending := by
  simp only [State.doGraphCheck]
  all_goals repeat' split
  all_goals simp

@[simp] theorem State.graphChecked_keeps (s : State) (j : Job) :
    (State.graphChecked s j).clock = s.clock ∧ (State.graphChecked s j).power = s.power ∧ (State.graphChecked s j).synth = s.synth ∧ (State.graphChecked s j).dpll = s.dpll ∧ (State.graphChecked s j).mram = s.mram ∧ (State.graphChecked s j).dep = s.dep ∧ (State.graphChecked s j).jtag = s.jtag ∧ (State.graphChecked s j).inp = s.inp ∧ (State.graphChecked s j).conv = s.conv ∧ (State.graphChecked s j).sprint = s.sprint ∧ (State.graphChecked s j).graph = s.graph ∧ (State.graphChecked s j).rout = s.rout ∧ (State.graphChecked s j).out = s.out ∧ (State.graphChecked s j).ports = s.ports ∧ (State.graphChecked s j).wake = s.wake ∧ (State.graphChecked s j).pending = s.pending := by
  simp only [State.graphChecked]
  all_goals repeat' split
  all_goals simp

@[simp] theorem State.doConfigSave_keeps (s : State) (j : Job) :
    (State.doConfigSave s j).clock = s.clock ∧ (State.doConfigSave s j).power = s.power ∧ (State.doConfigSave s j).synth = s.synth ∧ (State.doConfigSave s j).dpll = s.dpll ∧ (State.doConfigSave s j).mram = s.mram ∧ (State.doConfigSave s j).dep = s.dep ∧ (State.doConfigSave s j).log = s.log ∧ (State.doConfigSave s j).jtag = s.jtag ∧ (State.doConfigSave s j).inp = s.inp ∧ (State.doConfigSave s j).conv = s.conv ∧ (State.doConfigSave s j).sprint = s.sprint ∧ (State.doConfigSave s j).graph = s.graph ∧ (State.doConfigSave s j).rout = s.rout ∧ (State.doConfigSave s j).out = s.out ∧ (State.doConfigSave s j).ports = s.ports ∧ (State.doConfigSave s j).wake = s.wake ∧ (State.doConfigSave s j).free = s.free ∧ (State.doConfigSave s j).pending = s.pending := by
  simp only [State.doConfigSave]
  all_goals repeat' split
  all_goals simp

@[simp] theorem State.saveSnapshot_keeps (s : State) :
    (State.saveSnapshot s).clock = s.clock ∧ (State.saveSnapshot s).power = s.power ∧ (State.saveSnapshot s).synth = s.synth ∧ (State.saveSnapshot s).dpll = s.dpll ∧ (State.saveSnapshot s).mram = s.mram ∧ (State.saveSnapshot s).dep = s.dep ∧ (State.saveSnapshot s).jtag = s.jtag ∧ (State.saveSnapshot s).inp = s.inp ∧ (State.saveSnapshot s).conv = s.conv ∧ (State.saveSnapshot s).sprint = s.sprint ∧ (State.saveSnapshot s).graph = s.graph ∧ (State.saveSnapshot s).rout = s.rout ∧ (State.saveSnapshot s).out = s.out ∧ (State.saveSnapshot s).ports = s.ports ∧ (State.saveSnapshot s).wake = s.wake ∧ (State.saveSnapshot s).free = s.free ∧ (State.saveSnapshot s).pending = s.pending := by
  simp only [State.saveSnapshot]
  all_goals repeat' split
  all_goals simp

@[simp] theorem State.recallDirect_keeps (s : State) (recs : List (Nat × Nat)) :
    (s.recallDirect recs).clock = s.clock ∧ (s.recallDirect recs).power = s.power ∧ (s.recallDirect recs).ctl = s.ctl ∧ (s.recallDirect recs).jtag = s.jtag ∧ (s.recallDirect recs).sprint = s.sprint ∧ (s.recallDirect recs).rout = s.rout ∧ (s.recallDirect recs).free = s.free ∧ (s.recallDirect recs).pending = s.pending := by
  simp only [State.recallDirect]
  refine ⟨?_, ?_, ?_, ?_, ?_, ?_, ?_, ?_⟩
  · exact State.foldl_clock _ (fun s x => by repeat' (first | split | simp)) _ _
  · exact State.foldl_power _ (fun s x => by repeat' (first | split | simp)) _ _
  · exact State.foldl_ctl _ (fun s x => by repeat' (first | split | simp)) _ _
  · exact State.foldl_jtag _ (fun s x => by repeat' (first | split | simp)) _ _
  · exact State.foldl_sprint _ (fun s x => by repeat' (first | split | simp)) _ _
  · exact State.foldl_rout _ (fun s x => by repeat' (first | split | simp)) _ _
  · exact State.foldl_free _ (fun s x => by repeat' (first | split | simp)) _ _
  · exact State.foldl_pending _ (fun s x => by repeat' (first | split | simp)) _ _

@[simp] theorem State.recallLoad_keeps (s : State) (l : List (Nat × List Byte)) :
    (State.recallLoad s l).clock = s.clock ∧ (State.recallLoad s l).power = s.power ∧ (State.recallLoad s l).ctl = s.ctl ∧ (State.recallLoad s l).jtag = s.jtag ∧ (State.recallLoad s l).free = s.free ∧ (State.recallLoad s l).pending = s.pending := by
  simp only [State.recallLoad]
  all_goals simp

@[simp] theorem State.doConfigRecall_keeps (s : State) (j : Job) :
    (State.doConfigRecall s j).clock = s.clock ∧ (State.doConfigRecall s j).jtag = s.jtag ∧ (State.doConfigRecall s j).free = s.free ∧ (State.doConfigRecall s j).pending = s.pending := by
  simp only [State.doConfigRecall]
  all_goals repeat' split
  all_goals simp

@[simp] theorem State.doFwStage_keeps (s : State) (j : Job) :
    (State.doFwStage s j).clock = s.clock ∧ (State.doFwStage s j).power = s.power ∧ (State.doFwStage s j).synth = s.synth ∧ (State.doFwStage s j).dpll = s.dpll ∧ (State.doFwStage s j).dep = s.dep ∧ (State.doFwStage s j).log = s.log ∧ (State.doFwStage s j).jtag = s.jtag ∧ (State.doFwStage s j).inp = s.inp ∧ (State.doFwStage s j).conv = s.conv ∧ (State.doFwStage s j).sprint = s.sprint ∧ (State.doFwStage s j).graph = s.graph ∧ (State.doFwStage s j).rout = s.rout ∧ (State.doFwStage s j).out = s.out ∧ (State.doFwStage s j).ports = s.ports ∧ (State.doFwStage s j).wake = s.wake ∧ (State.doFwStage s j).free = s.free ∧ (State.doFwStage s j).pending = s.pending := by
  simp only [State.doFwStage]
  all_goals repeat' split
  all_goals simp

@[simp] theorem State.doFwCommit_keeps (s : State) (j : Job) :
    (State.doFwCommit s j).clock = s.clock ∧ (State.doFwCommit s j).power = s.power ∧ (State.doFwCommit s j).synth = s.synth ∧ (State.doFwCommit s j).dpll = s.dpll ∧ (State.doFwCommit s j).mram = s.mram ∧ (State.doFwCommit s j).dep = s.dep ∧ (State.doFwCommit s j).log = s.log ∧ (State.doFwCommit s j).jtag = s.jtag ∧ (State.doFwCommit s j).inp = s.inp ∧ (State.doFwCommit s j).conv = s.conv ∧ (State.doFwCommit s j).sprint = s.sprint ∧ (State.doFwCommit s j).graph = s.graph ∧ (State.doFwCommit s j).rout = s.rout ∧ (State.doFwCommit s j).out = s.out ∧ (State.doFwCommit s j).ports = s.ports ∧ (State.doFwCommit s j).wake = s.wake ∧ (State.doFwCommit s j).free = s.free ∧ (State.doFwCommit s j).pending = s.pending := by
  simp only [State.doFwCommit]
  all_goals repeat' split
  all_goals simp

@[simp] theorem State.countRestart_keeps (s : State) :
    (State.countRestart s).clock = s.clock ∧ (State.countRestart s).power = s.power ∧ (State.countRestart s).synth = s.synth ∧ (State.countRestart s).dpll = s.dpll ∧ (State.countRestart s).bus = s.bus ∧ (State.countRestart s).ctl = s.ctl ∧ (State.countRestart s).mram = s.mram ∧ (State.countRestart s).cfg = s.cfg ∧ (State.countRestart s).jtag = s.jtag ∧ (State.countRestart s).inp = s.inp ∧ (State.countRestart s).conv = s.conv ∧ (State.countRestart s).sprint = s.sprint ∧ (State.countRestart s).graph = s.graph ∧ (State.countRestart s).rout = s.rout ∧ (State.countRestart s).out = s.out ∧ (State.countRestart s).ports = s.ports ∧ (State.countRestart s).link = s.link ∧ (State.countRestart s).wake = s.wake ∧ (State.countRestart s).free = s.free ∧ (State.countRestart s).pending = s.pending := by
  simp only [State.countRestart]
  all_goals simp

@[simp] theorem State.dropInbox_keeps (s : State) :
    (State.dropInbox s).clock = s.clock ∧ (State.dropInbox s).power = s.power ∧ (State.dropInbox s).synth = s.synth ∧ (State.dropInbox s).dpll = s.dpll ∧ (State.dropInbox s).mram = s.mram ∧ (State.dropInbox s).cfg = s.cfg ∧ (State.dropInbox s).dep = s.dep ∧ (State.dropInbox s).log = s.log ∧ (State.dropInbox s).jtag = s.jtag ∧ (State.dropInbox s).inp = s.inp ∧ (State.dropInbox s).conv = s.conv ∧ (State.dropInbox s).sprint = s.sprint ∧ (State.dropInbox s).graph = s.graph ∧ (State.dropInbox s).rout = s.rout ∧ (State.dropInbox s).out = s.out ∧ (State.dropInbox s).ports = s.ports ∧ (State.dropInbox s).wake = s.wake ∧ (State.dropInbox s).free = s.free ∧ (State.dropInbox s).pending = s.pending := by
  simp only [State.dropInbox]
  all_goals simp

@[simp] theorem State.controlRestart_keeps (s : State) (cause : RestartCause) :
    (State.controlRestart s cause).clock = s.clock ∧ (State.controlRestart s cause).synth = s.synth ∧ (State.controlRestart s cause).dpll = s.dpll ∧ (State.controlRestart s cause).mram = s.mram ∧ (State.controlRestart s cause).log = s.log ∧ (State.controlRestart s cause).jtag = s.jtag ∧ (State.controlRestart s cause).inp = s.inp ∧ (State.controlRestart s cause).conv = s.conv ∧ (State.controlRestart s cause).sprint = s.sprint ∧ (State.controlRestart s cause).graph = s.graph ∧ (State.controlRestart s cause).rout = s.rout ∧ (State.controlRestart s cause).out = s.out ∧ (State.controlRestart s cause).ports = s.ports ∧ (State.controlRestart s cause).wake = s.wake ∧ (State.controlRestart s cause).free = s.free ∧ (State.controlRestart s cause).pending = s.pending := by
  simp only [State.controlRestart]
  all_goals simp

@[simp] theorem State.recoveryBoot_keeps (s : State) :
    (State.recoveryBoot s).clock = s.clock ∧ (State.recoveryBoot s).synth = s.synth ∧ (State.recoveryBoot s).dpll = s.dpll ∧ (State.recoveryBoot s).mram = s.mram ∧ (State.recoveryBoot s).cfg = s.cfg ∧ (State.recoveryBoot s).dep = s.dep ∧ (State.recoveryBoot s).log = s.log ∧ (State.recoveryBoot s).jtag = s.jtag ∧ (State.recoveryBoot s).inp = s.inp ∧ (State.recoveryBoot s).conv = s.conv ∧ (State.recoveryBoot s).sprint = s.sprint ∧ (State.recoveryBoot s).graph = s.graph ∧ (State.recoveryBoot s).rout = s.rout ∧ (State.recoveryBoot s).out = s.out ∧ (State.recoveryBoot s).ports = s.ports ∧ (State.recoveryBoot s).link = s.link ∧ (State.recoveryBoot s).wake = s.wake ∧ (State.recoveryBoot s).free = s.free ∧ (State.recoveryBoot s).pending = s.pending := by
  simp only [State.recoveryBoot]
  all_goals simp

@[simp] theorem State.noteUe_keeps (s : State) (m runner word : Nat) (injected : Bool) :
    (State.noteUe s m runner word injected).clock = s.clock ∧ (State.noteUe s m runner word injected).power = s.power ∧ (State.noteUe s m runner word injected).synth = s.synth ∧ (State.noteUe s m runner word injected).dpll = s.dpll ∧ (State.noteUe s m runner word injected).ctl = s.ctl ∧ (State.noteUe s m runner word injected).mram = s.mram ∧ (State.noteUe s m runner word injected).cfg = s.cfg ∧ (State.noteUe s m runner word injected).jtag = s.jtag ∧ (State.noteUe s m runner word injected).inp = s.inp ∧ (State.noteUe s m runner word injected).conv = s.conv ∧ (State.noteUe s m runner word injected).sprint = s.sprint ∧ (State.noteUe s m runner word injected).graph = s.graph ∧ (State.noteUe s m runner word injected).rout = s.rout ∧ (State.noteUe s m runner word injected).ports = s.ports ∧ (State.noteUe s m runner word injected).link = s.link ∧ (State.noteUe s m runner word injected).wake = s.wake ∧ (State.noteUe s m runner word injected).pending = s.pending := by
  simp only [State.noteUe]
  all_goals simp

@[simp] theorem State.noteCe_keeps (s : State) (m : Nat) (injected : Bool) :
    (State.noteCe s m injected).clock = s.clock ∧ (State.noteCe s m injected).power = s.power ∧ (State.noteCe s m injected).synth = s.synth ∧ (State.noteCe s m injected).dpll = s.dpll ∧ (State.noteCe s m injected).bus = s.bus ∧ (State.noteCe s m injected).ctl = s.ctl ∧ (State.noteCe s m injected).mram = s.mram ∧ (State.noteCe s m injected).cfg = s.cfg ∧ (State.noteCe s m injected).jtag = s.jtag ∧ (State.noteCe s m injected).inp = s.inp ∧ (State.noteCe s m injected).conv = s.conv ∧ (State.noteCe s m injected).sprint = s.sprint ∧ (State.noteCe s m injected).graph = s.graph ∧ (State.noteCe s m injected).rout = s.rout ∧ (State.noteCe s m injected).out = s.out ∧ (State.noteCe s m injected).ports = s.ports ∧ (State.noteCe s m injected).link = s.link ∧ (State.noteCe s m injected).wake = s.wake ∧ (State.noteCe s m injected).free = s.free ∧ (State.noteCe s m injected).pending = s.pending := by
  simp only [State.noteCe]
  all_goals simp

@[simp] theorem State.sharedUe_keeps (s : State) :
    (State.sharedUe s).clock = s.clock ∧ (State.sharedUe s).power = s.power ∧ (State.sharedUe s).synth = s.synth ∧ (State.sharedUe s).dpll = s.dpll ∧ (State.sharedUe s).bus = s.bus ∧ (State.sharedUe s).ctl = s.ctl ∧ (State.sharedUe s).mram = s.mram ∧ (State.sharedUe s).cfg = s.cfg ∧ (State.sharedUe s).log = s.log ∧ (State.sharedUe s).jtag = s.jtag ∧ (State.sharedUe s).inp = s.inp ∧ (State.sharedUe s).conv = s.conv ∧ (State.sharedUe s).sprint = s.sprint ∧ (State.sharedUe s).rout = s.rout ∧ (State.sharedUe s).out = s.out ∧ (State.sharedUe s).ports = s.ports ∧ (State.sharedUe s).link = s.link ∧ (State.sharedUe s).wake = s.wake ∧ (State.sharedUe s).free = s.free ∧ (State.sharedUe s).pending = s.pending := by
  simp only [State.sharedUe]
  all_goals repeat' split
  all_goals simp

@[simp] theorem State.localUe_keeps (s : State) (runner : Nat) :
    (State.localUe s runner).clock = s.clock ∧ (State.localUe s runner).power = s.power ∧ (State.localUe s runner).synth = s.synth ∧ (State.localUe s runner).dpll = s.dpll ∧ (State.localUe s runner).bus = s.bus ∧ (State.localUe s runner).ctl = s.ctl ∧ (State.localUe s runner).mram = s.mram ∧ (State.localUe s runner).cfg = s.cfg ∧ (State.localUe s runner).log = s.log ∧ (State.localUe s runner).jtag = s.jtag ∧ (State.localUe s runner).inp = s.inp ∧ (State.localUe s runner).conv = s.conv ∧ (State.localUe s runner).sprint = s.sprint ∧ (State.localUe s runner).rout = s.rout ∧ (State.localUe s runner).out = s.out ∧ (State.localUe s runner).ports = s.ports ∧ (State.localUe s runner).link = s.link ∧ (State.localUe s runner).wake = s.wake ∧ (State.localUe s runner).free = s.free ∧ (State.localUe s runner).pending = s.pending := by
  simp only [State.localUe]
  all_goals repeat' split
  all_goals simp

@[simp] theorem State.tableUe_keeps (s : State) (i : Nat) :
    (State.tableUe s i).clock = s.clock ∧ (State.tableUe s i).power = s.power ∧ (State.tableUe s i).synth = s.synth ∧ (State.tableUe s i).dpll = s.dpll ∧ (State.tableUe s i).bus = s.bus ∧ (State.tableUe s i).ctl = s.ctl ∧ (State.tableUe s i).mram = s.mram ∧ (State.tableUe s i).cfg = s.cfg ∧ (State.tableUe s i).dep = s.dep ∧ (State.tableUe s i).log = s.log ∧ (State.tableUe s i).jtag = s.jtag ∧ (State.tableUe s i).inp = s.inp ∧ (State.tableUe s i).conv = s.conv ∧ (State.tableUe s i).sprint = s.sprint ∧ (State.tableUe s i).rout = s.rout ∧ (State.tableUe s i).out = s.out ∧ (State.tableUe s i).ports = s.ports ∧ (State.tableUe s i).link = s.link ∧ (State.tableUe s i).wake = s.wake ∧ (State.tableUe s i).free = s.free ∧ (State.tableUe s i).pending = s.pending := by
  simp only [State.tableUe]
  all_goals simp

@[simp] theorem State.storeUe_keeps (s : State) :
    (State.storeUe s).clock = s.clock ∧ (State.storeUe s).power = s.power ∧ (State.storeUe s).synth = s.synth ∧ (State.storeUe s).dpll = s.dpll ∧ (State.storeUe s).bus = s.bus ∧ (State.storeUe s).ctl = s.ctl ∧ (State.storeUe s).mram = s.mram ∧ (State.storeUe s).cfg = s.cfg ∧ (State.storeUe s).dep = s.dep ∧ (State.storeUe s).log = s.log ∧ (State.storeUe s).jtag = s.jtag ∧ (State.storeUe s).inp = s.inp ∧ (State.storeUe s).conv = s.conv ∧ (State.storeUe s).sprint = s.sprint ∧ (State.storeUe s).rout = s.rout ∧ (State.storeUe s).out = s.out ∧ (State.storeUe s).ports = s.ports ∧ (State.storeUe s).link = s.link ∧ (State.storeUe s).wake = s.wake ∧ (State.storeUe s).free = s.free ∧ (State.storeUe s).pending = s.pending := by
  simp only [State.storeUe]
  all_goals repeat' split
  all_goals simp

@[simp] theorem State.bankFails_keeps (s : State) (o : Nat × Nat) :
    (State.bankFails s o).clock = s.clock ∧ (State.bankFails s o).power = s.power ∧ (State.bankFails s o).synth = s.synth ∧ (State.bankFails s o).dpll = s.dpll ∧ (State.bankFails s o).bus = s.bus ∧ (State.bankFails s o).ctl = s.ctl ∧ (State.bankFails s o).mram = s.mram ∧ (State.bankFails s o).cfg = s.cfg ∧ (State.bankFails s o).dep = s.dep ∧ (State.bankFails s o).log = s.log ∧ (State.bankFails s o).jtag = s.jtag ∧ (State.bankFails s o).inp = s.inp ∧ (State.bankFails s o).conv = s.conv ∧ (State.bankFails s o).graph = s.graph ∧ (State.bankFails s o).out = s.out ∧ (State.bankFails s o).ports = s.ports ∧ (State.bankFails s o).link = s.link ∧ (State.bankFails s o).wake = s.wake ∧ (State.bankFails s o).free = s.free ∧ (State.bankFails s o).pending = s.pending := by
  simp only [State.bankFails]
  all_goals repeat' split
  all_goals simp

@[simp] theorem State.bankUe_keeps (s : State) (active : Bool) :
    (State.bankUe s active).clock = s.clock ∧ (State.bankUe s active).power = s.power ∧ (State.bankUe s active).synth = s.synth ∧ (State.bankUe s active).dpll = s.dpll ∧ (State.bankUe s active).bus = s.bus ∧ (State.bankUe s active).ctl = s.ctl ∧ (State.bankUe s active).mram = s.mram ∧ (State.bankUe s active).cfg = s.cfg ∧ (State.bankUe s active).log = s.log ∧ (State.bankUe s active).jtag = s.jtag ∧ (State.bankUe s active).inp = s.inp ∧ (State.bankUe s active).conv = s.conv ∧ (State.bankUe s active).graph = s.graph ∧ (State.bankUe s active).out = s.out ∧ (State.bankUe s active).ports = s.ports ∧ (State.bankUe s active).link = s.link ∧ (State.bankUe s active).wake = s.wake ∧ (State.bankUe s active).free = s.free ∧ (State.bankUe s active).pending = s.pending := by
  simp only [State.bankUe]
  all_goals repeat' split
  all_goals simp

@[simp] theorem State.bankMends_keeps (s : State) (kind index : Nat) :
    (State.bankMends s kind index).clock = s.clock ∧ (State.bankMends s kind index).power = s.power ∧ (State.bankMends s kind index).synth = s.synth ∧ (State.bankMends s kind index).dpll = s.dpll ∧ (State.bankMends s kind index).bus = s.bus ∧ (State.bankMends s kind index).ctl = s.ctl ∧ (State.bankMends s kind index).mram = s.mram ∧ (State.bankMends s kind index).cfg = s.cfg ∧ (State.bankMends s kind index).dep = s.dep ∧ (State.bankMends s kind index).log = s.log ∧ (State.bankMends s kind index).jtag = s.jtag ∧ (State.bankMends s kind index).inp = s.inp ∧ (State.bankMends s kind index).conv = s.conv ∧ (State.bankMends s kind index).graph = s.graph ∧ (State.bankMends s kind index).out = s.out ∧ (State.bankMends s kind index).ports = s.ports ∧ (State.bankMends s kind index).link = s.link ∧ (State.bankMends s kind index).wake = s.wake ∧ (State.bankMends s kind index).free = s.free ∧ (State.bankMends s kind index).pending = s.pending := by
  simp only [State.bankMends]
  all_goals repeat' split
  all_goals simp

@[simp] theorem State.faultsSwapped_keeps (s : State) :
    (State.faultsSwapped s).clock = s.clock ∧ (State.faultsSwapped s).power = s.power ∧ (State.faultsSwapped s).synth = s.synth ∧ (State.faultsSwapped s).dpll = s.dpll ∧ (State.faultsSwapped s).bus = s.bus ∧ (State.faultsSwapped s).ctl = s.ctl ∧ (State.faultsSwapped s).mram = s.mram ∧ (State.faultsSwapped s).cfg = s.cfg ∧ (State.faultsSwapped s).dep = s.dep ∧ (State.faultsSwapped s).log = s.log ∧ (State.faultsSwapped s).jtag = s.jtag ∧ (State.faultsSwapped s).inp = s.inp ∧ (State.faultsSwapped s).conv = s.conv ∧ (State.faultsSwapped s).graph = s.graph ∧ (State.faultsSwapped s).out = s.out ∧ (State.faultsSwapped s).ports = s.ports ∧ (State.faultsSwapped s).link = s.link ∧ (State.faultsSwapped s).wake = s.wake ∧ (State.faultsSwapped s).free = s.free ∧ (State.faultsSwapped s).pending = s.pending := by
  simp only [State.faultsSwapped]
  all_goals simp

@[simp] theorem State.copyObject_keeps (s : State) (toActive : Bool) (kind index : Nat) :
    (State.copyObject s toActive kind index).clock = s.clock ∧ (State.copyObject s toActive kind index).power = s.power ∧ (State.copyObject s toActive kind index).synth = s.synth ∧ (State.copyObject s toActive kind index).dpll = s.dpll ∧ (State.copyObject s toActive kind index).bus = s.bus ∧ (State.copyObject s toActive kind index).ctl = s.ctl ∧ (State.copyObject s toActive kind index).mram = s.mram ∧ (State.copyObject s toActive kind index).dep = s.dep ∧ (State.copyObject s toActive kind index).log = s.log ∧ (State.copyObject s toActive kind index).jtag = s.jtag ∧ (State.copyObject s toActive kind index).inp = s.inp ∧ (State.copyObject s toActive kind index).conv = s.conv ∧ (State.copyObject s toActive kind index).sprint = s.sprint ∧ (State.copyObject s toActive kind index).rout = s.rout ∧ (State.copyObject s toActive kind index).out = s.out ∧ (State.copyObject s toActive kind index).ports = s.ports ∧ (State.copyObject s toActive kind index).link = s.link ∧ (State.copyObject s toActive kind index).wake = s.wake ∧ (State.copyObject s toActive kind index).free = s.free ∧ (State.copyObject s toActive kind index).pending = s.pending := by
  simp only [State.copyObject]
  all_goals repeat' split
  all_goals simp

@[simp] theorem State.controlUe_keeps (s : State) :
    (State.controlUe s).clock = s.clock ∧ (State.controlUe s).synth = s.synth ∧ (State.controlUe s).dpll = s.dpll ∧ (State.controlUe s).mram = s.mram ∧ (State.controlUe s).log = s.log ∧ (State.controlUe s).jtag = s.jtag ∧ (State.controlUe s).inp = s.inp ∧ (State.controlUe s).conv = s.conv ∧ (State.controlUe s).sprint = s.sprint ∧ (State.controlUe s).rout = s.rout ∧ (State.controlUe s).out = s.out ∧ (State.controlUe s).ports = s.ports ∧ (State.controlUe s).wake = s.wake ∧ (State.controlUe s).free = s.free ∧ (State.controlUe s).pending = s.pending := by
  simp only [State.controlUe]
  all_goals repeat' split
  all_goals simp

@[simp] theorem State.historyUe_keeps (s : State) (word : Nat) :
    (State.historyUe s word).clock = s.clock ∧ (State.historyUe s word).power = s.power ∧ (State.historyUe s word).synth = s.synth ∧ (State.historyUe s word).dpll = s.dpll ∧ (State.historyUe s word).bus = s.bus ∧ (State.historyUe s word).ctl = s.ctl ∧ (State.historyUe s word).mram = s.mram ∧ (State.historyUe s word).cfg = s.cfg ∧ (State.historyUe s word).dep = s.dep ∧ (State.historyUe s word).log = s.log ∧ (State.historyUe s word).jtag = s.jtag ∧ (State.historyUe s word).inp = s.inp ∧ (State.historyUe s word).conv = s.conv ∧ (State.historyUe s word).sprint = s.sprint ∧ (State.historyUe s word).graph = s.graph ∧ (State.historyUe s word).rout = s.rout ∧ (State.historyUe s word).out = s.out ∧ (State.historyUe s word).ports = s.ports ∧ (State.historyUe s word).link = s.link ∧ (State.historyUe s word).free = s.free ∧ (State.historyUe s word).pending = s.pending := by
  simp only [State.historyUe]
  all_goals simp

@[simp] theorem State.templateUe_keeps (s : State) :
    (State.templateUe s).clock = s.clock ∧ (State.templateUe s).power = s.power ∧ (State.templateUe s).synth = s.synth ∧ (State.templateUe s).dpll = s.dpll ∧ (State.templateUe s).bus = s.bus ∧ (State.templateUe s).ctl = s.ctl ∧ (State.templateUe s).mram = s.mram ∧ (State.templateUe s).cfg = s.cfg ∧ (State.templateUe s).dep = s.dep ∧ (State.templateUe s).log = s.log ∧ (State.templateUe s).jtag = s.jtag ∧ (State.templateUe s).inp = s.inp ∧ (State.templateUe s).conv = s.conv ∧ (State.templateUe s).sprint = s.sprint ∧ (State.templateUe s).graph = s.graph ∧ (State.templateUe s).rout = s.rout ∧ (State.templateUe s).out = s.out ∧ (State.templateUe s).ports = s.ports ∧ (State.templateUe s).link = s.link ∧ (State.templateUe s).free = s.free ∧ (State.templateUe s).pending = s.pending := by
  simp only [State.templateUe]
  all_goals simp

@[simp] theorem State.mramUe_keeps (s : State) (word : Nat) :
    (State.mramUe s word).clock = s.clock ∧ (State.mramUe s word).power = s.power ∧ (State.mramUe s word).synth = s.synth ∧ (State.mramUe s word).dpll = s.dpll ∧ (State.mramUe s word).bus = s.bus ∧ (State.mramUe s word).cfg = s.cfg ∧ (State.mramUe s word).dep = s.dep ∧ (State.mramUe s word).log = s.log ∧ (State.mramUe s word).jtag = s.jtag ∧ (State.mramUe s word).inp = s.inp ∧ (State.mramUe s word).conv = s.conv ∧ (State.mramUe s word).sprint = s.sprint ∧ (State.mramUe s word).graph = s.graph ∧ (State.mramUe s word).rout = s.rout ∧ (State.mramUe s word).out = s.out ∧ (State.mramUe s word).ports = s.ports ∧ (State.mramUe s word).link = s.link ∧ (State.mramUe s word).wake = s.wake ∧ (State.mramUe s word).free = s.free ∧ (State.mramUe s word).pending = s.pending := by
  simp only [State.mramUe]
  all_goals repeat' split
  all_goals simp

@[simp] theorem State.contentUe_keeps (s : State) (m runner word : Nat) :
    (State.contentUe s m runner word).clock = s.clock ∧ (State.contentUe s m runner word).synth = s.synth ∧ (State.contentUe s m runner word).dpll = s.dpll ∧ (State.contentUe s m runner word).log = s.log ∧ (State.contentUe s m runner word).jtag = s.jtag ∧ (State.contentUe s m runner word).inp = s.inp ∧ (State.contentUe s m runner word).conv = s.conv ∧ (State.contentUe s m runner word).out = s.out ∧ (State.contentUe s m runner word).ports = s.ports ∧ (State.contentUe s m runner word).free = s.free ∧ (State.contentUe s m runner word).pending = s.pending := by
  simp only [State.contentUe]
  all_goals repeat' split
  all_goals simp

@[simp] theorem State.ueFound_keeps (s : State) (m runner word : Nat) (injected : Bool) :
    (State.ueFound s m runner word injected).clock = s.clock ∧ (State.ueFound s m runner word injected).synth = s.synth ∧ (State.ueFound s m runner word injected).dpll = s.dpll ∧ (State.ueFound s m runner word injected).jtag = s.jtag ∧ (State.ueFound s m runner word injected).inp = s.inp ∧ (State.ueFound s m runner word injected).conv = s.conv ∧ (State.ueFound s m runner word injected).ports = s.ports ∧ (State.ueFound s m runner word injected).pending = s.pending := by
  simp only [State.ueFound]
  all_goals simp

@[simp] theorem State.injectAct_keeps (s : State) :
    (State.injectAct s).clock = s.clock ∧ (State.injectAct s).power = s.power ∧ (State.injectAct s).synth = s.synth ∧ (State.injectAct s).dpll = s.dpll ∧ (State.injectAct s).bus = s.bus ∧ (State.injectAct s).ctl = s.ctl ∧ (State.injectAct s).mram = s.mram ∧ (State.injectAct s).log = s.log ∧ (State.injectAct s).jtag = s.jtag ∧ (State.injectAct s).inp = s.inp ∧ (State.injectAct s).conv = s.conv ∧ (State.injectAct s).sprint = s.sprint ∧ (State.injectAct s).graph = s.graph ∧ (State.injectAct s).rout = s.rout ∧ (State.injectAct s).out = s.out ∧ (State.injectAct s).ports = s.ports ∧ (State.injectAct s).link = s.link ∧ (State.injectAct s).wake = s.wake ∧ (State.injectAct s).free = s.free ∧ (State.injectAct s).pending = s.pending := by
  simp only [State.injectAct]
  all_goals repeat' split
  all_goals simp

@[simp] theorem State.ringUe_keeps (s : State) (word : Nat) (injected : Bool) :
    (State.ringUe s word injected).clock = s.clock ∧ (State.ringUe s word injected).power = s.power ∧ (State.ringUe s word injected).synth = s.synth ∧ (State.ringUe s word injected).dpll = s.dpll ∧ (State.ringUe s word injected).ctl = s.ctl ∧ (State.ringUe s word injected).mram = s.mram ∧ (State.ringUe s word injected).cfg = s.cfg ∧ (State.ringUe s word injected).jtag = s.jtag ∧ (State.ringUe s word injected).inp = s.inp ∧ (State.ringUe s word injected).conv = s.conv ∧ (State.ringUe s word injected).sprint = s.sprint ∧ (State.ringUe s word injected).graph = s.graph ∧ (State.ringUe s word injected).rout = s.rout ∧ (State.ringUe s word injected).link = s.link ∧ (State.ringUe s word injected).wake = s.wake ∧ (State.ringUe s word injected).pending = s.pending := by
  simp only [State.ringUe]
  all_goals repeat' split
  all_goals simp

@[simp] theorem State.ringsFound_keeps (s : State) :
    (State.ringsFound s).clock = s.clock ∧ (State.ringsFound s).power = s.power ∧ (State.ringsFound s).synth = s.synth ∧ (State.ringsFound s).dpll = s.dpll ∧ (State.ringsFound s).ctl = s.ctl ∧ (State.ringsFound s).mram = s.mram ∧ (State.ringsFound s).cfg = s.cfg ∧ (State.ringsFound s).jtag = s.jtag ∧ (State.ringsFound s).inp = s.inp ∧ (State.ringsFound s).conv = s.conv ∧ (State.ringsFound s).sprint = s.sprint ∧ (State.ringsFound s).graph = s.graph ∧ (State.ringsFound s).rout = s.rout ∧ (State.ringsFound s).link = s.link ∧ (State.ringsFound s).wake = s.wake ∧ (State.ringsFound s).pending = s.pending := by
  simp only [State.ringsFound]
  all_goals simp

@[simp] theorem State.holdEdges_keeps (s : State) (n : Nat) :
    (State.holdEdges s n).clock = s.clock ∧ (State.holdEdges s n).power = s.power ∧ (State.holdEdges s n).synth = s.synth ∧ (State.holdEdges s n).dpll = s.dpll ∧ (State.holdEdges s n).bus = s.bus ∧ (State.holdEdges s n).ctl = s.ctl ∧ (State.holdEdges s n).mram = s.mram ∧ (State.holdEdges s n).cfg = s.cfg ∧ (State.holdEdges s n).dep = s.dep ∧ (State.holdEdges s n).log = s.log ∧ (State.holdEdges s n).jtag = s.jtag ∧ (State.holdEdges s n).inp = s.inp ∧ (State.holdEdges s n).sprint = s.sprint ∧ (State.holdEdges s n).graph = s.graph ∧ (State.holdEdges s n).rout = s.rout ∧ (State.holdEdges s n).out = s.out ∧ (State.holdEdges s n).ports = s.ports ∧ (State.holdEdges s n).link = s.link ∧ (State.holdEdges s n).wake = s.wake ∧ (State.holdEdges s n).free = s.free ∧ (State.holdEdges s n).pending = s.pending := by
  simp only [State.holdEdges]
  all_goals simp

@[simp] theorem State.jtagSet_keeps (s : State) (i : Jtag) :
    (State.jtagSet s i).free = s.free ∧ (State.jtagSet s i).pending = s.pending := by
  simp only [State.jtagSet]
  all_goals repeat' split
  all_goals simp

@[simp] theorem State.clearBus_keeps (s : State) :
    (State.clearBus s).clock = s.clock ∧ (State.clearBus s).power = s.power ∧ (State.clearBus s).synth = s.synth ∧ (State.clearBus s).dpll = s.dpll ∧ (State.clearBus s).ctl = s.ctl ∧ (State.clearBus s).mram = s.mram ∧ (State.clearBus s).cfg = s.cfg ∧ (State.clearBus s).dep = s.dep ∧ (State.clearBus s).log = s.log ∧ (State.clearBus s).jtag = s.jtag ∧ (State.clearBus s).inp = s.inp ∧ (State.clearBus s).conv = s.conv ∧ (State.clearBus s).sprint = s.sprint ∧ (State.clearBus s).graph = s.graph ∧ (State.clearBus s).rout = s.rout ∧ (State.clearBus s).out = s.out ∧ (State.clearBus s).ports = s.ports ∧ (State.clearBus s).link = s.link ∧ (State.clearBus s).wake = s.wake ∧ (State.clearBus s).free = s.free ∧ (State.clearBus s).pending = s.pending := by
  simp only [State.clearBus]
  all_goals simp

@[simp] theorem State.clearControl_keeps (s : State) :
    (State.clearControl s).clock = s.clock ∧ (State.clearControl s).power = s.power ∧ (State.clearControl s).synth = s.synth ∧ (State.clearControl s).dpll = s.dpll ∧ (State.clearControl s).bus = s.bus ∧ (State.clearControl s).mram = s.mram ∧ (State.clearControl s).cfg = s.cfg ∧ (State.clearControl s).dep = s.dep ∧ (State.clearControl s).log = s.log ∧ (State.clearControl s).jtag = s.jtag ∧ (State.clearControl s).inp = s.inp ∧ (State.clearControl s).conv = s.conv ∧ (State.clearControl s).sprint = s.sprint ∧ (State.clearControl s).graph = s.graph ∧ (State.clearControl s).rout = s.rout ∧ (State.clearControl s).out = s.out ∧ (State.clearControl s).ports = s.ports ∧ (State.clearControl s).link = s.link ∧ (State.clearControl s).wake = s.wake ∧ (State.clearControl s).free = s.free ∧ (State.clearControl s).pending = s.pending := by
  simp only [State.clearControl]
  all_goals simp

@[simp] theorem State.clearDep_keeps (s : State) :
    (State.clearDep s).clock = s.clock ∧ (State.clearDep s).power = s.power ∧ (State.clearDep s).synth = s.synth ∧ (State.clearDep s).dpll = s.dpll ∧ (State.clearDep s).bus = s.bus ∧ (State.clearDep s).ctl = s.ctl ∧ (State.clearDep s).mram = s.mram ∧ (State.clearDep s).cfg = s.cfg ∧ (State.clearDep s).log = s.log ∧ (State.clearDep s).jtag = s.jtag ∧ (State.clearDep s).inp = s.inp ∧ (State.clearDep s).conv = s.conv ∧ (State.clearDep s).sprint = s.sprint ∧ (State.clearDep s).graph = s.graph ∧ (State.clearDep s).rout = s.rout ∧ (State.clearDep s).out = s.out ∧ (State.clearDep s).ports = s.ports ∧ (State.clearDep s).link = s.link ∧ (State.clearDep s).wake = s.wake ∧ (State.clearDep s).free = s.free ∧ (State.clearDep s).pending = s.pending := by
  simp only [State.clearDep]
  all_goals simp

@[simp] theorem State.clearCfg_keeps (s : State) :
    (State.clearCfg s).clock = s.clock ∧ (State.clearCfg s).power = s.power ∧ (State.clearCfg s).synth = s.synth ∧ (State.clearCfg s).dpll = s.dpll ∧ (State.clearCfg s).bus = s.bus ∧ (State.clearCfg s).ctl = s.ctl ∧ (State.clearCfg s).mram = s.mram ∧ (State.clearCfg s).dep = s.dep ∧ (State.clearCfg s).log = s.log ∧ (State.clearCfg s).jtag = s.jtag ∧ (State.clearCfg s).inp = s.inp ∧ (State.clearCfg s).conv = s.conv ∧ (State.clearCfg s).sprint = s.sprint ∧ (State.clearCfg s).graph = s.graph ∧ (State.clearCfg s).rout = s.rout ∧ (State.clearCfg s).out = s.out ∧ (State.clearCfg s).ports = s.ports ∧ (State.clearCfg s).link = s.link ∧ (State.clearCfg s).wake = s.wake ∧ (State.clearCfg s).free = s.free ∧ (State.clearCfg s).pending = s.pending := by
  simp only [State.clearCfg]
  all_goals simp

@[simp] theorem State.latchStatus_keeps (s : State) :
    (State.latchStatus s).clock = s.clock ∧ (State.latchStatus s).power = s.power ∧ (State.latchStatus s).synth = s.synth ∧ (State.latchStatus s).dpll = s.dpll ∧ (State.latchStatus s).ctl = s.ctl ∧ (State.latchStatus s).mram = s.mram ∧ (State.latchStatus s).cfg = s.cfg ∧ (State.latchStatus s).dep = s.dep ∧ (State.latchStatus s).log = s.log ∧ (State.latchStatus s).jtag = s.jtag ∧ (State.latchStatus s).inp = s.inp ∧ (State.latchStatus s).conv = s.conv ∧ (State.latchStatus s).sprint = s.sprint ∧ (State.latchStatus s).graph = s.graph ∧ (State.latchStatus s).rout = s.rout ∧ (State.latchStatus s).out = s.out ∧ (State.latchStatus s).ports = s.ports ∧ (State.latchStatus s).link = s.link ∧ (State.latchStatus s).wake = s.wake ∧ (State.latchStatus s).free = s.free ∧ (State.latchStatus s).pending = s.pending := by
  simp only [State.latchStatus]
  all_goals simp

@[simp] theorem State.doStatusRead_keeps (s : State) (j : Job) :
    (State.doStatusRead s j).clock = s.clock ∧ (State.doStatusRead s j).power = s.power ∧ (State.doStatusRead s j).synth = s.synth ∧ (State.doStatusRead s j).dpll = s.dpll ∧ (State.doStatusRead s j).mram = s.mram ∧ (State.doStatusRead s j).cfg = s.cfg ∧ (State.doStatusRead s j).dep = s.dep ∧ (State.doStatusRead s j).log = s.log ∧ (State.doStatusRead s j).jtag = s.jtag ∧ (State.doStatusRead s j).inp = s.inp ∧ (State.doStatusRead s j).conv = s.conv ∧ (State.doStatusRead s j).sprint = s.sprint ∧ (State.doStatusRead s j).graph = s.graph ∧ (State.doStatusRead s j).rout = s.rout ∧ (State.doStatusRead s j).out = s.out ∧ (State.doStatusRead s j).ports = s.ports ∧ (State.doStatusRead s j).wake = s.wake ∧ (State.doStatusRead s j).pending = s.pending := by
  simp only [State.doStatusRead]
  all_goals repeat' split
  all_goals simp

@[simp] theorem State.clearGroup_keeps (s : State) (g : Nat) :
    (s.clearGroup g).clock = s.clock ∧ (s.clearGroup g).mram = s.mram ∧ (s.clearGroup g).log = s.log ∧ (s.clearGroup g).jtag = s.jtag ∧ (s.clearGroup g).conv = s.conv ∧ (s.clearGroup g).free = s.free ∧ (s.clearGroup g).pending = s.pending := by
  unfold State.clearGroup
  split <;> simp

@[simp] theorem State.doStickyClear_keeps (s : State) (j : Job) :
    (s.doStickyClear j).clock = s.clock ∧ (s.doStickyClear j).mram = s.mram ∧ (s.doStickyClear j).log = s.log ∧ (s.doStickyClear j).jtag = s.jtag ∧ (s.doStickyClear j).conv = s.conv ∧ (s.doStickyClear j).free = s.free ∧ (s.doStickyClear j).pending = s.pending := by
  simp only [State.doStickyClear]
  repeat' split
  all_goals simp

@[simp] theorem State.doAttnAck_keeps (s : State) (j : Job) :
    (State.doAttnAck s j).clock = s.clock ∧ (State.doAttnAck s j).power = s.power ∧ (State.doAttnAck s j).synth = s.synth ∧ (State.doAttnAck s j).dpll = s.dpll ∧ (State.doAttnAck s j).mram = s.mram ∧ (State.doAttnAck s j).cfg = s.cfg ∧ (State.doAttnAck s j).dep = s.dep ∧ (State.doAttnAck s j).log = s.log ∧ (State.doAttnAck s j).jtag = s.jtag ∧ (State.doAttnAck s j).inp = s.inp ∧ (State.doAttnAck s j).conv = s.conv ∧ (State.doAttnAck s j).sprint = s.sprint ∧ (State.doAttnAck s j).graph = s.graph ∧ (State.doAttnAck s j).rout = s.rout ∧ (State.doAttnAck s j).out = s.out ∧ (State.doAttnAck s j).ports = s.ports ∧ (State.doAttnAck s j).wake = s.wake ∧ (State.doAttnAck s j).free = s.free ∧ (State.doAttnAck s j).pending = s.pending := by
  simp only [State.doAttnAck]
  all_goals repeat' split
  all_goals simp

@[simp] theorem State.doHello_keeps (s : State) (j : Job) :
    (State.doHello s j).clock = s.clock ∧ (State.doHello s j).power = s.power ∧ (State.doHello s j).synth = s.synth ∧ (State.doHello s j).dpll = s.dpll ∧ (State.doHello s j).mram = s.mram ∧ (State.doHello s j).cfg = s.cfg ∧ (State.doHello s j).dep = s.dep ∧ (State.doHello s j).log = s.log ∧ (State.doHello s j).jtag = s.jtag ∧ (State.doHello s j).inp = s.inp ∧ (State.doHello s j).conv = s.conv ∧ (State.doHello s j).sprint = s.sprint ∧ (State.doHello s j).graph = s.graph ∧ (State.doHello s j).rout = s.rout ∧ (State.doHello s j).out = s.out ∧ (State.doHello s j).ports = s.ports ∧ (State.doHello s j).wake = s.wake ∧ (State.doHello s j).free = s.free ∧ (State.doHello s j).pending = s.pending := by
  simp only [State.doHello]
  all_goals repeat' split
  all_goals simp

@[simp] theorem State.openSession_keeps (s : State) (j : Job) :
    (State.openSession s j).clock = s.clock ∧ (State.openSession s j).power = s.power ∧ (State.openSession s j).synth = s.synth ∧ (State.openSession s j).dpll = s.dpll ∧ (State.openSession s j).bus = s.bus ∧ (State.openSession s j).mram = s.mram ∧ (State.openSession s j).cfg = s.cfg ∧ (State.openSession s j).dep = s.dep ∧ (State.openSession s j).log = s.log ∧ (State.openSession s j).jtag = s.jtag ∧ (State.openSession s j).inp = s.inp ∧ (State.openSession s j).conv = s.conv ∧ (State.openSession s j).sprint = s.sprint ∧ (State.openSession s j).graph = s.graph ∧ (State.openSession s j).rout = s.rout ∧ (State.openSession s j).out = s.out ∧ (State.openSession s j).ports = s.ports ∧ (State.openSession s j).link = s.link ∧ (State.openSession s j).wake = s.wake ∧ (State.openSession s j).pending = s.pending := by
  simp only [State.openSession]
  all_goals simp

@[simp] theorem State.setFails_keeps (s : State) (p f : Nat) :
    (State.setFails s p f).clock = s.clock ∧ (State.setFails s p f).power = s.power ∧ (State.setFails s p f).synth = s.synth ∧ (State.setFails s p f).dpll = s.dpll ∧ (State.setFails s p f).bus = s.bus ∧ (State.setFails s p f).cfg = s.cfg ∧ (State.setFails s p f).dep = s.dep ∧ (State.setFails s p f).log = s.log ∧ (State.setFails s p f).jtag = s.jtag ∧ (State.setFails s p f).inp = s.inp ∧ (State.setFails s p f).conv = s.conv ∧ (State.setFails s p f).sprint = s.sprint ∧ (State.setFails s p f).graph = s.graph ∧ (State.setFails s p f).rout = s.rout ∧ (State.setFails s p f).out = s.out ∧ (State.setFails s p f).ports = s.ports ∧ (State.setFails s p f).link = s.link ∧ (State.setFails s p f).wake = s.wake ∧ (State.setFails s p f).free = s.free ∧ (State.setFails s p f).pending = s.pending := by
  simp only [State.setFails]
  all_goals simp

@[simp] theorem State.authFailed_keeps (s : State) (j : Job) :
    (State.authFailed s j).clock = s.clock ∧ (State.authFailed s j).power = s.power ∧ (State.authFailed s j).synth = s.synth ∧ (State.authFailed s j).dpll = s.dpll ∧ (State.authFailed s j).cfg = s.cfg ∧ (State.authFailed s j).dep = s.dep ∧ (State.authFailed s j).log = s.log ∧ (State.authFailed s j).jtag = s.jtag ∧ (State.authFailed s j).inp = s.inp ∧ (State.authFailed s j).conv = s.conv ∧ (State.authFailed s j).sprint = s.sprint ∧ (State.authFailed s j).graph = s.graph ∧ (State.authFailed s j).rout = s.rout ∧ (State.authFailed s j).out = s.out ∧ (State.authFailed s j).ports = s.ports ∧ (State.authFailed s j).wake = s.wake ∧ (State.authFailed s j).free = s.free ∧ (State.authFailed s j).pending = s.pending := by
  simp only [State.authFailed]
  all_goals repeat' split
  all_goals simp

@[simp] theorem State.answerLocked_keeps (s : State) (j : Job) :
    (State.answerLocked s j).clock = s.clock ∧ (State.answerLocked s j).power = s.power ∧ (State.answerLocked s j).synth = s.synth ∧ (State.answerLocked s j).dpll = s.dpll ∧ (State.answerLocked s j).mram = s.mram ∧ (State.answerLocked s j).cfg = s.cfg ∧ (State.answerLocked s j).dep = s.dep ∧ (State.answerLocked s j).log = s.log ∧ (State.answerLocked s j).jtag = s.jtag ∧ (State.answerLocked s j).inp = s.inp ∧ (State.answerLocked s j).conv = s.conv ∧ (State.answerLocked s j).sprint = s.sprint ∧ (State.answerLocked s j).graph = s.graph ∧ (State.answerLocked s j).rout = s.rout ∧ (State.answerLocked s j).out = s.out ∧ (State.answerLocked s j).ports = s.ports ∧ (State.answerLocked s j).wake = s.wake ∧ (State.answerLocked s j).free = s.free ∧ (State.answerLocked s j).pending = s.pending := by
  simp only [State.answerLocked]
  all_goals simp

@[simp] theorem State.dropChallenge_keeps (s : State) (b : Binding) :
    (State.dropChallenge s b).clock = s.clock ∧ (State.dropChallenge s b).power = s.power ∧ (State.dropChallenge s b).synth = s.synth ∧ (State.dropChallenge s b).dpll = s.dpll ∧ (State.dropChallenge s b).bus = s.bus ∧ (State.dropChallenge s b).mram = s.mram ∧ (State.dropChallenge s b).cfg = s.cfg ∧ (State.dropChallenge s b).dep = s.dep ∧ (State.dropChallenge s b).log = s.log ∧ (State.dropChallenge s b).jtag = s.jtag ∧ (State.dropChallenge s b).inp = s.inp ∧ (State.dropChallenge s b).conv = s.conv ∧ (State.dropChallenge s b).sprint = s.sprint ∧ (State.dropChallenge s b).graph = s.graph ∧ (State.dropChallenge s b).rout = s.rout ∧ (State.dropChallenge s b).out = s.out ∧ (State.dropChallenge s b).ports = s.ports ∧ (State.dropChallenge s b).link = s.link ∧ (State.dropChallenge s b).wake = s.wake ∧ (State.dropChallenge s b).free = s.free ∧ (State.dropChallenge s b).pending = s.pending := by
  simp only [State.dropChallenge]
  all_goals simp

@[simp] theorem State.doSessionOpen_keeps (s : State) (j : Job) :
    (State.doSessionOpen s j).clock = s.clock ∧ (State.doSessionOpen s j).power = s.power ∧ (State.doSessionOpen s j).synth = s.synth ∧ (State.doSessionOpen s j).dpll = s.dpll ∧ (State.doSessionOpen s j).mram = s.mram ∧ (State.doSessionOpen s j).cfg = s.cfg ∧ (State.doSessionOpen s j).dep = s.dep ∧ (State.doSessionOpen s j).log = s.log ∧ (State.doSessionOpen s j).jtag = s.jtag ∧ (State.doSessionOpen s j).inp = s.inp ∧ (State.doSessionOpen s j).conv = s.conv ∧ (State.doSessionOpen s j).sprint = s.sprint ∧ (State.doSessionOpen s j).graph = s.graph ∧ (State.doSessionOpen s j).rout = s.rout ∧ (State.doSessionOpen s j).out = s.out ∧ (State.doSessionOpen s j).ports = s.ports ∧ (State.doSessionOpen s j).wake = s.wake ∧ (State.doSessionOpen s j).pending = s.pending := by
  simp only [State.doSessionOpen]
  all_goals repeat' split
  all_goals simp

@[simp] theorem State.doSessionProve_keeps (s : State) (j : Job) :
    (State.doSessionProve s j).clock = s.clock ∧ (State.doSessionProve s j).power = s.power ∧ (State.doSessionProve s j).synth = s.synth ∧ (State.doSessionProve s j).dpll = s.dpll ∧ (State.doSessionProve s j).cfg = s.cfg ∧ (State.doSessionProve s j).dep = s.dep ∧ (State.doSessionProve s j).log = s.log ∧ (State.doSessionProve s j).jtag = s.jtag ∧ (State.doSessionProve s j).inp = s.inp ∧ (State.doSessionProve s j).conv = s.conv ∧ (State.doSessionProve s j).sprint = s.sprint ∧ (State.doSessionProve s j).graph = s.graph ∧ (State.doSessionProve s j).rout = s.rout ∧ (State.doSessionProve s j).out = s.out ∧ (State.doSessionProve s j).ports = s.ports ∧ (State.doSessionProve s j).wake = s.wake ∧ (State.doSessionProve s j).pending = s.pending := by
  simp only [State.doSessionProve]
  all_goals repeat' split
  all_goals simp

@[simp] theorem State.doSessionClose_keeps (s : State) (j : Job) :
    (State.doSessionClose s j).clock = s.clock ∧ (State.doSessionClose s j).power = s.power ∧ (State.doSessionClose s j).synth = s.synth ∧ (State.doSessionClose s j).dpll = s.dpll ∧ (State.doSessionClose s j).mram = s.mram ∧ (State.doSessionClose s j).cfg = s.cfg ∧ (State.doSessionClose s j).dep = s.dep ∧ (State.doSessionClose s j).log = s.log ∧ (State.doSessionClose s j).jtag = s.jtag ∧ (State.doSessionClose s j).inp = s.inp ∧ (State.doSessionClose s j).conv = s.conv ∧ (State.doSessionClose s j).sprint = s.sprint ∧ (State.doSessionClose s j).graph = s.graph ∧ (State.doSessionClose s j).rout = s.rout ∧ (State.doSessionClose s j).out = s.out ∧ (State.doSessionClose s j).ports = s.ports ∧ (State.doSessionClose s j).wake = s.wake ∧ (State.doSessionClose s j).free = s.free ∧ (State.doSessionClose s j).pending = s.pending := by
  simp only [State.doSessionClose]
  all_goals repeat' split
  all_goals simp

@[simp] theorem State.doKeyChange_keeps (s : State) (j : Job) :
    (State.doKeyChange s j).clock = s.clock ∧ (State.doKeyChange s j).power = s.power ∧ (State.doKeyChange s j).synth = s.synth ∧ (State.doKeyChange s j).dpll = s.dpll ∧ (State.doKeyChange s j).cfg = s.cfg ∧ (State.doKeyChange s j).dep = s.dep ∧ (State.doKeyChange s j).log = s.log ∧ (State.doKeyChange s j).jtag = s.jtag ∧ (State.doKeyChange s j).inp = s.inp ∧ (State.doKeyChange s j).conv = s.conv ∧ (State.doKeyChange s j).sprint = s.sprint ∧ (State.doKeyChange s j).graph = s.graph ∧ (State.doKeyChange s j).rout = s.rout ∧ (State.doKeyChange s j).out = s.out ∧ (State.doKeyChange s j).ports = s.ports ∧ (State.doKeyChange s j).wake = s.wake ∧ (State.doKeyChange s j).free = s.free ∧ (State.doKeyChange s j).pending = s.pending := by
  simp only [State.doKeyChange]
  all_goals repeat' split
  all_goals simp

@[simp] theorem State.doIdentity_keeps (s : State) (j : Job) :
    (State.doIdentity s j).clock = s.clock ∧ (State.doIdentity s j).power = s.power ∧ (State.doIdentity s j).synth = s.synth ∧ (State.doIdentity s j).dpll = s.dpll ∧ (State.doIdentity s j).mram = s.mram ∧ (State.doIdentity s j).cfg = s.cfg ∧ (State.doIdentity s j).dep = s.dep ∧ (State.doIdentity s j).log = s.log ∧ (State.doIdentity s j).jtag = s.jtag ∧ (State.doIdentity s j).inp = s.inp ∧ (State.doIdentity s j).conv = s.conv ∧ (State.doIdentity s j).sprint = s.sprint ∧ (State.doIdentity s j).graph = s.graph ∧ (State.doIdentity s j).rout = s.rout ∧ (State.doIdentity s j).out = s.out ∧ (State.doIdentity s j).ports = s.ports ∧ (State.doIdentity s j).wake = s.wake ∧ (State.doIdentity s j).free = s.free ∧ (State.doIdentity s j).pending = s.pending := by
  simp only [State.doIdentity]
  all_goals simp

@[simp] theorem State.doClaim_keeps (s : State) (j : Job) :
    (State.doClaim s j).clock = s.clock ∧ (State.doClaim s j).power = s.power ∧ (State.doClaim s j).synth = s.synth ∧ (State.doClaim s j).dpll = s.dpll ∧ (State.doClaim s j).mram = s.mram ∧ (State.doClaim s j).cfg = s.cfg ∧ (State.doClaim s j).dep = s.dep ∧ (State.doClaim s j).log = s.log ∧ (State.doClaim s j).jtag = s.jtag ∧ (State.doClaim s j).inp = s.inp ∧ (State.doClaim s j).conv = s.conv ∧ (State.doClaim s j).sprint = s.sprint ∧ (State.doClaim s j).graph = s.graph ∧ (State.doClaim s j).rout = s.rout ∧ (State.doClaim s j).out = s.out ∧ (State.doClaim s j).ports = s.ports ∧ (State.doClaim s j).wake = s.wake ∧ (State.doClaim s j).free = s.free ∧ (State.doClaim s j).pending = s.pending := by
  simp only [State.doClaim]
  all_goals repeat' split
  all_goals simp

@[simp] theorem State.doRelease_keeps (s : State) (j : Job) :
    (State.doRelease s j).clock = s.clock ∧ (State.doRelease s j).power = s.power ∧ (State.doRelease s j).synth = s.synth ∧ (State.doRelease s j).dpll = s.dpll ∧ (State.doRelease s j).mram = s.mram ∧ (State.doRelease s j).cfg = s.cfg ∧ (State.doRelease s j).dep = s.dep ∧ (State.doRelease s j).log = s.log ∧ (State.doRelease s j).jtag = s.jtag ∧ (State.doRelease s j).inp = s.inp ∧ (State.doRelease s j).conv = s.conv ∧ (State.doRelease s j).sprint = s.sprint ∧ (State.doRelease s j).graph = s.graph ∧ (State.doRelease s j).rout = s.rout ∧ (State.doRelease s j).out = s.out ∧ (State.doRelease s j).ports = s.ports ∧ (State.doRelease s j).wake = s.wake ∧ (State.doRelease s j).free = s.free ∧ (State.doRelease s j).pending = s.pending := by
  simp only [State.doRelease]
  all_goals repeat' split
  all_goals simp

@[simp] theorem State.doDisarm_keeps (s : State) (j : Job) :
    (State.doDisarm s j).clock = s.clock ∧ (State.doDisarm s j).synth = s.synth ∧ (State.doDisarm s j).dpll = s.dpll ∧ (State.doDisarm s j).mram = s.mram ∧ (State.doDisarm s j).cfg = s.cfg ∧ (State.doDisarm s j).dep = s.dep ∧ (State.doDisarm s j).log = s.log ∧ (State.doDisarm s j).jtag = s.jtag ∧ (State.doDisarm s j).inp = s.inp ∧ (State.doDisarm s j).conv = s.conv ∧ (State.doDisarm s j).sprint = s.sprint ∧ (State.doDisarm s j).graph = s.graph ∧ (State.doDisarm s j).rout = s.rout ∧ (State.doDisarm s j).ports = s.ports ∧ (State.doDisarm s j).wake = s.wake ∧ (State.doDisarm s j).free = s.free ∧ (State.doDisarm s j).pending = s.pending := by
  simp only [State.doDisarm]
  all_goals repeat' split
  all_goals simp

@[simp] theorem State.doSetMode_keeps (s : State) (j : Job) :
    (State.doSetMode s j).clock = s.clock ∧ (State.doSetMode s j).synth = s.synth ∧ (State.doSetMode s j).dpll = s.dpll ∧ (State.doSetMode s j).mram = s.mram ∧ (State.doSetMode s j).cfg = s.cfg ∧ (State.doSetMode s j).dep = s.dep ∧ (State.doSetMode s j).jtag = s.jtag ∧ (State.doSetMode s j).conv = s.conv ∧ (State.doSetMode s j).sprint = s.sprint ∧ (State.doSetMode s j).graph = s.graph ∧ (State.doSetMode s j).rout = s.rout ∧ (State.doSetMode s j).free = s.free ∧ (State.doSetMode s j).pending = s.pending := by
  simp only [State.doSetMode]
  all_goals repeat' split
  all_goals simp

@[simp] theorem State.doStartGroup_keeps (s : State) (j : Job) :
    (State.doStartGroup s j).clock = s.clock ∧ (State.doStartGroup s j).power = s.power ∧ (State.doStartGroup s j).synth = s.synth ∧ (State.doStartGroup s j).dpll = s.dpll ∧ (State.doStartGroup s j).mram = s.mram ∧ (State.doStartGroup s j).cfg = s.cfg ∧ (State.doStartGroup s j).dep = s.dep ∧ (State.doStartGroup s j).log = s.log ∧ (State.doStartGroup s j).jtag = s.jtag ∧ (State.doStartGroup s j).inp = s.inp ∧ (State.doStartGroup s j).conv = s.conv ∧ (State.doStartGroup s j).sprint = s.sprint ∧ (State.doStartGroup s j).graph = s.graph ∧ (State.doStartGroup s j).rout = s.rout ∧ (State.doStartGroup s j).out = s.out ∧ (State.doStartGroup s j).wake = s.wake ∧ (State.doStartGroup s j).free = s.free ∧ (State.doStartGroup s j).pending = s.pending := by
  simp only [State.doStartGroup]
  all_goals repeat' split
  all_goals simp

@[simp] theorem State.doRunahead_keeps (s : State) (j : Job) :
    (State.doRunahead s j).clock = s.clock ∧ (State.doRunahead s j).power = s.power ∧ (State.doRunahead s j).jtag = s.jtag ∧ (State.doRunahead s j).sprint = s.sprint ∧ (State.doRunahead s j).rout = s.rout ∧ (State.doRunahead s j).free = s.free ∧ (State.doRunahead s j).pending = s.pending := by
  simp only [State.doRunahead]
  all_goals repeat' split
  all_goals simp

@[simp] theorem State.doTraceRead_keeps (s : State) (j : Job) :
    (State.doTraceRead s j).clock = s.clock ∧ (State.doTraceRead s j).power = s.power ∧ (State.doTraceRead s j).synth = s.synth ∧ (State.doTraceRead s j).dpll = s.dpll ∧ (State.doTraceRead s j).mram = s.mram ∧ (State.doTraceRead s j).cfg = s.cfg ∧ (State.doTraceRead s j).dep = s.dep ∧ (State.doTraceRead s j).log = s.log ∧ (State.doTraceRead s j).jtag = s.jtag ∧ (State.doTraceRead s j).inp = s.inp ∧ (State.doTraceRead s j).conv = s.conv ∧ (State.doTraceRead s j).sprint = s.sprint ∧ (State.doTraceRead s j).graph = s.graph ∧ (State.doTraceRead s j).rout = s.rout ∧ (State.doTraceRead s j).out = s.out ∧ (State.doTraceRead s j).ports = s.ports ∧ (State.doTraceRead s j).wake = s.wake ∧ (State.doTraceRead s j).free = s.free ∧ (State.doTraceRead s j).pending = s.pending := by
  simp only [State.doTraceRead]
  all_goals repeat' split
  all_goals simp

@[simp] theorem State.doLedgerRead_keeps (s : State) (j : Job) :
    (State.doLedgerRead s j).clock = s.clock ∧ (State.doLedgerRead s j).power = s.power ∧ (State.doLedgerRead s j).synth = s.synth ∧ (State.doLedgerRead s j).dpll = s.dpll ∧ (State.doLedgerRead s j).mram = s.mram ∧ (State.doLedgerRead s j).cfg = s.cfg ∧ (State.doLedgerRead s j).dep = s.dep ∧ (State.doLedgerRead s j).log = s.log ∧ (State.doLedgerRead s j).jtag = s.jtag ∧ (State.doLedgerRead s j).inp = s.inp ∧ (State.doLedgerRead s j).conv = s.conv ∧ (State.doLedgerRead s j).sprint = s.sprint ∧ (State.doLedgerRead s j).graph = s.graph ∧ (State.doLedgerRead s j).rout = s.rout ∧ (State.doLedgerRead s j).out = s.out ∧ (State.doLedgerRead s j).ports = s.ports ∧ (State.doLedgerRead s j).wake = s.wake ∧ (State.doLedgerRead s j).pending = s.pending := by
  simp only [State.doLedgerRead]
  all_goals repeat' split
  all_goals simp

@[simp] theorem State.doLifelogRead_keeps (s : State) (j : Job) :
    (State.doLifelogRead s j).clock = s.clock ∧ (State.doLifelogRead s j).power = s.power ∧ (State.doLifelogRead s j).synth = s.synth ∧ (State.doLifelogRead s j).dpll = s.dpll ∧ (State.doLifelogRead s j).mram = s.mram ∧ (State.doLifelogRead s j).cfg = s.cfg ∧ (State.doLifelogRead s j).dep = s.dep ∧ (State.doLifelogRead s j).log = s.log ∧ (State.doLifelogRead s j).jtag = s.jtag ∧ (State.doLifelogRead s j).inp = s.inp ∧ (State.doLifelogRead s j).conv = s.conv ∧ (State.doLifelogRead s j).sprint = s.sprint ∧ (State.doLifelogRead s j).graph = s.graph ∧ (State.doLifelogRead s j).rout = s.rout ∧ (State.doLifelogRead s j).out = s.out ∧ (State.doLifelogRead s j).ports = s.ports ∧ (State.doLifelogRead s j).wake = s.wake ∧ (State.doLifelogRead s j).free = s.free ∧ (State.doLifelogRead s j).pending = s.pending := by
  simp only [State.doLifelogRead]
  all_goals repeat' split
  all_goals simp

@[simp] theorem State.doRefForce_keeps (s : State) (j : Job) :
    (State.doRefForce s j).clock = s.clock ∧ (State.doRefForce s j).power = s.power ∧ (State.doRefForce s j).synth = s.synth ∧ (State.doRefForce s j).mram = s.mram ∧ (State.doRefForce s j).cfg = s.cfg ∧ (State.doRefForce s j).dep = s.dep ∧ (State.doRefForce s j).log = s.log ∧ (State.doRefForce s j).jtag = s.jtag ∧ (State.doRefForce s j).inp = s.inp ∧ (State.doRefForce s j).conv = s.conv ∧ (State.doRefForce s j).sprint = s.sprint ∧ (State.doRefForce s j).graph = s.graph ∧ (State.doRefForce s j).rout = s.rout ∧ (State.doRefForce s j).out = s.out ∧ (State.doRefForce s j).ports = s.ports ∧ (State.doRefForce s j).wake = s.wake ∧ (State.doRefForce s j).free = s.free ∧ (State.doRefForce s j).pending = s.pending := by
  simp only [State.doRefForce]
  all_goals repeat' split
  all_goals simp

@[simp] theorem State.doSteer_keeps (s : State) (j : Job) :
    (State.doSteer s j).clock = s.clock ∧ (State.doSteer s j).power = s.power ∧ (State.doSteer s j).dpll = s.dpll ∧ (State.doSteer s j).mram = s.mram ∧ (State.doSteer s j).dep = s.dep ∧ (State.doSteer s j).log = s.log ∧ (State.doSteer s j).jtag = s.jtag ∧ (State.doSteer s j).inp = s.inp ∧ (State.doSteer s j).conv = s.conv ∧ (State.doSteer s j).sprint = s.sprint ∧ (State.doSteer s j).graph = s.graph ∧ (State.doSteer s j).rout = s.rout ∧ (State.doSteer s j).out = s.out ∧ (State.doSteer s j).ports = s.ports ∧ (State.doSteer s j).wake = s.wake ∧ (State.doSteer s j).free = s.free ∧ (State.doSteer s j).pending = s.pending := by
  simp only [State.doSteer]
  all_goals repeat' split
  all_goals simp

@[simp] theorem State.doLinkDiscover_keeps (s : State) (j : Job) :
    (State.doLinkDiscover s j).clock = s.clock ∧ (State.doLinkDiscover s j).power = s.power ∧ (State.doLinkDiscover s j).synth = s.synth ∧ (State.doLinkDiscover s j).dpll = s.dpll ∧ (State.doLinkDiscover s j).mram = s.mram ∧ (State.doLinkDiscover s j).cfg = s.cfg ∧ (State.doLinkDiscover s j).dep = s.dep ∧ (State.doLinkDiscover s j).log = s.log ∧ (State.doLinkDiscover s j).jtag = s.jtag ∧ (State.doLinkDiscover s j).inp = s.inp ∧ (State.doLinkDiscover s j).conv = s.conv ∧ (State.doLinkDiscover s j).sprint = s.sprint ∧ (State.doLinkDiscover s j).graph = s.graph ∧ (State.doLinkDiscover s j).rout = s.rout ∧ (State.doLinkDiscover s j).out = s.out ∧ (State.doLinkDiscover s j).ports = s.ports ∧ (State.doLinkDiscover s j).wake = s.wake ∧ (State.doLinkDiscover s j).pending = s.pending := by
  simp only [State.doLinkDiscover]
  all_goals repeat' split
  all_goals simp

@[simp] theorem State.assignId_keeps (s : State) (id tick : Nat) :
    (State.assignId s id tick).clock = s.clock ∧ (State.assignId s id tick).power = s.power ∧ (State.assignId s id tick).synth = s.synth ∧ (State.assignId s id tick).dpll = s.dpll ∧ (State.assignId s id tick).mram = s.mram ∧ (State.assignId s id tick).cfg = s.cfg ∧ (State.assignId s id tick).dep = s.dep ∧ (State.assignId s id tick).log = s.log ∧ (State.assignId s id tick).jtag = s.jtag ∧ (State.assignId s id tick).inp = s.inp ∧ (State.assignId s id tick).conv = s.conv ∧ (State.assignId s id tick).sprint = s.sprint ∧ (State.assignId s id tick).graph = s.graph ∧ (State.assignId s id tick).rout = s.rout ∧ (State.assignId s id tick).out = s.out ∧ (State.assignId s id tick).ports = s.ports ∧ (State.assignId s id tick).wake = s.wake ∧ (State.assignId s id tick).free = s.free ∧ (State.assignId s id tick).pending = s.pending := by
  simp only [State.assignId]
  all_goals simp

@[simp] theorem State.doLinkAssign_keeps (s : State) (j : Job) :
    (State.doLinkAssign s j).clock = s.clock ∧ (State.doLinkAssign s j).power = s.power ∧ (State.doLinkAssign s j).synth = s.synth ∧ (State.doLinkAssign s j).dpll = s.dpll ∧ (State.doLinkAssign s j).mram = s.mram ∧ (State.doLinkAssign s j).cfg = s.cfg ∧ (State.doLinkAssign s j).dep = s.dep ∧ (State.doLinkAssign s j).log = s.log ∧ (State.doLinkAssign s j).jtag = s.jtag ∧ (State.doLinkAssign s j).inp = s.inp ∧ (State.doLinkAssign s j).conv = s.conv ∧ (State.doLinkAssign s j).sprint = s.sprint ∧ (State.doLinkAssign s j).graph = s.graph ∧ (State.doLinkAssign s j).rout = s.rout ∧ (State.doLinkAssign s j).out = s.out ∧ (State.doLinkAssign s j).ports = s.ports ∧ (State.doLinkAssign s j).wake = s.wake ∧ (State.doLinkAssign s j).free = s.free ∧ (State.doLinkAssign s j).pending = s.pending := by
  simp only [State.doLinkAssign]
  all_goals repeat' split
  all_goals simp

@[simp] theorem State.doLinkOffset_keeps (s : State) (j : Job) :
    (State.doLinkOffset s j).clock = s.clock ∧ (State.doLinkOffset s j).power = s.power ∧ (State.doLinkOffset s j).synth = s.synth ∧ (State.doLinkOffset s j).dpll = s.dpll ∧ (State.doLinkOffset s j).mram = s.mram ∧ (State.doLinkOffset s j).dep = s.dep ∧ (State.doLinkOffset s j).jtag = s.jtag ∧ (State.doLinkOffset s j).inp = s.inp ∧ (State.doLinkOffset s j).conv = s.conv ∧ (State.doLinkOffset s j).sprint = s.sprint ∧ (State.doLinkOffset s j).graph = s.graph ∧ (State.doLinkOffset s j).rout = s.rout ∧ (State.doLinkOffset s j).out = s.out ∧ (State.doLinkOffset s j).ports = s.ports ∧ (State.doLinkOffset s j).wake = s.wake ∧ (State.doLinkOffset s j).free = s.free ∧ (State.doLinkOffset s j).pending = s.pending := by
  simp only [State.doLinkOffset]
  all_goals repeat' split
  all_goals simp

@[simp] theorem State.doTemplateLoad_keeps (s : State) (j : Job) :
    (State.doTemplateLoad s j).clock = s.clock ∧ (State.doTemplateLoad s j).power = s.power ∧ (State.doTemplateLoad s j).synth = s.synth ∧ (State.doTemplateLoad s j).dpll = s.dpll ∧ (State.doTemplateLoad s j).mram = s.mram ∧ (State.doTemplateLoad s j).cfg = s.cfg ∧ (State.doTemplateLoad s j).dep = s.dep ∧ (State.doTemplateLoad s j).log = s.log ∧ (State.doTemplateLoad s j).jtag = s.jtag ∧ (State.doTemplateLoad s j).inp = s.inp ∧ (State.doTemplateLoad s j).conv = s.conv ∧ (State.doTemplateLoad s j).sprint = s.sprint ∧ (State.doTemplateLoad s j).graph = s.graph ∧ (State.doTemplateLoad s j).rout = s.rout ∧ (State.doTemplateLoad s j).out = s.out ∧ (State.doTemplateLoad s j).ports = s.ports ∧ (State.doTemplateLoad s j).free = s.free ∧ (State.doTemplateLoad s j).pending = s.pending := by
  simp only [State.doTemplateLoad]
  all_goals repeat' split
  all_goals simp

@[simp] theorem State.doHandover_keeps (s : State) (j : Job) :
    (State.doHandover s j).clock = s.clock ∧ (State.doHandover s j).power = s.power ∧ (State.doHandover s j).synth = s.synth ∧ (State.doHandover s j).dpll = s.dpll ∧ (State.doHandover s j).mram = s.mram ∧ (State.doHandover s j).cfg = s.cfg ∧ (State.doHandover s j).dep = s.dep ∧ (State.doHandover s j).log = s.log ∧ (State.doHandover s j).jtag = s.jtag ∧ (State.doHandover s j).inp = s.inp ∧ (State.doHandover s j).conv = s.conv ∧ (State.doHandover s j).sprint = s.sprint ∧ (State.doHandover s j).graph = s.graph ∧ (State.doHandover s j).rout = s.rout ∧ (State.doHandover s j).out = s.out ∧ (State.doHandover s j).ports = s.ports ∧ (State.doHandover s j).pending = s.pending := by
  simp only [State.doHandover]
  all_goals repeat' split
  all_goals simp

@[simp] theorem State.internalFault_keeps (s : State) (j : Job) :
    (State.internalFault s j).clock = s.clock ∧ (State.internalFault s j).power = s.power ∧ (State.internalFault s j).synth = s.synth ∧ (State.internalFault s j).dpll = s.dpll ∧ (State.internalFault s j).mram = s.mram ∧ (State.internalFault s j).cfg = s.cfg ∧ (State.internalFault s j).dep = s.dep ∧ (State.internalFault s j).jtag = s.jtag ∧ (State.internalFault s j).inp = s.inp ∧ (State.internalFault s j).conv = s.conv ∧ (State.internalFault s j).sprint = s.sprint ∧ (State.internalFault s j).graph = s.graph ∧ (State.internalFault s j).rout = s.rout ∧ (State.internalFault s j).out = s.out ∧ (State.internalFault s j).ports = s.ports ∧ (State.internalFault s j).wake = s.wake ∧ (State.internalFault s j).free = s.free ∧ (State.internalFault s j).pending = s.pending := by
  simp only [State.internalFault]
  all_goals simp

@[simp] theorem State.dispatch_keeps (s : State) (j : Job) :
    (State.dispatch s j).clock = s.clock ∧ (State.dispatch s j).jtag = s.jtag ∧ (State.dispatch s j).pending = s.pending := by
  simp only [State.dispatch]
  all_goals repeat' split
  all_goals simp

@[simp] theorem State.touch_keeps (s : State) (b : Binding) :
    (State.touch s b).clock = s.clock ∧ (State.touch s b).power = s.power ∧ (State.touch s b).synth = s.synth ∧ (State.touch s b).dpll = s.dpll ∧ (State.touch s b).bus = s.bus ∧ (State.touch s b).mram = s.mram ∧ (State.touch s b).cfg = s.cfg ∧ (State.touch s b).dep = s.dep ∧ (State.touch s b).log = s.log ∧ (State.touch s b).jtag = s.jtag ∧ (State.touch s b).inp = s.inp ∧ (State.touch s b).conv = s.conv ∧ (State.touch s b).sprint = s.sprint ∧ (State.touch s b).graph = s.graph ∧ (State.touch s b).rout = s.rout ∧ (State.touch s b).out = s.out ∧ (State.touch s b).ports = s.ports ∧ (State.touch s b).link = s.link ∧ (State.touch s b).wake = s.wake ∧ (State.touch s b).free = s.free ∧ (State.touch s b).pending = s.pending := by
  simp only [State.touch]
  all_goals simp

@[simp] theorem State.judge_clock (s : State) (run : State → Job → State) (j : Job) (h : ∀ s j, (run s j).clock = s.clock) :
    (s.judge run j).clock = s.clock := by
  simp only [State.judge]
  repeat' split
  all_goals simp [h]

@[simp] theorem State.judge_power (s : State) (run : State → Job → State) (j : Job) (h : ∀ s j, (run s j).power = s.power) :
    (s.judge run j).power = s.power := by
  simp only [State.judge]
  repeat' split
  all_goals simp [h]

@[simp] theorem State.judge_synth (s : State) (run : State → Job → State) (j : Job) (h : ∀ s j, (run s j).synth = s.synth) :
    (s.judge run j).synth = s.synth := by
  simp only [State.judge]
  repeat' split
  all_goals simp [h]

@[simp] theorem State.judge_dpll (s : State) (run : State → Job → State) (j : Job) (h : ∀ s j, (run s j).dpll = s.dpll) :
    (s.judge run j).dpll = s.dpll := by
  simp only [State.judge]
  repeat' split
  all_goals simp [h]

@[simp] theorem State.judge_mram (s : State) (run : State → Job → State) (j : Job) (h : ∀ s j, (run s j).mram = s.mram) :
    (s.judge run j).mram = s.mram := by
  simp only [State.judge]
  repeat' split
  all_goals simp [h]

@[simp] theorem State.judge_cfg (s : State) (run : State → Job → State) (j : Job) (h : ∀ s j, (run s j).cfg = s.cfg) :
    (s.judge run j).cfg = s.cfg := by
  simp only [State.judge]
  repeat' split
  all_goals simp [h]

@[simp] theorem State.judge_dep (s : State) (run : State → Job → State) (j : Job) (h : ∀ s j, (run s j).dep = s.dep) :
    (s.judge run j).dep = s.dep := by
  simp only [State.judge]
  repeat' split
  all_goals simp [h]

@[simp] theorem State.judge_log (s : State) (run : State → Job → State) (j : Job) (h : ∀ s j, (run s j).log = s.log) :
    (s.judge run j).log = s.log := by
  simp only [State.judge]
  repeat' split
  all_goals simp [h]

@[simp] theorem State.judge_jtag (s : State) (run : State → Job → State) (j : Job) (h : ∀ s j, (run s j).jtag = s.jtag) :
    (s.judge run j).jtag = s.jtag := by
  simp only [State.judge]
  repeat' split
  all_goals simp [h]

@[simp] theorem State.judge_inp (s : State) (run : State → Job → State) (j : Job) (h : ∀ s j, (run s j).inp = s.inp) :
    (s.judge run j).inp = s.inp := by
  simp only [State.judge]
  repeat' split
  all_goals simp [h]

@[simp] theorem State.judge_conv (s : State) (run : State → Job → State) (j : Job) (h : ∀ s j, (run s j).conv = s.conv) :
    (s.judge run j).conv = s.conv := by
  simp only [State.judge]
  repeat' split
  all_goals simp [h]

@[simp] theorem State.judge_sprint (s : State) (run : State → Job → State) (j : Job) (h : ∀ s j, (run s j).sprint = s.sprint) :
    (s.judge run j).sprint = s.sprint := by
  simp only [State.judge]
  repeat' split
  all_goals simp [h]

@[simp] theorem State.judge_graph (s : State) (run : State → Job → State) (j : Job) (h : ∀ s j, (run s j).graph = s.graph) :
    (s.judge run j).graph = s.graph := by
  simp only [State.judge]
  repeat' split
  all_goals simp [h]

@[simp] theorem State.judge_rout (s : State) (run : State → Job → State) (j : Job) (h : ∀ s j, (run s j).rout = s.rout) :
    (s.judge run j).rout = s.rout := by
  simp only [State.judge]
  repeat' split
  all_goals simp [h]

@[simp] theorem State.judge_out (s : State) (run : State → Job → State) (j : Job) (h : ∀ s j, (run s j).out = s.out) :
    (s.judge run j).out = s.out := by
  simp only [State.judge]
  repeat' split
  all_goals simp [h]

@[simp] theorem State.judge_ports (s : State) (run : State → Job → State) (j : Job) (h : ∀ s j, (run s j).ports = s.ports) :
    (s.judge run j).ports = s.ports := by
  simp only [State.judge]
  repeat' split
  all_goals simp [h]

@[simp] theorem State.judge_wake (s : State) (run : State → Job → State) (j : Job) (h : ∀ s j, (run s j).wake = s.wake) :
    (s.judge run j).wake = s.wake := by
  simp only [State.judge]
  repeat' split
  all_goals simp [h]

@[simp] theorem State.judge_free (s : State) (run : State → Job → State) (j : Job) (h : ∀ s j, (run s j).free = s.free) :
    (s.judge run j).free = s.free := by
  simp only [State.judge]
  repeat' split
  all_goals simp [h]

@[simp] theorem State.judge_pending (s : State) (run : State → Job → State) (j : Job) (h : ∀ s j, (run s j).pending = s.pending) :
    (s.judge run j).pending = s.pending := by
  simp only [State.judge]
  repeat' split
  all_goals simp [h]

@[simp] theorem State.execute_clock (s : State) (run : State → Job → State) (j : Job) (h : ∀ s j, (run s j).clock = s.clock) :
    (s.execute run j).clock = s.clock := by
  simp [State.execute, h]

@[simp] theorem State.execute_power (s : State) (run : State → Job → State) (j : Job) (h : ∀ s j, (run s j).power = s.power) :
    (s.execute run j).power = s.power := by
  simp [State.execute, h]

@[simp] theorem State.execute_synth (s : State) (run : State → Job → State) (j : Job) (h : ∀ s j, (run s j).synth = s.synth) :
    (s.execute run j).synth = s.synth := by
  simp [State.execute, h]

@[simp] theorem State.execute_dpll (s : State) (run : State → Job → State) (j : Job) (h : ∀ s j, (run s j).dpll = s.dpll) :
    (s.execute run j).dpll = s.dpll := by
  simp [State.execute, h]

@[simp] theorem State.execute_mram (s : State) (run : State → Job → State) (j : Job) (h : ∀ s j, (run s j).mram = s.mram) :
    (s.execute run j).mram = s.mram := by
  simp [State.execute, h]

@[simp] theorem State.execute_cfg (s : State) (run : State → Job → State) (j : Job) (h : ∀ s j, (run s j).cfg = s.cfg) :
    (s.execute run j).cfg = s.cfg := by
  simp [State.execute, h]

@[simp] theorem State.execute_dep (s : State) (run : State → Job → State) (j : Job) (h : ∀ s j, (run s j).dep = s.dep) :
    (s.execute run j).dep = s.dep := by
  simp [State.execute, h]

@[simp] theorem State.execute_log (s : State) (run : State → Job → State) (j : Job) (h : ∀ s j, (run s j).log = s.log) :
    (s.execute run j).log = s.log := by
  simp [State.execute, h]

@[simp] theorem State.execute_jtag (s : State) (run : State → Job → State) (j : Job) (h : ∀ s j, (run s j).jtag = s.jtag) :
    (s.execute run j).jtag = s.jtag := by
  simp [State.execute, h]

@[simp] theorem State.execute_inp (s : State) (run : State → Job → State) (j : Job) (h : ∀ s j, (run s j).inp = s.inp) :
    (s.execute run j).inp = s.inp := by
  simp [State.execute, h]

@[simp] theorem State.execute_conv (s : State) (run : State → Job → State) (j : Job) (h : ∀ s j, (run s j).conv = s.conv) :
    (s.execute run j).conv = s.conv := by
  simp [State.execute, h]

@[simp] theorem State.execute_sprint (s : State) (run : State → Job → State) (j : Job) (h : ∀ s j, (run s j).sprint = s.sprint) :
    (s.execute run j).sprint = s.sprint := by
  simp [State.execute, h]

@[simp] theorem State.execute_graph (s : State) (run : State → Job → State) (j : Job) (h : ∀ s j, (run s j).graph = s.graph) :
    (s.execute run j).graph = s.graph := by
  simp [State.execute, h]

@[simp] theorem State.execute_rout (s : State) (run : State → Job → State) (j : Job) (h : ∀ s j, (run s j).rout = s.rout) :
    (s.execute run j).rout = s.rout := by
  simp [State.execute, h]

@[simp] theorem State.execute_out (s : State) (run : State → Job → State) (j : Job) (h : ∀ s j, (run s j).out = s.out) :
    (s.execute run j).out = s.out := by
  simp [State.execute, h]

@[simp] theorem State.execute_ports (s : State) (run : State → Job → State) (j : Job) (h : ∀ s j, (run s j).ports = s.ports) :
    (s.execute run j).ports = s.ports := by
  simp [State.execute, h]

@[simp] theorem State.execute_wake (s : State) (run : State → Job → State) (j : Job) (h : ∀ s j, (run s j).wake = s.wake) :
    (s.execute run j).wake = s.wake := by
  simp [State.execute, h]

@[simp] theorem State.execute_free (s : State) (run : State → Job → State) (j : Job) (h : ∀ s j, (run s j).free = s.free) :
    (s.execute run j).free = s.free := by
  simp [State.execute, h]

@[simp] theorem State.execute_pending (s : State) (run : State → Job → State) (j : Job) (h : ∀ s j, (run s j).pending = s.pending) :
    (s.execute run j).pending = s.pending := by
  simp [State.execute, h]

@[simp] theorem State.forward_keeps (s : State) (target op : Nat) (q : Req) :
    (State.forward s target op q).clock = s.clock ∧ (State.forward s target op q).power = s.power ∧ (State.forward s target op q).synth = s.synth ∧ (State.forward s target op q).dpll = s.dpll ∧ (State.forward s target op q).mram = s.mram ∧ (State.forward s target op q).cfg = s.cfg ∧ (State.forward s target op q).dep = s.dep ∧ (State.forward s target op q).log = s.log ∧ (State.forward s target op q).jtag = s.jtag ∧ (State.forward s target op q).inp = s.inp ∧ (State.forward s target op q).conv = s.conv ∧ (State.forward s target op q).sprint = s.sprint ∧ (State.forward s target op q).graph = s.graph ∧ (State.forward s target op q).rout = s.rout ∧ (State.forward s target op q).out = s.out ∧ (State.forward s target op q).ports = s.ports ∧ (State.forward s target op q).wake = s.wake ∧ (State.forward s target op q).free = s.free ∧ (State.forward s target op q).pending = s.pending := by
  simp only [State.forward]
  all_goals repeat' split
  all_goals simp

@[simp] theorem State.forwardJudged_keeps (s : State) (target op : Nat) (q : Req) :
    (State.forwardJudged s target op q).clock = s.clock ∧ (State.forwardJudged s target op q).power = s.power ∧ (State.forwardJudged s target op q).synth = s.synth ∧ (State.forwardJudged s target op q).dpll = s.dpll ∧ (State.forwardJudged s target op q).mram = s.mram ∧ (State.forwardJudged s target op q).cfg = s.cfg ∧ (State.forwardJudged s target op q).dep = s.dep ∧ (State.forwardJudged s target op q).log = s.log ∧ (State.forwardJudged s target op q).jtag = s.jtag ∧ (State.forwardJudged s target op q).inp = s.inp ∧ (State.forwardJudged s target op q).conv = s.conv ∧ (State.forwardJudged s target op q).sprint = s.sprint ∧ (State.forwardJudged s target op q).graph = s.graph ∧ (State.forwardJudged s target op q).rout = s.rout ∧ (State.forwardJudged s target op q).out = s.out ∧ (State.forwardJudged s target op q).ports = s.ports ∧ (State.forwardJudged s target op q).wake = s.wake ∧ (State.forwardJudged s target op q).free = s.free ∧ (State.forwardJudged s target op q).pending = s.pending := by
  simp only [State.forwardJudged]
  all_goals repeat' split
  all_goals simp

@[simp] theorem State.runPacket_keeps (s : State) (port origin oport : Nat) (w : Waiting) :
    (State.runPacket s port origin oport w).clock = s.clock ∧ (State.runPacket s port origin oport w).jtag = s.jtag ∧ (State.runPacket s port origin oport w).pending = s.pending := by
  simp only [State.runPacket]
  all_goals repeat' split
  all_goals simp

@[simp] theorem State.takeHead_keeps (s : State) (h : Nat × Nat × Nat × Nat × Waiting) :
    (State.takeHead s h).clock = s.clock ∧ (State.takeHead s h).power = s.power ∧ (State.takeHead s h).synth = s.synth ∧ (State.takeHead s h).dpll = s.dpll ∧ (State.takeHead s h).mram = s.mram ∧ (State.takeHead s h).cfg = s.cfg ∧ (State.takeHead s h).dep = s.dep ∧ (State.takeHead s h).log = s.log ∧ (State.takeHead s h).jtag = s.jtag ∧ (State.takeHead s h).inp = s.inp ∧ (State.takeHead s h).conv = s.conv ∧ (State.takeHead s h).sprint = s.sprint ∧ (State.takeHead s h).graph = s.graph ∧ (State.takeHead s h).rout = s.rout ∧ (State.takeHead s h).out = s.out ∧ (State.takeHead s h).ports = s.ports ∧ (State.takeHead s h).link = s.link ∧ (State.takeHead s h).wake = s.wake ∧ (State.takeHead s h).free = s.free ∧ (State.takeHead s h).pending = s.pending := by
  simp only [State.takeHead]
  all_goals repeat' split
  all_goals simp

@[simp] theorem State.serve_keeps (n : Nat) (s : State) :
    (State.serve n s).clock = s.clock ∧ (State.serve n s).jtag = s.jtag ∧ (State.serve n s).pending = s.pending := by
  induction n generalizing s with
  | zero => simp [State.serve]
  | succ n ih =>
    simp only [State.serve]
    repeat' split
    all_goals simp [ih]

@[simp] theorem State.serveAll_keeps (s : State) :
    (State.serveAll s).clock = s.clock ∧ (State.serveAll s).jtag = s.jtag ∧ (State.serveAll s).pending = s.pending := by
  simp only [State.serveAll]
  all_goals simp

@[simp] theorem State.serveBefore_keeps (q : Req) (n : Nat) (s : State) :
    (State.serveBefore q n s).clock = s.clock ∧ (State.serveBefore q n s).jtag = s.jtag ∧ (State.serveBefore q n s).pending = s.pending := by
  induction n generalizing s with
  | zero => simp [State.serveBefore]
  | succ n ih =>
    simp only [State.serveBefore]
    repeat' split
    all_goals simp [ih]

/-- Where nothing waits, nothing is executed before a request given whole (R388). -/
theorem State.serveBefore_quiet (q : Req) (n : Nat) (s : State) (h : s.heads = []) : State.serveBefore q n s = s := by
  cases n <;> simp [State.serveBefore, h, firstHead]

@[simp] theorem State.enter_keeps (s : State) (target op : Nat) (q : Req) (go : State → State) (h : ∀ s, (go s).clock = s.clock ∧ (go s).jtag = s.jtag ∧ (go s).pending = s.pending) :
    (s.enter target op q go).clock = s.clock ∧ (s.enter target op q go).jtag = s.jtag ∧ (s.enter target op q go).pending = s.pending := by
  simp only [State.enter]
  repeat' split
  all_goals simp [h]

theorem State.enter_clock (s : State) (target op : Nat) (q : Req) (go : State → State) (hq : s.heads = []) (h : (go s).clock = s.clock) :
    (s.enter target op q go).clock = s.clock := by
  simp only [State.enter, State.serveBefore_quiet _ _ _ hq]
  repeat' split
  all_goals simp [h]

theorem State.enter_power (s : State) (target op : Nat) (q : Req) (go : State → State) (hq : s.heads = []) (h : (go s).power = s.power) :
    (s.enter target op q go).power = s.power := by
  simp only [State.enter, State.serveBefore_quiet _ _ _ hq]
  repeat' split
  all_goals simp [h]

theorem State.enter_synth (s : State) (target op : Nat) (q : Req) (go : State → State) (hq : s.heads = []) (h : (go s).synth = s.synth) :
    (s.enter target op q go).synth = s.synth := by
  simp only [State.enter, State.serveBefore_quiet _ _ _ hq]
  repeat' split
  all_goals simp [h]

theorem State.enter_dpll (s : State) (target op : Nat) (q : Req) (go : State → State) (hq : s.heads = []) (h : (go s).dpll = s.dpll) :
    (s.enter target op q go).dpll = s.dpll := by
  simp only [State.enter, State.serveBefore_quiet _ _ _ hq]
  repeat' split
  all_goals simp [h]

theorem State.enter_mram (s : State) (target op : Nat) (q : Req) (go : State → State) (hq : s.heads = []) (h : (go s).mram = s.mram) :
    (s.enter target op q go).mram = s.mram := by
  simp only [State.enter, State.serveBefore_quiet _ _ _ hq]
  repeat' split
  all_goals simp [h]

theorem State.enter_cfg (s : State) (target op : Nat) (q : Req) (go : State → State) (hq : s.heads = []) (h : (go s).cfg = s.cfg) :
    (s.enter target op q go).cfg = s.cfg := by
  simp only [State.enter, State.serveBefore_quiet _ _ _ hq]
  repeat' split
  all_goals simp [h]

theorem State.enter_dep (s : State) (target op : Nat) (q : Req) (go : State → State) (hq : s.heads = []) (h : (go s).dep = s.dep) :
    (s.enter target op q go).dep = s.dep := by
  simp only [State.enter, State.serveBefore_quiet _ _ _ hq]
  repeat' split
  all_goals simp [h]

theorem State.enter_log (s : State) (target op : Nat) (q : Req) (go : State → State) (hq : s.heads = []) (h : (go s).log = s.log) :
    (s.enter target op q go).log = s.log := by
  simp only [State.enter, State.serveBefore_quiet _ _ _ hq]
  repeat' split
  all_goals simp [h]

theorem State.enter_jtag (s : State) (target op : Nat) (q : Req) (go : State → State) (hq : s.heads = []) (h : (go s).jtag = s.jtag) :
    (s.enter target op q go).jtag = s.jtag := by
  simp only [State.enter, State.serveBefore_quiet _ _ _ hq]
  repeat' split
  all_goals simp [h]

theorem State.enter_inp (s : State) (target op : Nat) (q : Req) (go : State → State) (hq : s.heads = []) (h : (go s).inp = s.inp) :
    (s.enter target op q go).inp = s.inp := by
  simp only [State.enter, State.serveBefore_quiet _ _ _ hq]
  repeat' split
  all_goals simp [h]

theorem State.enter_conv (s : State) (target op : Nat) (q : Req) (go : State → State) (hq : s.heads = []) (h : (go s).conv = s.conv) :
    (s.enter target op q go).conv = s.conv := by
  simp only [State.enter, State.serveBefore_quiet _ _ _ hq]
  repeat' split
  all_goals simp [h]

theorem State.enter_sprint (s : State) (target op : Nat) (q : Req) (go : State → State) (hq : s.heads = []) (h : (go s).sprint = s.sprint) :
    (s.enter target op q go).sprint = s.sprint := by
  simp only [State.enter, State.serveBefore_quiet _ _ _ hq]
  repeat' split
  all_goals simp [h]

theorem State.enter_graph (s : State) (target op : Nat) (q : Req) (go : State → State) (hq : s.heads = []) (h : (go s).graph = s.graph) :
    (s.enter target op q go).graph = s.graph := by
  simp only [State.enter, State.serveBefore_quiet _ _ _ hq]
  repeat' split
  all_goals simp [h]

theorem State.enter_rout (s : State) (target op : Nat) (q : Req) (go : State → State) (hq : s.heads = []) (h : (go s).rout = s.rout) :
    (s.enter target op q go).rout = s.rout := by
  simp only [State.enter, State.serveBefore_quiet _ _ _ hq]
  repeat' split
  all_goals simp [h]

theorem State.enter_out (s : State) (target op : Nat) (q : Req) (go : State → State) (hq : s.heads = []) (h : (go s).out = s.out) :
    (s.enter target op q go).out = s.out := by
  simp only [State.enter, State.serveBefore_quiet _ _ _ hq]
  repeat' split
  all_goals simp [h]

theorem State.enter_ports (s : State) (target op : Nat) (q : Req) (go : State → State) (hq : s.heads = []) (h : (go s).ports = s.ports) :
    (s.enter target op q go).ports = s.ports := by
  simp only [State.enter, State.serveBefore_quiet _ _ _ hq]
  repeat' split
  all_goals simp [h]

theorem State.enter_wake (s : State) (target op : Nat) (q : Req) (go : State → State) (hq : s.heads = []) (h : (go s).wake = s.wake) :
    (s.enter target op q go).wake = s.wake := by
  simp only [State.enter, State.serveBefore_quiet _ _ _ hq]
  repeat' split
  all_goals simp [h]

theorem State.enter_free (s : State) (target op : Nat) (q : Req) (go : State → State) (hq : s.heads = []) (h : (go s).free = s.free) :
    (s.enter target op q go).free = s.free := by
  simp only [State.enter, State.serveBefore_quiet _ _ _ hq]
  repeat' split
  all_goals simp [h]

theorem State.enter_pending (s : State) (target op : Nat) (q : Req) (go : State → State) (hq : s.heads = []) (h : (go s).pending = s.pending) :
    (s.enter target op q go).pending = s.pending := by
  simp only [State.enter, State.serveBefore_quiet _ _ _ hq]
  repeat' split
  all_goals simp [h]

@[simp] theorem State.request_keeps (s : State) (op : Nat) (run : State → Job → State) (q : Req) (h : ∀ s j, (run s j).clock = s.clock ∧ (run s j).jtag = s.jtag ∧ (run s j).pending = s.pending) :
    (s.request op run q).clock = s.clock ∧ (s.request op run q).jtag = s.jtag ∧ (s.request op run q).pending = s.pending := by
  simp only [State.request]
  exact State.enter_keeps _ _ _ _ _ (fun s => by simp [h])

theorem State.request_clock (s : State) (op : Nat) (run : State → Job → State) (q : Req) (hq : s.heads = []) (h : ∀ s j, (run s j).clock = s.clock) :
    (s.request op run q).clock = s.clock := by
  exact State.enter_clock _ _ _ _ _ hq (by simp [h])

theorem State.request_power (s : State) (op : Nat) (run : State → Job → State) (q : Req) (hq : s.heads = []) (h : ∀ s j, (run s j).power = s.power) :
    (s.request op run q).power = s.power := by
  exact State.enter_power _ _ _ _ _ hq (by simp [h])

theorem State.request_synth (s : State) (op : Nat) (run : State → Job → State) (q : Req) (hq : s.heads = []) (h : ∀ s j, (run s j).synth = s.synth) :
    (s.request op run q).synth = s.synth := by
  exact State.enter_synth _ _ _ _ _ hq (by simp [h])

theorem State.request_dpll (s : State) (op : Nat) (run : State → Job → State) (q : Req) (hq : s.heads = []) (h : ∀ s j, (run s j).dpll = s.dpll) :
    (s.request op run q).dpll = s.dpll := by
  exact State.enter_dpll _ _ _ _ _ hq (by simp [h])

theorem State.request_mram (s : State) (op : Nat) (run : State → Job → State) (q : Req) (hq : s.heads = []) (h : ∀ s j, (run s j).mram = s.mram) :
    (s.request op run q).mram = s.mram := by
  exact State.enter_mram _ _ _ _ _ hq (by simp [h])

theorem State.request_cfg (s : State) (op : Nat) (run : State → Job → State) (q : Req) (hq : s.heads = []) (h : ∀ s j, (run s j).cfg = s.cfg) :
    (s.request op run q).cfg = s.cfg := by
  exact State.enter_cfg _ _ _ _ _ hq (by simp [h])

theorem State.request_dep (s : State) (op : Nat) (run : State → Job → State) (q : Req) (hq : s.heads = []) (h : ∀ s j, (run s j).dep = s.dep) :
    (s.request op run q).dep = s.dep := by
  exact State.enter_dep _ _ _ _ _ hq (by simp [h])

theorem State.request_log (s : State) (op : Nat) (run : State → Job → State) (q : Req) (hq : s.heads = []) (h : ∀ s j, (run s j).log = s.log) :
    (s.request op run q).log = s.log := by
  exact State.enter_log _ _ _ _ _ hq (by simp [h])

theorem State.request_jtag (s : State) (op : Nat) (run : State → Job → State) (q : Req) (hq : s.heads = []) (h : ∀ s j, (run s j).jtag = s.jtag) :
    (s.request op run q).jtag = s.jtag := by
  exact State.enter_jtag _ _ _ _ _ hq (by simp [h])

theorem State.request_inp (s : State) (op : Nat) (run : State → Job → State) (q : Req) (hq : s.heads = []) (h : ∀ s j, (run s j).inp = s.inp) :
    (s.request op run q).inp = s.inp := by
  exact State.enter_inp _ _ _ _ _ hq (by simp [h])

theorem State.request_conv (s : State) (op : Nat) (run : State → Job → State) (q : Req) (hq : s.heads = []) (h : ∀ s j, (run s j).conv = s.conv) :
    (s.request op run q).conv = s.conv := by
  exact State.enter_conv _ _ _ _ _ hq (by simp [h])

theorem State.request_sprint (s : State) (op : Nat) (run : State → Job → State) (q : Req) (hq : s.heads = []) (h : ∀ s j, (run s j).sprint = s.sprint) :
    (s.request op run q).sprint = s.sprint := by
  exact State.enter_sprint _ _ _ _ _ hq (by simp [h])

theorem State.request_graph (s : State) (op : Nat) (run : State → Job → State) (q : Req) (hq : s.heads = []) (h : ∀ s j, (run s j).graph = s.graph) :
    (s.request op run q).graph = s.graph := by
  exact State.enter_graph _ _ _ _ _ hq (by simp [h])

theorem State.request_rout (s : State) (op : Nat) (run : State → Job → State) (q : Req) (hq : s.heads = []) (h : ∀ s j, (run s j).rout = s.rout) :
    (s.request op run q).rout = s.rout := by
  exact State.enter_rout _ _ _ _ _ hq (by simp [h])

theorem State.request_out (s : State) (op : Nat) (run : State → Job → State) (q : Req) (hq : s.heads = []) (h : ∀ s j, (run s j).out = s.out) :
    (s.request op run q).out = s.out := by
  exact State.enter_out _ _ _ _ _ hq (by simp [h])

theorem State.request_ports (s : State) (op : Nat) (run : State → Job → State) (q : Req) (hq : s.heads = []) (h : ∀ s j, (run s j).ports = s.ports) :
    (s.request op run q).ports = s.ports := by
  exact State.enter_ports _ _ _ _ _ hq (by simp [h])

theorem State.request_wake (s : State) (op : Nat) (run : State → Job → State) (q : Req) (hq : s.heads = []) (h : ∀ s j, (run s j).wake = s.wake) :
    (s.request op run q).wake = s.wake := by
  exact State.enter_wake _ _ _ _ _ hq (by simp [h])

theorem State.request_free (s : State) (op : Nat) (run : State → Job → State) (q : Req) (hq : s.heads = []) (h : ∀ s j, (run s j).free = s.free) :
    (s.request op run q).free = s.free := by
  exact State.enter_free _ _ _ _ _ hq (by simp [h])

theorem State.request_pending (s : State) (op : Nat) (run : State → Job → State) (q : Req) (hq : s.heads = []) (h : ∀ s j, (run s j).pending = s.pending) :
    (s.request op run q).pending = s.pending := by
  exact State.enter_pending _ _ _ _ _ hq (by simp [h])

@[simp] theorem State.writeOf_keeps (s : State) (kind : Nat → Bool) (q : Req) :
    (State.writeOf s kind q).clock = s.clock ∧ (State.writeOf s kind q).jtag = s.jtag ∧ (State.writeOf s kind q).pending = s.pending := by
  simp only [State.writeOf]
  all_goals repeat' split
  all_goals simp

@[simp] theorem State.takeAhead_keeps (s : State) (b : List Byte) :
    (State.takeAhead s b).clock = s.clock ∧ (State.takeAhead s b).power = s.power ∧ (State.takeAhead s b).synth = s.synth ∧ (State.takeAhead s b).dpll = s.dpll ∧ (State.takeAhead s b).bus = s.bus ∧ (State.takeAhead s b).ctl = s.ctl ∧ (State.takeAhead s b).mram = s.mram ∧ (State.takeAhead s b).cfg = s.cfg ∧ (State.takeAhead s b).dep = s.dep ∧ (State.takeAhead s b).log = s.log ∧ (State.takeAhead s b).jtag = s.jtag ∧ (State.takeAhead s b).inp = s.inp ∧ (State.takeAhead s b).conv = s.conv ∧ (State.takeAhead s b).sprint = s.sprint ∧ (State.takeAhead s b).graph = s.graph ∧ (State.takeAhead s b).rout = s.rout ∧ (State.takeAhead s b).out = s.out ∧ (State.takeAhead s b).ports = s.ports ∧ (State.takeAhead s b).wake = s.wake ∧ (State.takeAhead s b).free = s.free ∧ (State.takeAhead s b).pending = s.pending := by
  simp only [State.takeAhead]
  all_goals repeat' split
  all_goals simp

@[simp] theorem State.endHeat_keeps (s : State) :
    (State.endHeat s).clock = s.clock ∧ (State.endHeat s).power = s.power ∧ (State.endHeat s).synth = s.synth ∧ (State.endHeat s).dpll = s.dpll ∧ (State.endHeat s).ctl = s.ctl ∧ (State.endHeat s).mram = s.mram ∧ (State.endHeat s).cfg = s.cfg ∧ (State.endHeat s).dep = s.dep ∧ (State.endHeat s).jtag = s.jtag ∧ (State.endHeat s).inp = s.inp ∧ (State.endHeat s).conv = s.conv ∧ (State.endHeat s).sprint = s.sprint ∧ (State.endHeat s).rout = s.rout ∧ (State.endHeat s).ports = s.ports ∧ (State.endHeat s).link = s.link ∧ (State.endHeat s).wake = s.wake ∧ (State.endHeat s).free = s.free ∧ (State.endHeat s).pending = s.pending := by
  simp only [State.endHeat]
  all_goals repeat' split
  all_goals simp

@[simp] theorem State.feedDac_keeps (s : State) (o : Nat) :
    (State.feedDac s o).clock = s.clock ∧ (State.feedDac s o).power = s.power ∧ (State.feedDac s o).synth = s.synth ∧ (State.feedDac s o).dpll = s.dpll ∧ (State.feedDac s o).bus = s.bus ∧ (State.feedDac s o).ctl = s.ctl ∧ (State.feedDac s o).mram = s.mram ∧ (State.feedDac s o).cfg = s.cfg ∧ (State.feedDac s o).dep = s.dep ∧ (State.feedDac s o).jtag = s.jtag ∧ (State.feedDac s o).inp = s.inp ∧ (State.feedDac s o).sprint = s.sprint ∧ (State.feedDac s o).graph = s.graph ∧ (State.feedDac s o).rout = s.rout ∧ (State.feedDac s o).out = s.out ∧ (State.feedDac s o).ports = s.ports ∧ (State.feedDac s o).link = s.link ∧ (State.feedDac s o).wake = s.wake ∧ (State.feedDac s o).free = s.free ∧ (State.feedDac s o).pending = s.pending := by
  simp only [State.feedDac]
  all_goals simp

@[simp] theorem State.feedCells_keeps (s : State) :
    (State.feedCells s).clock = s.clock ∧ (State.feedCells s).power = s.power ∧ (State.feedCells s).synth = s.synth ∧ (State.feedCells s).dpll = s.dpll ∧ (State.feedCells s).bus = s.bus ∧ (State.feedCells s).ctl = s.ctl ∧ (State.feedCells s).mram = s.mram ∧ (State.feedCells s).cfg = s.cfg ∧ (State.feedCells s).dep = s.dep ∧ (State.feedCells s).log = s.log ∧ (State.feedCells s).jtag = s.jtag ∧ (State.feedCells s).inp = s.inp ∧ (State.feedCells s).conv = s.conv ∧ (State.feedCells s).graph = s.graph ∧ (State.feedCells s).rout = s.rout ∧ (State.feedCells s).out = s.out ∧ (State.feedCells s).ports = s.ports ∧ (State.feedCells s).link = s.link ∧ (State.feedCells s).wake = s.wake ∧ (State.feedCells s).free = s.free ∧ (State.feedCells s).pending = s.pending := by
  simp only [State.feedCells]
  all_goals simp

@[simp] theorem State.release_keeps (s : State) :
    (State.release s).clock = s.clock ∧ (State.release s).power = s.power ∧ (State.release s).synth = s.synth ∧ (State.release s).dpll = s.dpll ∧ (State.release s).ctl = s.ctl ∧ (State.release s).mram = s.mram ∧ (State.release s).cfg = s.cfg ∧ (State.release s).dep = s.dep ∧ (State.release s).jtag = s.jtag ∧ (State.release s).inp = s.inp ∧ (State.release s).wake = s.wake ∧ (State.release s).pending = s.pending := by
  simp only [State.release]
  all_goals repeat' split
  all_goals simp

@[simp] theorem State.powerOn_keeps (s : State) :
    (State.powerOn s).clock = s.clock ∧ (State.powerOn s).power = s.power ∧ (State.powerOn s).synth = s.synth ∧ (State.powerOn s).dpll = s.dpll ∧ (State.powerOn s).bus = s.bus ∧ (State.powerOn s).ctl = s.ctl ∧ (State.powerOn s).mram = s.mram ∧ (State.powerOn s).cfg = s.cfg ∧ (State.powerOn s).dep = s.dep ∧ (State.powerOn s).jtag = s.jtag ∧ (State.powerOn s).inp = s.inp ∧ (State.powerOn s).conv = s.conv ∧ (State.powerOn s).sprint = s.sprint ∧ (State.powerOn s).graph = s.graph ∧ (State.powerOn s).rout = s.rout ∧ (State.powerOn s).out = s.out ∧ (State.powerOn s).ports = s.ports ∧ (State.powerOn s).link = s.link ∧ (State.powerOn s).wake = s.wake ∧ (State.powerOn s).free = s.free ∧ (State.powerOn s).pending = s.pending := by
  simp only [State.powerOn]
  all_goals repeat' split
  all_goals simp

@[simp] theorem State.advance_keeps (s : State) :
    (State.advance s).power = s.power ∧ (State.advance s).synth = s.synth ∧ (State.advance s).dpll = s.dpll ∧ (State.advance s).bus = s.bus ∧ (State.advance s).ctl = s.ctl ∧ (State.advance s).mram = s.mram ∧ (State.advance s).cfg = s.cfg ∧ (State.advance s).dep = s.dep ∧ (State.advance s).jtag = s.jtag ∧ (State.advance s).conv = s.conv ∧ (State.advance s).sprint = s.sprint ∧ (State.advance s).graph = s.graph ∧ (State.advance s).rout = s.rout ∧ (State.advance s).out = s.out ∧ (State.advance s).ports = s.ports ∧ (State.advance s).link = s.link ∧ (State.advance s).wake = s.wake ∧ (State.advance s).free = s.free ∧ (State.advance s).pending = s.pending := by
  simp only [State.advance]
  all_goals simp

@[simp] theorem State.latchInputs_keeps (s : State) :
    (State.latchInputs s).clock = s.clock ∧ (State.latchInputs s).power = s.power ∧ (State.latchInputs s).synth = s.synth ∧ (State.latchInputs s).dpll = s.dpll ∧ (State.latchInputs s).bus = s.bus ∧ (State.latchInputs s).ctl = s.ctl ∧ (State.latchInputs s).mram = s.mram ∧ (State.latchInputs s).cfg = s.cfg ∧ (State.latchInputs s).dep = s.dep ∧ (State.latchInputs s).log = s.log ∧ (State.latchInputs s).jtag = s.jtag ∧ (State.latchInputs s).inp = s.inp ∧ (State.latchInputs s).sprint = s.sprint ∧ (State.latchInputs s).graph = s.graph ∧ (State.latchInputs s).out = s.out ∧ (State.latchInputs s).ports = s.ports ∧ (State.latchInputs s).link = s.link ∧ (State.latchInputs s).wake = s.wake ∧ (State.latchInputs s).pending = s.pending := by
  simp only [State.latchInputs]
  all_goals simp

@[simp] theorem State.follow_keeps (s : State) :
    (State.follow s).clock = s.clock ∧ (State.follow s).power = s.power ∧ (State.follow s).ctl = s.ctl ∧ (State.follow s).mram = s.mram ∧ (State.follow s).cfg = s.cfg ∧ (State.follow s).dep = s.dep ∧ (State.follow s).jtag = s.jtag ∧ (State.follow s).inp = s.inp ∧ (State.follow s).conv = s.conv ∧ (State.follow s).graph = s.graph ∧ (State.follow s).rout = s.rout ∧ (State.follow s).ports = s.ports ∧ (State.follow s).link = s.link ∧ (State.follow s).wake = s.wake ∧ (State.follow s).pending = s.pending := by
  simp only [State.follow]
  all_goals simp

@[simp] theorem State.openGraph_keeps (s : State) :
    (State.openGraph s).clock = s.clock ∧ (State.openGraph s).power = s.power ∧ (State.openGraph s).synth = s.synth ∧ (State.openGraph s).dpll = s.dpll ∧ (State.openGraph s).bus = s.bus ∧ (State.openGraph s).ctl = s.ctl ∧ (State.openGraph s).mram = s.mram ∧ (State.openGraph s).cfg = s.cfg ∧ (State.openGraph s).dep = s.dep ∧ (State.openGraph s).log = s.log ∧ (State.openGraph s).jtag = s.jtag ∧ (State.openGraph s).inp = s.inp ∧ (State.openGraph s).conv = s.conv ∧ (State.openGraph s).sprint = s.sprint ∧ (State.openGraph s).out = s.out ∧ (State.openGraph s).ports = s.ports ∧ (State.openGraph s).link = s.link ∧ (State.openGraph s).wake = s.wake ∧ (State.openGraph s).pending = s.pending := by
  simp only [State.openGraph]
  all_goals repeat' split
  all_goals simp

@[simp] theorem State.openTick_keeps (s : State) :
    (State.openTick s).power = s.power ∧ (State.openTick s).mram = s.mram ∧ (State.openTick s).jtag = s.jtag ∧ (State.openTick s).inp = s.inp ∧ (State.openTick s).pending = s.pending := by
  simp only [State.openTick]
  all_goals repeat' split
  all_goals simp

@[simp] theorem State.swapAct_keeps (s : State) (p : Pending) (t : Nat) :
    (State.swapAct s p t).clock = s.clock ∧ (State.swapAct s p t).power = s.power ∧ (State.swapAct s p t).synth = s.synth ∧ (State.swapAct s p t).dpll = s.dpll ∧ (State.swapAct s p t).mram = s.mram ∧ (State.swapAct s p t).log = s.log ∧ (State.swapAct s p t).jtag = s.jtag ∧ (State.swapAct s p t).ports = s.ports ∧ (State.swapAct s p t).wake = s.wake ∧ (State.swapAct s p t).free = s.free ∧ (State.swapAct s p t).pending = s.pending := by
  simp only [State.swapAct]
  all_goals repeat' split
  all_goals simp

@[simp] theorem State.armAct_keeps (s : State) (p : Pending) (t : Nat) :
    (State.armAct s p t).clock = s.clock ∧ (State.armAct s p t).synth = s.synth ∧ (State.armAct s p t).dpll = s.dpll ∧ (State.armAct s p t).mram = s.mram ∧ (State.armAct s p t).jtag = s.jtag ∧ (State.armAct s p t).free = s.free ∧ (State.armAct s p t).pending = s.pending := by
  simp only [State.armAct]
  all_goals repeat' split
  all_goals simp

@[simp] theorem State.armedAct_keeps (s : State) :
    (State.armedAct s).clock = s.clock ∧ (State.armedAct s).synth = s.synth ∧ (State.armedAct s).dpll = s.dpll ∧ (State.armedAct s).mram = s.mram ∧ (State.armedAct s).jtag = s.jtag ∧ (State.armedAct s).free = s.free ∧ (State.armedAct s).pending = s.pending := by
  simp only [State.armedAct]
  all_goals repeat' split
  all_goals simp

@[simp] theorem State.gunsAct_keeps (s : State) :
    (State.gunsAct s).clock = s.clock ∧ (State.gunsAct s).power = s.power ∧ (State.gunsAct s).synth = s.synth ∧ (State.gunsAct s).dpll = s.dpll ∧ (State.gunsAct s).bus = s.bus ∧ (State.gunsAct s).ctl = s.ctl ∧ (State.gunsAct s).mram = s.mram ∧ (State.gunsAct s).cfg = s.cfg ∧ (State.gunsAct s).dep = s.dep ∧ (State.gunsAct s).jtag = s.jtag ∧ (State.gunsAct s).inp = s.inp ∧ (State.gunsAct s).conv = s.conv ∧ (State.gunsAct s).sprint = s.sprint ∧ (State.gunsAct s).graph = s.graph ∧ (State.gunsAct s).rout = s.rout ∧ (State.gunsAct s).out = s.out ∧ (State.gunsAct s).wake = s.wake ∧ (State.gunsAct s).free = s.free ∧ (State.gunsAct s).pending = s.pending := by
  simp only [State.gunsAct]
  all_goals repeat' split
  all_goals simp

@[simp] theorem State.portsAct_keeps (s : State) :
    (State.portsAct s).clock = s.clock ∧ (State.portsAct s).power = s.power ∧ (State.portsAct s).synth = s.synth ∧ (State.portsAct s).dpll = s.dpll ∧ (State.portsAct s).ctl = s.ctl ∧ (State.portsAct s).mram = s.mram ∧ (State.portsAct s).cfg = s.cfg ∧ (State.portsAct s).dep = s.dep ∧ (State.portsAct s).jtag = s.jtag ∧ (State.portsAct s).inp = s.inp ∧ (State.portsAct s).conv = s.conv ∧ (State.portsAct s).sprint = s.sprint ∧ (State.portsAct s).graph = s.graph ∧ (State.portsAct s).rout = s.rout ∧ (State.portsAct s).out = s.out ∧ (State.portsAct s).link = s.link ∧ (State.portsAct s).wake = s.wake ∧ (State.portsAct s).free = s.free ∧ (State.portsAct s).pending = s.pending := by
  simp only [State.portsAct]
  all_goals simp

@[simp] theorem State.handoversAct_keeps (s : State) :
    (State.handoversAct s).clock = s.clock ∧ (State.handoversAct s).power = s.power ∧ (State.handoversAct s).synth = s.synth ∧ (State.handoversAct s).dpll = s.dpll ∧ (State.handoversAct s).bus = s.bus ∧ (State.handoversAct s).ctl = s.ctl ∧ (State.handoversAct s).mram = s.mram ∧ (State.handoversAct s).cfg = s.cfg ∧ (State.handoversAct s).dep = s.dep ∧ (State.handoversAct s).log = s.log ∧ (State.handoversAct s).jtag = s.jtag ∧ (State.handoversAct s).inp = s.inp ∧ (State.handoversAct s).conv = s.conv ∧ (State.handoversAct s).sprint = s.sprint ∧ (State.handoversAct s).graph = s.graph ∧ (State.handoversAct s).rout = s.rout ∧ (State.handoversAct s).out = s.out ∧ (State.handoversAct s).ports = s.ports ∧ (State.handoversAct s).link = s.link ∧ (State.handoversAct s).free = s.free ∧ (State.handoversAct s).pending = s.pending := by
  simp only [State.handoversAct]
  all_goals repeat' split
  all_goals simp

@[simp] theorem State.acts_keeps (s : State) :
    (State.acts s).clock = s.clock ∧ (State.acts s).synth = s.synth ∧ (State.acts s).mram = s.mram ∧ (State.acts s).jtag = s.jtag ∧ (State.acts s).free = s.free ∧ (State.acts s).pending = s.pending := by
  simp only [State.acts]
  all_goals simp

@[simp] theorem State.openIfReady_keeps (s : State) :
    (State.openIfReady s).power = s.power ∧ (State.openIfReady s).mram = s.mram ∧ (State.openIfReady s).jtag = s.jtag ∧ (State.openIfReady s).inp = s.inp ∧ (State.openIfReady s).pending = s.pending := by
  simp only [State.openIfReady]
  all_goals repeat' split
  all_goals simp

@[simp] theorem State.settle_keeps (s : State) :
    (State.settle s).mram = s.mram ∧ (State.settle s).jtag = s.jtag ∧ (State.settle s).pending = s.pending := by
  simp only [State.settle]
  all_goals repeat' split
  all_goals simp

@[simp] theorem State.sprintStep_keeps (s : State) (levels : List (List Int)) (pdm : List Bool) :
    (State.sprintStep s levels pdm).power = s.power ∧ (State.sprintStep s levels pdm).synth = s.synth ∧ (State.sprintStep s levels pdm).dpll = s.dpll ∧ (State.sprintStep s levels pdm).bus = s.bus ∧ (State.sprintStep s levels pdm).ctl = s.ctl ∧ (State.sprintStep s levels pdm).mram = s.mram ∧ (State.sprintStep s levels pdm).cfg = s.cfg ∧ (State.sprintStep s levels pdm).dep = s.dep ∧ (State.sprintStep s levels pdm).log = s.log ∧ (State.sprintStep s levels pdm).jtag = s.jtag ∧ (State.sprintStep s levels pdm).inp = s.inp ∧ (State.sprintStep s levels pdm).graph = s.graph ∧ (State.sprintStep s levels pdm).rout = s.rout ∧ (State.sprintStep s levels pdm).out = s.out ∧ (State.sprintStep s levels pdm).ports = s.ports ∧ (State.sprintStep s levels pdm).link = s.link ∧ (State.sprintStep s levels pdm).pending = s.pending := by
  simp only [State.sprintStep]
  all_goals simp

@[simp] theorem State.warnRead_keeps (s : State) (conv : Bool) (v : Int) :
    (State.warnRead s conv v).clock = s.clock ∧ (State.warnRead s conv v).power = s.power ∧ (State.warnRead s conv v).synth = s.synth ∧ (State.warnRead s conv v).dpll = s.dpll ∧ (State.warnRead s conv v).ctl = s.ctl ∧ (State.warnRead s conv v).mram = s.mram ∧ (State.warnRead s conv v).cfg = s.cfg ∧ (State.warnRead s conv v).log = s.log ∧ (State.warnRead s conv v).jtag = s.jtag ∧ (State.warnRead s conv v).inp = s.inp ∧ (State.warnRead s conv v).conv = s.conv ∧ (State.warnRead s conv v).sprint = s.sprint ∧ (State.warnRead s conv v).graph = s.graph ∧ (State.warnRead s conv v).rout = s.rout ∧ (State.warnRead s conv v).out = s.out ∧ (State.warnRead s conv v).ports = s.ports ∧ (State.warnRead s conv v).link = s.link ∧ (State.warnRead s conv v).wake = s.wake ∧ (State.warnRead s conv v).free = s.free ∧ (State.warnRead s conv v).pending = s.pending := by
  simp only [State.warnRead]
  all_goals repeat' split
  all_goals simp

@[simp] theorem State.extremeRead_keeps (s : State) (d : Nat) (v : Int) :
    (State.extremeRead s d v).clock = s.clock ∧ (State.extremeRead s d v).power = s.power ∧ (State.extremeRead s d v).synth = s.synth ∧ (State.extremeRead s d v).dpll = s.dpll ∧ (State.extremeRead s d v).bus = s.bus ∧ (State.extremeRead s d v).ctl = s.ctl ∧ (State.extremeRead s d v).mram = s.mram ∧ (State.extremeRead s d v).cfg = s.cfg ∧ (State.extremeRead s d v).dep = s.dep ∧ (State.extremeRead s d v).jtag = s.jtag ∧ (State.extremeRead s d v).inp = s.inp ∧ (State.extremeRead s d v).conv = s.conv ∧ (State.extremeRead s d v).sprint = s.sprint ∧ (State.extremeRead s d v).graph = s.graph ∧ (State.extremeRead s d v).rout = s.rout ∧ (State.extremeRead s d v).out = s.out ∧ (State.extremeRead s d v).ports = s.ports ∧ (State.extremeRead s d v).link = s.link ∧ (State.extremeRead s d v).wake = s.wake ∧ (State.extremeRead s d v).free = s.free ∧ (State.extremeRead s d v).pending = s.pending := by
  simp only [State.extremeRead]
  all_goals simp

@[simp] theorem State.supplyRead_keeps (s : State) (i : Nat) (v : Int) :
    (State.supplyRead s i v).clock = s.clock ∧ (State.supplyRead s i v).power = s.power ∧ (State.supplyRead s i v).synth = s.synth ∧ (State.supplyRead s i v).dpll = s.dpll ∧ (State.supplyRead s i v).bus = s.bus ∧ (State.supplyRead s i v).ctl = s.ctl ∧ (State.supplyRead s i v).mram = s.mram ∧ (State.supplyRead s i v).cfg = s.cfg ∧ (State.supplyRead s i v).dep = s.dep ∧ (State.supplyRead s i v).jtag = s.jtag ∧ (State.supplyRead s i v).inp = s.inp ∧ (State.supplyRead s i v).conv = s.conv ∧ (State.supplyRead s i v).sprint = s.sprint ∧ (State.supplyRead s i v).graph = s.graph ∧ (State.supplyRead s i v).rout = s.rout ∧ (State.supplyRead s i v).out = s.out ∧ (State.supplyRead s i v).ports = s.ports ∧ (State.supplyRead s i v).link = s.link ∧ (State.supplyRead s i v).wake = s.wake ∧ (State.supplyRead s i v).free = s.free ∧ (State.supplyRead s i v).pending = s.pending := by
  simp only [State.supplyRead]
  all_goals simp

@[simp] theorem State.measTaken_keeps (s : State) (k : Nat) (v : Int) :
    (State.measTaken s k v).clock = s.clock ∧ (State.measTaken s k v).power = s.power ∧ (State.measTaken s k v).synth = s.synth ∧ (State.measTaken s k v).dpll = s.dpll ∧ (State.measTaken s k v).ctl = s.ctl ∧ (State.measTaken s k v).mram = s.mram ∧ (State.measTaken s k v).cfg = s.cfg ∧ (State.measTaken s k v).jtag = s.jtag ∧ (State.measTaken s k v).inp = s.inp ∧ (State.measTaken s k v).sprint = s.sprint ∧ (State.measTaken s k v).graph = s.graph ∧ (State.measTaken s k v).rout = s.rout ∧ (State.measTaken s k v).ports = s.ports ∧ (State.measTaken s k v).link = s.link ∧ (State.measTaken s k v).wake = s.wake ∧ (State.measTaken s k v).free = s.free ∧ (State.measTaken s k v).pending = s.pending := by
  simp only [State.measTaken]
  all_goals repeat' split
  all_goals simp

@[simp] theorem State.discardFragment_keeps (s : State) (twi : Bool) :
    (State.discardFragment s twi).clock = s.clock ∧ (State.discardFragment s twi).power = s.power ∧ (State.discardFragment s twi).synth = s.synth ∧ (State.discardFragment s twi).dpll = s.dpll ∧ (State.discardFragment s twi).mram = s.mram ∧ (State.discardFragment s twi).cfg = s.cfg ∧ (State.discardFragment s twi).dep = s.dep ∧ (State.discardFragment s twi).log = s.log ∧ (State.discardFragment s twi).jtag = s.jtag ∧ (State.discardFragment s twi).inp = s.inp ∧ (State.discardFragment s twi).conv = s.conv ∧ (State.discardFragment s twi).sprint = s.sprint ∧ (State.discardFragment s twi).graph = s.graph ∧ (State.discardFragment s twi).rout = s.rout ∧ (State.discardFragment s twi).out = s.out ∧ (State.discardFragment s twi).ports = s.ports ∧ (State.discardFragment s twi).wake = s.wake ∧ (State.discardFragment s twi).free = s.free ∧ (State.discardFragment s twi).pending = s.pending := by
  simp only [State.discardFragment]
  all_goals repeat' split
  all_goals simp

@[simp] theorem State.endTransaction_keeps (s : State) (twi : Bool) :
    (State.endTransaction s twi).clock = s.clock ∧ (State.endTransaction s twi).power = s.power ∧ (State.endTransaction s twi).synth = s.synth ∧ (State.endTransaction s twi).dpll = s.dpll ∧ (State.endTransaction s twi).mram = s.mram ∧ (State.endTransaction s twi).cfg = s.cfg ∧ (State.endTransaction s twi).dep = s.dep ∧ (State.endTransaction s twi).log = s.log ∧ (State.endTransaction s twi).jtag = s.jtag ∧ (State.endTransaction s twi).inp = s.inp ∧ (State.endTransaction s twi).conv = s.conv ∧ (State.endTransaction s twi).sprint = s.sprint ∧ (State.endTransaction s twi).graph = s.graph ∧ (State.endTransaction s twi).rout = s.rout ∧ (State.endTransaction s twi).out = s.out ∧ (State.endTransaction s twi).ports = s.ports ∧ (State.endTransaction s twi).wake = s.wake ∧ (State.endTransaction s twi).free = s.free ∧ (State.endTransaction s twi).pending = s.pending := by
  simp only [State.endTransaction]
  all_goals simp

@[simp] theorem State.writeByte_keeps (s : State) (twi : Bool) (b : Byte) :
    (State.writeByte s twi b).clock = s.clock ∧ (State.writeByte s twi b).power = s.power ∧ (State.writeByte s twi b).synth = s.synth ∧ (State.writeByte s twi b).dpll = s.dpll ∧ (State.writeByte s twi b).mram = s.mram ∧ (State.writeByte s twi b).cfg = s.cfg ∧ (State.writeByte s twi b).dep = s.dep ∧ (State.writeByte s twi b).log = s.log ∧ (State.writeByte s twi b).jtag = s.jtag ∧ (State.writeByte s twi b).inp = s.inp ∧ (State.writeByte s twi b).conv = s.conv ∧ (State.writeByte s twi b).sprint = s.sprint ∧ (State.writeByte s twi b).graph = s.graph ∧ (State.writeByte s twi b).rout = s.rout ∧ (State.writeByte s twi b).out = s.out ∧ (State.writeByte s twi b).ports = s.ports ∧ (State.writeByte s twi b).wake = s.wake ∧ (State.writeByte s twi b).free = s.free ∧ (State.writeByte s twi b).pending = s.pending := by
  simp only [State.writeByte]
  all_goals repeat' split
  all_goals simp

@[simp] theorem State.readByte_keeps (s : State) (twi : Bool) :
    (State.readByte s twi).clock = s.clock ∧ (State.readByte s twi).power = s.power ∧ (State.readByte s twi).synth = s.synth ∧ (State.readByte s twi).dpll = s.dpll ∧ (State.readByte s twi).ctl = s.ctl ∧ (State.readByte s twi).mram = s.mram ∧ (State.readByte s twi).cfg = s.cfg ∧ (State.readByte s twi).dep = s.dep ∧ (State.readByte s twi).log = s.log ∧ (State.readByte s twi).jtag = s.jtag ∧ (State.readByte s twi).inp = s.inp ∧ (State.readByte s twi).conv = s.conv ∧ (State.readByte s twi).sprint = s.sprint ∧ (State.readByte s twi).graph = s.graph ∧ (State.readByte s twi).rout = s.rout ∧ (State.readByte s twi).out = s.out ∧ (State.readByte s twi).ports = s.ports ∧ (State.readByte s twi).link = s.link ∧ (State.readByte s twi).wake = s.wake ∧ (State.readByte s twi).free = s.free ∧ (State.readByte s twi).pending = s.pending := by
  simp only [State.readByte]
  all_goals repeat' split
  all_goals simp

@[simp] theorem State.readBytes_keeps (twi : Bool) (n : Nat) (s : State) :
    (s.readBytes twi n).clock = s.clock ∧ (s.readBytes twi n).power = s.power ∧ (s.readBytes twi n).synth = s.synth ∧ (s.readBytes twi n).dpll = s.dpll ∧ (s.readBytes twi n).ctl = s.ctl ∧ (s.readBytes twi n).mram = s.mram ∧ (s.readBytes twi n).cfg = s.cfg ∧ (s.readBytes twi n).dep = s.dep ∧ (s.readBytes twi n).log = s.log ∧ (s.readBytes twi n).jtag = s.jtag ∧ (s.readBytes twi n).inp = s.inp ∧ (s.readBytes twi n).conv = s.conv ∧ (s.readBytes twi n).sprint = s.sprint ∧ (s.readBytes twi n).graph = s.graph ∧ (s.readBytes twi n).rout = s.rout ∧ (s.readBytes twi n).out = s.out ∧ (s.readBytes twi n).ports = s.ports ∧ (s.readBytes twi n).link = s.link ∧ (s.readBytes twi n).wake = s.wake ∧ (s.readBytes twi n).free = s.free ∧ (s.readBytes twi n).pending = s.pending := by
  induction n generalizing s with
  | zero => simp [State.readBytes]
  | succ n ih => simp [State.readBytes, ih]

@[simp] theorem State.begins_keeps (s : State) (twi : Bool) :
    (State.begins s twi).clock = s.clock ∧ (State.begins s twi).power = s.power ∧ (State.begins s twi).synth = s.synth ∧ (State.begins s twi).dpll = s.dpll ∧ (State.begins s twi).mram = s.mram ∧ (State.begins s twi).cfg = s.cfg ∧ (State.begins s twi).dep = s.dep ∧ (State.begins s twi).log = s.log ∧ (State.begins s twi).jtag = s.jtag ∧ (State.begins s twi).inp = s.inp ∧ (State.begins s twi).conv = s.conv ∧ (State.begins s twi).sprint = s.sprint ∧ (State.begins s twi).graph = s.graph ∧ (State.begins s twi).rout = s.rout ∧ (State.begins s twi).out = s.out ∧ (State.begins s twi).ports = s.ports ∧ (State.begins s twi).wake = s.wake ∧ (State.begins s twi).free = s.free ∧ (State.begins s twi).pending = s.pending := by
  simp only [State.begins]
  all_goals repeat' split
  all_goals simp

@[simp] theorem State.readAddressed_keeps (s : State) :
    (State.readAddressed s).clock = s.clock ∧ (State.readAddressed s).power = s.power ∧ (State.readAddressed s).synth = s.synth ∧ (State.readAddressed s).dpll = s.dpll ∧ (State.readAddressed s).ctl = s.ctl ∧ (State.readAddressed s).mram = s.mram ∧ (State.readAddressed s).cfg = s.cfg ∧ (State.readAddressed s).dep = s.dep ∧ (State.readAddressed s).log = s.log ∧ (State.readAddressed s).jtag = s.jtag ∧ (State.readAddressed s).inp = s.inp ∧ (State.readAddressed s).conv = s.conv ∧ (State.readAddressed s).sprint = s.sprint ∧ (State.readAddressed s).graph = s.graph ∧ (State.readAddressed s).rout = s.rout ∧ (State.readAddressed s).out = s.out ∧ (State.readAddressed s).ports = s.ports ∧ (State.readAddressed s).link = s.link ∧ (State.readAddressed s).wake = s.wake ∧ (State.readAddressed s).free = s.free ∧ (State.readAddressed s).pending = s.pending := by
  simp only [State.readAddressed]
  all_goals repeat' split
  all_goals simp

@[simp] theorem State.addressByte_keeps (s : State) (b : Byte) :
    (State.addressByte s b).clock = s.clock ∧ (State.addressByte s b).power = s.power ∧ (State.addressByte s b).synth = s.synth ∧ (State.addressByte s b).dpll = s.dpll ∧ (State.addressByte s b).ctl = s.ctl ∧ (State.addressByte s b).mram = s.mram ∧ (State.addressByte s b).cfg = s.cfg ∧ (State.addressByte s b).dep = s.dep ∧ (State.addressByte s b).log = s.log ∧ (State.addressByte s b).jtag = s.jtag ∧ (State.addressByte s b).inp = s.inp ∧ (State.addressByte s b).conv = s.conv ∧ (State.addressByte s b).sprint = s.sprint ∧ (State.addressByte s b).graph = s.graph ∧ (State.addressByte s b).rout = s.rout ∧ (State.addressByte s b).out = s.out ∧ (State.addressByte s b).ports = s.ports ∧ (State.addressByte s b).link = s.link ∧ (State.addressByte s b).wake = s.wake ∧ (State.addressByte s b).free = s.free ∧ (State.addressByte s b).pending = s.pending := by
  simp only [State.addressByte]
  all_goals repeat' split
  all_goals simp

@[simp] theorem State.twiByte_keeps (s : State) (b : Byte) :
    (State.twiByte s b).clock = s.clock ∧ (State.twiByte s b).power = s.power ∧ (State.twiByte s b).synth = s.synth ∧ (State.twiByte s b).dpll = s.dpll ∧ (State.twiByte s b).mram = s.mram ∧ (State.twiByte s b).cfg = s.cfg ∧ (State.twiByte s b).dep = s.dep ∧ (State.twiByte s b).log = s.log ∧ (State.twiByte s b).jtag = s.jtag ∧ (State.twiByte s b).inp = s.inp ∧ (State.twiByte s b).conv = s.conv ∧ (State.twiByte s b).sprint = s.sprint ∧ (State.twiByte s b).graph = s.graph ∧ (State.twiByte s b).rout = s.rout ∧ (State.twiByte s b).out = s.out ∧ (State.twiByte s b).ports = s.ports ∧ (State.twiByte s b).wake = s.wake ∧ (State.twiByte s b).free = s.free ∧ (State.twiByte s b).pending = s.pending := by
  simp only [State.twiByte]
  all_goals repeat' split
  all_goals simp

@[simp] theorem State.miso_keeps (s : State) (b : Byte) :
    (State.miso s b).clock = s.clock ∧ (State.miso s b).power = s.power ∧ (State.miso s b).synth = s.synth ∧ (State.miso s b).dpll = s.dpll ∧ (State.miso s b).ctl = s.ctl ∧ (State.miso s b).mram = s.mram ∧ (State.miso s b).cfg = s.cfg ∧ (State.miso s b).dep = s.dep ∧ (State.miso s b).log = s.log ∧ (State.miso s b).jtag = s.jtag ∧ (State.miso s b).inp = s.inp ∧ (State.miso s b).conv = s.conv ∧ (State.miso s b).sprint = s.sprint ∧ (State.miso s b).graph = s.graph ∧ (State.miso s b).rout = s.rout ∧ (State.miso s b).out = s.out ∧ (State.miso s b).ports = s.ports ∧ (State.miso s b).link = s.link ∧ (State.miso s b).wake = s.wake ∧ (State.miso s b).free = s.free ∧ (State.miso s b).pending = s.pending := by
  simp only [State.miso]
  all_goals simp

@[simp] theorem State.spiInstruction_keeps (s : State) (b : Byte) :
    (State.spiInstruction s b).clock = s.clock ∧ (State.spiInstruction s b).power = s.power ∧ (State.spiInstruction s b).synth = s.synth ∧ (State.spiInstruction s b).dpll = s.dpll ∧ (State.spiInstruction s b).ctl = s.ctl ∧ (State.spiInstruction s b).mram = s.mram ∧ (State.spiInstruction s b).cfg = s.cfg ∧ (State.spiInstruction s b).dep = s.dep ∧ (State.spiInstruction s b).log = s.log ∧ (State.spiInstruction s b).jtag = s.jtag ∧ (State.spiInstruction s b).inp = s.inp ∧ (State.spiInstruction s b).conv = s.conv ∧ (State.spiInstruction s b).sprint = s.sprint ∧ (State.spiInstruction s b).graph = s.graph ∧ (State.spiInstruction s b).rout = s.rout ∧ (State.spiInstruction s b).out = s.out ∧ (State.spiInstruction s b).ports = s.ports ∧ (State.spiInstruction s b).link = s.link ∧ (State.spiInstruction s b).wake = s.wake ∧ (State.spiInstruction s b).free = s.free ∧ (State.spiInstruction s b).pending = s.pending := by
  simp only [State.spiInstruction]
  all_goals repeat' split
  all_goals simp

@[simp] theorem State.spiByte_keeps (s : State) (b : Byte) :
    (State.spiByte s b).clock = s.clock ∧ (State.spiByte s b).power = s.power ∧ (State.spiByte s b).synth = s.synth ∧ (State.spiByte s b).dpll = s.dpll ∧ (State.spiByte s b).mram = s.mram ∧ (State.spiByte s b).cfg = s.cfg ∧ (State.spiByte s b).dep = s.dep ∧ (State.spiByte s b).log = s.log ∧ (State.spiByte s b).jtag = s.jtag ∧ (State.spiByte s b).inp = s.inp ∧ (State.spiByte s b).conv = s.conv ∧ (State.spiByte s b).sprint = s.sprint ∧ (State.spiByte s b).graph = s.graph ∧ (State.spiByte s b).rout = s.rout ∧ (State.spiByte s b).out = s.out ∧ (State.spiByte s b).ports = s.ports ∧ (State.spiByte s b).wake = s.wake ∧ (State.spiByte s b).free = s.free ∧ (State.spiByte s b).pending = s.pending := by
  simp only [State.spiByte]
  all_goals repeat' split
  all_goals simp

@[simp] theorem State.sends_keeps (s : State) (twi : Bool) (l : List Byte) :
    (State.sends s twi l).clock = s.clock ∧ (State.sends s twi l).power = s.power ∧ (State.sends s twi l).synth = s.synth ∧ (State.sends s twi l).dpll = s.dpll ∧ (State.sends s twi l).mram = s.mram ∧ (State.sends s twi l).cfg = s.cfg ∧ (State.sends s twi l).dep = s.dep ∧ (State.sends s twi l).log = s.log ∧ (State.sends s twi l).jtag = s.jtag ∧ (State.sends s twi l).inp = s.inp ∧ (State.sends s twi l).conv = s.conv ∧ (State.sends s twi l).sprint = s.sprint ∧ (State.sends s twi l).graph = s.graph ∧ (State.sends s twi l).rout = s.rout ∧ (State.sends s twi l).out = s.out ∧ (State.sends s twi l).ports = s.ports ∧ (State.sends s twi l).wake = s.wake ∧ (State.sends s twi l).free = s.free ∧ (State.sends s twi l).pending = s.pending := by
  simp only [State.sends]
  all_goals repeat' split
  all_goals simp

@[simp] theorem State.clocks_keeps (s : State) (twi : Bool) (n : Nat) :
    (State.clocks s twi n).clock = s.clock ∧ (State.clocks s twi n).power = s.power ∧ (State.clocks s twi n).synth = s.synth ∧ (State.clocks s twi n).dpll = s.dpll ∧ (State.clocks s twi n).mram = s.mram ∧ (State.clocks s twi n).cfg = s.cfg ∧ (State.clocks s twi n).dep = s.dep ∧ (State.clocks s twi n).log = s.log ∧ (State.clocks s twi n).jtag = s.jtag ∧ (State.clocks s twi n).inp = s.inp ∧ (State.clocks s twi n).conv = s.conv ∧ (State.clocks s twi n).sprint = s.sprint ∧ (State.clocks s twi n).graph = s.graph ∧ (State.clocks s twi n).rout = s.rout ∧ (State.clocks s twi n).out = s.out ∧ (State.clocks s twi n).ports = s.ports ∧ (State.clocks s twi n).wake = s.wake ∧ (State.clocks s twi n).free = s.free ∧ (State.clocks s twi n).pending = s.pending := by
  simp only [State.clocks]
  all_goals repeat' split
  all_goals simp

@[simp] theorem State.goesOn_keeps (s : State) (twi : Bool) :
    (State.goesOn s twi).clock = s.clock ∧ (State.goesOn s twi).power = s.power ∧ (State.goesOn s twi).synth = s.synth ∧ (State.goesOn s twi).dpll = s.dpll ∧ (State.goesOn s twi).ctl = s.ctl ∧ (State.goesOn s twi).mram = s.mram ∧ (State.goesOn s twi).cfg = s.cfg ∧ (State.goesOn s twi).dep = s.dep ∧ (State.goesOn s twi).log = s.log ∧ (State.goesOn s twi).jtag = s.jtag ∧ (State.goesOn s twi).inp = s.inp ∧ (State.goesOn s twi).conv = s.conv ∧ (State.goesOn s twi).sprint = s.sprint ∧ (State.goesOn s twi).graph = s.graph ∧ (State.goesOn s twi).rout = s.rout ∧ (State.goesOn s twi).out = s.out ∧ (State.goesOn s twi).ports = s.ports ∧ (State.goesOn s twi).link = s.link ∧ (State.goesOn s twi).wake = s.wake ∧ (State.goesOn s twi).free = s.free ∧ (State.goesOn s twi).pending = s.pending := by
  simp only [State.goesOn]
  all_goals simp

@[simp] theorem State.reads_keeps (s : State) (twi : Bool) (h : ReadHead) :
    (State.reads s twi h).clock = s.clock ∧ (State.reads s twi h).power = s.power ∧ (State.reads s twi h).synth = s.synth ∧ (State.reads s twi h).dpll = s.dpll ∧ (State.reads s twi h).mram = s.mram ∧ (State.reads s twi h).cfg = s.cfg ∧ (State.reads s twi h).dep = s.dep ∧ (State.reads s twi h).log = s.log ∧ (State.reads s twi h).jtag = s.jtag ∧ (State.reads s twi h).inp = s.inp ∧ (State.reads s twi h).conv = s.conv ∧ (State.reads s twi h).sprint = s.sprint ∧ (State.reads s twi h).graph = s.graph ∧ (State.reads s twi h).rout = s.rout ∧ (State.reads s twi h).out = s.out ∧ (State.reads s twi h).ports = s.ports ∧ (State.reads s twi h).wake = s.wake ∧ (State.reads s twi h).free = s.free ∧ (State.reads s twi h).pending = s.pending := by
  simp only [State.reads]
  all_goals repeat' split
  all_goals simp

@[simp] theorem State.stops_keeps (s : State) (twi : Bool) :
    (State.stops s twi).clock = s.clock ∧ (State.stops s twi).power = s.power ∧ (State.stops s twi).synth = s.synth ∧ (State.stops s twi).dpll = s.dpll ∧ (State.stops s twi).mram = s.mram ∧ (State.stops s twi).cfg = s.cfg ∧ (State.stops s twi).dep = s.dep ∧ (State.stops s twi).log = s.log ∧ (State.stops s twi).jtag = s.jtag ∧ (State.stops s twi).inp = s.inp ∧ (State.stops s twi).conv = s.conv ∧ (State.stops s twi).sprint = s.sprint ∧ (State.stops s twi).graph = s.graph ∧ (State.stops s twi).rout = s.rout ∧ (State.stops s twi).out = s.out ∧ (State.stops s twi).ports = s.ports ∧ (State.stops s twi).wake = s.wake ∧ (State.stops s twi).free = s.free ∧ (State.stops s twi).pending = s.pending := by
  simp only [State.stops]
  all_goals simp

@[simp] theorem State.flagTwi_keeps (s : State) (k : Nat) :
    (State.flagTwi s k).clock = s.clock ∧ (State.flagTwi s k).power = s.power ∧ (State.flagTwi s k).synth = s.synth ∧ (State.flagTwi s k).dpll = s.dpll ∧ (State.flagTwi s k).ctl = s.ctl ∧ (State.flagTwi s k).mram = s.mram ∧ (State.flagTwi s k).cfg = s.cfg ∧ (State.flagTwi s k).dep = s.dep ∧ (State.flagTwi s k).log = s.log ∧ (State.flagTwi s k).jtag = s.jtag ∧ (State.flagTwi s k).inp = s.inp ∧ (State.flagTwi s k).conv = s.conv ∧ (State.flagTwi s k).sprint = s.sprint ∧ (State.flagTwi s k).graph = s.graph ∧ (State.flagTwi s k).rout = s.rout ∧ (State.flagTwi s k).out = s.out ∧ (State.flagTwi s k).ports = s.ports ∧ (State.flagTwi s k).link = s.link ∧ (State.flagTwi s k).wake = s.wake ∧ (State.flagTwi s k).free = s.free ∧ (State.flagTwi s k).pending = s.pending := by
  simp only [State.flagTwi]
  all_goals simp

@[simp] theorem State.busTimeout_keeps (s : State) (k : Nat) (held : Bool) :
    (State.busTimeout s k held).clock = s.clock ∧ (State.busTimeout s k held).power = s.power ∧ (State.busTimeout s k held).synth = s.synth ∧ (State.busTimeout s k held).dpll = s.dpll ∧ (State.busTimeout s k held).mram = s.mram ∧ (State.busTimeout s k held).cfg = s.cfg ∧ (State.busTimeout s k held).dep = s.dep ∧ (State.busTimeout s k held).log = s.log ∧ (State.busTimeout s k held).jtag = s.jtag ∧ (State.busTimeout s k held).inp = s.inp ∧ (State.busTimeout s k held).conv = s.conv ∧ (State.busTimeout s k held).sprint = s.sprint ∧ (State.busTimeout s k held).graph = s.graph ∧ (State.busTimeout s k held).rout = s.rout ∧ (State.busTimeout s k held).out = s.out ∧ (State.busTimeout s k held).ports = s.ports ∧ (State.busTimeout s k held).wake = s.wake ∧ (State.busTimeout s k held).free = s.free ∧ (State.busTimeout s k held).pending = s.pending := by
  simp only [State.busTimeout]
  all_goals repeat' split
  all_goals simp

@[simp] theorem State.wakeEvent_keeps (s : State) (start end_ : BitVec 32) (template distance : Nat) :
    (State.wakeEvent s start end_ template distance).jtag = s.jtag ∧ (State.wakeEvent s start end_ template distance).free = s.free ∧ (State.wakeEvent s start end_ template distance).pending = s.pending := by
  simp only [State.wakeEvent]
  all_goals repeat' split
  all_goals simp

@[simp] theorem State.stage1_keeps (s : State) :
    (State.stage1 s).jtag = s.jtag ∧ (State.stage1 s).free = s.free ∧ (State.stage1 s).pending = s.pending := by
  simp only [State.stage1]
  all_goals repeat' split
  all_goals simp

@[simp] theorem State.withPending_keeps (s : State) (l : List Instr) :
    (State.withPending s l).clock = s.clock ∧ (State.withPending s l).power = s.power ∧ (State.withPending s l).synth = s.synth ∧ (State.withPending s l).dpll = s.dpll ∧ (State.withPending s l).bus = s.bus ∧ (State.withPending s l).ctl = s.ctl ∧ (State.withPending s l).mram = s.mram ∧ (State.withPending s l).cfg = s.cfg ∧ (State.withPending s l).dep = s.dep ∧ (State.withPending s l).log = s.log ∧ (State.withPending s l).jtag = s.jtag ∧ (State.withPending s l).inp = s.inp ∧ (State.withPending s l).conv = s.conv ∧ (State.withPending s l).sprint = s.sprint ∧ (State.withPending s l).graph = s.graph ∧ (State.withPending s l).rout = s.rout ∧ (State.withPending s l).out = s.out ∧ (State.withPending s l).ports = s.ports ∧ (State.withPending s l).link = s.link ∧ (State.withPending s l).wake = s.wake ∧ (State.withPending s l).free = s.free := by
  simp only [State.withPending]
  all_goals simp

@[simp] theorem State.withFetchWord_keeps (s : State) (nbits w : Nat) :
    (State.withFetchWord s nbits w).clock = s.clock ∧ (State.withFetchWord s nbits w).power = s.power ∧ (State.withFetchWord s nbits w).synth = s.synth ∧ (State.withFetchWord s nbits w).dpll = s.dpll ∧ (State.withFetchWord s nbits w).bus = s.bus ∧ (State.withFetchWord s nbits w).ctl = s.ctl ∧ (State.withFetchWord s nbits w).mram = s.mram ∧ (State.withFetchWord s nbits w).cfg = s.cfg ∧ (State.withFetchWord s nbits w).dep = s.dep ∧ (State.withFetchWord s nbits w).log = s.log ∧ (State.withFetchWord s nbits w).jtag = s.jtag ∧ (State.withFetchWord s nbits w).inp = s.inp ∧ (State.withFetchWord s nbits w).conv = s.conv ∧ (State.withFetchWord s nbits w).sprint = s.sprint ∧ (State.withFetchWord s nbits w).graph = s.graph ∧ (State.withFetchWord s nbits w).rout = s.rout ∧ (State.withFetchWord s nbits w).out = s.out ∧ (State.withFetchWord s nbits w).ports = s.ports ∧ (State.withFetchWord s nbits w).link = s.link ∧ (State.withFetchWord s nbits w).wake = s.wake ∧ (State.withFetchWord s nbits w).free = s.free := by
  simp only [State.withFetchWord]
  all_goals repeat' split
  all_goals simp

end Sys2Proof.Machine
end

