-- ==== Sys2Proof/Laws/Commands.lean ====
section
/-! SUPPORT. What each command leaves unchanged: for every meaning, the components that its next state keeps. -/
namespace Sys2Proof.Machine

-- One proof after another: a check of the whole text in one process stays within its memory.
set_option Elab.async false

theorem execLogCommit_keeps (s : State) (t : State) (h : execLogCommit s = .next t) :
    t.clock = s.clock ∧ t.power = s.power ∧ t.synth = s.synth ∧ t.dpll = s.dpll ∧ t.bus = s.bus ∧ t.ctl = s.ctl ∧ t.cfg = s.cfg ∧ t.dep = s.dep ∧ t.jtag = s.jtag ∧ t.inp = s.inp ∧ t.conv = s.conv ∧ t.sprint = s.sprint ∧ t.graph = s.graph ∧ t.rout = s.rout ∧ t.out = s.out ∧ t.ports = s.ports ∧ t.link = s.link ∧ t.wake = s.wake ∧ t.free = s.free ∧ t.pending = s.pending := by
  simp only [execLogCommit, Host.Outcome.next.injEq] at h
  subst h
  repeat' split
  all_goals simp

theorem execSessionIdleTimeout_keeps (number : BitVec 16) (s : State) (t : State) (h : execSessionIdleTimeout number s = .next t) :
    t.clock = s.clock ∧ t.power = s.power ∧ t.synth = s.synth ∧ t.dpll = s.dpll ∧ t.mram = s.mram ∧ t.cfg = s.cfg ∧ t.dep = s.dep ∧ t.log = s.log ∧ t.jtag = s.jtag ∧ t.inp = s.inp ∧ t.conv = s.conv ∧ t.sprint = s.sprint ∧ t.graph = s.graph ∧ t.rout = s.rout ∧ t.out = s.out ∧ t.ports = s.ports ∧ t.link = s.link ∧ t.wake = s.wake ∧ t.free = s.free ∧ t.pending = s.pending := by
  simp only [execSessionIdleTimeout, Host.Outcome.next.injEq] at h
  subst h
  repeat' split
  all_goals simp

theorem execChallengeExpire_keeps (port : Fin 5) (s : State) (t : State) (h : execChallengeExpire port s = .next t) :
    t.clock = s.clock ∧ t.power = s.power ∧ t.synth = s.synth ∧ t.dpll = s.dpll ∧ t.bus = s.bus ∧ t.mram = s.mram ∧ t.cfg = s.cfg ∧ t.dep = s.dep ∧ t.log = s.log ∧ t.jtag = s.jtag ∧ t.inp = s.inp ∧ t.conv = s.conv ∧ t.sprint = s.sprint ∧ t.graph = s.graph ∧ t.rout = s.rout ∧ t.out = s.out ∧ t.ports = s.ports ∧ t.link = s.link ∧ t.wake = s.wake ∧ t.free = s.free ∧ t.pending = s.pending := by
  simp only [execChallengeExpire, Host.Outcome.next.injEq] at h
  subst h
  all_goals simp

theorem execLockedOutEnd_keeps (port : Fin 5) (s : State) (t : State) (h : execLockedOutEnd port s = .next t) :
    t.clock = s.clock ∧ t.power = s.power ∧ t.synth = s.synth ∧ t.dpll = s.dpll ∧ t.bus = s.bus ∧ t.mram = s.mram ∧ t.cfg = s.cfg ∧ t.dep = s.dep ∧ t.log = s.log ∧ t.jtag = s.jtag ∧ t.inp = s.inp ∧ t.conv = s.conv ∧ t.sprint = s.sprint ∧ t.graph = s.graph ∧ t.rout = s.rout ∧ t.out = s.out ∧ t.ports = s.ports ∧ t.link = s.link ∧ t.wake = s.wake ∧ t.free = s.free ∧ t.pending = s.pending := by
  simp only [execLockedOutEnd, Host.Outcome.next.injEq] at h
  subst h
  repeat' split
  all_goals simp

theorem execLedgerMirror_keeps (s : State) (t : State) (h : execLedgerMirror s = .next t) :
    t.clock = s.clock ∧ t.power = s.power ∧ t.synth = s.synth ∧ t.dpll = s.dpll ∧ t.bus = s.bus ∧ t.ctl = s.ctl ∧ t.cfg = s.cfg ∧ t.dep = s.dep ∧ t.log = s.log ∧ t.jtag = s.jtag ∧ t.inp = s.inp ∧ t.conv = s.conv ∧ t.sprint = s.sprint ∧ t.graph = s.graph ∧ t.rout = s.rout ∧ t.out = s.out ∧ t.ports = s.ports ∧ t.link = s.link ∧ t.wake = s.wake ∧ t.free = s.free ∧ t.pending = s.pending := by
  simp only [execLedgerMirror, Host.Outcome.next.injEq] at h
  subst h
  repeat' split
  all_goals simp

theorem execInputGainZeroCrossing_keeps (ch : Fin 16) (s : State) (t : State) (h : execInputGainZeroCrossing ch s = .next t) :
    t.clock = s.clock ∧ t.power = s.power ∧ t.synth = s.synth ∧ t.dpll = s.dpll ∧ t.bus = s.bus ∧ t.ctl = s.ctl ∧ t.mram = s.mram ∧ t.cfg = s.cfg ∧ t.dep = s.dep ∧ t.log = s.log ∧ t.jtag = s.jtag ∧ t.conv = s.conv ∧ t.sprint = s.sprint ∧ t.graph = s.graph ∧ t.rout = s.rout ∧ t.out = s.out ∧ t.ports = s.ports ∧ t.link = s.link ∧ t.wake = s.wake ∧ t.free = s.free ∧ t.pending = s.pending := by
  simp only [execInputGainZeroCrossing, Host.Outcome.next.injEq] at h
  subst h
  repeat' split
  all_goals simp

theorem execInputGainZcTimeout_keeps (ch : Fin 16) (s : State) (t : State) (h : execInputGainZcTimeout ch s = .next t) :
    t.clock = s.clock ∧ t.power = s.power ∧ t.synth = s.synth ∧ t.dpll = s.dpll ∧ t.bus = s.bus ∧ t.ctl = s.ctl ∧ t.mram = s.mram ∧ t.cfg = s.cfg ∧ t.dep = s.dep ∧ t.log = s.log ∧ t.jtag = s.jtag ∧ t.conv = s.conv ∧ t.sprint = s.sprint ∧ t.graph = s.graph ∧ t.rout = s.rout ∧ t.out = s.out ∧ t.ports = s.ports ∧ t.link = s.link ∧ t.wake = s.wake ∧ t.free = s.free ∧ t.pending = s.pending := by
  simp only [execInputGainZcTimeout, Host.Outcome.next.injEq] at h
  subst h
  all_goals simp

theorem execInputMuteCurveEnd_keeps (ch : Fin 16) (s : State) (t : State) (h : execInputMuteCurveEnd ch s = .next t) :
    t.clock = s.clock ∧ t.power = s.power ∧ t.synth = s.synth ∧ t.dpll = s.dpll ∧ t.bus = s.bus ∧ t.ctl = s.ctl ∧ t.mram = s.mram ∧ t.cfg = s.cfg ∧ t.dep = s.dep ∧ t.log = s.log ∧ t.jtag = s.jtag ∧ t.conv = s.conv ∧ t.sprint = s.sprint ∧ t.graph = s.graph ∧ t.rout = s.rout ∧ t.out = s.out ∧ t.ports = s.ports ∧ t.link = s.link ∧ t.wake = s.wake ∧ t.free = s.free ∧ t.pending = s.pending := by
  simp only [execInputMuteCurveEnd, Host.Outcome.next.injEq] at h
  subst h
  all_goals simp

theorem execAnalogSettleEnd_keeps (ch : Fin 16) (s : State) (t : State) (h : execAnalogSettleEnd ch s = .next t) :
    t.clock = s.clock ∧ t.power = s.power ∧ t.synth = s.synth ∧ t.dpll = s.dpll ∧ t.bus = s.bus ∧ t.ctl = s.ctl ∧ t.mram = s.mram ∧ t.cfg = s.cfg ∧ t.dep = s.dep ∧ t.log = s.log ∧ t.jtag = s.jtag ∧ t.conv = s.conv ∧ t.sprint = s.sprint ∧ t.graph = s.graph ∧ t.rout = s.rout ∧ t.out = s.out ∧ t.ports = s.ports ∧ t.link = s.link ∧ t.wake = s.wake ∧ t.free = s.free ∧ t.pending = s.pending := by
  simp only [execAnalogSettleEnd, Host.Outcome.next.injEq] at h
  subst h
  all_goals simp

theorem execPhantomFrame_keeps (s : State) (t : State) (h : execPhantomFrame s = .next t) :
    t.clock = s.clock ∧ t.power = s.power ∧ t.synth = s.synth ∧ t.dpll = s.dpll ∧ t.bus = s.bus ∧ t.ctl = s.ctl ∧ t.mram = s.mram ∧ t.cfg = s.cfg ∧ t.dep = s.dep ∧ t.log = s.log ∧ t.jtag = s.jtag ∧ t.conv = s.conv ∧ t.sprint = s.sprint ∧ t.graph = s.graph ∧ t.rout = s.rout ∧ t.out = s.out ∧ t.ports = s.ports ∧ t.link = s.link ∧ t.wake = s.wake ∧ t.free = s.free ∧ t.pending = s.pending := by
  simp only [execPhantomFrame, Host.Outcome.next.injEq] at h
  subst h
  repeat' split
  all_goals simp

theorem execPhantomRampEnd_keeps (ch : Fin 16) (s : State) (t : State) (h : execPhantomRampEnd ch s = .next t) :
    t.clock = s.clock ∧ t.power = s.power ∧ t.synth = s.synth ∧ t.dpll = s.dpll ∧ t.bus = s.bus ∧ t.ctl = s.ctl ∧ t.mram = s.mram ∧ t.cfg = s.cfg ∧ t.dep = s.dep ∧ t.log = s.log ∧ t.jtag = s.jtag ∧ t.conv = s.conv ∧ t.sprint = s.sprint ∧ t.graph = s.graph ∧ t.rout = s.rout ∧ t.out = s.out ∧ t.ports = s.ports ∧ t.link = s.link ∧ t.wake = s.wake ∧ t.free = s.free ∧ t.pending = s.pending := by
  simp only [execPhantomRampEnd, Host.Outcome.next.injEq] at h
  subst h
  all_goals simp

theorem execPhantomDischargeEnd_keeps (ch : Fin 16) (s : State) (t : State) (h : execPhantomDischargeEnd ch s = .next t) :
    t.clock = s.clock ∧ t.power = s.power ∧ t.synth = s.synth ∧ t.dpll = s.dpll ∧ t.bus = s.bus ∧ t.ctl = s.ctl ∧ t.mram = s.mram ∧ t.cfg = s.cfg ∧ t.dep = s.dep ∧ t.log = s.log ∧ t.jtag = s.jtag ∧ t.conv = s.conv ∧ t.sprint = s.sprint ∧ t.graph = s.graph ∧ t.rout = s.rout ∧ t.out = s.out ∧ t.ports = s.ports ∧ t.link = s.link ∧ t.wake = s.wake ∧ t.free = s.free ∧ t.pending = s.pending := by
  simp only [execPhantomDischargeEnd, Host.Outcome.next.injEq] at h
  subst h
  all_goals simp

theorem execInputJackPinChange_keeps (pin : Fin 8) (level : Bool) (s : State) (t : State) (h : execInputJackPinChange pin level s = .next t) :
    t.clock = s.clock ∧ t.power = s.power ∧ t.synth = s.synth ∧ t.dpll = s.dpll ∧ t.bus = s.bus ∧ t.ctl = s.ctl ∧ t.mram = s.mram ∧ t.cfg = s.cfg ∧ t.dep = s.dep ∧ t.log = s.log ∧ t.jtag = s.jtag ∧ t.conv = s.conv ∧ t.sprint = s.sprint ∧ t.graph = s.graph ∧ t.rout = s.rout ∧ t.out = s.out ∧ t.ports = s.ports ∧ t.link = s.link ∧ t.wake = s.wake ∧ t.free = s.free ∧ t.pending = s.pending := by
  simp only [execInputJackPinChange, Host.Outcome.next.injEq] at h
  subst h
  repeat' split
  all_goals simp

theorem execInputJackDebounceEnd_keeps (pin : Fin 8) (s : State) (t : State) (h : execInputJackDebounceEnd pin s = .next t) :
    t.clock = s.clock ∧ t.power = s.power ∧ t.synth = s.synth ∧ t.dpll = s.dpll ∧ t.ctl = s.ctl ∧ t.mram = s.mram ∧ t.cfg = s.cfg ∧ t.dep = s.dep ∧ t.jtag = s.jtag ∧ t.conv = s.conv ∧ t.sprint = s.sprint ∧ t.graph = s.graph ∧ t.rout = s.rout ∧ t.out = s.out ∧ t.ports = s.ports ∧ t.link = s.link ∧ t.wake = s.wake ∧ t.free = s.free ∧ t.pending = s.pending := by
  simp only [execInputJackDebounceEnd, Host.Outcome.next.injEq] at h
  subst h
  repeat' split
  all_goals simp

theorem execInsertSettleEnd_keeps (pin : Fin 8) (s : State) (t : State) (h : execInsertSettleEnd pin s = .next t) :
    t.clock = s.clock ∧ t.power = s.power ∧ t.synth = s.synth ∧ t.dpll = s.dpll ∧ t.bus = s.bus ∧ t.ctl = s.ctl ∧ t.mram = s.mram ∧ t.cfg = s.cfg ∧ t.dep = s.dep ∧ t.log = s.log ∧ t.jtag = s.jtag ∧ t.conv = s.conv ∧ t.sprint = s.sprint ∧ t.graph = s.graph ∧ t.rout = s.rout ∧ t.out = s.out ∧ t.ports = s.ports ∧ t.link = s.link ∧ t.wake = s.wake ∧ t.free = s.free ∧ t.pending = s.pending := by
  simp only [execInsertSettleEnd, Host.Outcome.next.injEq] at h
  subst h
  repeat' split
  all_goals simp

theorem execQuickSettleConversionEnd_keeps (ch : Fin 24) (s : State) (t : State) (h : execQuickSettleConversionEnd ch s = .next t) :
    t.clock = s.clock ∧ t.power = s.power ∧ t.synth = s.synth ∧ t.dpll = s.dpll ∧ t.bus = s.bus ∧ t.ctl = s.ctl ∧ t.mram = s.mram ∧ t.cfg = s.cfg ∧ t.dep = s.dep ∧ t.log = s.log ∧ t.jtag = s.jtag ∧ t.inp = s.inp ∧ t.sprint = s.sprint ∧ t.graph = s.graph ∧ t.rout = s.rout ∧ t.out = s.out ∧ t.ports = s.ports ∧ t.link = s.link ∧ t.wake = s.wake ∧ t.free = s.free ∧ t.pending = s.pending := by
  simp only [execQuickSettleConversionEnd, Host.Outcome.next.injEq] at h
  subst h
  all_goals simp

theorem execModulatorOverload_keeps (ch : Fin 24) (limit : Bool) (s : State) (t : State) (h : execModulatorOverload ch limit s = .next t) :
    t.clock = s.clock ∧ t.power = s.power ∧ t.synth = s.synth ∧ t.dpll = s.dpll ∧ t.bus = s.bus ∧ t.ctl = s.ctl ∧ t.mram = s.mram ∧ t.cfg = s.cfg ∧ t.dep = s.dep ∧ t.log = s.log ∧ t.jtag = s.jtag ∧ t.sprint = s.sprint ∧ t.graph = s.graph ∧ t.rout = s.rout ∧ t.out = s.out ∧ t.ports = s.ports ∧ t.link = s.link ∧ t.wake = s.wake ∧ t.free = s.free ∧ t.pending = s.pending := by
  simp only [execModulatorOverload, Host.Outcome.next.injEq] at h
  subst h
  repeat' split
  all_goals simp

theorem execModulatorResetEnd_keeps (ch : Fin 24) (s : State) (t : State) (h : execModulatorResetEnd ch s = .next t) :
    t.clock = s.clock ∧ t.power = s.power ∧ t.synth = s.synth ∧ t.dpll = s.dpll ∧ t.bus = s.bus ∧ t.ctl = s.ctl ∧ t.mram = s.mram ∧ t.cfg = s.cfg ∧ t.dep = s.dep ∧ t.log = s.log ∧ t.jtag = s.jtag ∧ t.sprint = s.sprint ∧ t.graph = s.graph ∧ t.rout = s.rout ∧ t.out = s.out ∧ t.ports = s.ports ∧ t.link = s.link ∧ t.wake = s.wake ∧ t.free = s.free ∧ t.pending = s.pending := by
  simp only [execModulatorResetEnd, Host.Outcome.next.injEq] at h
  subst h
  repeat' split
  all_goals simp

theorem execUnsettledEnd_keeps (ch : Fin 24) (s : State) (t : State) (h : execUnsettledEnd ch s = .next t) :
    t.clock = s.clock ∧ t.power = s.power ∧ t.synth = s.synth ∧ t.dpll = s.dpll ∧ t.bus = s.bus ∧ t.ctl = s.ctl ∧ t.mram = s.mram ∧ t.cfg = s.cfg ∧ t.dep = s.dep ∧ t.log = s.log ∧ t.jtag = s.jtag ∧ t.conv = s.conv ∧ t.sprint = s.sprint ∧ t.graph = s.graph ∧ t.rout = s.rout ∧ t.out = s.out ∧ t.ports = s.ports ∧ t.link = s.link ∧ t.wake = s.wake ∧ t.free = s.free ∧ t.pending = s.pending := by
  simp only [execUnsettledEnd, Host.Outcome.next.injEq] at h
  subst h
  all_goals simp

theorem execSprintCrossfadeEnd_keeps (cell : Fin 16) (s : State) (t : State) (h : execSprintCrossfadeEnd cell s = .next t) :
    t.clock = s.clock ∧ t.power = s.power ∧ t.synth = s.synth ∧ t.dpll = s.dpll ∧ t.bus = s.bus ∧ t.ctl = s.ctl ∧ t.mram = s.mram ∧ t.cfg = s.cfg ∧ t.dep = s.dep ∧ t.log = s.log ∧ t.jtag = s.jtag ∧ t.inp = s.inp ∧ t.conv = s.conv ∧ t.graph = s.graph ∧ t.rout = s.rout ∧ t.out = s.out ∧ t.ports = s.ports ∧ t.link = s.link ∧ t.wake = s.wake ∧ t.free = s.free ∧ t.pending = s.pending := by
  simp only [execSprintCrossfadeEnd, Host.Outcome.next.injEq] at h
  subst h
  repeat' split
  all_goals simp

theorem execOutputCurveEnd_keeps (o : Fin 28) (s : State) (t : State) (h : execOutputCurveEnd o s = .next t) :
    t.clock = s.clock ∧ t.power = s.power ∧ t.synth = s.synth ∧ t.dpll = s.dpll ∧ t.bus = s.bus ∧ t.ctl = s.ctl ∧ t.mram = s.mram ∧ t.cfg = s.cfg ∧ t.dep = s.dep ∧ t.log = s.log ∧ t.jtag = s.jtag ∧ t.inp = s.inp ∧ t.conv = s.conv ∧ t.sprint = s.sprint ∧ t.graph = s.graph ∧ t.rout = s.rout ∧ t.ports = s.ports ∧ t.link = s.link ∧ t.wake = s.wake ∧ t.free = s.free ∧ t.pending = s.pending := by
  simp only [execOutputCurveEnd, Host.Outcome.next.injEq] at h
  subst h
  repeat' split
  all_goals simp

theorem execCmBiasRampEnd_keeps (s : State) (t : State) (h : execCmBiasRampEnd s = .next t) :
    t.clock = s.clock ∧ t.power = s.power ∧ t.synth = s.synth ∧ t.dpll = s.dpll ∧ t.bus = s.bus ∧ t.ctl = s.ctl ∧ t.mram = s.mram ∧ t.cfg = s.cfg ∧ t.dep = s.dep ∧ t.log = s.log ∧ t.jtag = s.jtag ∧ t.inp = s.inp ∧ t.conv = s.conv ∧ t.sprint = s.sprint ∧ t.graph = s.graph ∧ t.rout = s.rout ∧ t.ports = s.ports ∧ t.link = s.link ∧ t.wake = s.wake ∧ t.free = s.free ∧ t.pending = s.pending := by
  simp only [execCmBiasRampEnd, Host.Outcome.next.injEq] at h
  subst h
  repeat' split
  all_goals simp

theorem execLineBufferConnect_keeps (l : Fin 16) (s : State) (t : State) (h : execLineBufferConnect l s = .next t) :
    t.clock = s.clock ∧ t.power = s.power ∧ t.synth = s.synth ∧ t.dpll = s.dpll ∧ t.bus = s.bus ∧ t.ctl = s.ctl ∧ t.mram = s.mram ∧ t.cfg = s.cfg ∧ t.dep = s.dep ∧ t.log = s.log ∧ t.jtag = s.jtag ∧ t.inp = s.inp ∧ t.conv = s.conv ∧ t.sprint = s.sprint ∧ t.graph = s.graph ∧ t.rout = s.rout ∧ t.ports = s.ports ∧ t.link = s.link ∧ t.wake = s.wake ∧ t.free = s.free ∧ t.pending = s.pending := by
  simp only [execLineBufferConnect, Host.Outcome.next.injEq] at h
  subst h
  all_goals simp

theorem execLineOffsetCalEnd_keeps (l : Fin 16) (s : State) (t : State) (h : execLineOffsetCalEnd l s = .next t) :
    t.clock = s.clock ∧ t.power = s.power ∧ t.synth = s.synth ∧ t.dpll = s.dpll ∧ t.bus = s.bus ∧ t.ctl = s.ctl ∧ t.mram = s.mram ∧ t.cfg = s.cfg ∧ t.dep = s.dep ∧ t.log = s.log ∧ t.jtag = s.jtag ∧ t.inp = s.inp ∧ t.sprint = s.sprint ∧ t.graph = s.graph ∧ t.rout = s.rout ∧ t.ports = s.ports ∧ t.link = s.link ∧ t.wake = s.wake ∧ t.free = s.free ∧ t.pending = s.pending := by
  simp only [execLineOffsetCalEnd, Host.Outcome.next.injEq] at h
  subst h
  repeat' split
  all_goals simp

theorem execChargePumpReady_keeps (s : State) (t : State) (h : execChargePumpReady s = .next t) :
    t.clock = s.clock ∧ t.power = s.power ∧ t.synth = s.synth ∧ t.dpll = s.dpll ∧ t.bus = s.bus ∧ t.ctl = s.ctl ∧ t.mram = s.mram ∧ t.cfg = s.cfg ∧ t.dep = s.dep ∧ t.log = s.log ∧ t.jtag = s.jtag ∧ t.inp = s.inp ∧ t.conv = s.conv ∧ t.sprint = s.sprint ∧ t.graph = s.graph ∧ t.rout = s.rout ∧ t.ports = s.ports ∧ t.link = s.link ∧ t.wake = s.wake ∧ t.free = s.free ∧ t.pending = s.pending := by
  simp only [execChargePumpReady, Host.Outcome.next.injEq] at h
  subst h
  repeat' split
  all_goals simp

theorem execChargePumpStartTimeout_keeps (s : State) (t : State) (h : execChargePumpStartTimeout s = .next t) :
    t.clock = s.clock ∧ t.power = s.power ∧ t.synth = s.synth ∧ t.dpll = s.dpll ∧ t.ctl = s.ctl ∧ t.mram = s.mram ∧ t.cfg = s.cfg ∧ t.dep = s.dep ∧ t.log = s.log ∧ t.jtag = s.jtag ∧ t.inp = s.inp ∧ t.conv = s.conv ∧ t.sprint = s.sprint ∧ t.graph = s.graph ∧ t.rout = s.rout ∧ t.ports = s.ports ∧ t.link = s.link ∧ t.wake = s.wake ∧ t.free = s.free ∧ t.pending = s.pending := by
  simp only [execChargePumpStartTimeout, Host.Outcome.next.injEq] at h
  subst h
  repeat' split
  all_goals simp

theorem execChargePumpRetry_keeps (s : State) (t : State) (h : execChargePumpRetry s = .next t) :
    t.clock = s.clock ∧ t.power = s.power ∧ t.synth = s.synth ∧ t.dpll = s.dpll ∧ t.bus = s.bus ∧ t.ctl = s.ctl ∧ t.mram = s.mram ∧ t.cfg = s.cfg ∧ t.dep = s.dep ∧ t.log = s.log ∧ t.jtag = s.jtag ∧ t.inp = s.inp ∧ t.conv = s.conv ∧ t.sprint = s.sprint ∧ t.graph = s.graph ∧ t.rout = s.rout ∧ t.ports = s.ports ∧ t.link = s.link ∧ t.wake = s.wake ∧ t.free = s.free ∧ t.pending = s.pending := by
  simp only [execChargePumpRetry, Host.Outcome.next.injEq] at h
  subst h
  repeat' split
  all_goals simp

theorem execChargePumpIdleStop_keeps (s : State) (t : State) (h : execChargePumpIdleStop s = .next t) :
    t.clock = s.clock ∧ t.power = s.power ∧ t.synth = s.synth ∧ t.dpll = s.dpll ∧ t.bus = s.bus ∧ t.ctl = s.ctl ∧ t.mram = s.mram ∧ t.cfg = s.cfg ∧ t.dep = s.dep ∧ t.log = s.log ∧ t.jtag = s.jtag ∧ t.inp = s.inp ∧ t.conv = s.conv ∧ t.sprint = s.sprint ∧ t.graph = s.graph ∧ t.rout = s.rout ∧ t.ports = s.ports ∧ t.link = s.link ∧ t.wake = s.wake ∧ t.free = s.free ∧ t.pending = s.pending := by
  simp only [execChargePumpIdleStop, Host.Outcome.next.injEq] at h
  subst h
  repeat' split
  all_goals simp

theorem execHpDriverConnect_keeps (h : Fin 4) (s : State) (t : State) (h : execHpDriverConnect h s = .next t) :
    t.clock = s.clock ∧ t.power = s.power ∧ t.synth = s.synth ∧ t.dpll = s.dpll ∧ t.bus = s.bus ∧ t.ctl = s.ctl ∧ t.mram = s.mram ∧ t.cfg = s.cfg ∧ t.dep = s.dep ∧ t.log = s.log ∧ t.jtag = s.jtag ∧ t.inp = s.inp ∧ t.conv = s.conv ∧ t.sprint = s.sprint ∧ t.graph = s.graph ∧ t.rout = s.rout ∧ t.ports = s.ports ∧ t.link = s.link ∧ t.wake = s.wake ∧ t.free = s.free ∧ t.pending = s.pending := by
  simp only [execHpDriverConnect, Host.Outcome.next.injEq] at h
  subst h
  repeat' split
  all_goals simp

theorem execHpOvercurrent_keeps (h : Fin 4) (s : State) (t : State) (h : execHpOvercurrent h s = .next t) :
    t.clock = s.clock ∧ t.power = s.power ∧ t.synth = s.synth ∧ t.dpll = s.dpll ∧ t.ctl = s.ctl ∧ t.mram = s.mram ∧ t.cfg = s.cfg ∧ t.dep = s.dep ∧ t.jtag = s.jtag ∧ t.inp = s.inp ∧ t.conv = s.conv ∧ t.sprint = s.sprint ∧ t.graph = s.graph ∧ t.rout = s.rout ∧ t.ports = s.ports ∧ t.link = s.link ∧ t.wake = s.wake ∧ t.free = s.free ∧ t.pending = s.pending := by
  simp only [execHpOvercurrent, Host.Outcome.next.injEq] at h
  subst h
  repeat' split
  all_goals simp

theorem execHpOcRemeasure_keeps (h : Fin 4) (s : State) (t : State) (h : execHpOcRemeasure h s = .next t) :
    t.clock = s.clock ∧ t.power = s.power ∧ t.synth = s.synth ∧ t.dpll = s.dpll ∧ t.bus = s.bus ∧ t.ctl = s.ctl ∧ t.mram = s.mram ∧ t.cfg = s.cfg ∧ t.dep = s.dep ∧ t.log = s.log ∧ t.jtag = s.jtag ∧ t.inp = s.inp ∧ t.conv = s.conv ∧ t.sprint = s.sprint ∧ t.graph = s.graph ∧ t.rout = s.rout ∧ t.ports = s.ports ∧ t.link = s.link ∧ t.wake = s.wake ∧ t.free = s.free ∧ t.pending = s.pending := by
  simp only [execHpOcRemeasure, Host.Outcome.next.injEq] at h
  subst h
  repeat' split
  all_goals simp

theorem execHpJackPinChange_keeps (pin : Fin 4) (level : Bool) (s : State) (t : State) (h : execHpJackPinChange pin level s = .next t) :
    t.clock = s.clock ∧ t.power = s.power ∧ t.synth = s.synth ∧ t.dpll = s.dpll ∧ t.ctl = s.ctl ∧ t.mram = s.mram ∧ t.cfg = s.cfg ∧ t.dep = s.dep ∧ t.log = s.log ∧ t.jtag = s.jtag ∧ t.inp = s.inp ∧ t.sprint = s.sprint ∧ t.graph = s.graph ∧ t.rout = s.rout ∧ t.ports = s.ports ∧ t.link = s.link ∧ t.wake = s.wake ∧ t.free = s.free ∧ t.pending = s.pending := by
  simp only [execHpJackPinChange, Host.Outcome.next.injEq] at h
  subst h
  repeat' split
  all_goals simp

theorem execHpJackDebounceEnd_keeps (pin : Fin 4) (s : State) (t : State) (h : execHpJackDebounceEnd pin s = .next t) :
    t.clock = s.clock ∧ t.power = s.power ∧ t.synth = s.synth ∧ t.dpll = s.dpll ∧ t.ctl = s.ctl ∧ t.mram = s.mram ∧ t.cfg = s.cfg ∧ t.dep = s.dep ∧ t.jtag = s.jtag ∧ t.inp = s.inp ∧ t.conv = s.conv ∧ t.sprint = s.sprint ∧ t.graph = s.graph ∧ t.rout = s.rout ∧ t.ports = s.ports ∧ t.link = s.link ∧ t.wake = s.wake ∧ t.free = s.free ∧ t.pending = s.pending := by
  simp only [execHpJackDebounceEnd, Host.Outcome.next.injEq] at h
  subst h
  repeat' split
  all_goals simp

theorem execHpTestCurrentUp_keeps (h : Fin 4) (s : State) (t : State) (h : execHpTestCurrentUp h s = .next t) :
    t.clock = s.clock ∧ t.power = s.power ∧ t.synth = s.synth ∧ t.dpll = s.dpll ∧ t.bus = s.bus ∧ t.ctl = s.ctl ∧ t.mram = s.mram ∧ t.cfg = s.cfg ∧ t.dep = s.dep ∧ t.log = s.log ∧ t.jtag = s.jtag ∧ t.inp = s.inp ∧ t.sprint = s.sprint ∧ t.graph = s.graph ∧ t.rout = s.rout ∧ t.ports = s.ports ∧ t.link = s.link ∧ t.wake = s.wake ∧ t.free = s.free ∧ t.pending = s.pending := by
  simp only [execHpTestCurrentUp, Host.Outcome.next.injEq] at h
  subst h
  repeat' split
  all_goals simp

theorem execHpTestCurrentDown_keeps (h : Fin 4) (s : State) (t : State) (h : execHpTestCurrentDown h s = .next t) :
    t.clock = s.clock ∧ t.power = s.power ∧ t.synth = s.synth ∧ t.dpll = s.dpll ∧ t.ctl = s.ctl ∧ t.mram = s.mram ∧ t.cfg = s.cfg ∧ t.dep = s.dep ∧ t.log = s.log ∧ t.jtag = s.jtag ∧ t.inp = s.inp ∧ t.conv = s.conv ∧ t.sprint = s.sprint ∧ t.graph = s.graph ∧ t.rout = s.rout ∧ t.ports = s.ports ∧ t.link = s.link ∧ t.wake = s.wake ∧ t.free = s.free ∧ t.pending = s.pending := by
  simp only [execHpTestCurrentDown, Host.Outcome.next.injEq] at h
  subst h
  repeat' split
  all_goals simp

theorem execHpGlitchTimeout_keeps (pin : Fin 4) (s : State) (t : State) (h : execHpGlitchTimeout pin s = .next t) :
    t.clock = s.clock ∧ t.power = s.power ∧ t.synth = s.synth ∧ t.dpll = s.dpll ∧ t.bus = s.bus ∧ t.ctl = s.ctl ∧ t.mram = s.mram ∧ t.cfg = s.cfg ∧ t.dep = s.dep ∧ t.jtag = s.jtag ∧ t.inp = s.inp ∧ t.conv = s.conv ∧ t.sprint = s.sprint ∧ t.graph = s.graph ∧ t.rout = s.rout ∧ t.ports = s.ports ∧ t.link = s.link ∧ t.wake = s.wake ∧ t.free = s.free ∧ t.pending = s.pending := by
  simp only [execHpGlitchTimeout, Host.Outcome.next.injEq] at h
  subst h
  repeat' split
  all_goals simp

theorem execSpkPrechargeEnd_keeps (spk : Fin 4) (s : State) (t : State) (h : execSpkPrechargeEnd spk s = .next t) :
    t.clock = s.clock ∧ t.power = s.power ∧ t.synth = s.synth ∧ t.dpll = s.dpll ∧ t.bus = s.bus ∧ t.ctl = s.ctl ∧ t.mram = s.mram ∧ t.cfg = s.cfg ∧ t.dep = s.dep ∧ t.log = s.log ∧ t.jtag = s.jtag ∧ t.inp = s.inp ∧ t.conv = s.conv ∧ t.sprint = s.sprint ∧ t.graph = s.graph ∧ t.rout = s.rout ∧ t.ports = s.ports ∧ t.link = s.link ∧ t.wake = s.wake ∧ t.free = s.free ∧ t.pending = s.pending := by
  simp only [execSpkPrechargeEnd, Host.Outcome.next.injEq] at h
  subst h
  all_goals simp

theorem execSpkOvercurrent_keeps (spk : Fin 4) (s : State) (t : State) (h : execSpkOvercurrent spk s = .next t) :
    t.clock = s.clock ∧ t.power = s.power ∧ t.synth = s.synth ∧ t.dpll = s.dpll ∧ t.ctl = s.ctl ∧ t.mram = s.mram ∧ t.cfg = s.cfg ∧ t.dep = s.dep ∧ t.jtag = s.jtag ∧ t.inp = s.inp ∧ t.conv = s.conv ∧ t.sprint = s.sprint ∧ t.graph = s.graph ∧ t.rout = s.rout ∧ t.ports = s.ports ∧ t.link = s.link ∧ t.wake = s.wake ∧ t.free = s.free ∧ t.pending = s.pending := by
  simp only [execSpkOvercurrent, Host.Outcome.next.injEq] at h
  subst h
  all_goals simp

theorem execSpkDcTrip_keeps (spk : Fin 4) (s : State) (t : State) (h : execSpkDcTrip spk s = .next t) :
    t.clock = s.clock ∧ t.power = s.power ∧ t.synth = s.synth ∧ t.dpll = s.dpll ∧ t.ctl = s.ctl ∧ t.mram = s.mram ∧ t.cfg = s.cfg ∧ t.dep = s.dep ∧ t.jtag = s.jtag ∧ t.inp = s.inp ∧ t.conv = s.conv ∧ t.sprint = s.sprint ∧ t.graph = s.graph ∧ t.rout = s.rout ∧ t.ports = s.ports ∧ t.link = s.link ∧ t.wake = s.wake ∧ t.free = s.free ∧ t.pending = s.pending := by
  simp only [execSpkDcTrip, Host.Outcome.next.injEq] at h
  subst h
  repeat' split
  all_goals simp

theorem execSpkUndervoltage_keeps (s : State) (t : State) (h : execSpkUndervoltage s = .next t) :
    t.clock = s.clock ∧ t.power = s.power ∧ t.synth = s.synth ∧ t.dpll = s.dpll ∧ t.ctl = s.ctl ∧ t.mram = s.mram ∧ t.cfg = s.cfg ∧ t.dep = s.dep ∧ t.jtag = s.jtag ∧ t.inp = s.inp ∧ t.conv = s.conv ∧ t.sprint = s.sprint ∧ t.graph = s.graph ∧ t.rout = s.rout ∧ t.ports = s.ports ∧ t.link = s.link ∧ t.wake = s.wake ∧ t.free = s.free ∧ t.pending = s.pending := by
  simp only [execSpkUndervoltage, Host.Outcome.next.injEq] at h
  subst h
  all_goals simp

theorem execSpkOvervoltage_keeps (s : State) (t : State) (h : execSpkOvervoltage s = .next t) :
    t.clock = s.clock ∧ t.power = s.power ∧ t.synth = s.synth ∧ t.dpll = s.dpll ∧ t.ctl = s.ctl ∧ t.mram = s.mram ∧ t.cfg = s.cfg ∧ t.dep = s.dep ∧ t.jtag = s.jtag ∧ t.inp = s.inp ∧ t.conv = s.conv ∧ t.sprint = s.sprint ∧ t.graph = s.graph ∧ t.rout = s.rout ∧ t.ports = s.ports ∧ t.link = s.link ∧ t.wake = s.wake ∧ t.free = s.free ∧ t.pending = s.pending := by
  simp only [execSpkOvervoltage, Host.Outcome.next.injEq] at h
  subst h
  all_goals simp

theorem execSpkThermalTrip_keeps (s : State) (t : State) (h : execSpkThermalTrip s = .next t) :
    t.clock = s.clock ∧ t.power = s.power ∧ t.synth = s.synth ∧ t.dpll = s.dpll ∧ t.ctl = s.ctl ∧ t.mram = s.mram ∧ t.cfg = s.cfg ∧ t.dep = s.dep ∧ t.jtag = s.jtag ∧ t.inp = s.inp ∧ t.conv = s.conv ∧ t.sprint = s.sprint ∧ t.graph = s.graph ∧ t.rout = s.rout ∧ t.ports = s.ports ∧ t.link = s.link ∧ t.wake = s.wake ∧ t.free = s.free ∧ t.pending = s.pending := by
  simp only [execSpkThermalTrip, Host.Outcome.next.injEq] at h
  subst h
  all_goals simp

theorem execSpkRetry_keeps (spk : Fin 4) (s : State) (t : State) (h : execSpkRetry spk s = .next t) :
    t.clock = s.clock ∧ t.power = s.power ∧ t.synth = s.synth ∧ t.dpll = s.dpll ∧ t.bus = s.bus ∧ t.ctl = s.ctl ∧ t.mram = s.mram ∧ t.cfg = s.cfg ∧ t.dep = s.dep ∧ t.log = s.log ∧ t.jtag = s.jtag ∧ t.inp = s.inp ∧ t.conv = s.conv ∧ t.sprint = s.sprint ∧ t.graph = s.graph ∧ t.rout = s.rout ∧ t.ports = s.ports ∧ t.link = s.link ∧ t.wake = s.wake ∧ t.free = s.free ∧ t.pending = s.pending := by
  simp only [execSpkRetry, Host.Outcome.next.injEq] at h
  subst h
  repeat' split
  all_goals simp

theorem execVspkDecouplingConnect_keeps (s : State) (t : State) (h : execVspkDecouplingConnect s = .next t) :
    t.clock = s.clock ∧ t.power = s.power ∧ t.synth = s.synth ∧ t.dpll = s.dpll ∧ t.bus = s.bus ∧ t.ctl = s.ctl ∧ t.mram = s.mram ∧ t.cfg = s.cfg ∧ t.dep = s.dep ∧ t.log = s.log ∧ t.jtag = s.jtag ∧ t.inp = s.inp ∧ t.conv = s.conv ∧ t.sprint = s.sprint ∧ t.graph = s.graph ∧ t.rout = s.rout ∧ t.ports = s.ports ∧ t.link = s.link ∧ t.wake = s.wake ∧ t.free = s.free ∧ t.pending = s.pending := by
  simp only [execVspkDecouplingConnect, Host.Outcome.next.injEq] at h
  subst h
  repeat' split
  all_goals simp

theorem execGbyHealthLoss_keeps (g : Fin 4) (s : State) (t : State) (h : execGbyHealthLoss g s = .next t) :
    t.clock = s.clock ∧ t.power = s.power ∧ t.synth = s.synth ∧ t.dpll = s.dpll ∧ t.ctl = s.ctl ∧ t.mram = s.mram ∧ t.cfg = s.cfg ∧ t.dep = s.dep ∧ t.log = s.log ∧ t.jtag = s.jtag ∧ t.inp = s.inp ∧ t.conv = s.conv ∧ t.sprint = s.sprint ∧ t.graph = s.graph ∧ t.rout = s.rout ∧ t.ports = s.ports ∧ t.link = s.link ∧ t.wake = s.wake ∧ t.free = s.free ∧ t.pending = s.pending := by
  simp only [execGbyHealthLoss, Host.Outcome.next.injEq] at h
  subst h
  repeat' split
  all_goals simp

theorem execGbyPremuteEnd_keeps (g : Fin 4) (s : State) (t : State) (h : execGbyPremuteEnd g s = .next t) :
    t.clock = s.clock ∧ t.power = s.power ∧ t.synth = s.synth ∧ t.dpll = s.dpll ∧ t.ctl = s.ctl ∧ t.mram = s.mram ∧ t.cfg = s.cfg ∧ t.dep = s.dep ∧ t.log = s.log ∧ t.jtag = s.jtag ∧ t.inp = s.inp ∧ t.conv = s.conv ∧ t.sprint = s.sprint ∧ t.graph = s.graph ∧ t.rout = s.rout ∧ t.ports = s.ports ∧ t.link = s.link ∧ t.wake = s.wake ∧ t.free = s.free ∧ t.pending = s.pending := by
  simp only [execGbyPremuteEnd, Host.Outcome.next.injEq] at h
  subst h
  repeat' split
  all_goals simp

theorem execGbyRestore_keeps (g : Fin 4) (s : State) (t : State) (h : execGbyRestore g s = .next t) :
    t.clock = s.clock ∧ t.power = s.power ∧ t.synth = s.synth ∧ t.dpll = s.dpll ∧ t.ctl = s.ctl ∧ t.mram = s.mram ∧ t.cfg = s.cfg ∧ t.dep = s.dep ∧ t.log = s.log ∧ t.jtag = s.jtag ∧ t.inp = s.inp ∧ t.conv = s.conv ∧ t.sprint = s.sprint ∧ t.graph = s.graph ∧ t.rout = s.rout ∧ t.ports = s.ports ∧ t.link = s.link ∧ t.wake = s.wake ∧ t.free = s.free ∧ t.pending = s.pending := by
  simp only [execGbyRestore, Host.Outcome.next.injEq] at h
  subst h
  repeat' split
  all_goals simp

theorem execGbySettleEnd_keeps (g : Fin 4) (s : State) (t : State) (h : execGbySettleEnd g s = .next t) :
    t.clock = s.clock ∧ t.power = s.power ∧ t.synth = s.synth ∧ t.dpll = s.dpll ∧ t.bus = s.bus ∧ t.ctl = s.ctl ∧ t.mram = s.mram ∧ t.cfg = s.cfg ∧ t.dep = s.dep ∧ t.log = s.log ∧ t.jtag = s.jtag ∧ t.inp = s.inp ∧ t.conv = s.conv ∧ t.sprint = s.sprint ∧ t.graph = s.graph ∧ t.rout = s.rout ∧ t.ports = s.ports ∧ t.link = s.link ∧ t.wake = s.wake ∧ t.free = s.free ∧ t.pending = s.pending := by
  simp only [execGbySettleEnd, Host.Outcome.next.injEq] at h
  subst h
  repeat' split
  all_goals simp

theorem execLastLapSpeakerStop_keeps (s : State) (t : State) (h : execLastLapSpeakerStop s = .next t) :
    t.clock = s.clock ∧ t.power = s.power ∧ t.synth = s.synth ∧ t.dpll = s.dpll ∧ t.bus = s.bus ∧ t.ctl = s.ctl ∧ t.mram = s.mram ∧ t.cfg = s.cfg ∧ t.dep = s.dep ∧ t.log = s.log ∧ t.jtag = s.jtag ∧ t.inp = s.inp ∧ t.conv = s.conv ∧ t.sprint = s.sprint ∧ t.graph = s.graph ∧ t.rout = s.rout ∧ t.ports = s.ports ∧ t.link = s.link ∧ t.wake = s.wake ∧ t.free = s.free ∧ t.pending = s.pending := by
  simp only [execLastLapSpeakerStop, Host.Outcome.next.injEq] at h
  subst h
  repeat' split
  all_goals simp

theorem execLastLapClear_keeps (s : State) (t : State) (h : execLastLapClear s = .next t) :
    t.clock = s.clock ∧ t.power = s.power ∧ t.synth = s.synth ∧ t.dpll = s.dpll ∧ t.ctl = s.ctl ∧ t.mram = s.mram ∧ t.cfg = s.cfg ∧ t.dep = s.dep ∧ t.log = s.log ∧ t.jtag = s.jtag ∧ t.inp = s.inp ∧ t.conv = s.conv ∧ t.sprint = s.sprint ∧ t.graph = s.graph ∧ t.rout = s.rout ∧ t.ports = s.ports ∧ t.link = s.link ∧ t.wake = s.wake ∧ t.free = s.free ∧ t.pending = s.pending := by
  simp only [execLastLapClear, Host.Outcome.next.injEq] at h
  subst h
  repeat' split
  all_goals simp

theorem execPortFrameStart_keeps (p : Fin 6) (frame : PortWire) (s : State) (t : State) (h : execPortFrameStart p frame s = .next t) :
    t.clock = s.clock ∧ t.power = s.power ∧ t.synth = s.synth ∧ t.dpll = s.dpll ∧ t.bus = s.bus ∧ t.ctl = s.ctl ∧ t.mram = s.mram ∧ t.cfg = s.cfg ∧ t.dep = s.dep ∧ t.jtag = s.jtag ∧ t.inp = s.inp ∧ t.conv = s.conv ∧ t.sprint = s.sprint ∧ t.graph = s.graph ∧ t.rout = s.rout ∧ t.out = s.out ∧ t.link = s.link ∧ t.wake = s.wake ∧ t.pending = s.pending := by
  simp only [execPortFrameStart, Host.Outcome.next.injEq] at h
  subst h
  repeat' split
  all_goals simp

theorem execPortStopped_keeps (p : Fin 6) (s : State) (t : State) (h : execPortStopped p s = .next t) :
    t.clock = s.clock ∧ t.power = s.power ∧ t.synth = s.synth ∧ t.dpll = s.dpll ∧ t.bus = s.bus ∧ t.ctl = s.ctl ∧ t.mram = s.mram ∧ t.cfg = s.cfg ∧ t.dep = s.dep ∧ t.jtag = s.jtag ∧ t.inp = s.inp ∧ t.conv = s.conv ∧ t.sprint = s.sprint ∧ t.graph = s.graph ∧ t.rout = s.rout ∧ t.out = s.out ∧ t.link = s.link ∧ t.wake = s.wake ∧ t.free = s.free ∧ t.pending = s.pending := by
  simp only [execPortStopped, Host.Outcome.next.injEq] at h
  subst h
  repeat' split
  all_goals simp

theorem execRateReport_keeps (s : State) (t : State) (h : execRateReport s = .next t) :
    t.clock = s.clock ∧ t.power = s.power ∧ t.synth = s.synth ∧ t.dpll = s.dpll ∧ t.ctl = s.ctl ∧ t.mram = s.mram ∧ t.cfg = s.cfg ∧ t.dep = s.dep ∧ t.jtag = s.jtag ∧ t.inp = s.inp ∧ t.conv = s.conv ∧ t.sprint = s.sprint ∧ t.graph = s.graph ∧ t.rout = s.rout ∧ t.out = s.out ∧ t.link = s.link ∧ t.wake = s.wake ∧ t.pending = s.pending := by
  simp only [execRateReport, Host.Outcome.next.injEq] at h
  subst h
  repeat' split
  all_goals simp

theorem execAsrcLock_keeps (p : Fin 6) (s : State) (t : State) (h : execAsrcLock p s = .next t) :
    t.clock = s.clock ∧ t.power = s.power ∧ t.synth = s.synth ∧ t.dpll = s.dpll ∧ t.bus = s.bus ∧ t.ctl = s.ctl ∧ t.mram = s.mram ∧ t.cfg = s.cfg ∧ t.dep = s.dep ∧ t.log = s.log ∧ t.jtag = s.jtag ∧ t.inp = s.inp ∧ t.conv = s.conv ∧ t.sprint = s.sprint ∧ t.graph = s.graph ∧ t.rout = s.rout ∧ t.out = s.out ∧ t.link = s.link ∧ t.wake = s.wake ∧ t.free = s.free ∧ t.pending = s.pending := by
  simp only [execAsrcLock, Host.Outcome.next.injEq] at h
  subst h
  all_goals simp

theorem execMaskTakeEffect_keeps (p : Fin 6) (s : State) (t : State) (h : execMaskTakeEffect p s = .next t) :
    t.clock = s.clock ∧ t.power = s.power ∧ t.synth = s.synth ∧ t.dpll = s.dpll ∧ t.bus = s.bus ∧ t.ctl = s.ctl ∧ t.mram = s.mram ∧ t.cfg = s.cfg ∧ t.dep = s.dep ∧ t.log = s.log ∧ t.jtag = s.jtag ∧ t.inp = s.inp ∧ t.conv = s.conv ∧ t.sprint = s.sprint ∧ t.graph = s.graph ∧ t.rout = s.rout ∧ t.out = s.out ∧ t.link = s.link ∧ t.wake = s.wake ∧ t.free = s.free ∧ t.pending = s.pending := by
  simp only [execMaskTakeEffect, Host.Outcome.next.injEq] at h
  subst h
  repeat' split
  all_goals simp

theorem execLinkFrameReceived_keeps (x : Fin 2) (frame : LinkFrame) (time : Nat) (s : State) (t : State) (h : execLinkFrameReceived x frame time s = .next t) :
    t.clock = s.clock ∧ t.power = s.power ∧ t.synth = s.synth ∧ t.dpll = s.dpll ∧ t.bus = s.bus ∧ t.ctl = s.ctl ∧ t.mram = s.mram ∧ t.cfg = s.cfg ∧ t.dep = s.dep ∧ t.log = s.log ∧ t.jtag = s.jtag ∧ t.inp = s.inp ∧ t.conv = s.conv ∧ t.sprint = s.sprint ∧ t.graph = s.graph ∧ t.rout = s.rout ∧ t.out = s.out ∧ t.ports = s.ports ∧ t.wake = s.wake ∧ t.pending = s.pending := by
  simp only [execLinkFrameReceived, Host.Outcome.next.injEq] at h
  subst h
  repeat' split
  all_goals simp

theorem execLinkFrameLaunch_keeps (x : Fin 2) (s : State) (t : State) (h : execLinkFrameLaunch x s = .next t) :
    t.clock = s.clock ∧ t.power = s.power ∧ t.synth = s.synth ∧ t.dpll = s.dpll ∧ t.bus = s.bus ∧ t.ctl = s.ctl ∧ t.mram = s.mram ∧ t.cfg = s.cfg ∧ t.dep = s.dep ∧ t.log = s.log ∧ t.jtag = s.jtag ∧ t.inp = s.inp ∧ t.conv = s.conv ∧ t.sprint = s.sprint ∧ t.graph = s.graph ∧ t.rout = s.rout ∧ t.out = s.out ∧ t.ports = s.ports ∧ t.wake = s.wake ∧ t.pending = s.pending := by
  simp only [execLinkFrameLaunch, Host.Outcome.next.injEq] at h
  subst h
  repeat' split
  all_goals simp

theorem execLinkRetime_keeps (x : Fin 2) (s : State) (t : State) (h : execLinkRetime x s = .next t) :
    t.clock = s.clock ∧ t.power = s.power ∧ t.synth = s.synth ∧ t.dpll = s.dpll ∧ t.bus = s.bus ∧ t.ctl = s.ctl ∧ t.mram = s.mram ∧ t.cfg = s.cfg ∧ t.dep = s.dep ∧ t.log = s.log ∧ t.jtag = s.jtag ∧ t.inp = s.inp ∧ t.conv = s.conv ∧ t.sprint = s.sprint ∧ t.graph = s.graph ∧ t.rout = s.rout ∧ t.out = s.out ∧ t.ports = s.ports ∧ t.wake = s.wake ∧ t.pending = s.pending := by
  simp only [execLinkRetime] at h
  cases h
  simp

theorem execLinkSignalDetect_keeps (x : Fin 2) (present : Bool) (s : State) (t : State) (h : execLinkSignalDetect x present s = .next t) :
    t.clock = s.clock ∧ t.power = s.power ∧ t.synth = s.synth ∧ t.dpll = s.dpll ∧ t.bus = s.bus ∧ t.ctl = s.ctl ∧ t.mram = s.mram ∧ t.cfg = s.cfg ∧ t.dep = s.dep ∧ t.log = s.log ∧ t.jtag = s.jtag ∧ t.inp = s.inp ∧ t.conv = s.conv ∧ t.sprint = s.sprint ∧ t.graph = s.graph ∧ t.rout = s.rout ∧ t.out = s.out ∧ t.ports = s.ports ∧ t.wake = s.wake ∧ t.free = s.free ∧ t.pending = s.pending := by
  simp only [execLinkSignalDetect, Host.Outcome.next.injEq] at h
  subst h
  repeat' split
  all_goals simp

theorem execLinkFrameLock_keeps (x : Fin 2) (s : State) (t : State) (h : execLinkFrameLock x s = .next t) :
    t.clock = s.clock ∧ t.power = s.power ∧ t.synth = s.synth ∧ t.dpll = s.dpll ∧ t.bus = s.bus ∧ t.ctl = s.ctl ∧ t.mram = s.mram ∧ t.cfg = s.cfg ∧ t.dep = s.dep ∧ t.log = s.log ∧ t.jtag = s.jtag ∧ t.inp = s.inp ∧ t.conv = s.conv ∧ t.sprint = s.sprint ∧ t.graph = s.graph ∧ t.rout = s.rout ∧ t.out = s.out ∧ t.ports = s.ports ∧ t.wake = s.wake ∧ t.free = s.free ∧ t.pending = s.pending := by
  simp only [execLinkFrameLock, Host.Outcome.next.injEq] at h
  subst h
  all_goals simp

theorem execFrameLockLoss_keeps (x : Fin 2) (s : State) (t : State) (h : execFrameLockLoss x s = .next t) :
    t.clock = s.clock ∧ t.power = s.power ∧ t.synth = s.synth ∧ t.dpll = s.dpll ∧ t.bus = s.bus ∧ t.ctl = s.ctl ∧ t.mram = s.mram ∧ t.cfg = s.cfg ∧ t.dep = s.dep ∧ t.log = s.log ∧ t.jtag = s.jtag ∧ t.inp = s.inp ∧ t.conv = s.conv ∧ t.sprint = s.sprint ∧ t.graph = s.graph ∧ t.rout = s.rout ∧ t.out = s.out ∧ t.ports = s.ports ∧ t.wake = s.wake ∧ t.free = s.free ∧ t.pending = s.pending := by
  simp only [execFrameLockLoss, Host.Outcome.next.injEq] at h
  subst h
  all_goals simp

theorem execLinkTrainingDone_keeps (x : Fin 2) (info : HopInfo) (s : State) (t : State) (h : execLinkTrainingDone x info s = .next t) :
    t.clock = s.clock ∧ t.power = s.power ∧ t.synth = s.synth ∧ t.dpll = s.dpll ∧ t.ctl = s.ctl ∧ t.mram = s.mram ∧ t.cfg = s.cfg ∧ t.dep = s.dep ∧ t.log = s.log ∧ t.jtag = s.jtag ∧ t.inp = s.inp ∧ t.conv = s.conv ∧ t.sprint = s.sprint ∧ t.graph = s.graph ∧ t.rout = s.rout ∧ t.out = s.out ∧ t.ports = s.ports ∧ t.wake = s.wake ∧ t.free = s.free ∧ t.pending = s.pending := by
  simp only [execLinkTrainingDone, Host.Outcome.next.injEq] at h
  subst h
  repeat' split
  all_goals simp

theorem execLinkJoinAlign_keeps (join : JoinInfo) (s : State) (t : State) (h : execLinkJoinAlign join s = .next t) :
    t.power = s.power ∧ t.synth = s.synth ∧ t.dpll = s.dpll ∧ t.ctl = s.ctl ∧ t.mram = s.mram ∧ t.cfg = s.cfg ∧ t.dep = s.dep ∧ t.log = s.log ∧ t.jtag = s.jtag ∧ t.inp = s.inp ∧ t.conv = s.conv ∧ t.sprint = s.sprint ∧ t.graph = s.graph ∧ t.rout = s.rout ∧ t.out = s.out ∧ t.ports = s.ports ∧ t.wake = s.wake ∧ t.free = s.free ∧ t.pending = s.pending := by
  simp only [execLinkJoinAlign, Host.Outcome.next.injEq] at h
  subst h
  repeat' split
  all_goals simp

theorem execLinkBreak_keeps (x : Fin 2) (s : State) (t : State) (h : execLinkBreak x s = .next t) :
    t.clock = s.clock ∧ t.power = s.power ∧ t.synth = s.synth ∧ t.ctl = s.ctl ∧ t.mram = s.mram ∧ t.cfg = s.cfg ∧ t.dep = s.dep ∧ t.jtag = s.jtag ∧ t.inp = s.inp ∧ t.conv = s.conv ∧ t.sprint = s.sprint ∧ t.graph = s.graph ∧ t.rout = s.rout ∧ t.out = s.out ∧ t.ports = s.ports ∧ t.wake = s.wake ∧ t.free = s.free ∧ t.pending = s.pending := by
  simp only [execLinkBreak, Host.Outcome.next.injEq] at h
  subst h
  repeat' split
  all_goals simp

theorem execLinkAnnouncement_keeps (s : State) (t : State) (h : execLinkAnnouncement s = .next t) :
    t.clock = s.clock ∧ t.power = s.power ∧ t.synth = s.synth ∧ t.dpll = s.dpll ∧ t.bus = s.bus ∧ t.ctl = s.ctl ∧ t.mram = s.mram ∧ t.cfg = s.cfg ∧ t.dep = s.dep ∧ t.log = s.log ∧ t.jtag = s.jtag ∧ t.inp = s.inp ∧ t.conv = s.conv ∧ t.sprint = s.sprint ∧ t.graph = s.graph ∧ t.rout = s.rout ∧ t.out = s.out ∧ t.ports = s.ports ∧ t.wake = s.wake ∧ t.free = s.free ∧ t.pending = s.pending := by
  simp only [execLinkAnnouncement, Host.Outcome.next.injEq] at h
  subst h
  repeat' split
  all_goals simp

theorem execAnnouncementReceived_keeps (x : Fin 2) (ann : Announcement) (s : State) (t : State) (h : execAnnouncementReceived x ann s = .next t) :
    t.clock = s.clock ∧ t.power = s.power ∧ t.synth = s.synth ∧ t.dpll = s.dpll ∧ t.ctl = s.ctl ∧ t.mram = s.mram ∧ t.cfg = s.cfg ∧ t.dep = s.dep ∧ t.log = s.log ∧ t.jtag = s.jtag ∧ t.inp = s.inp ∧ t.conv = s.conv ∧ t.sprint = s.sprint ∧ t.graph = s.graph ∧ t.rout = s.rout ∧ t.out = s.out ∧ t.ports = s.ports ∧ t.wake = s.wake ∧ t.free = s.free ∧ t.pending = s.pending := by
  simp only [execAnnouncementReceived, Host.Outcome.next.injEq] at h
  subst h
  repeat' split
  all_goals simp

theorem execAnnouncementDrop_keeps (id : Fin 1024) (s : State) (t : State) (h : execAnnouncementDrop id s = .next t) :
    t.clock = s.clock ∧ t.power = s.power ∧ t.synth = s.synth ∧ t.dpll = s.dpll ∧ t.ctl = s.ctl ∧ t.mram = s.mram ∧ t.cfg = s.cfg ∧ t.dep = s.dep ∧ t.log = s.log ∧ t.jtag = s.jtag ∧ t.inp = s.inp ∧ t.conv = s.conv ∧ t.sprint = s.sprint ∧ t.graph = s.graph ∧ t.rout = s.rout ∧ t.out = s.out ∧ t.ports = s.ports ∧ t.wake = s.wake ∧ t.free = s.free ∧ t.pending = s.pending := by
  simp only [execAnnouncementDrop, Host.Outcome.next.injEq] at h
  subst h
  repeat' split
  all_goals simp

theorem execRingFormation_keeps (s : State) (t : State) (h : execRingFormation s = .next t) :
    t.clock = s.clock ∧ t.power = s.power ∧ t.synth = s.synth ∧ t.dpll = s.dpll ∧ t.bus = s.bus ∧ t.ctl = s.ctl ∧ t.mram = s.mram ∧ t.cfg = s.cfg ∧ t.dep = s.dep ∧ t.log = s.log ∧ t.jtag = s.jtag ∧ t.inp = s.inp ∧ t.conv = s.conv ∧ t.sprint = s.sprint ∧ t.graph = s.graph ∧ t.rout = s.rout ∧ t.out = s.out ∧ t.ports = s.ports ∧ t.wake = s.wake ∧ t.free = s.free ∧ t.pending = s.pending := by
  simp only [execRingFormation, Host.Outcome.next.injEq] at h
  subst h
  repeat' split
  all_goals simp

theorem execLinkRepairReturn_keeps (x : Fin 2) (s : State) (t : State) (h : execLinkRepairReturn x s = .next t) :
    t.clock = s.clock ∧ t.power = s.power ∧ t.synth = s.synth ∧ t.dpll = s.dpll ∧ t.bus = s.bus ∧ t.ctl = s.ctl ∧ t.mram = s.mram ∧ t.cfg = s.cfg ∧ t.dep = s.dep ∧ t.log = s.log ∧ t.jtag = s.jtag ∧ t.inp = s.inp ∧ t.conv = s.conv ∧ t.sprint = s.sprint ∧ t.graph = s.graph ∧ t.rout = s.rout ∧ t.out = s.out ∧ t.ports = s.ports ∧ t.wake = s.wake ∧ t.free = s.free ∧ t.pending = s.pending := by
  simp only [execLinkRepairReturn, Host.Outcome.next.injEq] at h
  subst h
  repeat' split
  all_goals simp

theorem execLinkAlignedChange_keeps (gained : Bool) (s : State) (t : State) (h : execLinkAlignedChange gained s = .next t) :
    t.clock = s.clock ∧ t.power = s.power ∧ t.synth = s.synth ∧ t.dpll = s.dpll ∧ t.bus = s.bus ∧ t.ctl = s.ctl ∧ t.mram = s.mram ∧ t.cfg = s.cfg ∧ t.dep = s.dep ∧ t.log = s.log ∧ t.jtag = s.jtag ∧ t.inp = s.inp ∧ t.conv = s.conv ∧ t.sprint = s.sprint ∧ t.graph = s.graph ∧ t.rout = s.rout ∧ t.out = s.out ∧ t.ports = s.ports ∧ t.wake = s.wake ∧ t.free = s.free ∧ t.pending = s.pending := by
  simp only [execLinkAlignedChange, Host.Outcome.next.injEq] at h
  subst h
  repeat' split
  all_goals simp

theorem execLinkOffsetChange_keeps (s : State) (t : State) (h : execLinkOffsetChange s = .next t) :
    t.clock = s.clock ∧ t.power = s.power ∧ t.synth = s.synth ∧ t.dpll = s.dpll ∧ t.bus = s.bus ∧ t.ctl = s.ctl ∧ t.mram = s.mram ∧ t.cfg = s.cfg ∧ t.dep = s.dep ∧ t.log = s.log ∧ t.jtag = s.jtag ∧ t.inp = s.inp ∧ t.conv = s.conv ∧ t.sprint = s.sprint ∧ t.graph = s.graph ∧ t.rout = s.rout ∧ t.out = s.out ∧ t.ports = s.ports ∧ t.wake = s.wake ∧ t.free = s.free ∧ t.pending = s.pending := by
  simp only [execLinkOffsetChange, Host.Outcome.next.injEq] at h
  subst h
  repeat' split
  all_goals simp

theorem execStartNEdge_keeps (s : State) (t : State) (h : execStartNEdge s = .next t) :
    t.clock = s.clock ∧ t.power = s.power ∧ t.synth = s.synth ∧ t.dpll = s.dpll ∧ t.bus = s.bus ∧ t.ctl = s.ctl ∧ t.mram = s.mram ∧ t.cfg = s.cfg ∧ t.dep = s.dep ∧ t.log = s.log ∧ t.jtag = s.jtag ∧ t.inp = s.inp ∧ t.conv = s.conv ∧ t.sprint = s.sprint ∧ t.graph = s.graph ∧ t.rout = s.rout ∧ t.out = s.out ∧ t.wake = s.wake ∧ t.free = s.free ∧ t.pending = s.pending := by
  simp only [execStartNEdge, Host.Outcome.next.injEq] at h
  subst h
  repeat' split
  all_goals simp

theorem execSteerSlewStart_keeps (s : State) (t : State) (h : execSteerSlewStart s = .next t) :
    t.clock = s.clock ∧ t.power = s.power ∧ t.dpll = s.dpll ∧ t.bus = s.bus ∧ t.ctl = s.ctl ∧ t.mram = s.mram ∧ t.dep = s.dep ∧ t.log = s.log ∧ t.jtag = s.jtag ∧ t.inp = s.inp ∧ t.conv = s.conv ∧ t.sprint = s.sprint ∧ t.graph = s.graph ∧ t.rout = s.rout ∧ t.out = s.out ∧ t.ports = s.ports ∧ t.link = s.link ∧ t.wake = s.wake ∧ t.free = s.free ∧ t.pending = s.pending := by
  simp only [execSteerSlewStart, Host.Outcome.next.injEq] at h
  subst h
  repeat' split
  all_goals simp

theorem execSteerSlewEnd_keeps (s : State) (t : State) (h : execSteerSlewEnd s = .next t) :
    t.clock = s.clock ∧ t.power = s.power ∧ t.synth = s.synth ∧ t.dpll = s.dpll ∧ t.bus = s.bus ∧ t.ctl = s.ctl ∧ t.mram = s.mram ∧ t.cfg = s.cfg ∧ t.dep = s.dep ∧ t.log = s.log ∧ t.jtag = s.jtag ∧ t.inp = s.inp ∧ t.conv = s.conv ∧ t.sprint = s.sprint ∧ t.graph = s.graph ∧ t.rout = s.rout ∧ t.out = s.out ∧ t.ports = s.ports ∧ t.link = s.link ∧ t.wake = s.wake ∧ t.free = s.free ∧ t.pending = s.pending := by
  simp only [execSteerSlewEnd, Host.Outcome.next.injEq] at h
  subst h
  all_goals simp

theorem execXoLoss_keeps (s : State) (t : State) (h : execXoLoss s = .next t) :
    t.clock = s.clock ∧ t.power = s.power ∧ t.dpll = s.dpll ∧ t.ctl = s.ctl ∧ t.mram = s.mram ∧ t.cfg = s.cfg ∧ t.dep = s.dep ∧ t.jtag = s.jtag ∧ t.inp = s.inp ∧ t.conv = s.conv ∧ t.sprint = s.sprint ∧ t.graph = s.graph ∧ t.rout = s.rout ∧ t.out = s.out ∧ t.ports = s.ports ∧ t.link = s.link ∧ t.wake = s.wake ∧ t.free = s.free ∧ t.pending = s.pending := by
  simp only [execXoLoss, Host.Outcome.next.injEq] at h
  subst h
  repeat' split
  all_goals simp

theorem execXoRecover_keeps (s : State) (t : State) (h : execXoRecover s = .next t) :
    t.clock = s.clock ∧ t.power = s.power ∧ t.dpll = s.dpll ∧ t.bus = s.bus ∧ t.ctl = s.ctl ∧ t.mram = s.mram ∧ t.cfg = s.cfg ∧ t.dep = s.dep ∧ t.log = s.log ∧ t.jtag = s.jtag ∧ t.inp = s.inp ∧ t.conv = s.conv ∧ t.sprint = s.sprint ∧ t.graph = s.graph ∧ t.rout = s.rout ∧ t.out = s.out ∧ t.ports = s.ports ∧ t.link = s.link ∧ t.wake = s.wake ∧ t.free = s.free ∧ t.pending = s.pending := by
  simp only [execXoRecover, Host.Outcome.next.injEq] at h
  subst h
  all_goals simp

theorem execAnalogLockSet_keeps (s : State) (t : State) (h : execAnalogLockSet s = .next t) :
    t.clock = s.clock ∧ t.power = s.power ∧ t.dpll = s.dpll ∧ t.bus = s.bus ∧ t.ctl = s.ctl ∧ t.mram = s.mram ∧ t.cfg = s.cfg ∧ t.dep = s.dep ∧ t.log = s.log ∧ t.jtag = s.jtag ∧ t.inp = s.inp ∧ t.conv = s.conv ∧ t.sprint = s.sprint ∧ t.graph = s.graph ∧ t.rout = s.rout ∧ t.out = s.out ∧ t.ports = s.ports ∧ t.link = s.link ∧ t.wake = s.wake ∧ t.free = s.free ∧ t.pending = s.pending := by
  simp only [execAnalogLockSet, Host.Outcome.next.injEq] at h
  subst h
  all_goals simp

theorem execLockDeclare_keeps (errs : List Int) (s : State) (t : State) (h : execLockDeclare errs s = .next t) :
    t.power = s.power ∧ t.dpll = s.dpll ∧ t.ctl = s.ctl ∧ t.mram = s.mram ∧ t.cfg = s.cfg ∧ t.dep = s.dep ∧ t.log = s.log ∧ t.jtag = s.jtag ∧ t.sprint = s.sprint ∧ t.graph = s.graph ∧ t.rout = s.rout ∧ t.out = s.out ∧ t.ports = s.ports ∧ t.link = s.link ∧ t.wake = s.wake ∧ t.free = s.free ∧ t.pending = s.pending := by
  simp only [execLockDeclare, Host.Outcome.next.injEq] at h
  subst h
  repeat' split
  all_goals simp

theorem execLockLoss_keeps (errs : List Int) (s : State) (t : State) (h : execLockLoss errs s = .next t) :
    t.clock = s.clock ∧ t.power = s.power ∧ t.dpll = s.dpll ∧ t.ctl = s.ctl ∧ t.mram = s.mram ∧ t.cfg = s.cfg ∧ t.dep = s.dep ∧ t.jtag = s.jtag ∧ t.inp = s.inp ∧ t.conv = s.conv ∧ t.sprint = s.sprint ∧ t.graph = s.graph ∧ t.rout = s.rout ∧ t.out = s.out ∧ t.ports = s.ports ∧ t.link = s.link ∧ t.wake = s.wake ∧ t.free = s.free ∧ t.pending = s.pending := by
  simp only [execLockLoss, Host.Outcome.next.injEq] at h
  subst h
  repeat' split
  all_goals simp

theorem execClockOutputGate_keeps (o : Fin 5) (s : State) (t : State) (h : execClockOutputGate o s = .next t) :
    t.clock = s.clock ∧ t.power = s.power ∧ t.dpll = s.dpll ∧ t.bus = s.bus ∧ t.ctl = s.ctl ∧ t.mram = s.mram ∧ t.cfg = s.cfg ∧ t.dep = s.dep ∧ t.log = s.log ∧ t.jtag = s.jtag ∧ t.inp = s.inp ∧ t.conv = s.conv ∧ t.sprint = s.sprint ∧ t.graph = s.graph ∧ t.rout = s.rout ∧ t.out = s.out ∧ t.ports = s.ports ∧ t.link = s.link ∧ t.wake = s.wake ∧ t.free = s.free ∧ t.pending = s.pending := by
  simp only [execClockOutputGate, Host.Outcome.next.injEq] at h
  subst h
  repeat' split
  all_goals simp

theorem execClockOutputResume_keeps (o : Fin 5) (s : State) (t : State) (h : execClockOutputResume o s = .next t) :
    t.clock = s.clock ∧ t.power = s.power ∧ t.dpll = s.dpll ∧ t.bus = s.bus ∧ t.ctl = s.ctl ∧ t.mram = s.mram ∧ t.cfg = s.cfg ∧ t.dep = s.dep ∧ t.log = s.log ∧ t.jtag = s.jtag ∧ t.inp = s.inp ∧ t.conv = s.conv ∧ t.sprint = s.sprint ∧ t.graph = s.graph ∧ t.rout = s.rout ∧ t.out = s.out ∧ t.ports = s.ports ∧ t.link = s.link ∧ t.wake = s.wake ∧ t.free = s.free ∧ t.pending = s.pending := by
  simp only [execClockOutputResume, Host.Outcome.next.injEq] at h
  subst h
  repeat' split
  all_goals simp

theorem execRefBeatMissed_keeps (src : Fin 8) (s : State) (t : State) (h : execRefBeatMissed src s = .next t) :
    t.clock = s.clock ∧ t.power = s.power ∧ t.synth = s.synth ∧ t.ctl = s.ctl ∧ t.mram = s.mram ∧ t.cfg = s.cfg ∧ t.dep = s.dep ∧ t.log = s.log ∧ t.jtag = s.jtag ∧ t.inp = s.inp ∧ t.conv = s.conv ∧ t.sprint = s.sprint ∧ t.graph = s.graph ∧ t.rout = s.rout ∧ t.out = s.out ∧ t.ports = s.ports ∧ t.link = s.link ∧ t.wake = s.wake ∧ t.free = s.free ∧ t.pending = s.pending := by
  simp only [execRefBeatMissed, Host.Outcome.next.injEq] at h
  subst h
  repeat' split
  all_goals simp

theorem execRefSignalSeen_keeps (src : Fin 8) (s : State) (t : State) (h : execRefSignalSeen src s = .next t) :
    t.clock = s.clock ∧ t.power = s.power ∧ t.synth = s.synth ∧ t.ctl = s.ctl ∧ t.mram = s.mram ∧ t.cfg = s.cfg ∧ t.dep = s.dep ∧ t.log = s.log ∧ t.jtag = s.jtag ∧ t.inp = s.inp ∧ t.conv = s.conv ∧ t.sprint = s.sprint ∧ t.graph = s.graph ∧ t.rout = s.rout ∧ t.out = s.out ∧ t.ports = s.ports ∧ t.link = s.link ∧ t.wake = s.wake ∧ t.free = s.free ∧ t.pending = s.pending := by
  simp only [execRefSignalSeen, Host.Outcome.next.injEq] at h
  subst h
  repeat' split
  all_goals simp

theorem execRefFreqReport_keeps (src : Fin 10) (ppb : Int) (s : State) (t : State) (h : execRefFreqReport src ppb s = .next t) :
    t.clock = s.clock ∧ t.power = s.power ∧ t.synth = s.synth ∧ t.ctl = s.ctl ∧ t.mram = s.mram ∧ t.cfg = s.cfg ∧ t.dep = s.dep ∧ t.log = s.log ∧ t.jtag = s.jtag ∧ t.inp = s.inp ∧ t.conv = s.conv ∧ t.sprint = s.sprint ∧ t.graph = s.graph ∧ t.rout = s.rout ∧ t.out = s.out ∧ t.ports = s.ports ∧ t.link = s.link ∧ t.wake = s.wake ∧ t.pending = s.pending := by
  simp only [execRefFreqReport, Host.Outcome.next.injEq] at h
  subst h
  repeat' split
  all_goals simp

theorem execAcceptTimeEnd_keeps (src : Fin 8) (s : State) (t : State) (h : execAcceptTimeEnd src s = .next t) :
    t.clock = s.clock ∧ t.power = s.power ∧ t.synth = s.synth ∧ t.ctl = s.ctl ∧ t.mram = s.mram ∧ t.cfg = s.cfg ∧ t.dep = s.dep ∧ t.log = s.log ∧ t.jtag = s.jtag ∧ t.inp = s.inp ∧ t.conv = s.conv ∧ t.sprint = s.sprint ∧ t.graph = s.graph ∧ t.rout = s.rout ∧ t.out = s.out ∧ t.ports = s.ports ∧ t.link = s.link ∧ t.wake = s.wake ∧ t.free = s.free ∧ t.pending = s.pending := by
  simp only [execAcceptTimeEnd, Host.Outcome.next.injEq] at h
  subst h
  repeat' split
  all_goals simp

theorem execWtrEnd_keeps (src : Fin 8) (s : State) (t : State) (h : execWtrEnd src s = .next t) :
    t.clock = s.clock ∧ t.power = s.power ∧ t.synth = s.synth ∧ t.bus = s.bus ∧ t.ctl = s.ctl ∧ t.mram = s.mram ∧ t.cfg = s.cfg ∧ t.dep = s.dep ∧ t.log = s.log ∧ t.jtag = s.jtag ∧ t.inp = s.inp ∧ t.conv = s.conv ∧ t.sprint = s.sprint ∧ t.graph = s.graph ∧ t.rout = s.rout ∧ t.out = s.out ∧ t.ports = s.ports ∧ t.link = s.link ∧ t.wake = s.wake ∧ t.free = s.free ∧ t.pending = s.pending := by
  simp only [execWtrEnd, Host.Outcome.next.injEq] at h
  subst h
  repeat' split
  all_goals simp

theorem execHandoffMeasureDone_keeps (beats : List Int) (pulse : Int) (s : State) (t : State) (h : execHandoffMeasureDone beats pulse s = .next t) :
    t.clock = s.clock ∧ t.power = s.power ∧ t.synth = s.synth ∧ t.bus = s.bus ∧ t.ctl = s.ctl ∧ t.mram = s.mram ∧ t.cfg = s.cfg ∧ t.dep = s.dep ∧ t.log = s.log ∧ t.jtag = s.jtag ∧ t.inp = s.inp ∧ t.conv = s.conv ∧ t.sprint = s.sprint ∧ t.graph = s.graph ∧ t.rout = s.rout ∧ t.out = s.out ∧ t.ports = s.ports ∧ t.link = s.link ∧ t.wake = s.wake ∧ t.pending = s.pending := by
  simp only [execHandoffMeasureDone, Host.Outcome.next.injEq] at h
  subst h
  repeat' split
  all_goals simp

theorem execHandoffCapture_keeps (s : State) (t : State) (h : execHandoffCapture s = .next t) :
    t.clock = s.clock ∧ t.power = s.power ∧ t.ctl = s.ctl ∧ t.mram = s.mram ∧ t.cfg = s.cfg ∧ t.dep = s.dep ∧ t.jtag = s.jtag ∧ t.inp = s.inp ∧ t.conv = s.conv ∧ t.sprint = s.sprint ∧ t.graph = s.graph ∧ t.rout = s.rout ∧ t.out = s.out ∧ t.ports = s.ports ∧ t.link = s.link ∧ t.wake = s.wake ∧ t.free = s.free ∧ t.pending = s.pending := by
  simp only [execHandoffCapture, Host.Outcome.next.injEq] at h
  subst h
  repeat' split
  all_goals simp

theorem execHoldoverHistoryRecord_keeps (s : State) (t : State) (h : execHoldoverHistoryRecord s = .next t) :
    t.clock = s.clock ∧ t.power = s.power ∧ t.synth = s.synth ∧ t.bus = s.bus ∧ t.ctl = s.ctl ∧ t.mram = s.mram ∧ t.cfg = s.cfg ∧ t.dep = s.dep ∧ t.log = s.log ∧ t.jtag = s.jtag ∧ t.inp = s.inp ∧ t.conv = s.conv ∧ t.sprint = s.sprint ∧ t.graph = s.graph ∧ t.rout = s.rout ∧ t.out = s.out ∧ t.ports = s.ports ∧ t.link = s.link ∧ t.wake = s.wake ∧ t.pending = s.pending := by
  simp only [execHoldoverHistoryRecord, Host.Outcome.next.injEq] at h
  subst h
  repeat' split
  all_goals simp

theorem execHoldoverExpire_keeps (s : State) (t : State) (h : execHoldoverExpire s = .next t) :
    t.clock = s.clock ∧ t.power = s.power ∧ t.synth = s.synth ∧ t.ctl = s.ctl ∧ t.mram = s.mram ∧ t.cfg = s.cfg ∧ t.dep = s.dep ∧ t.log = s.log ∧ t.jtag = s.jtag ∧ t.inp = s.inp ∧ t.conv = s.conv ∧ t.sprint = s.sprint ∧ t.graph = s.graph ∧ t.rout = s.rout ∧ t.out = s.out ∧ t.ports = s.ports ∧ t.link = s.link ∧ t.wake = s.wake ∧ t.free = s.free ∧ t.pending = s.pending := by
  simp only [execHoldoverExpire, Host.Outcome.next.injEq] at h
  subst h
  repeat' split
  all_goals simp

theorem execForceAct_keeps (s : State) (t : State) (h : execForceAct s = .next t) :
    t.clock = s.clock ∧ t.power = s.power ∧ t.synth = s.synth ∧ t.ctl = s.ctl ∧ t.mram = s.mram ∧ t.cfg = s.cfg ∧ t.dep = s.dep ∧ t.log = s.log ∧ t.jtag = s.jtag ∧ t.inp = s.inp ∧ t.conv = s.conv ∧ t.sprint = s.sprint ∧ t.graph = s.graph ∧ t.rout = s.rout ∧ t.out = s.out ∧ t.ports = s.ports ∧ t.link = s.link ∧ t.wake = s.wake ∧ t.free = s.free ∧ t.pending = s.pending := by
  simp only [execForceAct, Host.Outcome.next.injEq] at h
  subst h
  all_goals simp

theorem execPdmClockSwitch_keeps (c : Fin 2) (s : State) (t : State) (h : execPdmClockSwitch c s = .next t) :
    t.clock = s.clock ∧ t.power = s.power ∧ t.synth = s.synth ∧ t.dpll = s.dpll ∧ t.bus = s.bus ∧ t.ctl = s.ctl ∧ t.mram = s.mram ∧ t.cfg = s.cfg ∧ t.dep = s.dep ∧ t.log = s.log ∧ t.jtag = s.jtag ∧ t.inp = s.inp ∧ t.conv = s.conv ∧ t.sprint = s.sprint ∧ t.graph = s.graph ∧ t.rout = s.rout ∧ t.out = s.out ∧ t.ports = s.ports ∧ t.link = s.link ∧ t.free = s.free ∧ t.pending = s.pending := by
  simp only [execPdmClockSwitch, Host.Outcome.next.injEq] at h
  subst h
  repeat' split
  all_goals simp

theorem execPdmClkSettleEnd_keeps (c : Fin 2) (s : State) (t : State) (h : execPdmClkSettleEnd c s = .next t) :
    t.clock = s.clock ∧ t.power = s.power ∧ t.synth = s.synth ∧ t.dpll = s.dpll ∧ t.bus = s.bus ∧ t.ctl = s.ctl ∧ t.mram = s.mram ∧ t.cfg = s.cfg ∧ t.dep = s.dep ∧ t.log = s.log ∧ t.jtag = s.jtag ∧ t.inp = s.inp ∧ t.sprint = s.sprint ∧ t.graph = s.graph ∧ t.rout = s.rout ∧ t.out = s.out ∧ t.ports = s.ports ∧ t.link = s.link ∧ t.free = s.free ∧ t.pending = s.pending := by
  simp only [execPdmClkSettleEnd, Host.Outcome.next.injEq] at h
  subst h
  repeat' split
  all_goals simp

theorem execHandoverCaughtUp_keeps (s : State) (t : State) (h : execHandoverCaughtUp s = .next t) :
    t.clock = s.clock ∧ t.power = s.power ∧ t.synth = s.synth ∧ t.dpll = s.dpll ∧ t.bus = s.bus ∧ t.ctl = s.ctl ∧ t.mram = s.mram ∧ t.cfg = s.cfg ∧ t.dep = s.dep ∧ t.log = s.log ∧ t.jtag = s.jtag ∧ t.inp = s.inp ∧ t.conv = s.conv ∧ t.sprint = s.sprint ∧ t.graph = s.graph ∧ t.rout = s.rout ∧ t.out = s.out ∧ t.ports = s.ports ∧ t.link = s.link ∧ t.free = s.free ∧ t.pending = s.pending := by
  simp only [execHandoverCaughtUp, Host.Outcome.next.injEq] at h
  subst h
  all_goals simp

theorem execSupplyPorAssert_keeps (supply : Fin 8) (s : State) (t : State) (h : execSupplyPorAssert supply s = .next t) :
    t.mram = s.mram ∧ t.free = s.free ∧ t.pending = s.pending := by
  simp only [execSupplyPorAssert, Host.Outcome.next.injEq] at h
  subst h
  repeat' split
  all_goals simp

theorem execSupplyPorRelease_keeps (supply : Fin 8) (straps : Straps) (s : State) (t : State) (h : execSupplyPorRelease supply straps s = .next t) :
    t.jtag = s.jtag ∧ t.free = s.free ∧ t.pending = s.pending := by
  simp only [execSupplyPorRelease, Host.Outcome.next.injEq] at h
  subst h
  repeat' split
  all_goals simp

theorem execResetNLow_keeps (s : State) (t : State) (h : execResetNLow s = .next t) :
    t.mram = s.mram ∧ t.jtag = s.jtag ∧ t.free = s.free ∧ t.pending = s.pending := by
  simp only [execResetNLow, Host.Outcome.next.injEq] at h
  subst h
  all_goals simp

theorem execResetNRise_keeps (straps : Straps) (s : State) (t : State) (h : execResetNRise straps s = .next t) :
    t.jtag = s.jtag ∧ t.free = s.free ∧ t.pending = s.pending := by
  simp only [execResetNRise, Host.Outcome.next.injEq] at h
  subst h
  all_goals simp

theorem execFirmwareVerify_keeps (s : State) (t : State) (h : execFirmwareVerify s = .next t) :
    t.clock = s.clock ∧ t.synth = s.synth ∧ t.dpll = s.dpll ∧ t.bus = s.bus ∧ t.cfg = s.cfg ∧ t.dep = s.dep ∧ t.jtag = s.jtag ∧ t.sprint = s.sprint ∧ t.graph = s.graph ∧ t.rout = s.rout ∧ t.out = s.out ∧ t.ports = s.ports ∧ t.link = s.link ∧ t.wake = s.wake ∧ t.free = s.free ∧ t.pending = s.pending := by
  simp only [execFirmwareVerify, Host.Outcome.next.injEq] at h
  subst h
  repeat' split
  all_goals simp

theorem execBootIdleReached_keeps (s : State) (t : State) (h : execBootIdleReached s = .next t) :
    t.clock = s.clock ∧ t.mram = s.mram ∧ t.dep = s.dep ∧ t.jtag = s.jtag ∧ t.sprint = s.sprint ∧ t.graph = s.graph ∧ t.rout = s.rout ∧ t.free = s.free ∧ t.pending = s.pending := by
  simp only [execBootIdleReached, Host.Outcome.next.injEq] at h
  subst h
  all_goals simp

theorem execExitComplete_keeps (s : State) (t : State) (h : execExitComplete s = .next t) :
    t.clock = s.clock ∧ t.mram = s.mram ∧ t.dep = s.dep ∧ t.jtag = s.jtag ∧ t.sprint = s.sprint ∧ t.graph = s.graph ∧ t.rout = s.rout ∧ t.free = s.free ∧ t.pending = s.pending := by
  simp only [execExitComplete, Host.Outcome.next.injEq] at h
  subst h
  repeat' split
  all_goals simp

theorem execWakeN_keeps (s : State) (t : State) (h : execWakeN s = .next t) :
    t.jtag = s.jtag ∧ t.free = s.free ∧ t.pending = s.pending := by
  simp only [execWakeN, Host.Outcome.next.injEq] at h
  subst h
  repeat' split
  all_goals simp

theorem execRestTimer_keeps (s : State) (t : State) (h : execRestTimer s = .next t) :
    t.jtag = s.jtag ∧ t.free = s.free ∧ t.pending = s.pending := by
  simp only [execRestTimer, Host.Outcome.next.injEq] at h
  subst h
  repeat' split
  all_goals simp

theorem execBusWake_keeps (s : State) (t : State) (h : execBusWake s = .next t) :
    t.jtag = s.jtag ∧ t.free = s.free ∧ t.pending = s.pending := by
  simp only [execBusWake, Host.Outcome.next.injEq] at h
  subst h
  repeat' split
  all_goals simp

theorem execJackWake_keeps (pin : Fin 4) (level : Bool) (s : State) (t : State) (h : execJackWake pin level s = .next t) :
    t.jtag = s.jtag ∧ t.free = s.free ∧ t.pending = s.pending := by
  simp only [execJackWake, Host.Outcome.next.injEq] at h
  subst h
  repeat' split
  all_goals simp

theorem execBiasRampDownEnd_keeps (s : State) (t : State) (h : execBiasRampDownEnd s = .next t) :
    t.clock = s.clock ∧ t.dpll = s.dpll ∧ t.bus = s.bus ∧ t.ctl = s.ctl ∧ t.cfg = s.cfg ∧ t.dep = s.dep ∧ t.jtag = s.jtag ∧ t.inp = s.inp ∧ t.conv = s.conv ∧ t.sprint = s.sprint ∧ t.graph = s.graph ∧ t.rout = s.rout ∧ t.ports = s.ports ∧ t.link = s.link ∧ t.wake = s.wake ∧ t.free = s.free ∧ t.pending = s.pending := by
  simp only [execBiasRampDownEnd, Host.Outcome.next.injEq] at h
  subst h
  repeat' split
  all_goals simp

theorem execSessionsCloseAtEntry_keeps (s : State) (t : State) (h : execSessionsCloseAtEntry s = .next t) :
    t.clock = s.clock ∧ t.synth = s.synth ∧ t.dpll = s.dpll ∧ t.mram = s.mram ∧ t.cfg = s.cfg ∧ t.dep = s.dep ∧ t.log = s.log ∧ t.jtag = s.jtag ∧ t.inp = s.inp ∧ t.conv = s.conv ∧ t.sprint = s.sprint ∧ t.graph = s.graph ∧ t.rout = s.rout ∧ t.out = s.out ∧ t.ports = s.ports ∧ t.link = s.link ∧ t.wake = s.wake ∧ t.free = s.free ∧ t.pending = s.pending := by
  simp only [execSessionsCloseAtEntry, Host.Outcome.next.injEq] at h
  subst h
  repeat' split
  all_goals simp

theorem execRootStop_keeps (s : State) (t : State) (h : execRootStop s = .next t) :
    t.bus = s.bus ∧ t.ctl = s.ctl ∧ t.mram = s.mram ∧ t.cfg = s.cfg ∧ t.dep = s.dep ∧ t.jtag = s.jtag ∧ t.inp = s.inp ∧ t.sprint = s.sprint ∧ t.graph = s.graph ∧ t.rout = s.rout ∧ t.ports = s.ports ∧ t.link = s.link ∧ t.free = s.free ∧ t.pending = s.pending := by
  simp only [execRootStop, Host.Outcome.next.injEq] at h
  subst h
  repeat' split
  all_goals simp

theorem execModeMuteEnd_keeps (s : State) (t : State) (h : execModeMuteEnd s = .next t) :
    t.clock = s.clock ∧ t.synth = s.synth ∧ t.dpll = s.dpll ∧ t.mram = s.mram ∧ t.cfg = s.cfg ∧ t.dep = s.dep ∧ t.jtag = s.jtag ∧ t.conv = s.conv ∧ t.sprint = s.sprint ∧ t.rout = s.rout ∧ t.free = s.free ∧ t.pending = s.pending := by
  simp only [execModeMuteEnd, Host.Outcome.next.injEq] at h
  subst h
  repeat' split
  all_goals simp

theorem execPowerFailWarning_keeps (dip : SupplyDip) (s : State) (t : State) (h : execPowerFailWarning dip s = .next t) :
    t.clock = s.clock ∧ t.synth = s.synth ∧ t.dpll = s.dpll ∧ t.dep = s.dep ∧ t.jtag = s.jtag ∧ t.inp = s.inp ∧ t.conv = s.conv ∧ t.sprint = s.sprint ∧ t.graph = s.graph ∧ t.rout = s.rout ∧ t.ports = s.ports ∧ t.wake = s.wake ∧ t.free = s.free ∧ t.pending = s.pending := by
  simp only [execPowerFailWarning, Host.Outcome.next.injEq] at h
  subst h
  repeat' split
  all_goals simp

theorem execPowerFailClear_keeps (s : State) (t : State) (h : execPowerFailClear s = .next t) :
    t.clock = s.clock ∧ t.synth = s.synth ∧ t.dpll = s.dpll ∧ t.bus = s.bus ∧ t.ctl = s.ctl ∧ t.mram = s.mram ∧ t.cfg = s.cfg ∧ t.dep = s.dep ∧ t.log = s.log ∧ t.jtag = s.jtag ∧ t.inp = s.inp ∧ t.conv = s.conv ∧ t.sprint = s.sprint ∧ t.graph = s.graph ∧ t.rout = s.rout ∧ t.ports = s.ports ∧ t.link = s.link ∧ t.wake = s.wake ∧ t.free = s.free ∧ t.pending = s.pending := by
  simp only [execPowerFailClear, Host.Outcome.next.injEq] at h
  subst h
  repeat' split
  all_goals simp

theorem execMramWriteResume_keeps (s : State) (t : State) (h : execMramWriteResume s = .next t) :
    t.clock = s.clock ∧ t.synth = s.synth ∧ t.dpll = s.dpll ∧ t.bus = s.bus ∧ t.ctl = s.ctl ∧ t.cfg = s.cfg ∧ t.dep = s.dep ∧ t.log = s.log ∧ t.jtag = s.jtag ∧ t.inp = s.inp ∧ t.conv = s.conv ∧ t.sprint = s.sprint ∧ t.graph = s.graph ∧ t.rout = s.rout ∧ t.out = s.out ∧ t.ports = s.ports ∧ t.link = s.link ∧ t.wake = s.wake ∧ t.free = s.free ∧ t.pending = s.pending := by
  simp only [execMramWriteResume, Host.Outcome.next.injEq] at h
  subst h
  repeat' split
  all_goals simp

theorem execNodeFiringComplete_keeps (runner : Fin 16) (cycle : Nat) (s : State) (t : State) (h : execNodeFiringComplete runner cycle s = .next t) :
    t.clock = s.clock ∧ t.power = s.power ∧ t.synth = s.synth ∧ t.dpll = s.dpll ∧ t.bus = s.bus ∧ t.ctl = s.ctl ∧ t.mram = s.mram ∧ t.cfg = s.cfg ∧ t.dep = s.dep ∧ t.log = s.log ∧ t.jtag = s.jtag ∧ t.inp = s.inp ∧ t.conv = s.conv ∧ t.sprint = s.sprint ∧ t.rout = s.rout ∧ t.out = s.out ∧ t.ports = s.ports ∧ t.link = s.link ∧ t.wake = s.wake ∧ t.free = s.free ∧ t.pending = s.pending := by
  simp only [execNodeFiringComplete, Host.Outcome.next.injEq] at h
  subst h
  repeat' split
  all_goals simp

theorem execRouteCrossfadeEnd_keeps (index : Nat) (s : State) (t : State) (h : execRouteCrossfadeEnd index s = .next t) :
    t.clock = s.clock ∧ t.power = s.power ∧ t.synth = s.synth ∧ t.dpll = s.dpll ∧ t.bus = s.bus ∧ t.ctl = s.ctl ∧ t.mram = s.mram ∧ t.cfg = s.cfg ∧ t.dep = s.dep ∧ t.log = s.log ∧ t.jtag = s.jtag ∧ t.inp = s.inp ∧ t.conv = s.conv ∧ t.sprint = s.sprint ∧ t.graph = s.graph ∧ t.out = s.out ∧ t.ports = s.ports ∧ t.link = s.link ∧ t.wake = s.wake ∧ t.free = s.free ∧ t.pending = s.pending := by
  simp only [execRouteCrossfadeEnd, Host.Outcome.next.injEq] at h
  subst h
  all_goals simp

theorem execRouteGainZeroCrossing_keeps (index : Nat) (s : State) (t : State) (h : execRouteGainZeroCrossing index s = .next t) :
    t.clock = s.clock ∧ t.power = s.power ∧ t.synth = s.synth ∧ t.dpll = s.dpll ∧ t.bus = s.bus ∧ t.ctl = s.ctl ∧ t.mram = s.mram ∧ t.cfg = s.cfg ∧ t.dep = s.dep ∧ t.log = s.log ∧ t.jtag = s.jtag ∧ t.inp = s.inp ∧ t.conv = s.conv ∧ t.sprint = s.sprint ∧ t.graph = s.graph ∧ t.out = s.out ∧ t.ports = s.ports ∧ t.link = s.link ∧ t.wake = s.wake ∧ t.free = s.free ∧ t.pending = s.pending := by
  simp only [execRouteGainZeroCrossing, Host.Outcome.next.injEq] at h
  subst h
  all_goals simp

theorem execRouteGainZcTimeout_keeps (index : Nat) (s : State) (t : State) (h : execRouteGainZcTimeout index s = .next t) :
    t.clock = s.clock ∧ t.power = s.power ∧ t.synth = s.synth ∧ t.dpll = s.dpll ∧ t.bus = s.bus ∧ t.ctl = s.ctl ∧ t.mram = s.mram ∧ t.cfg = s.cfg ∧ t.dep = s.dep ∧ t.log = s.log ∧ t.jtag = s.jtag ∧ t.inp = s.inp ∧ t.conv = s.conv ∧ t.sprint = s.sprint ∧ t.graph = s.graph ∧ t.out = s.out ∧ t.ports = s.ports ∧ t.link = s.link ∧ t.wake = s.wake ∧ t.free = s.free ∧ t.pending = s.pending := by
  simp only [execRouteGainZcTimeout, Host.Outcome.next.injEq] at h
  subst h
  all_goals simp

theorem execGainRampEnd_keeps (index : Nat) (s : State) (t : State) (h : execGainRampEnd index s = .next t) :
    t.clock = s.clock ∧ t.power = s.power ∧ t.synth = s.synth ∧ t.dpll = s.dpll ∧ t.bus = s.bus ∧ t.ctl = s.ctl ∧ t.mram = s.mram ∧ t.cfg = s.cfg ∧ t.dep = s.dep ∧ t.log = s.log ∧ t.jtag = s.jtag ∧ t.inp = s.inp ∧ t.conv = s.conv ∧ t.sprint = s.sprint ∧ t.graph = s.graph ∧ t.out = s.out ∧ t.ports = s.ports ∧ t.link = s.link ∧ t.wake = s.wake ∧ t.free = s.free ∧ t.pending = s.pending := by
  simp only [execGainRampEnd, Host.Outcome.next.injEq] at h
  subst h
  repeat' split
  all_goals simp

theorem execBusScaleRampEnd_keeps (index : Nat) (s : State) (t : State) (h : execBusScaleRampEnd index s = .next t) :
    t.clock = s.clock ∧ t.power = s.power ∧ t.synth = s.synth ∧ t.dpll = s.dpll ∧ t.bus = s.bus ∧ t.ctl = s.ctl ∧ t.mram = s.mram ∧ t.cfg = s.cfg ∧ t.dep = s.dep ∧ t.log = s.log ∧ t.jtag = s.jtag ∧ t.inp = s.inp ∧ t.conv = s.conv ∧ t.sprint = s.sprint ∧ t.graph = s.graph ∧ t.out = s.out ∧ t.ports = s.ports ∧ t.link = s.link ∧ t.wake = s.wake ∧ t.free = s.free ∧ t.pending = s.pending := by
  simp only [execBusScaleRampEnd, Host.Outcome.next.injEq] at h
  subst h
  repeat' split
  all_goals simp

theorem execHpfCrossfadeEnd_keeps (index : Nat) (s : State) (t : State) (h : execHpfCrossfadeEnd index s = .next t) :
    t.clock = s.clock ∧ t.power = s.power ∧ t.synth = s.synth ∧ t.dpll = s.dpll ∧ t.bus = s.bus ∧ t.ctl = s.ctl ∧ t.mram = s.mram ∧ t.cfg = s.cfg ∧ t.dep = s.dep ∧ t.log = s.log ∧ t.jtag = s.jtag ∧ t.inp = s.inp ∧ t.conv = s.conv ∧ t.sprint = s.sprint ∧ t.graph = s.graph ∧ t.out = s.out ∧ t.ports = s.ports ∧ t.link = s.link ∧ t.wake = s.wake ∧ t.free = s.free ∧ t.pending = s.pending := by
  simp only [execHpfCrossfadeEnd, Host.Outcome.next.injEq] at h
  subst h
  all_goals simp

theorem execMeterUpdate_keeps (s : State) (t : State) (h : execMeterUpdate s = .next t) :
    t.clock = s.clock ∧ t.power = s.power ∧ t.synth = s.synth ∧ t.dpll = s.dpll ∧ t.bus = s.bus ∧ t.ctl = s.ctl ∧ t.mram = s.mram ∧ t.cfg = s.cfg ∧ t.dep = s.dep ∧ t.log = s.log ∧ t.jtag = s.jtag ∧ t.inp = s.inp ∧ t.conv = s.conv ∧ t.sprint = s.sprint ∧ t.graph = s.graph ∧ t.out = s.out ∧ t.ports = s.ports ∧ t.link = s.link ∧ t.wake = s.wake ∧ t.free = s.free ∧ t.pending = s.pending := by
  simp only [execMeterUpdate, Host.Outcome.next.injEq] at h
  subst h
  repeat' split
  all_goals simp

theorem execRefillEnd_keeps (s : State) (t : State) (h : execRefillEnd s = .next t) :
    t.clock = s.clock ∧ t.power = s.power ∧ t.jtag = s.jtag ∧ t.sprint = s.sprint ∧ t.rout = s.rout ∧ t.free = s.free ∧ t.pending = s.pending := by
  simp only [execRefillEnd, Host.Outcome.next.injEq] at h
  subst h
  repeat' split
  all_goals simp

theorem execBankSwapCheckDone_keeps (s : State) (t : State) (h : execBankSwapCheckDone s = .next t) :
    t.clock = s.clock ∧ t.power = s.power ∧ t.jtag = s.jtag ∧ t.sprint = s.sprint ∧ t.rout = s.rout ∧ t.pending = s.pending := by
  simp only [execBankSwapCheckDone, Host.Outcome.next.injEq] at h
  subst h
  repeat' split
  all_goals simp

theorem execConsistencyCheckDone_keeps (s : State) (t : State) (h : execConsistencyCheckDone s = .next t) :
    t.clock = s.clock ∧ t.jtag = s.jtag ∧ t.sprint = s.sprint ∧ t.rout = s.rout ∧ t.pending = s.pending := by
  simp only [execConsistencyCheckDone, Host.Outcome.next.injEq] at h
  subst h
  repeat' split
  all_goals simp

theorem execConfigSaveComplete_keeps (s : State) (t : State) (h : execConfigSaveComplete s = .next t) :
    t.clock = s.clock ∧ t.power = s.power ∧ t.synth = s.synth ∧ t.dpll = s.dpll ∧ t.dep = s.dep ∧ t.log = s.log ∧ t.jtag = s.jtag ∧ t.inp = s.inp ∧ t.conv = s.conv ∧ t.sprint = s.sprint ∧ t.graph = s.graph ∧ t.rout = s.rout ∧ t.out = s.out ∧ t.ports = s.ports ∧ t.wake = s.wake ∧ t.free = s.free ∧ t.pending = s.pending := by
  simp only [execConfigSaveComplete, Host.Outcome.next.injEq] at h
  subst h
  repeat' split
  all_goals simp

theorem execAutorun_keeps (s : State) (t : State) (h : execAutorun s = .next t) :
    t.clock = s.clock ∧ t.jtag = s.jtag ∧ t.free = s.free ∧ t.pending = s.pending := by
  simp only [execAutorun, Host.Outcome.next.injEq] at h
  subst h
  repeat' split
  all_goals simp

theorem execControlRestart_keeps (s : State) (t : State) (h : execControlRestart s = .next t) :
    t.clock = s.clock ∧ t.synth = s.synth ∧ t.dpll = s.dpll ∧ t.mram = s.mram ∧ t.log = s.log ∧ t.jtag = s.jtag ∧ t.inp = s.inp ∧ t.conv = s.conv ∧ t.sprint = s.sprint ∧ t.graph = s.graph ∧ t.rout = s.rout ∧ t.out = s.out ∧ t.ports = s.ports ∧ t.wake = s.wake ∧ t.free = s.free ∧ t.pending = s.pending := by
  simp only [execControlRestart, Host.Outcome.next.injEq] at h
  subst h
  repeat' split
  all_goals simp

theorem execWatchdogExpiry_keeps (s : State) (t : State) (h : execWatchdogExpiry s = .next t) :
    t.clock = s.clock ∧ t.synth = s.synth ∧ t.dpll = s.dpll ∧ t.mram = s.mram ∧ t.jtag = s.jtag ∧ t.inp = s.inp ∧ t.conv = s.conv ∧ t.sprint = s.sprint ∧ t.graph = s.graph ∧ t.rout = s.rout ∧ t.out = s.out ∧ t.ports = s.ports ∧ t.wake = s.wake ∧ t.free = s.free ∧ t.pending = s.pending := by
  simp only [execWatchdogExpiry, Host.Outcome.next.injEq] at h
  subst h
  repeat' split
  all_goals simp

theorem execRestartComplete_keeps (s : State) (t : State) (h : execRestartComplete s = .next t) :
    t.clock = s.clock ∧ t.power = s.power ∧ t.synth = s.synth ∧ t.dpll = s.dpll ∧ t.cfg = s.cfg ∧ t.jtag = s.jtag ∧ t.inp = s.inp ∧ t.conv = s.conv ∧ t.sprint = s.sprint ∧ t.graph = s.graph ∧ t.rout = s.rout ∧ t.out = s.out ∧ t.ports = s.ports ∧ t.link = s.link ∧ t.wake = s.wake ∧ t.free = s.free ∧ t.pending = s.pending := by
  simp only [execRestartComplete, Host.Outcome.next.injEq] at h
  subst h
  repeat' split
  all_goals simp

theorem execFwCommitVerifyDone_keeps (s : State) (t : State) (h : execFwCommitVerifyDone s = .next t) :
    t.clock = s.clock ∧ t.synth = s.synth ∧ t.dpll = s.dpll ∧ t.jtag = s.jtag ∧ t.inp = s.inp ∧ t.conv = s.conv ∧ t.sprint = s.sprint ∧ t.graph = s.graph ∧ t.rout = s.rout ∧ t.out = s.out ∧ t.ports = s.ports ∧ t.wake = s.wake ∧ t.free = s.free ∧ t.pending = s.pending := by
  simp only [execFwCommitVerifyDone, Host.Outcome.next.injEq] at h
  subst h
  repeat' split
  all_goals simp

theorem execBankWordRestore_keeps (active : Bool) (kind index : Nat) (s : State) (t : State) (h : execBankWordRestore active kind index s = .next t) :
    t.clock = s.clock ∧ t.power = s.power ∧ t.synth = s.synth ∧ t.dpll = s.dpll ∧ t.bus = s.bus ∧ t.ctl = s.ctl ∧ t.mram = s.mram ∧ t.log = s.log ∧ t.jtag = s.jtag ∧ t.ports = s.ports ∧ t.wake = s.wake ∧ t.free = s.free ∧ t.pending = s.pending := by
  simp only [execBankWordRestore, Host.Outcome.next.injEq] at h
  subst h
  repeat' split
  all_goals simp

theorem execScrubVisit_keeps (mem runner word : Nat) (found : Fin 4) (late : Bool) (s : State) (t : State) (h : execScrubVisit mem runner word found late s = .next t) :
    t.clock = s.clock ∧ t.synth = s.synth ∧ t.dpll = s.dpll ∧ t.jtag = s.jtag ∧ t.inp = s.inp ∧ t.conv = s.conv ∧ t.pending = s.pending := by
  simp only [execScrubVisit, Host.Outcome.next.injEq] at h
  subst h
  repeat' split
  all_goals simp

theorem execConverterBridgeParityError_keeps (ch : Fin 52) (core : Bool) (s : State) (t : State) (h : execConverterBridgeParityError ch core s = .next t) :
    t.clock = s.clock ∧ t.power = s.power ∧ t.synth = s.synth ∧ t.dpll = s.dpll ∧ t.ctl = s.ctl ∧ t.mram = s.mram ∧ t.cfg = s.cfg ∧ t.jtag = s.jtag ∧ t.inp = s.inp ∧ t.sprint = s.sprint ∧ t.graph = s.graph ∧ t.rout = s.rout ∧ t.ports = s.ports ∧ t.link = s.link ∧ t.wake = s.wake ∧ t.pending = s.pending := by
  simp only [execConverterBridgeParityError, Host.Outcome.next.injEq] at h
  subst h
  repeat' split
  all_goals simp

theorem execPowerBridgeParityError_keeps (spk : Fin 4) (s : State) (t : State) (h : execPowerBridgeParityError spk s = .next t) :
    t.clock = s.clock ∧ t.power = s.power ∧ t.synth = s.synth ∧ t.dpll = s.dpll ∧ t.ctl = s.ctl ∧ t.mram = s.mram ∧ t.cfg = s.cfg ∧ t.jtag = s.jtag ∧ t.inp = s.inp ∧ t.sprint = s.sprint ∧ t.graph = s.graph ∧ t.rout = s.rout ∧ t.ports = s.ports ∧ t.link = s.link ∧ t.wake = s.wake ∧ t.pending = s.pending := by
  simp only [execPowerBridgeParityError, Host.Outcome.next.injEq] at h
  subst h
  repeat' split
  all_goals simp

theorem execHistogramSample_keeps (s : State) (t : State) (h : execHistogramSample s = .next t) :
    t.clock = s.clock ∧ t.power = s.power ∧ t.synth = s.synth ∧ t.dpll = s.dpll ∧ t.bus = s.bus ∧ t.ctl = s.ctl ∧ t.mram = s.mram ∧ t.cfg = s.cfg ∧ t.dep = s.dep ∧ t.jtag = s.jtag ∧ t.inp = s.inp ∧ t.conv = s.conv ∧ t.sprint = s.sprint ∧ t.graph = s.graph ∧ t.rout = s.rout ∧ t.out = s.out ∧ t.ports = s.ports ∧ t.link = s.link ∧ t.wake = s.wake ∧ t.free = s.free ∧ t.pending = s.pending := by
  simp only [execHistogramSample, Host.Outcome.next.injEq] at h
  subst h
  repeat' split
  all_goals simp

theorem execJtagInstruction_keeps (code : Nat) (s : State) (t : State) (h : execJtagInstruction code s = .next t) :
    t.free = s.free ∧ t.pending = s.pending := by
  simp only [execJtagInstruction, Host.Outcome.next.injEq] at h
  subst h
  all_goals simp

theorem execTapReset_keeps (s : State) (t : State) (h : execTapReset s = .next t) :
    t.free = s.free ∧ t.pending = s.pending := by
  simp only [execTapReset, Host.Outcome.next.injEq] at h
  subst h
  all_goals simp

theorem execHello_keeps (q : Req) (s : State) (t : State) (h : execHello q s = .next t) :
    t.clock = s.clock ∧ t.jtag = s.jtag ∧ t.pending = s.pending := by
  simp only [execHello, Host.Outcome.next.injEq] at h
  subst h
  all_goals simp

theorem execSessionOpen_keeps (q : Req) (s : State) (t : State) (h : execSessionOpen q s = .next t) :
    t.clock = s.clock ∧ t.jtag = s.jtag ∧ t.pending = s.pending := by
  simp only [execSessionOpen, Host.Outcome.next.injEq] at h
  subst h
  all_goals simp

theorem execSessionProve_keeps (q : Req) (s : State) (t : State) (h : execSessionProve q s = .next t) :
    t.clock = s.clock ∧ t.jtag = s.jtag ∧ t.pending = s.pending := by
  simp only [execSessionProve, Host.Outcome.next.injEq] at h
  subst h
  all_goals simp

theorem execSessionClose_keeps (q : Req) (s : State) (t : State) (h : execSessionClose q s = .next t) :
    t.clock = s.clock ∧ t.jtag = s.jtag ∧ t.pending = s.pending := by
  simp only [execSessionClose, Host.Outcome.next.injEq] at h
  subst h
  all_goals simp

theorem execKeyChange_keeps (q : Req) (s : State) (t : State) (h : execKeyChange q s = .next t) :
    t.clock = s.clock ∧ t.jtag = s.jtag ∧ t.pending = s.pending := by
  simp only [execKeyChange, Host.Outcome.next.injEq] at h
  subst h
  all_goals simp

theorem execIdentity_keeps (q : Req) (s : State) (t : State) (h : execIdentity q s = .next t) :
    t.clock = s.clock ∧ t.jtag = s.jtag ∧ t.pending = s.pending := by
  simp only [execIdentity, Host.Outcome.next.injEq] at h
  subst h
  all_goals simp

theorem execParamRead_keeps (q : Req) (s : State) (t : State) (h : execParamRead q s = .next t) :
    t.clock = s.clock ∧ t.jtag = s.jtag ∧ t.pending = s.pending := by
  simp only [execParamRead, Host.Outcome.next.injEq] at h
  subst h
  all_goals simp

theorem execParamWrite_keeps (q : Req) (s : State) (t : State) (h : execParamWrite q s = .next t) :
    t.clock = s.clock ∧ t.jtag = s.jtag ∧ t.pending = s.pending := by
  simp only [execParamWrite, Host.Outcome.next.injEq] at h
  subst h
  all_goals simp

theorem execParamWriteBlock_keeps (q : Req) (s : State) (t : State) (h : execParamWriteBlock q s = .next t) :
    t.clock = s.clock ∧ t.jtag = s.jtag ∧ t.pending = s.pending := by
  simp only [execParamWriteBlock, Host.Outcome.next.injEq] at h
  subst h
  all_goals simp

theorem execBankSwap_keeps (q : Req) (s : State) (t : State) (h : execBankSwap q s = .next t) :
    t.clock = s.clock ∧ t.jtag = s.jtag ∧ t.pending = s.pending := by
  simp only [execBankSwap, Host.Outcome.next.injEq] at h
  subst h
  all_goals simp

theorem execNodeParamWrite_keeps (q : Req) (s : State) (t : State) (h : execNodeParamWrite q s = .next t) :
    t.clock = s.clock ∧ t.jtag = s.jtag ∧ t.pending = s.pending := by
  simp only [execNodeParamWrite, Host.Outcome.next.injEq] at h
  subst h
  all_goals simp

theorem execNodeParamRead_keeps (q : Req) (s : State) (t : State) (h : execNodeParamRead q s = .next t) :
    t.clock = s.clock ∧ t.jtag = s.jtag ∧ t.pending = s.pending := by
  simp only [execNodeParamRead, Host.Outcome.next.injEq] at h
  subst h
  all_goals simp

theorem execSprintWrite_keeps (q : Req) (s : State) (t : State) (h : execSprintWrite q s = .next t) :
    t.clock = s.clock ∧ t.jtag = s.jtag ∧ t.pending = s.pending := by
  simp only [execSprintWrite, Host.Outcome.next.injEq] at h
  subst h
  all_goals simp

theorem execSprintRead_keeps (q : Req) (s : State) (t : State) (h : execSprintRead q s = .next t) :
    t.clock = s.clock ∧ t.jtag = s.jtag ∧ t.pending = s.pending := by
  simp only [execSprintRead, Host.Outcome.next.injEq] at h
  subst h
  all_goals simp

theorem execArm_keeps (q : Req) (s : State) (t : State) (h : execArm q s = .next t) :
    t.clock = s.clock ∧ t.jtag = s.jtag ∧ t.pending = s.pending := by
  simp only [execArm, Host.Outcome.next.injEq] at h
  subst h
  all_goals simp

theorem execDisarm_keeps (q : Req) (s : State) (t : State) (h : execDisarm q s = .next t) :
    t.clock = s.clock ∧ t.jtag = s.jtag ∧ t.pending = s.pending := by
  simp only [execDisarm, Host.Outcome.next.injEq] at h
  subst h
  all_goals simp

theorem execSetMode_keeps (q : Req) (s : State) (t : State) (h : execSetMode q s = .next t) :
    t.clock = s.clock ∧ t.jtag = s.jtag ∧ t.pending = s.pending := by
  simp only [execSetMode, Host.Outcome.next.injEq] at h
  subst h
  all_goals simp

theorem execStartGroup_keeps (q : Req) (s : State) (t : State) (h : execStartGroup q s = .next t) :
    t.clock = s.clock ∧ t.jtag = s.jtag ∧ t.pending = s.pending := by
  simp only [execStartGroup, Host.Outcome.next.injEq] at h
  subst h
  all_goals simp

theorem execGraphLoad_keeps (q : Req) (s : State) (t : State) (h : execGraphLoad q s = .next t) :
    t.clock = s.clock ∧ t.jtag = s.jtag ∧ t.pending = s.pending := by
  simp only [execGraphLoad, Host.Outcome.next.injEq] at h
  subst h
  all_goals simp

theorem execGraphCheck_keeps (q : Req) (s : State) (t : State) (h : execGraphCheck q s = .next t) :
    t.clock = s.clock ∧ t.jtag = s.jtag ∧ t.pending = s.pending := by
  simp only [execGraphCheck, Host.Outcome.next.injEq] at h
  subst h
  all_goals simp

theorem execRunaheadSet_keeps (q : Req) (s : State) (t : State) (h : execRunaheadSet q s = .next t) :
    t.clock = s.clock ∧ t.jtag = s.jtag ∧ t.pending = s.pending := by
  simp only [execRunaheadSet, Host.Outcome.next.injEq] at h
  subst h
  all_goals simp

theorem execTraceRead_keeps (q : Req) (s : State) (t : State) (h : execTraceRead q s = .next t) :
    t.clock = s.clock ∧ t.jtag = s.jtag ∧ t.pending = s.pending := by
  simp only [execTraceRead, Host.Outcome.next.injEq] at h
  subst h
  all_goals simp

theorem execStatusRead_keeps (q : Req) (s : State) (t : State) (h : execStatusRead q s = .next t) :
    t.clock = s.clock ∧ t.jtag = s.jtag ∧ t.pending = s.pending := by
  simp only [execStatusRead, Host.Outcome.next.injEq] at h
  subst h
  all_goals simp

theorem execStickyClear_keeps (q : Req) (s : State) (t : State) (h : execStickyClear q s = .next t) :
    t.clock = s.clock ∧ t.jtag = s.jtag ∧ t.pending = s.pending := by
  simp only [execStickyClear, Host.Outcome.next.injEq] at h
  subst h
  all_goals simp

theorem execAttnAck_keeps (q : Req) (s : State) (t : State) (h : execAttnAck q s = .next t) :
    t.clock = s.clock ∧ t.jtag = s.jtag ∧ t.pending = s.pending := by
  simp only [execAttnAck, Host.Outcome.next.injEq] at h
  subst h
  all_goals simp

theorem execClaim_keeps (q : Req) (s : State) (t : State) (h : execClaim q s = .next t) :
    t.clock = s.clock ∧ t.jtag = s.jtag ∧ t.pending = s.pending := by
  simp only [execClaim, Host.Outcome.next.injEq] at h
  subst h
  all_goals simp

theorem execRelease_keeps (q : Req) (s : State) (t : State) (h : execRelease q s = .next t) :
    t.clock = s.clock ∧ t.jtag = s.jtag ∧ t.pending = s.pending := by
  simp only [execRelease, Host.Outcome.next.injEq] at h
  subst h
  all_goals simp

theorem execConfigSave_keeps (q : Req) (s : State) (t : State) (h : execConfigSave q s = .next t) :
    t.clock = s.clock ∧ t.jtag = s.jtag ∧ t.pending = s.pending := by
  simp only [execConfigSave, Host.Outcome.next.injEq] at h
  subst h
  all_goals simp

theorem execConfigRecall_keeps (q : Req) (s : State) (t : State) (h : execConfigRecall q s = .next t) :
    t.clock = s.clock ∧ t.jtag = s.jtag ∧ t.pending = s.pending := by
  simp only [execConfigRecall, Host.Outcome.next.injEq] at h
  subst h
  all_goals simp

theorem execFwStage_keeps (q : Req) (s : State) (t : State) (h : execFwStage q s = .next t) :
    t.clock = s.clock ∧ t.jtag = s.jtag ∧ t.pending = s.pending := by
  simp only [execFwStage, Host.Outcome.next.injEq] at h
  subst h
  all_goals simp

theorem execFwCommit_keeps (q : Req) (s : State) (t : State) (h : execFwCommit q s = .next t) :
    t.clock = s.clock ∧ t.jtag = s.jtag ∧ t.pending = s.pending := by
  simp only [execFwCommit, Host.Outcome.next.injEq] at h
  subst h
  all_goals simp

theorem execLedgerRead_keeps (q : Req) (s : State) (t : State) (h : execLedgerRead q s = .next t) :
    t.clock = s.clock ∧ t.jtag = s.jtag ∧ t.pending = s.pending := by
  simp only [execLedgerRead, Host.Outcome.next.injEq] at h
  subst h
  all_goals simp

theorem execLifelogRead_keeps (q : Req) (s : State) (t : State) (h : execLifelogRead q s = .next t) :
    t.clock = s.clock ∧ t.jtag = s.jtag ∧ t.pending = s.pending := by
  simp only [execLifelogRead, Host.Outcome.next.injEq] at h
  subst h
  all_goals simp

theorem execRefForce_keeps (q : Req) (s : State) (t : State) (h : execRefForce q s = .next t) :
    t.clock = s.clock ∧ t.jtag = s.jtag ∧ t.pending = s.pending := by
  simp only [execRefForce, Host.Outcome.next.injEq] at h
  subst h
  all_goals simp

theorem execSteer_keeps (q : Req) (s : State) (t : State) (h : execSteer q s = .next t) :
    t.clock = s.clock ∧ t.jtag = s.jtag ∧ t.pending = s.pending := by
  simp only [execSteer, Host.Outcome.next.injEq] at h
  subst h
  all_goals simp

theorem execLinkDiscover_keeps (q : Req) (s : State) (t : State) (h : execLinkDiscover q s = .next t) :
    t.clock = s.clock ∧ t.jtag = s.jtag ∧ t.pending = s.pending := by
  simp only [execLinkDiscover, Host.Outcome.next.injEq] at h
  subst h
  all_goals simp

theorem execLinkAssignId_keeps (q : Req) (s : State) (t : State) (h : execLinkAssignId q s = .next t) :
    t.clock = s.clock ∧ t.jtag = s.jtag ∧ t.pending = s.pending := by
  simp only [execLinkAssignId, Host.Outcome.next.injEq] at h
  subst h
  all_goals simp

theorem execLinkSetOffset_keeps (q : Req) (s : State) (t : State) (h : execLinkSetOffset q s = .next t) :
    t.clock = s.clock ∧ t.jtag = s.jtag ∧ t.pending = s.pending := by
  simp only [execLinkSetOffset, Host.Outcome.next.injEq] at h
  subst h
  all_goals simp

theorem execLinkSlotWrite_keeps (q : Req) (s : State) (t : State) (h : execLinkSlotWrite q s = .next t) :
    t.clock = s.clock ∧ t.jtag = s.jtag ∧ t.pending = s.pending := by
  simp only [execLinkSlotWrite, Host.Outcome.next.injEq] at h
  subst h
  all_goals simp

theorem execLinkSlotRead_keeps (q : Req) (s : State) (t : State) (h : execLinkSlotRead q s = .next t) :
    t.clock = s.clock ∧ t.jtag = s.jtag ∧ t.pending = s.pending := by
  simp only [execLinkSlotRead, Host.Outcome.next.injEq] at h
  subst h
  all_goals simp

theorem execWakeTemplateLoad_keeps (q : Req) (s : State) (t : State) (h : execWakeTemplateLoad q s = .next t) :
    t.clock = s.clock ∧ t.jtag = s.jtag ∧ t.pending = s.pending := by
  simp only [execWakeTemplateLoad, Host.Outcome.next.injEq] at h
  subst h
  all_goals simp

theorem execHistoryHandover_keeps (q : Req) (s : State) (t : State) (h : execHistoryHandover q s = .next t) :
    t.clock = s.clock ∧ t.jtag = s.jtag ∧ t.pending = s.pending := by
  simp only [execHistoryHandover, Host.Outcome.next.injEq] at h
  subst h
  all_goals simp

theorem execCkXoFreqWrite_keeps (q : Req) (s : State) (t : State) (h : execCkXoFreqWrite q s = .next t) :
    t.clock = s.clock ∧ t.jtag = s.jtag ∧ t.pending = s.pending := by
  simp only [execCkXoFreqWrite, Host.Outcome.next.injEq] at h
  subst h
  all_goals simp

theorem execCkSteerWrite_keeps (q : Req) (s : State) (t : State) (h : execCkSteerWrite q s = .next t) :
    t.clock = s.clock ∧ t.jtag = s.jtag ∧ t.pending = s.pending := by
  simp only [execCkSteerWrite, Host.Outcome.next.injEq] at h
  subst h
  all_goals simp

theorem execCvOrderWrite_keeps (q : Req) (s : State) (t : State) (h : execCvOrderWrite q s = .next t) :
    t.clock = s.clock ∧ t.jtag = s.jtag ∧ t.pending = s.pending := by
  simp only [execCvOrderWrite, Host.Outcome.next.injEq] at h
  subst h
  all_goals simp

theorem execSpOrderWrite_keeps (q : Req) (s : State) (t : State) (h : execSpOrderWrite q s = .next t) :
    t.clock = s.clock ∧ t.jtag = s.jtag ∧ t.pending = s.pending := by
  simp only [execSpOrderWrite, Host.Outcome.next.injEq] at h
  subst h
  all_goals simp

theorem execPortMaskWrite_keeps (q : Req) (s : State) (t : State) (h : execPortMaskWrite q s = .next t) :
    t.clock = s.clock ∧ t.jtag = s.jtag ∧ t.pending = s.pending := by
  simp only [execPortMaskWrite, Host.Outcome.next.injEq] at h
  subst h
  all_goals simp

theorem execMtCfgWrite_keeps (q : Req) (s : State) (t : State) (h : execMtCfgWrite q s = .next t) :
    t.clock = s.clock ∧ t.jtag = s.jtag ∧ t.pending = s.pending := by
  simp only [execMtCfgWrite, Host.Outcome.next.injEq] at h
  subst h
  all_goals simp

theorem execGrRunaheadWrite_keeps (q : Req) (s : State) (t : State) (h : execGrRunaheadWrite q s = .next t) :
    t.clock = s.clock ∧ t.jtag = s.jtag ∧ t.pending = s.pending := by
  simp only [execGrRunaheadWrite, Host.Outcome.next.injEq] at h
  subst h
  all_goals simp

theorem execGrTraceWrite_keeps (q : Req) (s : State) (t : State) (h : execGrTraceWrite q s = .next t) :
    t.clock = s.clock ∧ t.jtag = s.jtag ∧ t.pending = s.pending := by
  simp only [execGrTraceWrite, Host.Outcome.next.injEq] at h
  subst h
  all_goals simp

theorem execRefParamWrite_keeps (q : Req) (s : State) (t : State) (h : execRefParamWrite q s = .next t) :
    t.clock = s.clock ∧ t.jtag = s.jtag ∧ t.pending = s.pending := by
  simp only [execRefParamWrite, Host.Outcome.next.injEq] at h
  subst h
  all_goals simp

theorem execWakeParamWrite_keeps (q : Req) (s : State) (t : State) (h : execWakeParamWrite q s = .next t) :
    t.clock = s.clock ∧ t.jtag = s.jtag ∧ t.pending = s.pending := by
  simp only [execWakeParamWrite, Host.Outcome.next.injEq] at h
  subst h
  all_goals simp

theorem execDeviceRecordParamWrite_keeps (q : Req) (s : State) (t : State) (h : execDeviceRecordParamWrite q s = .next t) :
    t.clock = s.clock ∧ t.jtag = s.jtag ∧ t.pending = s.pending := by
  simp only [execDeviceRecordParamWrite, Host.Outcome.next.injEq] at h
  subst h
  all_goals simp

theorem execRemoteForward_keeps (q : Req) (target : Fin 1024) (opcode : BitVec 15) (s : State) (t : State) (h : execRemoteForward q target opcode s = .next t) :
    t.clock = s.clock ∧ t.jtag = s.jtag ∧ t.pending = s.pending := by
  simp only [execRemoteForward, Host.Outcome.next.injEq] at h
  subst h
  repeat' split
  all_goals simp

theorem execControlCellReceived_keeps (x : Fin 2) (cell : LinkCell) (s : State) (t : State) (h : execControlCellReceived x cell s = .next t) :
    t.clock = s.clock ∧ t.power = s.power ∧ t.synth = s.synth ∧ t.dpll = s.dpll ∧ t.mram = s.mram ∧ t.cfg = s.cfg ∧ t.dep = s.dep ∧ t.log = s.log ∧ t.jtag = s.jtag ∧ t.inp = s.inp ∧ t.conv = s.conv ∧ t.sprint = s.sprint ∧ t.graph = s.graph ∧ t.rout = s.rout ∧ t.out = s.out ∧ t.ports = s.ports ∧ t.wake = s.wake ∧ t.free = s.free ∧ t.pending = s.pending := by
  simp only [execControlCellReceived, Host.Outcome.next.injEq] at h
  subst h
  repeat' split
  all_goals simp

theorem execRemotePacketReassembled_keeps (x : Fin 2) (src : Fin 1024) (seq : Fin 256) (s : State) (t : State) (h : execRemotePacketReassembled x src seq s = .next t) :
    t.clock = s.clock ∧ t.power = s.power ∧ t.synth = s.synth ∧ t.dpll = s.dpll ∧ t.mram = s.mram ∧ t.cfg = s.cfg ∧ t.dep = s.dep ∧ t.log = s.log ∧ t.jtag = s.jtag ∧ t.inp = s.inp ∧ t.conv = s.conv ∧ t.sprint = s.sprint ∧ t.graph = s.graph ∧ t.rout = s.rout ∧ t.out = s.out ∧ t.ports = s.ports ∧ t.wake = s.wake ∧ t.free = s.free ∧ t.pending = s.pending := by
  simp only [execRemotePacketReassembled, Host.Outcome.next.injEq] at h
  subst h
  repeat' split
  all_goals simp

theorem execRemoteReplyReceived_keeps (x : Fin 2) (src : Fin 1024) (seq : Fin 256) (s : State) (t : State) (h : execRemoteReplyReceived x src seq s = .next t) :
    t.clock = s.clock ∧ t.power = s.power ∧ t.synth = s.synth ∧ t.dpll = s.dpll ∧ t.mram = s.mram ∧ t.cfg = s.cfg ∧ t.dep = s.dep ∧ t.log = s.log ∧ t.jtag = s.jtag ∧ t.inp = s.inp ∧ t.conv = s.conv ∧ t.sprint = s.sprint ∧ t.graph = s.graph ∧ t.rout = s.rout ∧ t.out = s.out ∧ t.ports = s.ports ∧ t.wake = s.wake ∧ t.free = s.free ∧ t.pending = s.pending := by
  simp only [execRemoteReplyReceived, Host.Outcome.next.injEq] at h
  subst h
  repeat' split
  all_goals simp

theorem execRemoteTimeout_keeps (seq : Fin 256) (s : State) (t : State) (h : execRemoteTimeout seq s = .next t) :
    t.clock = s.clock ∧ t.power = s.power ∧ t.synth = s.synth ∧ t.dpll = s.dpll ∧ t.mram = s.mram ∧ t.cfg = s.cfg ∧ t.dep = s.dep ∧ t.log = s.log ∧ t.jtag = s.jtag ∧ t.inp = s.inp ∧ t.conv = s.conv ∧ t.sprint = s.sprint ∧ t.graph = s.graph ∧ t.rout = s.rout ∧ t.out = s.out ∧ t.ports = s.ports ∧ t.wake = s.wake ∧ t.free = s.free ∧ t.pending = s.pending := by
  simp only [execRemoteTimeout, Host.Outcome.next.injEq] at h
  subst h
  repeat' split
  all_goals simp

theorem execTickBoundary_keeps (s : State) (t : State) (h : execTickBoundary s = .next t) :
    t.jtag = s.jtag ∧ t.pending = s.pending := by
  simp only [execTickBoundary, Host.Outcome.next.injEq] at h
  subst h
  repeat' split
  all_goals simp

theorem execBankSwapAct_keeps (s : State) (t : State) (h : execBankSwapAct s = .next t) :
    t.mram = s.mram ∧ t.jtag = s.jtag ∧ t.pending = s.pending := by
  simp only [execBankSwapAct, Host.Outcome.next.injEq] at h
  subst h
  repeat' split
  all_goals simp

theorem execParamEventApply_keeps (s : State) (t : State) (h : execParamEventApply s = .next t) :
    t.clock = s.clock ∧ t.synth = s.synth ∧ t.dpll = s.dpll ∧ t.mram = s.mram ∧ t.jtag = s.jtag ∧ t.free = s.free ∧ t.pending = s.pending := by
  simp only [execParamEventApply, Host.Outcome.next.injEq] at h
  subst h
  repeat' split
  all_goals simp

theorem execArmTick_keeps (s : State) (t : State) (h : execArmTick s = .next t) :
    t.mram = s.mram ∧ t.jtag = s.jtag ∧ t.pending = s.pending := by
  simp only [execArmTick, Host.Outcome.next.injEq] at h
  subst h
  repeat' split
  all_goals simp

theorem execGunFire_keeps (s : State) (t : State) (h : execGunFire s = .next t) :
    t.mram = s.mram ∧ t.jtag = s.jtag ∧ t.pending = s.pending := by
  simp only [execGunFire, Host.Outcome.next.injEq] at h
  subst h
  repeat' split
  all_goals simp

theorem execPortExchange_keeps (p : Fin 6) (s : State) (t : State) (h : execPortExchange p s = .next t) :
    t.mram = s.mram ∧ t.jtag = s.jtag ∧ t.pending = s.pending := by
  simp only [execPortExchange, Host.Outcome.next.injEq] at h
  subst h
  repeat' split
  all_goals simp

theorem execHandoverStart_keeps (s : State) (t : State) (h : execHandoverStart s = .next t) :
    t.mram = s.mram ∧ t.jtag = s.jtag ∧ t.pending = s.pending := by
  simp only [execHandoverStart, Host.Outcome.next.injEq] at h
  subst h
  repeat' split
  all_goals simp

theorem execErrorInject_keeps (s : State) (t : State) (h : execErrorInject s = .next t) :
    t.mram = s.mram ∧ t.jtag = s.jtag ∧ t.pending = s.pending := by
  simp only [execErrorInject, Host.Outcome.next.injEq] at h
  subst h
  repeat' split
  all_goals simp

theorem execSprintSample_keeps (levels : List (List Int)) (pdm : List Bool) (s : State) (t : State) (h : execSprintSample levels pdm s = .next t) :
    t.mram = s.mram ∧ t.jtag = s.jtag ∧ t.pending = s.pending := by
  simp only [execSprintSample, Host.Outcome.next.injEq] at h
  subst h
  repeat' split
  all_goals simp

theorem execMeasConversionEnd_keeps (ms : Fin 14) (value : Int) (s : State) (t : State) (h : execMeasConversionEnd ms value s = .next t) :
    t.clock = s.clock ∧ t.power = s.power ∧ t.synth = s.synth ∧ t.dpll = s.dpll ∧ t.ctl = s.ctl ∧ t.mram = s.mram ∧ t.cfg = s.cfg ∧ t.jtag = s.jtag ∧ t.inp = s.inp ∧ t.sprint = s.sprint ∧ t.graph = s.graph ∧ t.rout = s.rout ∧ t.ports = s.ports ∧ t.link = s.link ∧ t.wake = s.wake ∧ t.free = s.free ∧ t.pending = s.pending := by
  simp only [execMeasConversionEnd, Host.Outcome.next.injEq] at h
  subst h
  repeat' split
  all_goals simp

theorem execMailboxWrite_keeps (twi : Bool) (head : Option (List Byte)) (bytes : List Byte) (s : State) (t : State) (h : execMailboxWrite twi head bytes s = .next t) :
    t.clock = s.clock ∧ t.power = s.power ∧ t.synth = s.synth ∧ t.dpll = s.dpll ∧ t.mram = s.mram ∧ t.cfg = s.cfg ∧ t.dep = s.dep ∧ t.log = s.log ∧ t.jtag = s.jtag ∧ t.inp = s.inp ∧ t.conv = s.conv ∧ t.sprint = s.sprint ∧ t.graph = s.graph ∧ t.rout = s.rout ∧ t.out = s.out ∧ t.ports = s.ports ∧ t.wake = s.wake ∧ t.free = s.free ∧ t.pending = s.pending := by
  simp only [execMailboxWrite, Host.Outcome.next.injEq] at h
  subst h
  repeat' split
  all_goals simp

theorem execReplyPageRead_keeps (twi : Bool) (head : Option ReadHead) (len : Nat) (s : State) (t : State) (h : execReplyPageRead twi head len s = .next t) :
    t.clock = s.clock ∧ t.power = s.power ∧ t.synth = s.synth ∧ t.dpll = s.dpll ∧ t.mram = s.mram ∧ t.cfg = s.cfg ∧ t.dep = s.dep ∧ t.log = s.log ∧ t.jtag = s.jtag ∧ t.inp = s.inp ∧ t.conv = s.conv ∧ t.sprint = s.sprint ∧ t.graph = s.graph ∧ t.rout = s.rout ∧ t.out = s.out ∧ t.ports = s.ports ∧ t.wake = s.wake ∧ t.free = s.free ∧ t.pending = s.pending := by
  simp only [execReplyPageRead, Host.Outcome.next.injEq] at h
  subst h
  repeat' split
  all_goals simp

theorem execAttnCauseRead_keeps (twi : Bool) (s : State) (t : State) (h : execAttnCauseRead twi s = .next t) :
    t.clock = s.clock ∧ t.power = s.power ∧ t.synth = s.synth ∧ t.dpll = s.dpll ∧ t.mram = s.mram ∧ t.cfg = s.cfg ∧ t.dep = s.dep ∧ t.log = s.log ∧ t.jtag = s.jtag ∧ t.inp = s.inp ∧ t.conv = s.conv ∧ t.sprint = s.sprint ∧ t.graph = s.graph ∧ t.rout = s.rout ∧ t.out = s.out ∧ t.ports = s.ports ∧ t.wake = s.wake ∧ t.free = s.free ∧ t.pending = s.pending :=
  execReplyPageRead_keeps twi (some (s.readHead twi 0x0011)) 4 s t h

theorem execPacketFragmentDiscard_keeps (twi : Bool) (s : State) (t : State) (h : execPacketFragmentDiscard twi s = .next t) :
    t.clock = s.clock ∧ t.power = s.power ∧ t.synth = s.synth ∧ t.dpll = s.dpll ∧ t.mram = s.mram ∧ t.cfg = s.cfg ∧ t.dep = s.dep ∧ t.log = s.log ∧ t.jtag = s.jtag ∧ t.inp = s.inp ∧ t.conv = s.conv ∧ t.sprint = s.sprint ∧ t.graph = s.graph ∧ t.rout = s.rout ∧ t.out = s.out ∧ t.ports = s.ports ∧ t.wake = s.wake ∧ t.free = s.free ∧ t.pending = s.pending := by
  simp only [execPacketFragmentDiscard, Host.Outcome.next.injEq] at h
  subst h
  repeat' split
  all_goals simp

theorem execRstartAtAck_keeps (s : State) (t : State) (h : execRstartAtAck s = .next t) :
    t.clock = s.clock ∧ t.power = s.power ∧ t.synth = s.synth ∧ t.dpll = s.dpll ∧ t.mram = s.mram ∧ t.cfg = s.cfg ∧ t.dep = s.dep ∧ t.log = s.log ∧ t.jtag = s.jtag ∧ t.inp = s.inp ∧ t.conv = s.conv ∧ t.sprint = s.sprint ∧ t.graph = s.graph ∧ t.rout = s.rout ∧ t.out = s.out ∧ t.ports = s.ports ∧ t.wake = s.wake ∧ t.free = s.free ∧ t.pending = s.pending := by
  simp only [execRstartAtAck, Host.Outcome.next.injEq] at h
  subst h
  repeat' split
  all_goals simp

theorem execBusError_keeps (s : State) (t : State) (h : execBusError s = .next t) :
    t.clock = s.clock ∧ t.power = s.power ∧ t.synth = s.synth ∧ t.dpll = s.dpll ∧ t.mram = s.mram ∧ t.cfg = s.cfg ∧ t.dep = s.dep ∧ t.log = s.log ∧ t.jtag = s.jtag ∧ t.inp = s.inp ∧ t.conv = s.conv ∧ t.sprint = s.sprint ∧ t.graph = s.graph ∧ t.rout = s.rout ∧ t.out = s.out ∧ t.ports = s.ports ∧ t.wake = s.wake ∧ t.free = s.free ∧ t.pending = s.pending := by
  simp only [execBusError, Host.Outcome.next.injEq] at h
  subst h
  repeat' split
  all_goals simp

theorem execSclTimeout_keeps (held : Bool) (s : State) (t : State) (h : execSclTimeout held s = .next t) :
    t.clock = s.clock ∧ t.power = s.power ∧ t.synth = s.synth ∧ t.dpll = s.dpll ∧ t.mram = s.mram ∧ t.cfg = s.cfg ∧ t.dep = s.dep ∧ t.log = s.log ∧ t.jtag = s.jtag ∧ t.inp = s.inp ∧ t.conv = s.conv ∧ t.sprint = s.sprint ∧ t.graph = s.graph ∧ t.rout = s.rout ∧ t.out = s.out ∧ t.ports = s.ports ∧ t.wake = s.wake ∧ t.free = s.free ∧ t.pending = s.pending := by
  simp only [execSclTimeout, Host.Outcome.next.injEq] at h
  subst h
  all_goals simp

theorem execSdaTimeout_keeps (held : Bool) (s : State) (t : State) (h : execSdaTimeout held s = .next t) :
    t.clock = s.clock ∧ t.power = s.power ∧ t.synth = s.synth ∧ t.dpll = s.dpll ∧ t.mram = s.mram ∧ t.cfg = s.cfg ∧ t.dep = s.dep ∧ t.log = s.log ∧ t.jtag = s.jtag ∧ t.inp = s.inp ∧ t.conv = s.conv ∧ t.sprint = s.sprint ∧ t.graph = s.graph ∧ t.rout = s.rout ∧ t.out = s.out ∧ t.ports = s.ports ∧ t.wake = s.wake ∧ t.free = s.free ∧ t.pending = s.pending := by
  simp only [execSdaTimeout, Host.Outcome.next.injEq] at h
  subst h
  all_goals simp

theorem execSpiFrameError_keeps (s : State) (t : State) (h : execSpiFrameError s = .next t) :
    t.clock = s.clock ∧ t.power = s.power ∧ t.synth = s.synth ∧ t.dpll = s.dpll ∧ t.mram = s.mram ∧ t.cfg = s.cfg ∧ t.dep = s.dep ∧ t.log = s.log ∧ t.jtag = s.jtag ∧ t.inp = s.inp ∧ t.conv = s.conv ∧ t.sprint = s.sprint ∧ t.graph = s.graph ∧ t.rout = s.rout ∧ t.out = s.out ∧ t.ports = s.ports ∧ t.wake = s.wake ∧ t.free = s.free ∧ t.pending = s.pending := by
  simp only [execSpiFrameError, Host.Outcome.next.injEq] at h
  subst h
  repeat' split
  all_goals simp

theorem execInbandPulse_keeps (s : State) (t : State) (h : execInbandPulse s = .next t) :
    t.clock = s.clock ∧ t.power = s.power ∧ t.synth = s.synth ∧ t.dpll = s.dpll ∧ t.ctl = s.ctl ∧ t.mram = s.mram ∧ t.cfg = s.cfg ∧ t.dep = s.dep ∧ t.log = s.log ∧ t.jtag = s.jtag ∧ t.inp = s.inp ∧ t.conv = s.conv ∧ t.sprint = s.sprint ∧ t.graph = s.graph ∧ t.rout = s.rout ∧ t.out = s.out ∧ t.ports = s.ports ∧ t.link = s.link ∧ t.wake = s.wake ∧ t.free = s.free ∧ t.pending = s.pending := by
  simp only [execInbandPulse, Host.Outcome.next.injEq] at h
  subst h
  repeat' split
  all_goals simp

theorem execInbandPulseAbort_keeps (s : State) (t : State) (h : execInbandPulseAbort s = .next t) :
    t.clock = s.clock ∧ t.power = s.power ∧ t.synth = s.synth ∧ t.dpll = s.dpll ∧ t.ctl = s.ctl ∧ t.mram = s.mram ∧ t.cfg = s.cfg ∧ t.dep = s.dep ∧ t.log = s.log ∧ t.jtag = s.jtag ∧ t.inp = s.inp ∧ t.conv = s.conv ∧ t.sprint = s.sprint ∧ t.graph = s.graph ∧ t.rout = s.rout ∧ t.out = s.out ∧ t.ports = s.ports ∧ t.link = s.link ∧ t.wake = s.wake ∧ t.free = s.free ∧ t.pending = s.pending := by
  simp only [execInbandPulseAbort, Host.Outcome.next.injEq] at h
  subst h
  repeat' split
  all_goals simp

theorem execWakeFrameEnd_keeps (bits : List (Bool × Bool)) (s : State) (t : State) (h : execWakeFrameEnd bits s = .next t) :
    t.jtag = s.jtag ∧ t.pending = s.pending := by
  simp only [execWakeFrameEnd, Host.Outcome.next.injEq] at h
  subst h
  repeat' split
  all_goals simp

theorem execStage2Match_keeps (s : State) (t : State) (h : execStage2Match s = .next t) :
    t.jtag = s.jtag ∧ t.pending = s.pending := by
  simp only [execStage2Match, Host.Outcome.next.injEq] at h
  subst h
  repeat' split
  all_goals simp

theorem execStage2End_keeps (s : State) (t : State) (h : execStage2End s = .next t) :
    t.clock = s.clock ∧ t.power = s.power ∧ t.synth = s.synth ∧ t.dpll = s.dpll ∧ t.bus = s.bus ∧ t.ctl = s.ctl ∧ t.mram = s.mram ∧ t.cfg = s.cfg ∧ t.dep = s.dep ∧ t.log = s.log ∧ t.jtag = s.jtag ∧ t.inp = s.inp ∧ t.conv = s.conv ∧ t.sprint = s.sprint ∧ t.graph = s.graph ∧ t.rout = s.rout ∧ t.out = s.out ∧ t.ports = s.ports ∧ t.link = s.link ∧ t.free = s.free ∧ t.pending = s.pending := by
  simp only [execStage2End, Host.Outcome.next.injEq] at h
  subst h
  repeat' split
  all_goals simp

end Sys2Proof.Machine
end

