-- ==== Sys2Proof/Laws/PerInstr.lean ====
section
/-! SUPPORT. Facts about every command as syntax, one lemma for each constructor. -/
namespace Sys2Proof.Laws.Operands
open Sys2Proof.Machine

/-- A command that is a packet opcode is well-formed exactly when its request is, and the table of opcodes defines its opcode (R386, R397). -/
def Statement (i : Instr) : Prop := ∀ op q, requestOf i = some (op, q) → i.wf = q.wf ∧ (opRow op).isSome = true

theorem tickBoundary : Statement Instr.tickBoundary := by
  intro op q h; cases h
theorem paramEventApply : Statement Instr.paramEventApply := by
  intro op q h; cases h
theorem nodeFiringComplete (runner : Fin 16) (cycle : Nat) : Statement (Instr.nodeFiringComplete runner cycle) := by
  intro op q h; cases h
theorem sprintSample (levels : List (List Int)) (pdm : List Bool) : Statement (Instr.sprintSample levels pdm) := by
  intro op q h; cases h
theorem sprintCrossfadeEnd (cell : Fin 16) : Statement (Instr.sprintCrossfadeEnd cell) := by
  intro op q h; cases h
theorem converterBridgeParityError (ch : Fin 52) (core : Bool) : Statement (Instr.converterBridgeParityError ch core) := by
  intro op q h; cases h
theorem powerBridgeParityError (spk : Fin 4) : Statement (Instr.powerBridgeParityError spk) := by
  intro op q h; cases h
theorem modulatorOverload (ch : Fin 24) (limit : Bool) : Statement (Instr.modulatorOverload ch limit) := by
  intro op q h; cases h
theorem modulatorResetEnd (ch : Fin 24) : Statement (Instr.modulatorResetEnd ch) := by
  intro op q h; cases h
theorem unsettledEnd (ch : Fin 24) : Statement (Instr.unsettledEnd ch) := by
  intro op q h; cases h
theorem quickSettleConversionEnd (ch : Fin 24) : Statement (Instr.quickSettleConversionEnd ch) := by
  intro op q h; cases h
theorem measConversionEnd (ms : Fin 14) (value : Int) : Statement (Instr.measConversionEnd ms value) := by
  intro op q h; cases h
theorem inputGainZeroCrossing (ch : Fin 16) : Statement (Instr.inputGainZeroCrossing ch) := by
  intro op q h; cases h
theorem inputGainZcTimeout (ch : Fin 16) : Statement (Instr.inputGainZcTimeout ch) := by
  intro op q h; cases h
theorem inputMuteCurveEnd (ch : Fin 16) : Statement (Instr.inputMuteCurveEnd ch) := by
  intro op q h; cases h
theorem analogSettleEnd (ch : Fin 16) : Statement (Instr.analogSettleEnd ch) := by
  intro op q h; cases h
theorem phantomFrame : Statement Instr.phantomFrame := by
  intro op q h; cases h
theorem phantomRampEnd (ch : Fin 16) : Statement (Instr.phantomRampEnd ch) := by
  intro op q h; cases h
theorem phantomDischargeEnd (ch : Fin 16) : Statement (Instr.phantomDischargeEnd ch) := by
  intro op q h; cases h
theorem inputJackPinChange (pin : Fin 8) (level : Bool) : Statement (Instr.inputJackPinChange pin level) := by
  intro op q h; cases h
theorem inputJackDebounceEnd (pin : Fin 8) : Statement (Instr.inputJackDebounceEnd pin) := by
  intro op q h; cases h
theorem insertSettleEnd (pin : Fin 8) : Statement (Instr.insertSettleEnd pin) := by
  intro op q h; cases h
theorem routeCrossfadeEnd (index : Nat) : Statement (Instr.routeCrossfadeEnd index) := by
  intro op q h; cases h
theorem routeGainZeroCrossing (index : Nat) : Statement (Instr.routeGainZeroCrossing index) := by
  intro op q h; cases h
theorem routeGainZcTimeout (index : Nat) : Statement (Instr.routeGainZcTimeout index) := by
  intro op q h; cases h
theorem gainRampEnd (index : Nat) : Statement (Instr.gainRampEnd index) := by
  intro op q h; cases h
theorem busScaleRampEnd (index : Nat) : Statement (Instr.busScaleRampEnd index) := by
  intro op q h; cases h
theorem hpfCrossfadeEnd (index : Nat) : Statement (Instr.hpfCrossfadeEnd index) := by
  intro op q h; cases h
theorem meterUpdate : Statement Instr.meterUpdate := by
  intro op q h; cases h
theorem outputCurveEnd (o : Fin 28) : Statement (Instr.outputCurveEnd o) := by
  intro op q h; cases h
theorem cmBiasRampEnd : Statement Instr.cmBiasRampEnd := by
  intro op q h; cases h
theorem lineBufferConnect (l : Fin 16) : Statement (Instr.lineBufferConnect l) := by
  intro op q h; cases h
theorem lineOffsetCalEnd (l : Fin 16) : Statement (Instr.lineOffsetCalEnd l) := by
  intro op q h; cases h
theorem chargePumpReady : Statement Instr.chargePumpReady := by
  intro op q h; cases h
theorem chargePumpStartTimeout : Statement Instr.chargePumpStartTimeout := by
  intro op q h; cases h
theorem chargePumpRetry : Statement Instr.chargePumpRetry := by
  intro op q h; cases h
theorem chargePumpIdleStop : Statement Instr.chargePumpIdleStop := by
  intro op q h; cases h
theorem hpOvercurrent (h : Fin 4) : Statement (Instr.hpOvercurrent h) := by
  intro op q h; cases h
theorem hpOcRemeasure (h : Fin 4) : Statement (Instr.hpOcRemeasure h) := by
  intro op q h; cases h
theorem hpJackPinChange (pin : Fin 4) (level : Bool) : Statement (Instr.hpJackPinChange pin level) := by
  intro op q h; cases h
theorem hpJackDebounceEnd (pin : Fin 4) : Statement (Instr.hpJackDebounceEnd pin) := by
  intro op q h; cases h
theorem hpTestCurrentUp (h : Fin 4) : Statement (Instr.hpTestCurrentUp h) := by
  intro op q h; cases h
theorem hpTestCurrentDown (h : Fin 4) : Statement (Instr.hpTestCurrentDown h) := by
  intro op q h; cases h
theorem hpGlitchTimeout (pin : Fin 4) : Statement (Instr.hpGlitchTimeout pin) := by
  intro op q h; cases h
theorem spkPrechargeEnd (spk : Fin 4) : Statement (Instr.spkPrechargeEnd spk) := by
  intro op q h; cases h
theorem spkOvercurrent (spk : Fin 4) : Statement (Instr.spkOvercurrent spk) := by
  intro op q h; cases h
theorem spkDcTrip (spk : Fin 4) : Statement (Instr.spkDcTrip spk) := by
  intro op q h; cases h
theorem spkUndervoltage : Statement Instr.spkUndervoltage := by
  intro op q h; cases h
theorem spkOvervoltage : Statement Instr.spkOvervoltage := by
  intro op q h; cases h
theorem spkThermalTrip : Statement Instr.spkThermalTrip := by
  intro op q h; cases h
theorem spkRetry (spk : Fin 4) : Statement (Instr.spkRetry spk) := by
  intro op q h; cases h
theorem vspkDecouplingConnect : Statement Instr.vspkDecouplingConnect := by
  intro op q h; cases h
theorem modeMuteEnd : Statement Instr.modeMuteEnd := by
  intro op q h; cases h
theorem lastLapSpeakerStop : Statement Instr.lastLapSpeakerStop := by
  intro op q h; cases h
theorem lastLapClear : Statement Instr.lastLapClear := by
  intro op q h; cases h
theorem gbyHealthLoss (g : Fin 4) : Statement (Instr.gbyHealthLoss g) := by
  intro op q h; cases h
theorem gbyPremuteEnd (g : Fin 4) : Statement (Instr.gbyPremuteEnd g) := by
  intro op q h; cases h
theorem gbyRestore (g : Fin 4) : Statement (Instr.gbyRestore g) := by
  intro op q h; cases h
theorem gbySettleEnd (g : Fin 4) : Statement (Instr.gbySettleEnd g) := by
  intro op q h; cases h
theorem portFrameStart (p : Fin 6) (frame : PortWire) : Statement (Instr.portFrameStart p frame) := by
  intro op q h; cases h
theorem portExchange (p : Fin 6) : Statement (Instr.portExchange p) := by
  intro op q h; cases h
theorem portStopped (p : Fin 6) : Statement (Instr.portStopped p) := by
  intro op q h; cases h
theorem rateReport : Statement Instr.rateReport := by
  intro op q h; cases h
theorem asrcLock (p : Fin 6) : Statement (Instr.asrcLock p) := by
  intro op q h; cases h
theorem gunFire : Statement Instr.gunFire := by
  intro op q h; cases h
theorem startNEdge : Statement Instr.startNEdge := by
  intro op q h; cases h
theorem maskTakeEffect (p : Fin 6) : Statement (Instr.maskTakeEffect p) := by
  intro op q h; cases h
theorem linkSignalDetect (x : Fin 2) (present : Bool) : Statement (Instr.linkSignalDetect x present) := by
  intro op q h; cases h
theorem linkFrameLock (x : Fin 2) : Statement (Instr.linkFrameLock x) := by
  intro op q h; cases h
theorem linkTrainingDone (x : Fin 2) (info : HopInfo) : Statement (Instr.linkTrainingDone x info) := by
  intro op q h; cases h
theorem linkJoinAlign (join : JoinInfo) : Statement (Instr.linkJoinAlign join) := by
  intro op q h; cases h
theorem linkFrameReceived (x : Fin 2) (frame : LinkFrame) (time : Nat) : Statement (Instr.linkFrameReceived x frame time) := by
  intro op q h; cases h
theorem linkFrameLaunch (x : Fin 2) : Statement (Instr.linkFrameLaunch x) := by
  intro op q h; cases h
theorem linkRetime (x : Fin 2) : Statement (Instr.linkRetime x) := by
  intro op q h; cases h
theorem linkBreak (x : Fin 2) : Statement (Instr.linkBreak x) := by
  intro op q h; cases h
theorem linkAnnouncement : Statement Instr.linkAnnouncement := by
  intro op q h; cases h
theorem announcementReceived (x : Fin 2) (ann : Announcement) : Statement (Instr.announcementReceived x ann) := by
  intro op q h; cases h
theorem announcementDrop (id : Fin 1024) : Statement (Instr.announcementDrop id) := by
  intro op q h; cases h
theorem ringFormation : Statement Instr.ringFormation := by
  intro op q h; cases h
theorem linkRepairReturn (x : Fin 2) : Statement (Instr.linkRepairReturn x) := by
  intro op q h; cases h
theorem linkAlignedChange (gained : Bool) : Statement (Instr.linkAlignedChange gained) := by
  intro op q h; cases h
theorem linkOffsetChange : Statement Instr.linkOffsetChange := by
  intro op q h; cases h
theorem controlCellReceived (x : Fin 2) (cell : LinkCell) : Statement (Instr.controlCellReceived x cell) := by
  intro op q h; cases h
theorem remotePacketReassembled (x : Fin 2) (src : Fin 1024) (seq : Fin 256) : Statement (Instr.remotePacketReassembled x src seq) := by
  intro op q h; cases h
theorem remoteReplyReceived (x : Fin 2) (src : Fin 1024) (seq : Fin 256) : Statement (Instr.remoteReplyReceived x src seq) := by
  intro op q h; cases h
theorem remoteTimeout (seq : Fin 256) : Statement (Instr.remoteTimeout seq) := by
  intro op q h; cases h
theorem remoteForward (q : Req) (target : Fin 1024) (opcode : BitVec 15) : Statement (Instr.remoteForward q target opcode) := by
  intro op q h; cases h
theorem xoLoss : Statement Instr.xoLoss := by
  intro op q h; cases h
theorem xoRecover : Statement Instr.xoRecover := by
  intro op q h; cases h
theorem analogLockSet : Statement Instr.analogLockSet := by
  intro op q h; cases h
theorem lockDeclare (errs : List Int) : Statement (Instr.lockDeclare errs) := by
  intro op q h; cases h
theorem lockLoss (errs : List Int) : Statement (Instr.lockLoss errs) := by
  intro op q h; cases h
theorem steerSlewStart : Statement Instr.steerSlewStart := by
  intro op q h; cases h
theorem steerSlewEnd : Statement Instr.steerSlewEnd := by
  intro op q h; cases h
theorem clockOutputGate (o : Fin 5) : Statement (Instr.clockOutputGate o) := by
  intro op q h; cases h
theorem clockOutputResume (o : Fin 5) : Statement (Instr.clockOutputResume o) := by
  intro op q h; cases h
theorem refBeatMissed (src : Fin 8) : Statement (Instr.refBeatMissed src) := by
  intro op q h; cases h
theorem refSignalSeen (src : Fin 8) : Statement (Instr.refSignalSeen src) := by
  intro op q h; cases h
theorem refFreqReport (src : Fin 10) (ppb : Int) : Statement (Instr.refFreqReport src ppb) := by
  intro op q h; cases h
theorem acceptTimeEnd (src : Fin 8) : Statement (Instr.acceptTimeEnd src) := by
  intro op q h; cases h
theorem wtrEnd (src : Fin 8) : Statement (Instr.wtrEnd src) := by
  intro op q h; cases h
theorem handoffMeasureDone (beats : List Int) (pulse : Int) : Statement (Instr.handoffMeasureDone beats pulse) := by
  intro op q h; cases h
theorem handoffCapture : Statement Instr.handoffCapture := by
  intro op q h; cases h
theorem holdoverHistoryRecord : Statement Instr.holdoverHistoryRecord := by
  intro op q h; cases h
theorem holdoverExpire : Statement Instr.holdoverExpire := by
  intro op q h; cases h
theorem forceAct : Statement Instr.forceAct := by
  intro op q h; cases h
theorem supplyPorAssert (supply : Fin 8) : Statement (Instr.supplyPorAssert supply) := by
  intro op q h; cases h
theorem supplyPorRelease (supply : Fin 8) (straps : Straps) : Statement (Instr.supplyPorRelease supply straps) := by
  intro op q h; cases h
theorem resetNLow : Statement Instr.resetNLow := by
  intro op q h; cases h
theorem resetNRise (straps : Straps) : Statement (Instr.resetNRise straps) := by
  intro op q h; cases h
theorem firmwareVerify : Statement Instr.firmwareVerify := by
  intro op q h; cases h
theorem bootIdleReached : Statement Instr.bootIdleReached := by
  intro op q h; cases h
theorem autorun : Statement Instr.autorun := by
  intro op q h; cases h
theorem biasRampDownEnd : Statement Instr.biasRampDownEnd := by
  intro op q h; cases h
theorem sessionsCloseAtEntry : Statement Instr.sessionsCloseAtEntry := by
  intro op q h; cases h
theorem rootStop : Statement Instr.rootStop := by
  intro op q h; cases h
theorem wakeN : Statement Instr.wakeN := by
  intro op q h; cases h
theorem jackWake (pin : Fin 4) (level : Bool) : Statement (Instr.jackWake pin level) := by
  intro op q h; cases h
theorem restTimer : Statement Instr.restTimer := by
  intro op q h; cases h
theorem busWake : Statement Instr.busWake := by
  intro op q h; cases h
theorem exitComplete : Statement Instr.exitComplete := by
  intro op q h; cases h
theorem powerFailWarning (dip : SupplyDip) : Statement (Instr.powerFailWarning dip) := by
  intro op q h; cases h
theorem powerFailClear : Statement Instr.powerFailClear := by
  intro op q h; cases h
theorem mramWriteResume : Statement Instr.mramWriteResume := by
  intro op q h; cases h
theorem pdmClockSwitch (c : Fin 2) : Statement (Instr.pdmClockSwitch c) := by
  intro op q h; cases h
theorem pdmClkSettleEnd (c : Fin 2) : Statement (Instr.pdmClkSettleEnd c) := by
  intro op q h; cases h
theorem wakeFrameEnd (bits : List (Bool × Bool)) : Statement (Instr.wakeFrameEnd bits) := by
  intro op q h; cases h
theorem stage2Match : Statement Instr.stage2Match := by
  intro op q h; cases h
theorem stage2End : Statement Instr.stage2End := by
  intro op q h; cases h
theorem handoverStart : Statement Instr.handoverStart := by
  intro op q h; cases h
theorem handoverCaughtUp : Statement Instr.handoverCaughtUp := by
  intro op q h; cases h
theorem mailboxWrite (twi : Bool) (head : Option (List Byte)) (bytes : List Byte) : Statement (Instr.mailboxWrite twi head bytes) := by
  intro op q h; cases h
theorem replyPageRead (twi : Bool) (head : Option ReadHead) (len : Nat) : Statement (Instr.replyPageRead twi head len) := by
  intro op q h; cases h
theorem packetFragmentDiscard (twi : Bool) : Statement (Instr.packetFragmentDiscard twi) := by
  intro op q h; cases h
theorem rstartAtAck : Statement Instr.rstartAtAck := by
  intro op q h; cases h
theorem busError : Statement Instr.busError := by
  intro op q h; cases h
theorem sclTimeout (held : Bool) : Statement (Instr.sclTimeout held) := by
  intro op q h; cases h
theorem sdaTimeout (held : Bool) : Statement (Instr.sdaTimeout held) := by
  intro op q h; cases h
theorem spiFrameError : Statement Instr.spiFrameError := by
  intro op q h; cases h
theorem inbandPulse : Statement Instr.inbandPulse := by
  intro op q h; cases h
theorem inbandPulseAbort : Statement Instr.inbandPulseAbort := by
  intro op q h; cases h
theorem sessionIdleTimeout (number : BitVec 16) : Statement (Instr.sessionIdleTimeout number) := by
  intro op q h; cases h
theorem challengeExpire (port : Fin 5) : Statement (Instr.challengeExpire port) := by
  intro op q h; cases h
theorem ledgerMirror : Statement Instr.ledgerMirror := by
  intro op q h; cases h
theorem hello (q : Req) : Statement (Instr.hello q) := by
  intro op q h; cases h; exact ⟨rfl, by decide⟩
theorem sessionOpen (q : Req) : Statement (Instr.sessionOpen q) := by
  intro op q h; cases h; exact ⟨rfl, by decide⟩
theorem sessionProve (q : Req) : Statement (Instr.sessionProve q) := by
  intro op q h; cases h; exact ⟨rfl, by decide⟩
theorem sessionClose (q : Req) : Statement (Instr.sessionClose q) := by
  intro op q h; cases h; exact ⟨rfl, by decide⟩
theorem keyChange (q : Req) : Statement (Instr.keyChange q) := by
  intro op q h; cases h; exact ⟨rfl, by decide⟩
theorem identity (q : Req) : Statement (Instr.identity q) := by
  intro op q h; cases h; exact ⟨rfl, by decide⟩
theorem paramRead (q : Req) : Statement (Instr.paramRead q) := by
  intro op q h; cases h; exact ⟨rfl, by decide⟩
theorem paramWrite (q : Req) : Statement (Instr.paramWrite q) := by
  intro op q h; cases h; exact ⟨rfl, by decide⟩
theorem paramWriteBlock (q : Req) : Statement (Instr.paramWriteBlock q) := by
  intro op q h; cases h; exact ⟨rfl, by decide⟩
theorem ckXoFreqWrite (q : Req) : Statement (Instr.ckXoFreqWrite q) := by
  intro op q h; cases h
theorem ckSteerWrite (q : Req) : Statement (Instr.ckSteerWrite q) := by
  intro op q h; cases h
theorem cvOrderWrite (q : Req) : Statement (Instr.cvOrderWrite q) := by
  intro op q h; cases h
theorem spOrderWrite (q : Req) : Statement (Instr.spOrderWrite q) := by
  intro op q h; cases h
theorem portMaskWrite (q : Req) : Statement (Instr.portMaskWrite q) := by
  intro op q h; cases h
theorem mtCfgWrite (q : Req) : Statement (Instr.mtCfgWrite q) := by
  intro op q h; cases h
theorem grRunaheadWrite (q : Req) : Statement (Instr.grRunaheadWrite q) := by
  intro op q h; cases h
theorem grTraceWrite (q : Req) : Statement (Instr.grTraceWrite q) := by
  intro op q h; cases h
theorem refParamWrite (q : Req) : Statement (Instr.refParamWrite q) := by
  intro op q h; cases h
theorem wakeParamWrite (q : Req) : Statement (Instr.wakeParamWrite q) := by
  intro op q h; cases h
theorem deviceRecordParamWrite (q : Req) : Statement (Instr.deviceRecordParamWrite q) := by
  intro op q h; cases h
theorem bankSwap (q : Req) : Statement (Instr.bankSwap q) := by
  intro op q h; cases h; exact ⟨rfl, by decide⟩
theorem bankSwapCheckDone : Statement Instr.bankSwapCheckDone := by
  intro op q h; cases h
theorem bankSwapAct : Statement Instr.bankSwapAct := by
  intro op q h; cases h
theorem refillEnd : Statement Instr.refillEnd := by
  intro op q h; cases h
theorem nodeParamWrite (q : Req) : Statement (Instr.nodeParamWrite q) := by
  intro op q h; cases h; exact ⟨rfl, by decide⟩
theorem nodeParamRead (q : Req) : Statement (Instr.nodeParamRead q) := by
  intro op q h; cases h; exact ⟨rfl, by decide⟩
theorem sprintWrite (q : Req) : Statement (Instr.sprintWrite q) := by
  intro op q h; cases h; exact ⟨rfl, by decide⟩
theorem sprintRead (q : Req) : Statement (Instr.sprintRead q) := by
  intro op q h; cases h; exact ⟨rfl, by decide⟩
theorem arm (q : Req) : Statement (Instr.arm q) := by
  intro op q h; cases h; exact ⟨rfl, by decide⟩
theorem armTick : Statement Instr.armTick := by
  intro op q h; cases h
theorem disarm (q : Req) : Statement (Instr.disarm q) := by
  intro op q h; cases h; exact ⟨rfl, by decide⟩
theorem setMode (q : Req) : Statement (Instr.setMode q) := by
  intro op q h; cases h; exact ⟨rfl, by decide⟩
theorem startGroup (q : Req) : Statement (Instr.startGroup q) := by
  intro op q h; cases h; exact ⟨rfl, by decide⟩
theorem graphLoad (q : Req) : Statement (Instr.graphLoad q) := by
  intro op q h; cases h; exact ⟨rfl, by decide⟩
theorem graphCheck (q : Req) : Statement (Instr.graphCheck q) := by
  intro op q h; cases h; exact ⟨rfl, by decide⟩
theorem runaheadSet (q : Req) : Statement (Instr.runaheadSet q) := by
  intro op q h; cases h; exact ⟨rfl, by decide⟩
theorem traceRead (q : Req) : Statement (Instr.traceRead q) := by
  intro op q h; cases h; exact ⟨rfl, by decide⟩
theorem statusRead (q : Req) : Statement (Instr.statusRead q) := by
  intro op q h; cases h; exact ⟨rfl, by decide⟩
theorem stickyClear (q : Req) : Statement (Instr.stickyClear q) := by
  intro op q h; cases h; exact ⟨rfl, by decide⟩
theorem attnAck (q : Req) : Statement (Instr.attnAck q) := by
  intro op q h; cases h; exact ⟨rfl, by decide⟩
theorem claim (q : Req) : Statement (Instr.claim q) := by
  intro op q h; cases h; exact ⟨rfl, by decide⟩
theorem release (q : Req) : Statement (Instr.release q) := by
  intro op q h; cases h; exact ⟨rfl, by decide⟩
theorem configSave (q : Req) : Statement (Instr.configSave q) := by
  intro op q h; cases h; exact ⟨rfl, by decide⟩
theorem configSaveComplete : Statement Instr.configSaveComplete := by
  intro op q h; cases h
theorem configRecall (q : Req) : Statement (Instr.configRecall q) := by
  intro op q h; cases h; exact ⟨rfl, by decide⟩
theorem fwStage (q : Req) : Statement (Instr.fwStage q) := by
  intro op q h; cases h; exact ⟨rfl, by decide⟩
theorem fwCommit (q : Req) : Statement (Instr.fwCommit q) := by
  intro op q h; cases h; exact ⟨rfl, by decide⟩
theorem fwCommitVerifyDone : Statement Instr.fwCommitVerifyDone := by
  intro op q h; cases h
theorem ledgerRead (q : Req) : Statement (Instr.ledgerRead q) := by
  intro op q h; cases h; exact ⟨rfl, by decide⟩
theorem lifelogRead (q : Req) : Statement (Instr.lifelogRead q) := by
  intro op q h; cases h; exact ⟨rfl, by decide⟩
theorem refForce (q : Req) : Statement (Instr.refForce q) := by
  intro op q h; cases h; exact ⟨rfl, by decide⟩
theorem steer (q : Req) : Statement (Instr.steer q) := by
  intro op q h; cases h; exact ⟨rfl, by decide⟩
theorem linkDiscover (q : Req) : Statement (Instr.linkDiscover q) := by
  intro op q h; cases h; exact ⟨rfl, by decide⟩
theorem linkAssignId (q : Req) : Statement (Instr.linkAssignId q) := by
  intro op q h; cases h; exact ⟨rfl, by decide⟩
theorem linkSetOffset (q : Req) : Statement (Instr.linkSetOffset q) := by
  intro op q h; cases h; exact ⟨rfl, by decide⟩
theorem linkSlotWrite (q : Req) : Statement (Instr.linkSlotWrite q) := by
  intro op q h; cases h; exact ⟨rfl, by decide⟩
theorem linkSlotRead (q : Req) : Statement (Instr.linkSlotRead q) := by
  intro op q h; cases h; exact ⟨rfl, by decide⟩
theorem wakeTemplateLoad (q : Req) : Statement (Instr.wakeTemplateLoad q) := by
  intro op q h; cases h; exact ⟨rfl, by decide⟩
theorem historyHandover (q : Req) : Statement (Instr.historyHandover q) := by
  intro op q h; cases h; exact ⟨rfl, by decide⟩
theorem controlRestart : Statement Instr.controlRestart := by
  intro op q h; cases h
theorem restartComplete : Statement Instr.restartComplete := by
  intro op q h; cases h
theorem watchdogExpiry : Statement Instr.watchdogExpiry := by
  intro op q h; cases h
theorem scrubVisit (mem : Nat) (runner : Nat) (word : Nat) (found : Fin 4) (late : Bool) : Statement (Instr.scrubVisit mem runner word found late) := by
  intro op q h; cases h
theorem bankWordRestore (active : Bool) (kind : Nat) (index : Nat) : Statement (Instr.bankWordRestore active kind index) := by
  intro op q h; cases h
theorem errorInject : Statement Instr.errorInject := by
  intro op q h; cases h
theorem histogramSample : Statement Instr.histogramSample := by
  intro op q h; cases h
theorem logCommit : Statement Instr.logCommit := by
  intro op q h; cases h
theorem jtagInstruction (code : Nat) : Statement (Instr.jtagInstruction code) := by
  intro op q h; cases h
theorem tapReset : Statement Instr.tapReset := by
  intro op q h; cases h
theorem consistencyCheckDone : Statement Instr.consistencyCheckDone := by
  intro op q h; cases h
theorem hpDriverConnect (h : Fin 4) : Statement (Instr.hpDriverConnect h) := by
  intro op q h; cases h
theorem lockedOutEnd (port : Fin 5) : Statement (Instr.lockedOutEnd port) := by
  intro op q h; cases h
theorem frameLockLoss (x : Fin 2) : Statement (Instr.frameLockLoss x) := by
  intro op q h; cases h
theorem attnCauseRead (twi : Bool) : Statement (Instr.attnCauseRead twi) := by
  intro op q h; cases h

end Sys2Proof.Laws.Operands
end

