-- ==== Sys2Proof/Laws/Sessions.lean ====
section
/-! SUPPORT. Which operations leave the open sessions as they are. -/
namespace Sys2Proof.Machine

-- One proof after another: a check of the whole text in one process stays within its memory.
set_option Elab.async false

@[simp] theorem State.foldl_sessions {β : Type} (f : State → β → State) (h : ∀ s x, (f s x).ctl.sessions = s.ctl.sessions) (l : List β) (s : State) :
    (l.foldl f s).ctl.sessions = s.ctl.sessions := by
  induction l generalizing s with
  | nil => rfl
  | cons a l ih => rw [List.foldl_cons, ih, h]

@[simp] theorem ite_sessions (c : Prop) [Decidable c] (a b : Control) : (if c then a else b).sessions = if c then a.sessions else b.sessions := by split <;> rfl
@[simp] theorem State.foldl_challenges {β : Type} (f : State → β → State) (h : ∀ s x, (f s x).ctl.challenges = s.ctl.challenges) (l : List β) (s : State) :
    (l.foldl f s).ctl.challenges = s.ctl.challenges := by
  induction l generalizing s with
  | nil => rfl
  | cons a l ih => rw [List.foldl_cons, ih, h]
@[simp] theorem ite_challenges (c : Prop) [Decidable c] (a b : Control) : (if c then a else b).challenges = if c then a.challenges else b.challenges := by split <;> rfl
@[simp] theorem Control.record_sessions (c : Control) (tick : BitVec 48) (port kind : Nat) (session : BitVec 16) (opcode object count origin value : Nat) :
    (c.record tick port kind session opcode object count origin value).sessions = c.sessions ∧
    (c.record tick port kind session opcode object count origin value).challenges = c.challenges := ⟨rfl, rfl⟩

@[simp] theorem State.placeReply_sessions (s : State) (port origin : Nat) (r : List Byte) :
    (State.placeReply s port origin r).ctl.sessions = s.ctl.sessions ∧ (State.placeReply s port origin r).ctl.challenges = s.ctl.challenges := by
  simp only [State.placeReply]
  repeat' split
  all_goals simp

@[simp] theorem State.reply_sessions (s : State) (j : Job) (status detail : Nat) (data : List Byte) :
    (State.reply s j status detail data).ctl.sessions = s.ctl.sessions ∧ (State.reply s j status detail data).ctl.challenges = s.ctl.challenges := by
  simp only [State.reply]
  repeat' split
  all_goals simp

@[simp] theorem State.recordJob_sessions (s : State) (j : Job) (count value : Nat) :
    (State.recordJob s j count value).ctl.sessions = s.ctl.sessions ∧ (State.recordJob s j count value).ctl.challenges = s.ctl.challenges := by
  simp only [State.recordJob]
  all_goals simp

@[simp] theorem State.accept_sessions (s : State) (j : Job) (data : List Byte) (count value : Nat) :
    (State.accept s j data count value).ctl.sessions = s.ctl.sessions ∧ (State.accept s j data count value).ctl.challenges = s.ctl.challenges := by
  simp only [State.accept]
  all_goals simp

@[simp] theorem State.acceptWith_sessions (s : State) (j : Job) (detail : Nat) (data : List Byte) (count value : Nat) :
    (State.acceptWith s j detail data count value).ctl.sessions = s.ctl.sessions ∧ (State.acceptWith s j detail data count value).ctl.challenges = s.ctl.challenges := by
  simp only [State.acceptWith]
  all_goals simp

@[simp] theorem State.notInState_sessions (s : State) (j : Job) :
    (State.notInState s j).ctl.sessions = s.ctl.sessions ∧ (State.notInState s j).ctl.challenges = s.ctl.challenges := by
  simp only [State.notInState]
  all_goals simp

@[simp] theorem State.outOfRange_sessions (s : State) (j : Job) :
    (State.outOfRange s j).ctl.sessions = s.ctl.sessions ∧ (State.outOfRange s j).ctl.challenges = s.ctl.challenges := by
  simp only [State.outOfRange]
  all_goals simp

@[simp] theorem State.busy_sessions (s : State) (j : Job) (detail : Nat) :
    (State.busy s j detail).ctl.sessions = s.ctl.sessions ∧ (State.busy s j detail).ctl.challenges = s.ctl.challenges := by
  simp only [State.busy]
  all_goals simp

@[simp] theorem State.refuseConfig_sessions (s : State) (j : Job) (code kind index : Nat) (figures : List Byte) :
    (State.refuseConfig s j code kind index figures).ctl.sessions = s.ctl.sessions ∧ (State.refuseConfig s j code kind index figures).ctl.challenges = s.ctl.challenges := by
  simp only [State.refuseConfig]
  all_goals simp

@[simp] theorem State.bootRecord_sessions (s : State) :
    (State.bootRecord s).ctl.sessions = s.ctl.sessions ∧ (State.bootRecord s).ctl.challenges = s.ctl.challenges := by
  simp only [State.bootRecord]
  all_goals simp

@[simp] theorem State.bootIdle_sessions (s : State) :
    (State.bootIdle s).ctl.sessions = s.ctl.sessions ∧ (State.bootIdle s).ctl.challenges = s.ctl.challenges := by
  simp only [State.bootIdle]
  repeat' split
  all_goals simp

@[simp] theorem State.enterPhoto_sessions (s : State) (j : Job) (x : PhotoThing) :
    (State.enterPhoto s j x).ctl.sessions = s.ctl.sessions ∧ (State.enterPhoto s j x).ctl.challenges = s.ctl.challenges := by
  simp only [State.enterPhoto]
  all_goals simp

@[simp] theorem State.losePhoto_sessions (s : State) (j : Job) :
    (State.losePhoto s j).ctl.sessions = s.ctl.sessions ∧ (State.losePhoto s j).ctl.challenges = s.ctl.challenges := by
  simp only [State.losePhoto]
  all_goals simp

@[simp] theorem State.enqueue_sessions (s : State) (j : Job) (data : List Byte) (now_ : State → State) (h : (now_ s).ctl.sessions = s.ctl.sessions) (h' : (now_ s).ctl.challenges = s.ctl.challenges) :
    (s.enqueue j data now_).ctl.sessions = s.ctl.sessions ∧ (s.enqueue j data now_).ctl.challenges = s.ctl.challenges := by
  simp only [State.enqueue]
  split <;> simp [h, h']

@[simp] theorem State.doParamWrite_sessions (s : State) (j : Job) :
    (State.doParamWrite s j).ctl.sessions = s.ctl.sessions ∧ (State.doParamWrite s j).ctl.challenges = s.ctl.challenges := by
  simp only [State.doParamWrite]
  repeat' split
  all_goals simp

@[simp] theorem State.doParamBlock_sessions (s : State) (j : Job) :
    (State.doParamBlock s j).ctl.sessions = s.ctl.sessions ∧ (State.doParamBlock s j).ctl.challenges = s.ctl.challenges := by
  simp only [State.doParamBlock]
  repeat' split
  all_goals simp

@[simp] theorem State.doParamRead_sessions (s : State) (j : Job) :
    (State.doParamRead s j).ctl.sessions = s.ctl.sessions ∧ (State.doParamRead s j).ctl.challenges = s.ctl.challenges := by
  simp only [State.doParamRead]
  repeat' split
  all_goals simp

@[simp] theorem State.applyJobs_sessions (s : State) (l : List Job) :
    (State.applyJobs s l).ctl.sessions = s.ctl.sessions ∧ (State.applyJobs s l).ctl.challenges = s.ctl.challenges := by
  simp only [State.applyJobs]
  all_goals simp

@[simp] theorem State.applyQueue_sessions (s : State) (n : Nat) :
    (State.applyQueue s n).ctl.sessions = s.ctl.sessions ∧ (State.applyQueue s n).ctl.challenges = s.ctl.challenges := by
  simp only [State.applyQueue]
  all_goals simp

@[simp] theorem State.shadowWrite_sessions (s : State) (j : Job) (data : List Byte) :
    (State.shadowWrite s j data).ctl.sessions = s.ctl.sessions ∧ (State.shadowWrite s j data).ctl.challenges = s.ctl.challenges := by
  simp only [State.shadowWrite]
  repeat' split
  all_goals simp

@[simp] theorem State.doGraphLoad_sessions (s : State) (j : Job) :
    (State.doGraphLoad s j).ctl.sessions = s.ctl.sessions ∧ (State.doGraphLoad s j).ctl.challenges = s.ctl.challenges := by
  simp only [State.doGraphLoad]
  repeat' split
  all_goals simp

@[simp] theorem State.doNodeWrite_sessions (s : State) (j : Job) :
    (State.doNodeWrite s j).ctl.sessions = s.ctl.sessions ∧ (State.doNodeWrite s j).ctl.challenges = s.ctl.challenges := by
  simp only [State.doNodeWrite]
  repeat' split
  all_goals simp

@[simp] theorem State.doNodeRead_sessions (s : State) (j : Job) :
    (State.doNodeRead s j).ctl.sessions = s.ctl.sessions ∧ (State.doNodeRead s j).ctl.challenges = s.ctl.challenges := by
  simp only [State.doNodeRead]
  repeat' split
  all_goals simp

@[simp] theorem State.doSprintWrite_sessions (s : State) (j : Job) :
    (State.doSprintWrite s j).ctl.sessions = s.ctl.sessions ∧ (State.doSprintWrite s j).ctl.challenges = s.ctl.challenges := by
  simp only [State.doSprintWrite]
  repeat' split
  all_goals simp

@[simp] theorem State.doSprintRead_sessions (s : State) (j : Job) :
    (State.doSprintRead s j).ctl.sessions = s.ctl.sessions ∧ (State.doSprintRead s j).ctl.challenges = s.ctl.challenges := by
  simp only [State.doSprintRead]
  repeat' split
  all_goals simp

@[simp] theorem State.doSlotWrite_sessions (s : State) (j : Job) :
    (State.doSlotWrite s j).ctl.sessions = s.ctl.sessions ∧ (State.doSlotWrite s j).ctl.challenges = s.ctl.challenges := by
  simp only [State.doSlotWrite]
  repeat' split
  all_goals simp

@[simp] theorem State.doSlotRead_sessions (s : State) (j : Job) :
    (State.doSlotRead s j).ctl.sessions = s.ctl.sessions ∧ (State.doSlotRead s j).ctl.challenges = s.ctl.challenges := by
  simp only [State.doSlotRead]
  repeat' split
  all_goals simp

@[simp] theorem State.endFreeze_sessions (s : State) :
    (State.endFreeze s).ctl.sessions = s.ctl.sessions ∧ (State.endFreeze s).ctl.challenges = s.ctl.challenges := by
  simp only [State.endFreeze]
  repeat' split
  all_goals simp

@[simp] theorem State.refuseCheck_sessions (s : State) (j : Job) (v : Verdict) :
    (State.refuseCheck s j v).ctl.sessions = s.ctl.sessions ∧ (State.refuseCheck s j v).ctl.challenges = s.ctl.challenges := by
  simp only [State.refuseCheck]
  all_goals simp

@[simp] theorem State.doBankSwap_sessions (s : State) (j : Job) :
    (State.doBankSwap s j).ctl.sessions = s.ctl.sessions ∧ (State.doBankSwap s j).ctl.challenges = s.ctl.challenges := by
  simp only [State.doBankSwap]
  repeat' split
  all_goals simp

@[simp] theorem State.doArm_sessions (s : State) (j : Job) :
    (State.doArm s j).ctl.sessions = s.ctl.sessions ∧ (State.doArm s j).ctl.challenges = s.ctl.challenges := by
  simp only [State.doArm]
  repeat' split
  all_goals simp

@[simp] theorem State.armChecked_sessions (s : State) (p : Pending) :
    (State.armChecked s p).ctl.sessions = s.ctl.sessions ∧ (State.armChecked s p).ctl.challenges = s.ctl.challenges := by
  simp only [State.armChecked]
  repeat' split
  all_goals simp

@[simp] theorem State.recallChecked_sessions (s : State) (p : Pending) (arm : Bool) :
    (State.recallChecked s p arm).ctl.sessions = s.ctl.sessions ∧ (State.recallChecked s p arm).ctl.challenges = s.ctl.challenges := by
  simp only [State.recallChecked]
  repeat' split
  all_goals simp

@[simp] theorem State.doGraphCheck_sessions (s : State) (j : Job) :
    (State.doGraphCheck s j).ctl.sessions = s.ctl.sessions ∧ (State.doGraphCheck s j).ctl.challenges = s.ctl.challenges := by
  simp only [State.doGraphCheck]
  repeat' split
  all_goals simp

@[simp] theorem State.graphChecked_sessions (s : State) (j : Job) :
    (State.graphChecked s j).ctl.sessions = s.ctl.sessions ∧ (State.graphChecked s j).ctl.challenges = s.ctl.challenges := by
  simp only [State.graphChecked]
  repeat' split
  all_goals simp

@[simp] theorem State.doConfigSave_sessions (s : State) (j : Job) :
    (State.doConfigSave s j).ctl.sessions = s.ctl.sessions ∧ (State.doConfigSave s j).ctl.challenges = s.ctl.challenges := by
  simp only [State.doConfigSave]
  repeat' split
  all_goals simp

@[simp] theorem State.saveSnapshot_sessions (s : State) :
    (State.saveSnapshot s).ctl.sessions = s.ctl.sessions ∧ (State.saveSnapshot s).ctl.challenges = s.ctl.challenges := by
  simp only [State.saveSnapshot]
  repeat' split
  all_goals simp

@[simp] theorem State.doConfigRecall_sessions (s : State) (j : Job) :
    (State.doConfigRecall s j).ctl.sessions = s.ctl.sessions ∧ (State.doConfigRecall s j).ctl.challenges = s.ctl.challenges := by
  simp only [State.doConfigRecall]
  repeat' split
  all_goals simp

@[simp] theorem State.doFwStage_sessions (s : State) (j : Job) :
    (State.doFwStage s j).ctl.sessions = s.ctl.sessions ∧ (State.doFwStage s j).ctl.challenges = s.ctl.challenges := by
  simp only [State.doFwStage]
  repeat' split
  all_goals simp

@[simp] theorem State.doFwCommit_sessions (s : State) (j : Job) :
    (State.doFwCommit s j).ctl.sessions = s.ctl.sessions ∧ (State.doFwCommit s j).ctl.challenges = s.ctl.challenges := by
  simp only [State.doFwCommit]
  repeat' split
  all_goals simp

@[simp] theorem State.dropInbox_sessions (s : State) :
    (State.dropInbox s).ctl.sessions = s.ctl.sessions ∧ (State.dropInbox s).ctl.challenges = s.ctl.challenges := by
  simp only [State.dropInbox]
  all_goals simp

@[simp] theorem State.mramUe_sessions (s : State) (word : Nat) :
    (State.mramUe s word).ctl.sessions = s.ctl.sessions ∧ (State.mramUe s word).ctl.challenges = s.ctl.challenges := by
  simp only [State.mramUe]
  repeat' split
  all_goals simp

@[simp] theorem State.clearControl_sessions (s : State) :
    (State.clearControl s).ctl.sessions = s.ctl.sessions ∧ (State.clearControl s).ctl.challenges = s.ctl.challenges := by
  simp only [State.clearControl]
  all_goals simp

@[simp] theorem State.doStatusRead_sessions (s : State) (j : Job) :
    (State.doStatusRead s j).ctl.sessions = s.ctl.sessions ∧ (State.doStatusRead s j).ctl.challenges = s.ctl.challenges := by
  simp only [State.doStatusRead]
  repeat' split
  all_goals simp

@[simp] theorem State.clearGroup_sessions (s : State) (g : Nat) : (s.clearGroup g).ctl.sessions = s.ctl.sessions ∧
    (s.clearGroup g).ctl.challenges = s.ctl.challenges := by
  unfold State.clearGroup
  split <;> simp

@[simp] theorem State.doStickyClear_sessions (s : State) (j : Job) :
    (State.doStickyClear s j).ctl.sessions = s.ctl.sessions ∧ (State.doStickyClear s j).ctl.challenges = s.ctl.challenges := by
  simp only [State.doStickyClear]
  repeat' split
  all_goals simp

@[simp] theorem State.doAttnAck_sessions (s : State) (j : Job) :
    (State.doAttnAck s j).ctl.sessions = s.ctl.sessions ∧ (State.doAttnAck s j).ctl.challenges = s.ctl.challenges := by
  simp only [State.doAttnAck]
  repeat' split
  all_goals simp

@[simp] theorem State.doHello_sessions (s : State) (j : Job) :
    (State.doHello s j).ctl.sessions = s.ctl.sessions ∧ (State.doHello s j).ctl.challenges = s.ctl.challenges := by
  simp only [State.doHello]
  repeat' split
  all_goals simp

@[simp] theorem State.setFails_sessions (s : State) (p f : Nat) :
    (State.setFails s p f).ctl.sessions = s.ctl.sessions ∧ (State.setFails s p f).ctl.challenges = s.ctl.challenges := by
  simp only [State.setFails]
  all_goals simp

@[simp] theorem State.authFailed_sessions (s : State) (j : Job) :
    (State.authFailed s j).ctl.sessions = s.ctl.sessions ∧ (State.authFailed s j).ctl.challenges = s.ctl.challenges := by
  simp only [State.authFailed]
  repeat' split
  all_goals simp

@[simp] theorem State.answerLocked_sessions (s : State) (j : Job) :
    (State.answerLocked s j).ctl.sessions = s.ctl.sessions ∧ (State.answerLocked s j).ctl.challenges = s.ctl.challenges := by
  simp only [State.answerLocked]
  all_goals simp

@[simp] theorem State.dropChallenge_sessions (s : State) (b : Binding) :
    (State.dropChallenge s b).ctl.sessions = s.ctl.sessions := by
  simp only [State.dropChallenge]

@[simp] theorem State.doIdentity_sessions (s : State) (j : Job) :
    (State.doIdentity s j).ctl.sessions = s.ctl.sessions ∧ (State.doIdentity s j).ctl.challenges = s.ctl.challenges := by
  simp only [State.doIdentity]
  all_goals simp

@[simp] theorem State.doDisarm_sessions (s : State) (j : Job) :
    (State.doDisarm s j).ctl.sessions = s.ctl.sessions ∧ (State.doDisarm s j).ctl.challenges = s.ctl.challenges := by
  simp only [State.doDisarm]
  repeat' split
  all_goals simp

@[simp] theorem State.doSetMode_sessions (s : State) (j : Job) :
    (State.doSetMode s j).ctl.sessions = s.ctl.sessions ∧ (State.doSetMode s j).ctl.challenges = s.ctl.challenges := by
  simp only [State.doSetMode]
  repeat' split
  all_goals simp

@[simp] theorem State.doStartGroup_sessions (s : State) (j : Job) :
    (State.doStartGroup s j).ctl.sessions = s.ctl.sessions ∧ (State.doStartGroup s j).ctl.challenges = s.ctl.challenges := by
  simp only [State.doStartGroup]
  repeat' split
  all_goals simp

@[simp] theorem State.doRunahead_sessions (s : State) (j : Job) :
    (State.doRunahead s j).ctl.sessions = s.ctl.sessions ∧ (State.doRunahead s j).ctl.challenges = s.ctl.challenges := by
  simp only [State.doRunahead]
  repeat' split
  all_goals simp

@[simp] theorem State.doTraceRead_sessions (s : State) (j : Job) :
    (State.doTraceRead s j).ctl.sessions = s.ctl.sessions ∧ (State.doTraceRead s j).ctl.challenges = s.ctl.challenges := by
  simp only [State.doTraceRead]
  repeat' split
  all_goals simp

@[simp] theorem State.doLedgerRead_sessions (s : State) (j : Job) :
    (State.doLedgerRead s j).ctl.sessions = s.ctl.sessions ∧ (State.doLedgerRead s j).ctl.challenges = s.ctl.challenges := by
  simp only [State.doLedgerRead]
  repeat' split
  all_goals simp

@[simp] theorem State.doLifelogRead_sessions (s : State) (j : Job) :
    (State.doLifelogRead s j).ctl.sessions = s.ctl.sessions ∧ (State.doLifelogRead s j).ctl.challenges = s.ctl.challenges := by
  simp only [State.doLifelogRead]
  repeat' split
  all_goals simp

@[simp] theorem State.doRefForce_sessions (s : State) (j : Job) :
    (State.doRefForce s j).ctl.sessions = s.ctl.sessions ∧ (State.doRefForce s j).ctl.challenges = s.ctl.challenges := by
  simp only [State.doRefForce]
  repeat' split
  all_goals simp

@[simp] theorem State.doSteer_sessions (s : State) (j : Job) :
    (State.doSteer s j).ctl.sessions = s.ctl.sessions ∧ (State.doSteer s j).ctl.challenges = s.ctl.challenges := by
  simp only [State.doSteer]
  repeat' split
  all_goals simp

@[simp] theorem State.doLinkDiscover_sessions (s : State) (j : Job) :
    (State.doLinkDiscover s j).ctl.sessions = s.ctl.sessions ∧ (State.doLinkDiscover s j).ctl.challenges = s.ctl.challenges := by
  simp only [State.doLinkDiscover]
  repeat' split
  all_goals simp

@[simp] theorem State.doLinkOffset_sessions (s : State) (j : Job) :
    (State.doLinkOffset s j).ctl.sessions = s.ctl.sessions ∧ (State.doLinkOffset s j).ctl.challenges = s.ctl.challenges := by
  simp only [State.doLinkOffset]
  repeat' split
  all_goals simp

@[simp] theorem State.doTemplateLoad_sessions (s : State) (j : Job) :
    (State.doTemplateLoad s j).ctl.sessions = s.ctl.sessions ∧ (State.doTemplateLoad s j).ctl.challenges = s.ctl.challenges := by
  simp only [State.doTemplateLoad]
  repeat' split
  all_goals simp

@[simp] theorem State.doHandover_sessions (s : State) (j : Job) :
    (State.doHandover s j).ctl.sessions = s.ctl.sessions ∧ (State.doHandover s j).ctl.challenges = s.ctl.challenges := by
  simp only [State.doHandover]
  repeat' split
  all_goals simp

@[simp] theorem State.internalFault_sessions (s : State) (j : Job) :
    (State.internalFault s j).ctl.sessions = s.ctl.sessions ∧ (State.internalFault s j).ctl.challenges = s.ctl.challenges := by
  simp only [State.internalFault]
  all_goals simp

@[simp] theorem State.forward_sessions (s : State) (target op : Nat) (q : Req) :
    (State.forward s target op q).ctl.sessions = s.ctl.sessions ∧ (State.forward s target op q).ctl.challenges = s.ctl.challenges := by
  simp only [State.forward]
  repeat' split
  all_goals simp

@[simp] theorem State.takeHead_sessions (s : State) (h : Nat × Nat × Nat × Nat × Waiting) :
    (State.takeHead s h).ctl.sessions = s.ctl.sessions ∧ (State.takeHead s h).ctl.challenges = s.ctl.challenges := by
  simp only [State.takeHead]
  repeat' split
  all_goals simp

@[simp] theorem State.openTick_sessions (s : State) :
    (State.openTick s).ctl.sessions = s.ctl.sessions ∧ (State.openTick s).ctl.challenges = s.ctl.challenges := by
  simp only [State.openTick]
  repeat' split
  all_goals simp

@[simp] theorem State.swapAct_sessions (s : State) (p : Pending) (t : Nat) :
    (State.swapAct s p t).ctl.sessions = s.ctl.sessions ∧ (State.swapAct s p t).ctl.challenges = s.ctl.challenges := by
  simp only [State.swapAct]
  repeat' split
  all_goals simp

@[simp] theorem State.armAct_sessions (s : State) (p : Pending) (t : Nat) :
    (State.armAct s p t).ctl.sessions = s.ctl.sessions ∧ (State.armAct s p t).ctl.challenges = s.ctl.challenges := by
  simp only [State.armAct]
  repeat' split
  all_goals simp

@[simp] theorem State.armedAct_sessions (s : State) :
    (State.armedAct s).ctl.sessions = s.ctl.sessions ∧ (State.armedAct s).ctl.challenges = s.ctl.challenges := by
  simp only [State.armedAct]
  repeat' split
  all_goals simp

@[simp] theorem State.acts_sessions (s : State) :
    (State.acts s).ctl.sessions = s.ctl.sessions ∧ (State.acts s).ctl.challenges = s.ctl.challenges := by
  simp only [State.acts]
  all_goals simp

@[simp] theorem State.openIfReady_sessions (s : State) :
    (State.openIfReady s).ctl.sessions = s.ctl.sessions ∧ (State.openIfReady s).ctl.challenges = s.ctl.challenges := by
  simp only [State.openIfReady]
  repeat' split
  all_goals simp

@[simp] theorem State.settle_sessions (s : State) :
    (State.settle s).ctl.sessions = s.ctl.sessions ∧ (State.settle s).ctl.challenges = s.ctl.challenges := by
  simp only [State.settle]
  repeat' split
  all_goals simp

@[simp] theorem State.discardFragment_sessions (s : State) (twi : Bool) :
    (State.discardFragment s twi).ctl.sessions = s.ctl.sessions ∧ (State.discardFragment s twi).ctl.challenges = s.ctl.challenges := by
  simp only [State.discardFragment]
  repeat' split
  all_goals simp

@[simp] theorem State.endTransaction_sessions (s : State) (twi : Bool) :
    (State.endTransaction s twi).ctl.sessions = s.ctl.sessions ∧ (State.endTransaction s twi).ctl.challenges = s.ctl.challenges := by
  simp only [State.endTransaction]
  all_goals simp

@[simp] theorem State.writeByte_sessions (s : State) (twi : Bool) (b : Byte) :
    (State.writeByte s twi b).ctl.sessions = s.ctl.sessions ∧ (State.writeByte s twi b).ctl.challenges = s.ctl.challenges := by
  simp only [State.writeByte]
  repeat' split
  all_goals simp

@[simp] theorem State.begins_sessions (s : State) (twi : Bool) :
    (State.begins s twi).ctl.sessions = s.ctl.sessions ∧ (State.begins s twi).ctl.challenges = s.ctl.challenges := by
  simp only [State.begins]
  repeat' split
  all_goals simp

@[simp] theorem State.twiByte_sessions (s : State) (b : Byte) :
    (State.twiByte s b).ctl.sessions = s.ctl.sessions ∧ (State.twiByte s b).ctl.challenges = s.ctl.challenges := by
  simp only [State.twiByte]
  repeat' split
  all_goals simp

@[simp] theorem State.spiByte_sessions (s : State) (b : Byte) :
    (State.spiByte s b).ctl.sessions = s.ctl.sessions ∧ (State.spiByte s b).ctl.challenges = s.ctl.challenges := by
  simp only [State.spiByte]
  repeat' split
  all_goals simp

@[simp] theorem State.sends_sessions (s : State) (twi : Bool) (l : List Byte) :
    (State.sends s twi l).ctl.sessions = s.ctl.sessions ∧ (State.sends s twi l).ctl.challenges = s.ctl.challenges := by
  simp only [State.sends]
  repeat' split
  all_goals simp

@[simp] theorem State.clocks_sessions (s : State) (twi : Bool) (n : Nat) :
    (State.clocks s twi n).ctl.sessions = s.ctl.sessions ∧ (State.clocks s twi n).ctl.challenges = s.ctl.challenges := by
  simp only [State.clocks]
  repeat' split
  all_goals simp

@[simp] theorem State.reads_sessions (s : State) (twi : Bool) (h : ReadHead) :
    (State.reads s twi h).ctl.sessions = s.ctl.sessions ∧ (State.reads s twi h).ctl.challenges = s.ctl.challenges := by
  simp only [State.reads]
  repeat' split
  all_goals simp

@[simp] theorem State.stops_sessions (s : State) (twi : Bool) :
    (State.stops s twi).ctl.sessions = s.ctl.sessions ∧ (State.stops s twi).ctl.challenges = s.ctl.challenges := by
  simp only [State.stops]
  all_goals simp

@[simp] theorem State.busTimeout_sessions (s : State) (k : Nat) (held : Bool) :
    (State.busTimeout s k held).ctl.sessions = s.ctl.sessions ∧ (State.busTimeout s k held).ctl.challenges = s.ctl.challenges := by
  simp only [State.busTimeout]
  repeat' split
  all_goals simp

end Sys2Proof.Machine
end

