-- ==== Sys2Proof/Laws/Requests.lean ====
section
/-! SUPPORT. How a request that its port takes is judged, and how one that is admitted is carried out: by the meaning of its opcode, in the
state in which its session has had a packet. -/
namespace Sys2Proof.Machine

theorem touchOne_binding (b : Binding) (n : Nat) (x : Session) : (if x.binding = b then { x with lastPacket := n } else x).binding = x.binding := by split <;> rfl
theorem touchOne_claims (b : Binding) (n : Nat) (x : Session) : (if x.binding = b then { x with lastPacket := n } else x).claims = x.claims := by split <;> rfl
theorem touchOne_number (b : Binding) (n : Nat) (x : Session) : (if x.binding = b then { x with lastPacket := n } else x).number = x.number := by split <;> rfl

/-- A packet changes no claim that stands in a request's way. -/
theorem State.claimClash_touch (s : State) (b : Binding) (j : Job) : (s.touch b).claimClash j = s.claimClash j := by
  simp only [State.claimClash, State.touch]
  split
  · rfl
  · rw [List.filter_map, List.foldl_map]
    simp only [Function.comp_def, touchOne_binding, touchOne_claims]

theorem State.sessionOf_touch (s : State) (b c : Binding) :
    (s.touch b).ctl.sessionOf c = (s.ctl.sessionOf c).map (fun x => if x.binding = b then { x with lastPacket := s.clock.now } else x) := by
  simp only [Control.sessionOf, State.touch, List.find?_map, Function.comp_def, touchOne_binding]

theorem State.sessionNo_touch (s : State) (b : Binding) (q : Req) : (s.touch b).sessionNo q = s.sessionNo q := by
  simp only [State.sessionNo, State.sessionOf_touch]
  cases s.ctl.sessionOf (bindingOf q) <;> simp [touchOne_number]

theorem State.stateOk_touch (s : State) (b : Binding) (row : OpRow) : (s.touch b).stateOk row = s.stateOk row := rfl
theorem State.revisionOk_touch (s : State) (b : Binding) (op : Nat) (q : Req) : (s.touch b).revisionOk op q = s.revisionOk op q := rfl

/-- What is first in the order of R388 is one of those that wait. -/
theorem firstHead_mem (l : List (Nat × Nat × Nat × Nat × Waiting)) : ∀ h, firstHead l = some h → h ∈ l := by
  induction l with
  | nil => intro h hh; simp [firstHead] at hh
  | cons a l ih =>
    intro h hh
    simp only [firstHead] at hh
    cases hl : firstHead l with
    | none => simp_all
    | some b =>
      rw [hl] at hh
      simp only at hh
      split at hh
      · cases hh; exact List.mem_cons_of_mem _ (ih _ hl)
      · cases hh; exact List.mem_cons_self

/-- What waits and comes after a request leaves it first. -/
theorem State.serveBefore_first (q : Req) (n : Nat) (s : State)
    (h : ∀ x ∈ s.heads, headBefore (s.clock.now, q.port.val, q.origin.val, q.oport.val, x.2.2.2.2) x = true) : State.serveBefore q n s = s := by
  cases n with
  | zero => rfl
  | succ n =>
    simp only [State.serveBefore]
    split
    · rfl
    · split
      · rename_i x hx
        simp [h x (firstHead_mem _ _ hx)]
      · rfl

/-- A request that its port takes is judged at once. -/
theorem State.request_takes {s : State} {q : Req} (h : s.Takes q) (op : Nat) (run : State → Job → State) :
    s.request op run q = (s.seen q).judge run { req := q, opcode := op, now := s.clock.now, tick := s.tickNat } := by
  obtain ⟨h1, h0, h2⟩ := h
  simp only [State.request, State.enter, State.serveBefore_first _ _ _ h0, h1, State.execute, State.seen]
  by_cases hp : q.port.val < 2
  · obtain ⟨h3, h4⟩ := h2 hp
    simp [hp, h3, h4]
  · simp [hp]

/-- An admitted request is carried out. -/
theorem State.request_admits {s : State} {q : Req} {op : Nat} (h : s.Admits op q) (run : State → Job → State) :
    s.request op run q = run (s.seen q) (s.jobOf op q) := by
  obtain ⟨ht, hr, row, h1, h2, h3, h4, h5, h6⟩ := h
  rw [State.request_takes ht]
  have hs : (s.seen q).sessionNo q = s.sessionNo q := s.sessionNo_touch _ q
  simp only [State.judge, hs]
  have e1 : (s.seen q).revisionOk op q = true := hr
  have e2 : ¬ q.rev.val < row.rev := by omega
  have e3 : (row.session && decide (q.port.val ≠ 4) && ((s.seen q).ctl.sessionOf (bindingOf q)).isNone) = false := by
    simp only [State.seen, State.sessionOf_touch]
    rcases h3 with h3 | h3 | h3
    · simp [h3]
    · simp [h3]
    · simp only [Option.isNone_map]; cases h : s.ctl.sessionOf (bindingOf q) <;> simp_all
  have e5 : (s.seen q).claimClash (s.jobOf op q) = 0 := by rw [State.seen, State.claimClash_touch]; exact h5
  have e6 : (s.seen q).stateOk row = true := h6
  simp only [State.jobOf] at e5 ⊢
  simp only [e1, h1, e2, e3, h4, e5, e6]
  simp

/-- How a request is judged depends on what carries it out only at its own opcode. -/
theorem State.judge_congr (s : State) (f g : State → Job → State) (j : Job) (h : ∀ n, f s { j with session := n } = g s { j with session := n }) :
    s.judge f j = s.judge g j := by
  simp only [State.judge, h]

theorem State.request_congr (s : State) (op : Nat) (f g : State → Job → State) (q : Req) (h : ∀ s j, j.opcode = op → f s j = g s j) :
    s.request op f q = s.request op g q := by
  simp only [State.request, State.execute]
  congr 1
  funext s
  exact State.judge_congr _ f g _ (fun _ => h _ _ rfl)

/-- A packet opcode as a command is its opcode dispatched. -/
theorem exec_dispatch (i : Instr) (op : Nat) (q : Req) (s : State) (hi : requestOf i = some (op, q)) : exec i s = .next (s.request op State.dispatch q) := by
  cases i <;> simp only [requestOf, reduceCtorEq, Option.some.injEq, Prod.mk.injEq] at hi
  all_goals obtain ⟨rfl, rfl⟩ := hi
  all_goals exact congrArg Host.Outcome.next (State.request_congr s _ _ _ _ (fun s j hj => by simp only [State.dispatch, hj]))

/-- With one packet waiting that comes before a request, it is executed first, and the request then. -/
theorem State.request_after {s t : State} {q : Req} {h : Nat × Nat × Nat × Nat × Waiting} (op : Nat) (run : State → Job → State) (hs : s.served = true)
    (hl : s.bus.spi.mailbox.length + s.bus.twi.mailbox.length + s.ctl.inbox.length = 1) (hh : firstHead s.heads = some h)
    (hb : headBefore (s.clock.now, q.port.val, q.origin.val, q.oport.val, h.2.2.2.2) h = false)
    (ht : t = (s.takeHead h).runPacket h.2.1 h.2.2.1 h.2.2.2.1 h.2.2.2.2) (hT : t.Takes q) : s.request op run q = t.execute run (t.jobOf op q) := by
  obtain ⟨h1, _, h2⟩ := hT
  have e : ∀ z : State, z.judge run { req := q, opcode := op, now := t.clock.now, tick := t.tickNat } = z.judge run (t.jobOf op q) := fun z => rfl
  simp only [State.request, State.enter, hl, State.serveBefore, hs, hh, hb, ← ht, State.execute]
  by_cases hp : q.port.val < 2
  · obtain ⟨h3, h4⟩ := h2 hp
    simp [hp, h1, h3, h4]
    exact e _
  · simp [hp, h1]
    exact e _

end Sys2Proof.Machine
end

