-- ==== Sys2Proof/Laws/Table.lean ====
section
/-! SUPPORT. The laws of the sparse tables: what a write leaves to be read, and that every operation keeps the canonical form. -/
namespace Sys2Proof.Machine

variable {α : Type}

/-- What ascending from a bound says of a later bound. -/
theorem tabAscending_mono {lo lo' : Nat} {t : Tab α} (h : tabAscending lo t = true) (hl : lo' ≤ lo) : tabAscending lo' t = true := by
  cases t with
  | nil => rfl
  | cons e t =>
    simp only [tabAscending, Bool.and_eq_true, decide_eq_true_eq] at h ⊢
    exact ⟨Nat.le_trans hl h.1, h.2⟩

/-- A key below the bound is not listed. -/
theorem tabGet_below (d : Nat → α) {lo j : Nat} {t : Tab α} (h : tabAscending lo t = true) (hj : j < lo) : tabGet d t j = d j := by
  induction t generalizing lo with
  | nil => rfl
  | cons e t ih =>
    obtain ⟨i, v⟩ := e
    simp only [tabAscending, Bool.and_eq_true, decide_eq_true_eq] at h
    have : i ≠ j := by omega
    simp only [tabGet, this, if_false]
    exact ih h.2 (by omega)

theorem tabAscending_put {lo k : Nat} {v : α} {t : Tab α} (h : tabAscending lo t = true) (hk : lo ≤ k) : tabAscending lo (tabPut t k v) = true := by
  induction t generalizing lo with
  | nil => simp [tabPut, tabAscending, hk]
  | cons e t ih =>
    obtain ⟨i, w⟩ := e
    simp only [tabAscending, Bool.and_eq_true, decide_eq_true_eq] at h
    simp only [tabPut]
    split
    · next hlt => simp only [tabAscending, Bool.and_eq_true, decide_eq_true_eq]; exact ⟨hk, by omega, h.2⟩
    · split
      · next he => subst he; simp only [tabAscending, Bool.and_eq_true, decide_eq_true_eq]; exact ⟨hk, h.2⟩
      · simp only [tabAscending, Bool.and_eq_true, decide_eq_true_eq]; exact ⟨h.1, ih h.2 (by omega)⟩

theorem tabAscending_del {lo k : Nat} {t : Tab α} (h : tabAscending lo t = true) : tabAscending lo (tabDel t k) = true := by
  induction t generalizing lo with
  | nil => rfl
  | cons e t ih =>
    obtain ⟨i, w⟩ := e
    simp only [tabAscending, Bool.and_eq_true, decide_eq_true_eq] at h
    simp only [tabDel]
    split
    · exact tabAscending_mono (ih h.2) (by omega)
    · simp only [tabAscending, Bool.and_eq_true, decide_eq_true_eq]; exact ⟨h.1, ih h.2⟩

theorem tabGet_put (d : Nat → α) (t : Tab α) (k j : Nat) (v : α) : tabGet d (tabPut t k v) j = if j = k then v else tabGet d t j := by
  induction t with
  | nil =>
    simp only [tabPut, tabGet]
    by_cases hj : j = k
    · simp [hj]
    · simp [hj, Ne.symm hj]
  | cons e t ih =>
    obtain ⟨i, w⟩ := e
    simp only [tabPut]
    by_cases hki : k < i
    · simp only [hki, if_true, tabGet]
      by_cases hj : j = k
      · simp [hj]
      · simp [hj, Ne.symm hj]
    · by_cases he : k = i
      · subst he
        by_cases hj : j = k
        · simp [tabGet, hj]
        · simp [tabGet, hj, Ne.symm hj]
      · simp only [hki, he, if_false, tabGet, ih]
        by_cases hij : i = j
        · subst hij; simp [Ne.symm he]
        · simp [hij]

theorem tabGet_del (d : Nat → α) (t : Tab α) (k j : Nat) :
    tabGet d (tabDel t k) j = if j = k then d k else tabGet d t j := by
  induction t with
  | nil => simp only [tabDel, tabGet]; split <;> simp_all
  | cons e t ih =>
    obtain ⟨i, w⟩ := e
    simp only [tabDel]
    split
    · next he =>
      subst he
      rw [ih]
      by_cases hj : j = i
      · simp [hj]
      · simp [tabGet, hj, Ne.symm hj]
    · simp only [tabGet, ih]; split <;> split <;> simp_all

/-- The canonical form in two halves. -/
theorem tabWf_iff [DecidableEq α] (d : Nat → α) (t : Tab α) :
    tabWf d t = true ↔ tabAscending 0 t = true ∧ ∀ e ∈ t, e.2 ≠ d e.1 := by
  simp [tabWf, List.all_eq_true]

theorem mem_tabPut {t : Tab α} {k : Nat} {v : α} {e : Nat × α} (h : e ∈ tabPut t k v) : e = (k, v) ∨ e ∈ t := by
  induction t with
  | nil => simpa [tabPut] using h
  | cons a t ih =>
    obtain ⟨i, w⟩ := a
    simp only [tabPut] at h
    split at h
    · simpa using h
    · split at h
      · simp only [List.mem_cons] at h ⊢
        rcases h with h | h
        · exact Or.inl h
        · exact Or.inr (Or.inr h)
      · simp only [List.mem_cons] at h ⊢
        rcases h with h | h
        · exact Or.inr (Or.inl h)
        · rcases ih h with h | h
          · exact Or.inl h
          · exact Or.inr (Or.inr h)

theorem mem_tabDel {t : Tab α} {k : Nat} {e : Nat × α} (h : e ∈ tabDel t k) : e ∈ t := by
  induction t with
  | nil => simp [tabDel] at h
  | cons a t ih =>
    obtain ⟨i, w⟩ := a
    simp only [tabDel] at h
    split at h
    · exact List.mem_cons_of_mem _ (ih h)
    · simp only [List.mem_cons] at h ⊢
      rcases h with h | h
      · exact Or.inl h
      · exact Or.inr (ih h)

/-- A write keeps the canonical form. -/
theorem tabWf_set [DecidableEq α] (d : Nat → α) {t : Tab α} (h : tabWf d t = true) (k : Nat) (v : α) : tabWf d (tabSet d t k v) = true := by
  rw [tabWf_iff] at h ⊢
  simp only [tabSet]
  split
  · exact ⟨tabAscending_del h.1, fun e he => h.2 e (mem_tabDel he)⟩
  · next hv =>
    refine ⟨tabAscending_put h.1 (Nat.zero_le _), fun e he => ?_⟩
    rcases mem_tabPut he with rfl | he
    · exact hv
    · exact h.2 e he

/-- A read after a write: the value at its key, every other key as before. -/
theorem tabGet_set [DecidableEq α] (d : Nat → α) (t : Tab α) (k j : Nat) (v : α) :
    tabGet d (tabSet d t k v) j = if j = k then v else tabGet d t j := by
  simp only [tabSet]
  split
  · next hv => rw [tabGet_del d, hv]
  · exact tabGet_put d t k j v

@[simp] theorem tabGet_set_self [DecidableEq α] (d : Nat → α) (t : Tab α) (k : Nat) (v : α) : tabGet d (tabSet d t k v) k = v := by
  simp [tabGet_set]

theorem tabGet_set_ne [DecidableEq α] (d : Nat → α) (t : Tab α) {k j : Nat} (v : α) (h : j ≠ k) :
    tabGet d (tabSet d t k v) j = tabGet d t j := by
  simp [tabGet_set, h]

theorem tabWf_mod [DecidableEq α] (d : Nat → α) {t : Tab α} (h : tabWf d t = true) (k : Nat) (f : α → α) : tabWf d (tabMod d t k f) = true :=
  tabWf_set d h k _

theorem tabGet_mod [DecidableEq α] (d : Nat → α) (t : Tab α) (k j : Nat) (f : α → α) :
    tabGet d (tabMod d t k f) j = if j = k then f (tabGet d t j) else tabGet d t j := by
  simp only [tabMod, tabGet_set d]
  split
  · next he => rw [he]
  · rfl

/-- The same for an update of every key of a list without repeats. -/
theorem tabWf_mods [DecidableEq α] (d : Nat → α) (f : Nat → α → α) (l : List Nat) {t : Tab α} (h : tabWf d t = true) :
    tabWf d (l.foldl (fun t k => tabMod d t k (f k)) t) = true := by
  induction l generalizing t with
  | nil => exact h
  | cons a l ih => exact ih (tabWf_mod d h a (f a))

theorem tabGet_mods [DecidableEq α] (d : Nat → α) (f : Nat → α → α) (l : List Nat) (hl : l.Nodup) (t : Tab α) (j : Nat) :
    tabGet d (l.foldl (fun t k => tabMod d t k (f k)) t) j = if j ∈ l then f j (tabGet d t j) else tabGet d t j := by
  induction l generalizing t with
  | nil => simp
  | cons a l ih =>
    rw [List.nodup_cons] at hl
    rw [List.foldl_cons, ih hl.2 (tabMod d t a (f a)), tabGet_mod d]
    by_cases hj : j = a
    · subst hj; simp [hl.1]
    · simp [hj]

/-- Two canonical tables that read the same are the same data. -/
theorem tabGet_ext [DecidableEq α] (d : Nat → α) {t u : Tab α} (ht : tabWf d t = true) (hu : tabWf d u = true)
    (h : ∀ k, tabGet d t k = tabGet d u k) : t = u := by
  rw [tabWf_iff] at ht hu
  obtain ⟨ha, hd⟩ := ht
  obtain ⟨hb, he⟩ := hu
  generalize 0 = lo at ha hb
  induction t generalizing lo u with
  | nil =>
    cases u with
    | nil => rfl
    | cons e u =>
      have := h e.1
      simp only [tabGet, if_true] at this
      exact absurd this.symm (he e (List.mem_cons_self ..))
  | cons e t ih =>
    obtain ⟨i, v⟩ := e
    cases u with
    | nil =>
      have := h i
      simp only [tabGet, if_true] at this
      exact absurd this (hd (i, v) (List.mem_cons_self ..))
    | cons e' u =>
      obtain ⟨i', v'⟩ := e'
      simp only [tabAscending, Bool.and_eq_true, decide_eq_true_eq] at ha hb
      have hii : i = i' := by
        rcases Nat.lt_trichotomy i i' with hlt | heq | hgt
        · have := h i
          have hne : i' ≠ i := by omega
          simp only [tabGet, if_true, hne, if_false] at this
          rw [tabGet_below d hb.2 (by omega)] at this
          exact absurd this (hd (i, v) (List.mem_cons_self ..))
        · exact heq
        · have := h i'
          have hne : i ≠ i' := by omega
          simp only [tabGet, if_true, hne, if_false] at this
          rw [tabGet_below d ha.2 (by omega)] at this
          exact absurd this.symm (he (i', v') (List.mem_cons_self ..))
      subst hii
      have hv : v = v' := by have := h i; simpa [tabGet] using this
      subst hv
      rw [ih (fun k => ?_) (fun x hx => hd x (List.mem_cons_of_mem _ hx)) (fun x hx => he x (List.mem_cons_of_mem _ hx)) (i + 1) ha.2 hb.2]
      have hk := h k
      by_cases hik : i = k
      · subst hik
        rw [tabGet_below d ha.2 (by omega), tabGet_below d hb.2 (by omega)]
      · simpa [tabGet, hik] using hk

end Sys2Proof.Machine
end

