-- ==== Sys2Proof/Laws/State.lean ====
section
/-! SUPPORT. What the named updates of the State change and what they keep, field by field. -/
namespace Sys2Proof.Machine

/-! The queue. -/
@[simp] theorem State.withPending_clock (s : State) (l : List Instr) : (s.withPending l).clock = s.clock := rfl
@[simp] theorem State.withPending_power (s : State) (l : List Instr) : (s.withPending l).power = s.power := rfl
@[simp] theorem State.withPending_synth (s : State) (l : List Instr) : (s.withPending l).synth = s.synth := rfl
@[simp] theorem State.withPending_dpll (s : State) (l : List Instr) : (s.withPending l).dpll = s.dpll := rfl
@[simp] theorem State.withPending_bus (s : State) (l : List Instr) : (s.withPending l).bus = s.bus := rfl
@[simp] theorem State.withPending_ctl (s : State) (l : List Instr) : (s.withPending l).ctl = s.ctl := rfl
@[simp] theorem State.withPending_mram (s : State) (l : List Instr) : (s.withPending l).mram = s.mram := rfl
@[simp] theorem State.withPending_cfg (s : State) (l : List Instr) : (s.withPending l).cfg = s.cfg := rfl
@[simp] theorem State.withPending_dep (s : State) (l : List Instr) : (s.withPending l).dep = s.dep := rfl
@[simp] theorem State.withPending_log (s : State) (l : List Instr) : (s.withPending l).log = s.log := rfl
@[simp] theorem State.withPending_jtag (s : State) (l : List Instr) : (s.withPending l).jtag = s.jtag := rfl
@[simp] theorem State.withPending_inp (s : State) (l : List Instr) : (s.withPending l).inp = s.inp := rfl
@[simp] theorem State.withPending_conv (s : State) (l : List Instr) : (s.withPending l).conv = s.conv := rfl
@[simp] theorem State.withPending_sprint (s : State) (l : List Instr) : (s.withPending l).sprint = s.sprint := rfl
@[simp] theorem State.withPending_graph (s : State) (l : List Instr) : (s.withPending l).graph = s.graph := rfl
@[simp] theorem State.withPending_rout (s : State) (l : List Instr) : (s.withPending l).rout = s.rout := rfl
@[simp] theorem State.withPending_out (s : State) (l : List Instr) : (s.withPending l).out = s.out := rfl
@[simp] theorem State.withPending_ports (s : State) (l : List Instr) : (s.withPending l).ports = s.ports := rfl
@[simp] theorem State.withPending_link (s : State) (l : List Instr) : (s.withPending l).link = s.link := rfl
@[simp] theorem State.withPending_wake (s : State) (l : List Instr) : (s.withPending l).wake = s.wake := rfl
@[simp] theorem State.withPending_free (s : State) (l : List Instr) : (s.withPending l).free = s.free := rfl
@[simp] theorem State.withPending_pending (s : State) (l : List Instr) : (s.withPending l).pending = l := rfl
@[simp] theorem State.withFetchWord_eq (s : State) (nbits w : Nat) : s.withFetchWord nbits w = s := rfl

/-! Free values, log counters and attention. -/
@[simp] theorem State.draw_clock (s : State) : (s.draw).clock = s.clock := rfl
@[simp] theorem State.draw_power (s : State) : (s.draw).power = s.power := rfl
@[simp] theorem State.draw_synth (s : State) : (s.draw).synth = s.synth := rfl
@[simp] theorem State.draw_dpll (s : State) : (s.draw).dpll = s.dpll := rfl
@[simp] theorem State.draw_bus (s : State) : (s.draw).bus = s.bus := rfl
@[simp] theorem State.draw_ctl (s : State) : (s.draw).ctl = s.ctl := rfl
@[simp] theorem State.draw_mram (s : State) : (s.draw).mram = s.mram := rfl
@[simp] theorem State.draw_cfg (s : State) : (s.draw).cfg = s.cfg := rfl
@[simp] theorem State.draw_dep (s : State) : (s.draw).dep = s.dep := rfl
@[simp] theorem State.draw_log (s : State) : (s.draw).log = s.log := rfl
@[simp] theorem State.draw_jtag (s : State) : (s.draw).jtag = s.jtag := rfl
@[simp] theorem State.draw_inp (s : State) : (s.draw).inp = s.inp := rfl
@[simp] theorem State.draw_conv (s : State) : (s.draw).conv = s.conv := rfl
@[simp] theorem State.draw_sprint (s : State) : (s.draw).sprint = s.sprint := rfl
@[simp] theorem State.draw_graph (s : State) : (s.draw).graph = s.graph := rfl
@[simp] theorem State.draw_rout (s : State) : (s.draw).rout = s.rout := rfl
@[simp] theorem State.draw_out (s : State) : (s.draw).out = s.out := rfl
@[simp] theorem State.draw_ports (s : State) : (s.draw).ports = s.ports := rfl
@[simp] theorem State.draw_link (s : State) : (s.draw).link = s.link := rfl
@[simp] theorem State.draw_wake (s : State) : (s.draw).wake = s.wake := rfl
@[simp] theorem State.draw_free (s : State) : (s.draw).free = s.free + 1 := rfl
@[simp] theorem State.draw_pending (s : State) : (s.draw).pending = s.pending := rfl
@[simp] theorem State.count_clock (s : State) (ofs n : Nat) : (s.count ofs n).clock = s.clock := rfl
@[simp] theorem State.count_power (s : State) (ofs n : Nat) : (s.count ofs n).power = s.power := rfl
@[simp] theorem State.count_synth (s : State) (ofs n : Nat) : (s.count ofs n).synth = s.synth := rfl
@[simp] theorem State.count_dpll (s : State) (ofs n : Nat) : (s.count ofs n).dpll = s.dpll := rfl
@[simp] theorem State.count_bus (s : State) (ofs n : Nat) : (s.count ofs n).bus = s.bus := rfl
@[simp] theorem State.count_ctl (s : State) (ofs n : Nat) : (s.count ofs n).ctl = s.ctl := rfl
@[simp] theorem State.count_mram (s : State) (ofs n : Nat) : (s.count ofs n).mram = s.mram := rfl
@[simp] theorem State.count_cfg (s : State) (ofs n : Nat) : (s.count ofs n).cfg = s.cfg := rfl
@[simp] theorem State.count_dep (s : State) (ofs n : Nat) : (s.count ofs n).dep = s.dep := rfl
@[simp] theorem State.count_log (s : State) (ofs n : Nat) : (s.count ofs n).log = s.log.add ofs n := rfl
@[simp] theorem State.count_jtag (s : State) (ofs n : Nat) : (s.count ofs n).jtag = s.jtag := rfl
@[simp] theorem State.count_inp (s : State) (ofs n : Nat) : (s.count ofs n).inp = s.inp := rfl
@[simp] theorem State.count_conv (s : State) (ofs n : Nat) : (s.count ofs n).conv = s.conv := rfl
@[simp] theorem State.count_sprint (s : State) (ofs n : Nat) : (s.count ofs n).sprint = s.sprint := rfl
@[simp] theorem State.count_graph (s : State) (ofs n : Nat) : (s.count ofs n).graph = s.graph := rfl
@[simp] theorem State.count_rout (s : State) (ofs n : Nat) : (s.count ofs n).rout = s.rout := rfl
@[simp] theorem State.count_out (s : State) (ofs n : Nat) : (s.count ofs n).out = s.out := rfl
@[simp] theorem State.count_ports (s : State) (ofs n : Nat) : (s.count ofs n).ports = s.ports := rfl
@[simp] theorem State.count_link (s : State) (ofs n : Nat) : (s.count ofs n).link = s.link := rfl
@[simp] theorem State.count_wake (s : State) (ofs n : Nat) : (s.count ofs n).wake = s.wake := rfl
@[simp] theorem State.count_free (s : State) (ofs n : Nat) : (s.count ofs n).free = s.free := rfl
@[simp] theorem State.count_pending (s : State) (ofs n : Nat) : (s.count ofs n).pending = s.pending := rfl
@[simp] theorem State.raise_clock (s : State) (k : Nat) : (s.raise k).clock = s.clock := rfl
@[simp] theorem State.raise_power (s : State) (k : Nat) : (s.raise k).power = s.power := rfl
@[simp] theorem State.raise_synth (s : State) (k : Nat) : (s.raise k).synth = s.synth := rfl
@[simp] theorem State.raise_dpll (s : State) (k : Nat) : (s.raise k).dpll = s.dpll := rfl
@[simp] theorem State.raise_bus (s : State) (k : Nat) : (s.raise k).bus = s.bus.raise s.inbandMask k := rfl
@[simp] theorem State.raise_ctl (s : State) (k : Nat) : (s.raise k).ctl = s.ctl := rfl
@[simp] theorem State.raise_mram (s : State) (k : Nat) : (s.raise k).mram = s.mram := rfl
@[simp] theorem State.raise_cfg (s : State) (k : Nat) : (s.raise k).cfg = s.cfg := rfl
@[simp] theorem State.raise_dep (s : State) (k : Nat) : (s.raise k).dep = s.dep := rfl
@[simp] theorem State.raise_log (s : State) (k : Nat) : (s.raise k).log = s.log := rfl
@[simp] theorem State.raise_jtag (s : State) (k : Nat) : (s.raise k).jtag = s.jtag := rfl
@[simp] theorem State.raise_inp (s : State) (k : Nat) : (s.raise k).inp = s.inp := rfl
@[simp] theorem State.raise_conv (s : State) (k : Nat) : (s.raise k).conv = s.conv := rfl
@[simp] theorem State.raise_sprint (s : State) (k : Nat) : (s.raise k).sprint = s.sprint := rfl
@[simp] theorem State.raise_graph (s : State) (k : Nat) : (s.raise k).graph = s.graph := rfl
@[simp] theorem State.raise_rout (s : State) (k : Nat) : (s.raise k).rout = s.rout := rfl
@[simp] theorem State.raise_out (s : State) (k : Nat) : (s.raise k).out = s.out := rfl
@[simp] theorem State.raise_ports (s : State) (k : Nat) : (s.raise k).ports = s.ports := rfl
@[simp] theorem State.raise_link (s : State) (k : Nat) : (s.raise k).link = s.link := rfl
@[simp] theorem State.raise_wake (s : State) (k : Nat) : (s.raise k).wake = s.wake := rfl
@[simp] theorem State.raise_free (s : State) (k : Nat) : (s.raise k).free = s.free := rfl
@[simp] theorem State.raise_pending (s : State) (k : Nat) : (s.raise k).pending = s.pending := rfl

/-! Channels and ports: the one updated, and the others. -/
theorem State.inCh_modIn (s : State) (n m : Nat) (f : InputCh → InputCh) : (s.modIn n f).inCh m = if m = n then f (s.inCh m) else s.inCh m :=
  tabGet_mod (fun _ => ({} : InputCh)) s.inp.ch n m f
@[simp] theorem State.inCh_modIn_self (s : State) (n : Nat) (f : InputCh → InputCh) : (s.modIn n f).inCh n = f (s.inCh n) := by simp [State.inCh_modIn]
theorem State.inCh_modIn_ne (s : State) {n m : Nat} (f : InputCh → InputCh) (h : m ≠ n) : (s.modIn n f).inCh m = s.inCh m := by simp [State.inCh_modIn, h]
theorem State.outCh_modOut (s : State) (n m : Nat) (f : OutCh → OutCh) : (s.modOut n f).outCh m = if m = n then f (s.outCh m) else s.outCh m :=
  tabGet_mod (fun _ => ({} : OutCh)) s.out.ch n m f
@[simp] theorem State.outCh_modOut_self (s : State) (n : Nat) (f : OutCh → OutCh) : (s.modOut n f).outCh n = f (s.outCh n) := by simp [State.outCh_modOut]
theorem State.outCh_modOut_ne (s : State) {n m : Nat} (f : OutCh → OutCh) (h : m ≠ n) : (s.modOut n f).outCh m = s.outCh m := by simp [State.outCh_modOut, h]
theorem State.port_modPort (s : State) (n m : Nat) (f : Port → Port) : (s.modPort n f).port m = if m = n then f (s.port m) else s.port m :=
  tabGet_mod (fun _ => ({} : Port)) s.ports.port n m f
@[simp] theorem State.port_modPort_self (s : State) (n : Nat) (f : Port → Port) : (s.modPort n f).port n = f (s.port n) := by simp [State.port_modPort]
theorem State.port_modPort_ne (s : State) {n m : Nat} (f : Port → Port) (h : m ≠ n) : (s.modPort n f).port m = s.port m := by simp [State.port_modPort, h]
@[simp] theorem Bus.port_mod (b : Bus) (twi : Bool) (f : BusPort → BusPort) : (b.mod twi f).port twi = f (b.port twi) := by cases twi <;> rfl
@[simp] theorem Bus.port_mod_other (b : Bus) (twi : Bool) (f : BusPort → BusPort) : (b.mod twi f).port (!twi) = b.port (!twi) := by cases twi <;> rfl
@[simp] theorem Link.port_modPort (l : Link) (x : Nat) (f : LinkPort → LinkPort) : (l.modPort x f).port x = f (l.port x) := by
  unfold Link.port Link.modPort; split <;> rfl
theorem Link.port_modPort_ne (l : Link) {x y : Nat} (f : LinkPort → LinkPort) (h : (y = 0) ↔ ¬ (x = 0)) : (l.modPort x f).port y = l.port y := by
  unfold Link.port Link.modPort; by_cases hx : x = 0 <;> simp_all

/-! Parameters in force. -/
/-- A parameter written reads back, cut to 64 bits, and no other changes. -/
theorem pGet_pSet (t : Tab PVal) (id k v : Nat) : pGet (pSet t id v) k = if k = id then v % 2 ^ 64 else pGet t k := by
  unfold pGet pSet; rw [tabGet_set]; split <;> simp

end Sys2Proof.Machine
end

