-- ==== Sys2Proof/Tests/Slice0.lean ====
section
/-! SUPPORT. Tests: ill-formed operands are refused, single commands on small states give what the spec's rules say, and every statement of
Obligations.lean has states and operands that meet its hypotheses (witness_<statement>, one conjunct for a clause). -/
namespace Sys2Proof.Tests
open Sys2Proof.Machine

-- One proof after another: a check of the whole text in one process stays within its memory.
set_option Elab.async false

/-- A small state in Idle: the root runs, TICK is 64000 at tick count 200000. -/
def base : State :=
  { clock := { tick := 64000, now := 200000, counting := true, rootRunning := true }, power := { mode := .idle } }

/-- The state that a command leads to. -/
def answer (o : Host.Outcome State Fault Refusal) : State := match o with | .next s => s | _ => State.reset

/-- The same in another mode. -/
def inMode (m : Mode) : State := { base with power := { mode := m } }
def runS : State := inMode .run

/-- The base state with STATIC or LIVE parameters, or BANKED ones of the active bank. -/
def withDir (l : List (Nat × Nat)) (s : State) : State := { s with cfg := { s.cfg with direct := l.foldl (fun t e => pSet t e.1 e.2) s.cfg.direct } }
def withAct (l : List (Nat × Nat)) (s : State) : State := { s with cfg := { s.cfg with active := l.foldl (fun t e => pSet t e.1 e.2) s.cfg.active } }

/-- Input channel n, converter channel n, and input jack pin n as given. -/
def inS (n : Nat) (c : InputCh) : State := { base with inp := { ch := [(n, c)] } }
def adcS (n : Nat) (a : AdcCh) : State := { base with conv := { adc := [(n, a)] } }
def pinS (n : Nat) (p : JackPin) (cfg : Nat) : State := withDir [(0x0340 + n, cfg)] { base with inp := { pins := [(n, p)] } }


/-! WellFormed refuses an ill-formed term for each of its checks, and takes the boundary of each range. -/
theorem smoke_request : (Instr.hello { port := 0, payload := List.replicate 1025 0 }).wf = false ∧ (Instr.hello { port := 0, payload := List.replicate 1024 0 }).wf = true ∧
    (Instr.hello { port := 2 }).wf = false ∧ (Instr.hello { port := 2, remote := true, origin := 7, oport := 1 }).wf = true ∧
    (Instr.hello { port := 1, origin := 1 }).wf = false ∧ (Instr.hello { port := 4, oport := 1 }).wf = false ∧
    (Instr.remoteForward { port := 3 } 0 0).wf = false := by decide +kernel
theorem smoke_portFrame : (Instr.portFrameStart 0 { at_ := 0, clocks := 64, slots := List.replicate 33 0 }).wf = false ∧
    (Instr.portFrameStart 0 { at_ := 0, clocks := 64, slots := [2 ^ 32] }).wf = false ∧ (Instr.portFrameStart 0 { at_ := 0, clocks := 64, slots := [2 ^ 32 - 1] }).wf = true := by
  decide +kernel
def cellOf (n : Nat) : LinkCell := { first := true, last := true, src := 0, dst := 1, seq := 0, seg := 0, data := List.replicate n 0 }
theorem smoke_cell : (Instr.controlCellReceived 0 (cellOf 0)).wf = false ∧ (Instr.controlCellReceived 0 (cellOf 53)).wf = false ∧
    (Instr.controlCellReceived 0 (cellOf 1)).wf = true ∧ (Instr.controlCellReceived 0 (cellOf 52)).wf = true := by decide +kernel
def frameOf (cells : List LinkCell) : LinkFrame := { label := 0, origin := 0, pace := 0, l := 4, k := 0, cells := cells }
theorem smoke_frame : (Instr.linkFrameReceived 0 (frameOf (List.replicate 5 (cellOf 1))) 0).wf = false ∧ (Instr.linkFrameReceived 0 (frameOf [cellOf 0]) 0).wf = false ∧
    (Instr.linkFrameReceived 0 { frameOf [] with crossed := [512] } 0).wf = false ∧ (Instr.linkFrameReceived 0 (frameOf (List.replicate 4 (cellOf 1))) 0).wf = true := by
  decide +kernel
theorem smoke_sprintSample : (Instr.sprintSample (List.replicate 24 [9, 0, 0, 0]) (List.replicate 9 false)).wf = false ∧
    (Instr.sprintSample (List.replicate 24 [8, -8, 0]) (List.replicate 9 false)).wf = false ∧ (Instr.sprintSample (List.replicate 23 [0, 0, 0, 0]) (List.replicate 9 false)).wf = false ∧
    (Instr.sprintSample (List.replicate 24 [8, -8, 0, 0]) (List.replicate 8 false)).wf = false ∧
    (Instr.sprintSample (List.replicate 24 [8, -8, 0, 0]) (List.replicate 9 true)).wf = true := by decide
theorem smoke_indices : (Instr.nodeFiringComplete 15 8192).wf = false ∧ (Instr.nodeFiringComplete 15 8191).wf = true ∧ (Instr.measConversionEnd 12 8388608).wf = false ∧
    (Instr.measConversionEnd 12 (-8388608)).wf = true ∧ (Instr.routeCrossfadeEnd 2048).wf = false ∧ (Instr.routeGainZeroCrossing 2076).wf = false ∧
    (Instr.routeGainZcTimeout 2076).wf = false ∧ (Instr.gainRampEnd 2076).wf = false ∧ (Instr.gainRampEnd 2075).wf = true ∧ (Instr.busScaleRampEnd 64).wf = false ∧
    (Instr.hpfCrossfadeEnd 24).wf = false ∧ (Instr.hpfCrossfadeEnd 0x2008).wf = true := by decide
theorem smoke_events : (Instr.handoffMeasureDone [1, 2, 3, 4, 5, 6, 7] 0).wf = false ∧ (Instr.scrubVisit 9 0 0 0 false).wf = false ∧ (Instr.scrubVisit 8 16 0 0 false).wf = false ∧
    (Instr.scrubVisit 8 15 (2 ^ 24) 0 false).wf = false ∧ (Instr.bankWordRestore true 2 2048).wf = false ∧ (Instr.bankWordRestore true 13 511).wf = true ∧
    (Instr.bankWordRestore true 3 0).wf = false ∧ (Instr.jtagInstruction 16).wf = false ∧ (Instr.jtagInstruction 15).wf = true := by decide

/-! Single definitions against figures that the manual works out. -/
/-- The nine ASCII bytes of R385. -/
theorem test_crc32c : crc32c ([0x31, 0x32, 0x33, 0x34, 0x35, 0x36, 0x37, 0x38, 0x39]) = 0xE3069283 := by decide +kernel
/-- The examples under R43 and R288: +47.5 dB is A 45 dB and T 2.5 dB, instrument mode 24 dB; ΔS of +250,000 ppt. -/
theorem test_effGain : (effGain 1 4750 / 6, effGain 1 4750 % 6) = (15, 5) ∧ (effGain 2 4750 / 6, effGain 2 4750 % 6) = (8, 0) ∧ effGain 0 4750 = 0 := by decide
theorem test_steerWord : word0 24576000 = 36028797018963968 ∧ steerWord (word0 24576000) (96 * 250000) = 9007199255 := by decide +kernel
/-- The example under R138: an FIR of 2,048 taps. -/
theorem test_firFigures : (opFig 10 2048).map (fun f => (f.c, f.l, f.m)) = some (2120, 64, 2049) := by decide +kernel

theorem witness_InputGainIsMadeAtCrossingOrTimeout :
    (let s := { inS 15 { wait := some { aStep := 0, trim := 5, deadline := 200000 } } with conv := { adc := [(15, { cicPrev := -1, cicNow := 1 })] } }
     let c := s.inCh 15; let a := s.adcCh 15
     c.wait = some { aStep := 0, trim := 5, deadline := 200000 } ∧ (a.cicPrev < 0 ∧ 0 < a.cicNow) ∧ c.aStep = 0 ∧ 200000 ≤ s.clock.now) ∧
    (let s := { inS 0 { wait := some { aStep := 3, trim := 5, deadline := 200001 } } with conv := { adc := [(0, { cicPrev := 0, cicNow := 1 })] } }
     let c := s.inCh 0; let a := s.adcCh 0
     c.wait = some { aStep := 3, trim := 5, deadline := 200001 } ∧ ¬ (a.cicNow = 0 ∨ (a.cicPrev < 0 ∧ 0 < a.cicNow) ∨ (0 < a.cicPrev ∧ a.cicNow < 0)) ∧
       c.aStep ≠ 3 ∧ s.clock.now < 200001) := by decide

/-- A mute curve of input 0 that began at sprint sample 0. -/
def curveS (up : Bool) (len : Nat) (c : InputCh) : State := inS 0 { c with mute := { curve := some { rising := up, g0 := 5, start := 0, len := len } } }
/-- Input 0 with a phantom sequence that ends at a tick count. -/
def phS (p : PhState) (e : Nat) (c : InputCh) : State := inS 0 { c with phantom := p, phEnd := e }
/-- The phantom port, with a queued input as given. -/
def phPortS (c : InputCh) (p : PhantomPort) : State := { base with inp := { ch := [(15, c)], phantom := p } }

/-! Each clause by the conditions that it names. -/
theorem witness_InputSequencesAndPhantomFramesAdvance :
    ((curveS false 25600000 {}).samp = 25600000 ∧ ((curveS false 25600000 {}).inCh 0).seqStep ≠ 1 ∧ ((curveS false 1 { seqStep := 1 }).inCh 0).seqStep = 1) ∧
    (((curveS true 25600000 { seqStep := 7 }).inCh 0).mute.curve = some { rising := true, g0 := 5, start := 0, len := 25600000 }) ∧
    ((curveS true 25600001 {}).samp < 0 + 25600001 ∧ ((inS 0 {}).inCh 0).mute.curve = none) ∧
    (let s := inS 0 { seqStep := 4, settleEnd := 200000, unsettledTo := 200000 }
     let c := s.inCh 0; c.seqStep = 4 ∧ c.settleEnd ≤ s.clock.now ∧ c.mode = s.act 0x0300 ∧ c.phantom ≠ .queued ∧ s.clock.now ≤ c.unsettledTo ∧ 0 < c.unsettledTo) ∧
    (let s := inS 0 { seqStep := 4, settleEnd := 200001 }; s.clock.now < (s.inCh 0).settleEnd ∧ ((inS 0 {}).inCh 0).seqStep ≠ 4) ∧
    (let c := fun x => (phS .ramping 200000 x).inCh 0
     (c {}).phantom = .ramping ∧ (c {}).phEnd ≤ base.clock.now ∧ (c { phClear := true }).phClear = true ∧
     ((c { seqStep := 6 }).phClear = false ∧ (c { seqStep := 6 }).seqStep = 6) ∧
     ((c { causeJack := true }).phClear = false ∧ (c { causeJack := true }).seqStep ≠ 6 ∧ (c { causeJack := true }).causeJack = true) ∧
     ((c {}).phClear = false ∧ (c {}).seqStep ≠ 6 ∧ (c {}).causeMode = false ∧ (c {}).causeJack = false)) ∧
    (let c := (phS .ramping 200001 {}).inCh 0; base.clock.now < c.phEnd ∧ c.phantom ≠ .discharging) ∧
    (let c := fun x => (phS .discharging 200000 x).inCh 0
     (c {}).phantom = .discharging ∧ (c {}).phEnd ≤ base.clock.now ∧ (c { phRequeue := true }).phRequeue = true ∧
     ((c { seqStep := 2 }).phRequeue = false ∧ (c { seqStep := 2 }).seqStep = 2) ∧ (c { seqStep := 6 }).seqStep = 6 ∧
     ((c { causeMode := true }).seqStep ≠ 2 ∧ (c { causeMode := true }).seqStep ≠ 6 ∧ (c { causeMode := true }).causeMode = true) ∧
     ((c {}).phRequeue = false ∧ (c {}).causeMode = false ∧ (c {}).causeJack = false)) ∧
    (let c := (phS .discharging 200001 {}).inCh 0; base.clock.now < c.phEnd ∧ c.phantom ≠ .ramping) := by decide

theorem witness_phantom_frames :
    (let s := phPortS {} { frameAt := some 199040 }
     s.asleep = false ∧ s.power.inReset = false ∧ s.clock.rootRunning = true ∧ s.clock.phase = 0 ∧ s.inp.phantom.sending = none ∧
       s.inp.phantom.frameAt = some 199040 ∧ 199040 + 960 ≤ s.clock.now ∧ s.phantomPick = none) ∧
    (let s := phPortS { phantom := .queued, mute := { gain := 0 } } { frameAt := some 200000 }; s.phantomDue = true ∧ s.phantomPick.isSome = true) ∧
    (let s := phPortS {} { frameAt := some 199041 }; s.phantomDue = false ∧ s.inp.phantom.frameAt = some 199041 ∧ s.clock.now < 199041 + 960) ∧
    (let s := { phPortS {} { frameAt := some 199040 } with power := { mode := .recovery } }; s.asleep = false ∧ s.power.inReset = false) ∧
    ((inMode .rest).asleep = true ∧ { base with power := { inReset := true } }.power.inReset = true ∧ (phPortS {} { sending := some 5 }).inp.phantom.sending.isSome = true) ∧
    (let p : PhantomPort := { sending := some 0xFFFF }; p.sending = some 0xFFFF ∧ p.allOff = false) := by decide

theorem witness_InputJackIsDebounced :
    (let s := pinS 7 {} 0x10; s.asleep = false ∧ (s.inPin 7).level ≠ true ∧ s.dir 0x0347 = 0x10) ∧
    (let s := pinS 0 {} 0x10; (s.inPin 0).level = false) ∧
    (let s := pinS 0 { debounceEnd := some 200000, first := false } 0x10
     (s.dir 0x0340).testBit 4 = true ∧ (s.inPin 0).debounceEnd = some 200000 ∧ 200000 ≤ s.clock.now ∧ (s.inPin 0).first = false ∧
       (s.inPin 0).plugged ≠ decide ((s.inPin 0).level = (s.dir 0x0340).testBit 5)) ∧
    (let s := pinS 0 { settleEnd := some 200000 } 0; (s.inPin 0).settleEnd = some 200000 ∧ 200000 ≤ s.clock.now) := by decide


theorem witness_ModulatorOverloadIsFoundAndMarked :
    (let s := adcS 23 { inReset := true }; (s.adcCh 23).inReset = true ∧ overloaded (s.dir 0x0481) (s.adcCh 23).window = false) ∧
    (let s := withDir [(0x0481, 0x0011)] (adcS 0 { window := [3] }); (s.adcCh 0).inReset = false ∧ overloaded (s.dir 0x0481) (s.adcCh 0).window = true) ∧
    (let s := adcS 0 {}; (s.adcCh 0).inReset = false ∧ overloaded (s.dir 0x0481) (s.adcCh 0).window = false) ∧
    (let c : InputCh := { overAt := some 5 }; c.clips 5 16 = false ∧ c.clips 6 16 = true ∧ c.clips 21 16 = true ∧ c.clips 22 16 = false) := by decide

theorem witness_SettlesConversionsAndCrossfadesEnd :
    (let s := inS 15 { unsettledTo := 199999 }; (s.inCh 15).unsettledTo < s.clock.now ∧ (s.inCh 15).seqStep ≠ 5) ∧
    (let s := inS 15 { unsettledTo := 199999, seqStep := 5 }; (s.inCh 15).unsettledTo < s.clock.now ∧ (s.inCh 15).seqStep = 5) ∧
    (let s := inS 15 { unsettledTo := 200000 }; s.clock.now ≤ (s.inCh 15).unsettledTo) ∧
    (let s := withDir [(0x0480, 0x80)] (adcS 23 { quick := { fresh := true } }); s.quickMode 23 = true ∧ (s.adcCh 23).quick.fresh = true) ∧
    (let s := adcS 0 {}; (s.adcCh 0).quick.fresh = false) ∧
    (let s := { base with sprint := { cells := [(15, { old := some { image := [], cfg := 0, ops := [] }, fade := 256 })] } }
     (s.cell 15).old.isSome = true ∧ 256 ≤ (s.cell 15).fade) ∧
    (let s := { base with sprint := { cells := [(15, { fade := 255 })] } }; (s.cell 15).fade < 256) := by decide

theorem witness_MeasurementConversionsFollowTheScan :
    (let s := { base with conv := { current := some 13, startAt := 199936 } }
     s.conv.current = some 13 ∧ s.clock.rootRunning = true ∧ s.tickNat % 64 = 0 ∧ s.conv.startAt + 64 ≤ s.clock.now) ∧
    (let s := { base with conv := { current := some 4, scan := 13 } }
     s.conv.current = some 4 ∧ s.conv.startAt + 64 ≤ s.clock.now ∧ s.conv.asked = [] ∧ (s.dir 0x0480).testBit 8 = true) ∧
    (let s := { base with conv := { current := some 9, scan := 4, asked := [8] } }; s.conv.current = some 9 ∧ s.conv.asked = [8] ∧ (8 : Nat) ≠ 9) ∧
    (let s := { base with conv := { current := some 4, startAt := 199937 } }; s.conv.current ≠ some 3 ∧ s.clock.now < s.conv.startAt + 64) := by decide


/-- Output channels, headphone pins and jacks, and guard pins as given. -/
def outS (l : Tab OutCh) : State := { base with out := { ch := l } }
def pumpS (p : Pump) (idle : Option Nat) : State := { base with out := { pump := p, pumpIdle := idle } }
def hpS (n : Nat) (p : JackPin) (cfg : Nat) : State := withDir [(0x0600 + n, cfg)] { base with out := { pins := [(n, p)] } }
def jackS (n : Nat) (k : HpJack) : State := { base with out := { jacks := [(n, k)] } }
def gbyS (p : GbyPin) (cfg : Nat) (lock : Bool) : State := withDir [(0x0608, cfg)] { runS with out := { gby := [(0, p)] }, synth := { lock := lock } }

theorem witness_LineOutputStepsEnd :
    (let s := outS [(27, { mute := { curve := some { rising := true, g0 := 0, start := 0, len := 25600000 } } })]
     let c := s.outCh 27; c.mute.curve = some { rising := true, g0 := 0, start := 0, len := 25600000 } ∧ 0 + 25600000 ≤ s.samp ∧ c.stopping = false) ∧
    (let s := withAct [(0x0500, 0)] (outS [(0, { mute := { curve := some { rising := false, g0 := 9, start := 0, len := 1 } }, stopping := true })])
     let c := s.outCh 0; c.mute.curve = some { rising := false, g0 := 9, start := 0, len := 1 } ∧ 0 + 1 ≤ s.samp ∧ c.stopping = true ∧ c.mute.curve = some { rising := false, g0 := 9, start := 0, len := 1 } ∧ s.wantsOut 0 = false) ∧
    (let c : OutCh := { mute := { curve := some { rising := false, g0 := 9, start := 0, len := 1 } }, stopping := true }
     let s := withAct [(0x0500, 1)] { outS [(0, c)] with power := { mode := .run } }
     (s.outCh 0).stopping = true ∧ ({ s with out := { s.out with ch := [(0, { c with mute := { gain := 0, curve := none }, driving := false, stopping := false })] } } : State).wantsOut 0 = true) ∧
    (let s := outS [(0, { mute := { curve := some { rising := true, g0 := 9, start := 0, len := 25600001 } } })]
     (s.outCh 0).mute.curve = some { rising := true, g0 := 9, start := 0, len := 25600001 } ∧ s.samp < 0 + 25600001 ∧ (s.outCh 1).mute.curve = none) ∧
    (let s := withDir [(0x0530, 0)] base; (s.dir 0x0530).testBit 0 = false ∧ (s.dir 0x0530).testBit 1 = false) ∧
    ((withDir [(0x0530, 1)] base).dir 0x0530).testBit 0 = true ∧ ((withDir [(0x0530, 2)] base).dir 0x0530).testBit 1 = true ∧
    (let s := { base with out := { bias := .rising 0 199000 200000, ch := [(15, { step := 1 })] } }
     s.out.bias = .rising 0 199000 200000 ∧ 200000 ≤ s.clock.now ∧ (s.outCh 15).step = 1) ∧
    (let s := { base with out := { bias := .falling 7 199000 200000 } }; s.out.bias = .falling 7 199000 200000 ∧ 200000 ≤ s.clock.now) ∧
    (let s := withDir [(0x0520 + 15, 4)] (outS [(15, { step := 2, stepEnd := 200000 })])
     let c := s.outCh 15; c.step = 2 ∧ c.stepEnd ≤ s.clock.now ∧ (s.dir (0x0520 + 15)).testBit 2 = true ∧ c.calibrated = false) ∧
    (let s := outS [(0, { step := 2, calibrated := true })]
     let c := s.outCh 0; c.step = 2 ∧ c.stepEnd ≤ s.clock.now ∧ c.calibrated = true ∧ c.causes.getLsbD 1 = true ∧ c.clearAt ≠ s.clock.now) ∧
    (let s := outS [(0, { step := 3 })]
     let c := s.outCh 0; c.step = 3 ∧ c.stepEnd ≤ s.clock.now ∧ c.causes.getLsbD 1 = true ∧ c.clearAt ≠ s.clock.now) := by decide

theorem witness_ChargePumpStartsFailsRetriesAndStops :
    (let s := { outS [(23, { step := 1 })] with out := { pump := .starting 5, ch := [(23, { step := 1 })] } }
     s.out.pump = .starting 5 ∧ s.power.valid.getLsbD 6 = true ∧ (s.outCh (16 + 7)).step = 1) ∧
    (let s := pumpS .ready none; s.out.pump = .ready) ∧
    (let s := pumpS (.starting 199040) none; s.out.pump = .starting 199040 ∧ 199040 + 960 ≤ s.clock.now) ∧
    (let s := pumpS (.starting 199041) none; s.out.pump = .starting 199041 ∧ s.clock.now < 199041 + 960) ∧
    (let s := pumpS (.failed 104000) none; s.out.pump = .failed 104000 ∧ 104000 + 96000 ≤ s.clock.now) ∧
    (let s := pumpS (.failed 104001) none; s.out.pump = .failed 104001 ∧ s.clock.now < 104001 + 96000) ∧
    (let s := withAct ((List.range 8).map (fun i => (0x0510 + i, 0))) <| withDir [(0x0604, 20)] (pumpS .ready (some 8000))
     s.out.pumpIdle = some 8000 ∧ 8000 + 9600 * field (s.dir 0x0604) 0 8 ≤ s.clock.now ∧ s.out.pump = .ready ∧ s.pumpWanted = false) ∧
    (let s := withAct [(0x0510, 1)] (pumpS .ready (some 8000)); s.pumpWanted = true) := by decide

theorem witness_HeadphonesConnectTripAndRecover :
    (let s := outS [(16, { step := 2, stepEnd := 200000 })]; (16 = 16 + 2 * 0) ∧ (s.outCh 16).step = 2 ∧ (s.outCh 16).stepEnd ≤ s.clock.now ∧ (s.hpJack 0).step = .none ∧ s.awaitsClass 0 = false) ∧
    (let s := withDir [(0x0600, 0x13)] { outS [(23, { step := 2 })] with out := { ch := [(23, { step := 2 })], jacks := [(3, { plugged := false })] } }
     (23 = 17 + 2 * 3) ∧ (s.outCh 23).step = 2 ∧ (s.outCh 23).stepEnd ≤ s.clock.now ∧ (s.hpJack 3).step = .none ∧ s.awaitsClass 3 = true) ∧
    ((jackS 3 { step := .rise 1 }).hpJack 3).step ≠ .none ∧
    (let s := outS [(17, { driving := true, trips := [199999, 199998, 5] })]
     (s.outCh (17 + 2 * 0)).driving = true ∧ 2 ≤ ((s.outCh 17).trips.filter (fun x => decide (s.clock.now < x + 5760000))).length) ∧
    (let s := outS [(16, { driving := true, trips := [199999] })]
     (s.outCh (16 + 2 * 0)).driving = true ∧ ((s.outCh 16).trips.filter (fun x => decide (s.clock.now < x + 5760000))).length < 2) ∧
    (let s := outS []; (s.outCh 16).driving = false ∧ (s.outCh 17).driving = false) ∧
    (let s := outS [(16, { retryAt := some 200000 })]; (s.outCh 16).retryAt = some 200000 ∧ 200000 ≤ s.clock.now ∧ s.hpPins 0 = [] ∧ s.out.cpFault = false) ∧
    (let s := outS [(16, { retryAt := some 200001 })]; (s.outCh 16).retryAt = some 200001 ∧ s.clock.now < 200001) := by decide

theorem witness_HeadphoneJackMeasurementRuns :
    (let s := hpS 3 {} 0x10; (s.hpPin 3).level ≠ true ∧ s.asleep = false ∧ s.hpPinOn 3 = true ∧ (s.hpPin 3).first = true) ∧
    (let s := hpS 0 {} 0x10; (s.hpPin 0).level = false) ∧
    (let s := hpS 0 { level := true, first := false, plugged := true } 0x30
     (s.hpPin 0).level ≠ false ∧ s.asleep = false ∧ s.hpPinOn 0 = true ∧ (s.hpPin 0).first = false ∧ false ≠ (s.dir 0x0600).testBit 5 ∧
       (s.hpPin 0).plugged = true ∧ (s.hpPin 0).debounceEnd = none) ∧
    (let s := hpS 0 { debounceEnd := some 200000 } 0x30
     s.hpPinOn 0 = true ∧ (s.hpPin 0).debounceEnd = some 200000 ∧ 200000 ≤ s.clock.now ∧ (s.hpJack (s.hpPinFor 0)).keep = false ∧ (s.hpPin 0).first = true ∧
       (s.hpPin 0).level ≠ (s.dir 0x0600).testBit 5) ∧
    (let s := jackS 3 { step := .rise 200000 }; (s.hpJack 3).step = .rise 200000 ∧ 200000 ≤ s.clock.now) ∧
    (let s := jackS 0 { step := .fall 200000, readL := [100, 200], repeats := 1 }
     (s.hpJack 0).step = .fall 200000 ∧ 200000 ≤ s.clock.now ∧ unstable (s.hpJack 0).readL = true ∧ (s.hpJack 0).repeats < 2) ∧
    (let s := jackS 0 { step := .fall 200000, readL := [10000, 11000, 10000, 10200], readR := [100, 100, 100, 100] }
     (s.hpJack 0).step = .fall 200000 ∧ 200000 ≤ s.clock.now ∧ unstable (s.hpJack 0).readL = false ∧ unstable (s.hpJack 0).readR = false ∧
       (s.hpJack 0).readL.sum % 400 = 0) ∧
    (let s := hpS 3 { glitchEnd := some 200000 } 0x10; (s.hpPin 3).glitchEnd = some 200000 ∧ 200000 ≤ s.clock.now) := by decide

theorem witness_SpeakerProtectionsTripAndRecover :
    (let s := outS [(24, { driving := true })]; ((s.outCh 24).driving = true) ∧ s.stages 0 = [0] ∧ (s.outCh 24).prot.getLsbD 0 = false) ∧
    (let s := outS [(27, { step := 1, prot := 1 })]
     ((s.outCh 27).step ≠ 0) ∧ s.stages 3 = [3] ∧ (s.outCh 27).prot.getLsbD 2 = false ∧ (s.dir 0x0530).testBit 3 = false ∧ (s.outCh 27).prot.getLsbD 5 = false) ∧
    (let s := withDir [(0x0530, 1)] (outS [(24, { driving := true })])
     s.stages 1 = [0, 0 + 1] ∧ (s.outCh (24 + 0)).driving = true ∧ (s.outCh (24 + 1)).prot.getLsbD 0 = false) ∧
    (let s := outS []; s.stages 0 = [0] ∧ (s.outCh 24).step = 0 ∧ (s.outCh 24).driving = false) ∧
    (let s := withDir [(0x0530, 8)] (outS []); (s.dir 0x0530).testBit 3 = true) ∧
    (let s := outS [(27, { step := 2, stepEnd := 200000 })]
     let c := s.outCh 27; c.step = 2 ∧ c.stepEnd ≤ s.clock.now ∧ c.causes.getLsbD 1 = true ∧ c.clearAt ≠ s.clock.now) ∧
    (let s := outS [(24, { prot := 1, retryAt := some 200000 })]
     let c := s.outCh 24; s.stages 0 = [0] ∧ c.prot = 1#7 ∧ c.retryAt = some 200000 ∧ 200000 ≤ s.clock.now ∧ c.latched = false ∧ s.inRun = false) ∧
    (let s := { base with out := { vspkSince := some 199040 } }; s.out.vspkSince = some 199040 ∧ 199040 + 960 ≤ s.clock.now) ∧
    (let s := { base with out := { vspkSince := some 199041 } }; s.out.vspkSince = some 199041 ∧ s.clock.now < 199041 + 960) := by decide

theorem witness_GuardPinsFollowHealth :
    (let s := gbyS { high := true } (2 ^ 32) false
     s.gbyOn 0 = true ∧ s.gbyFails 0 = 3 ∧ (s.gbyPin 0).high = true ∧ (s.gbyPin 0).preEnd = none ∧ (s.gbyPin 0).settleEnd = none) ∧
    (let s := gbyS {} 0 true; s.gbyOn 0 = false ∧ s.gbyDue 0 = false) ∧
    (let s := gbyS { preEnd := some 200000 } (2 ^ 32) true; (s.gbyPin 0).preEnd = some 200000 ∧ 200000 ≤ s.clock.now) ∧
    (let s := gbyS { recovery := 1, healthySince := some 0 } (2 ^ 32 + 2 ^ 42) true; s.gbyDue 0 = true) ∧
    (let s := gbyS { settleEnd := some 200000 } (2 ^ 32) true; (s.gbyPin 0).settleEnd = some 200000 ∧ 200000 ≤ s.clock.now) ∧
    (let s := gbyS { settleEnd := some 200001 } (2 ^ 32) true; (s.gbyPin 0).settleEnd = some 200001 ∧ s.clock.now < 200001) := by decide


/-- One contribution, and routing as given. -/
def ctr (w : Option (Nat × Nat)) (r : Option (Nat × Nat)) : Contribution :=
  { entry := 7, source := 1, sink := 2, invert := false, gain := { wait := w, ramp := r }, rising := true, w0 := 0, start := 199900, len := 100, law := 0 }
def routS (l : List Contribution) (cur prev : Word) : State :=
  { base with rout := { contribs := l, cur := [(1, { sample := cur })], prev := [(1, { sample := prev })] } }

theorem witness_RouteFadesEnd :
    (let s := routS [ctr none none, { ctr none none with rising := false }, { ctr none none with entry := 8 }] 0 0
     let c := ctr none none; c ∈ s.rout.contribs ∧ c.entry = 7 ∧ c.rising = true ∧ c.start + c.len ≤ s.clock.now) := by decide

theorem witness_RouteGainsCrossTimeOutAndRamp :
    (let s := routS [ctr (some (5, 200001)) none] 1 (-1); let c := ctr (some (5, 200001)) none
     c ∈ s.rout.contribs ∧ c.gain.wait = some (5, 200001) ∧ s.clock.now < 200001 ∧ s.clock.opened = true ∧ isLatched c.source = true ∧ ((s.rout.before c.source).int < 0 ∧ 0 < (s.rout.now c.source).int)) ∧
    (let s := routS [ctr (some (5, 200001)) none] 1 0; let c := ctr (some (5, 200001)) none
     c ∈ s.rout.contribs ∧ s.clock.now < 200001 ∧ ¬ ((s.rout.now c.source).int = 0 ∨ ((s.rout.before c.source).int < 0 ∧ 0 < (s.rout.now c.source).int) ∨
       (0 < (s.rout.before c.source).int ∧ (s.rout.now c.source).int < 0))) ∧
    ({ base with clock := { base.clock with opened := false } }.clock.opened = false) ∧
    (isLatched { ctr (some (5, 200001)) none with source := 0x1100 }.source = false) ∧
    (let s := routS [ctr (some (5, 200000)) none] 1 1; ctr (some (5, 200000)) none ∈ s.rout.contribs ∧ 200000 ≤ s.clock.now) ∧
    (let s := { base with rout := { outGain := [(27, { wait := some (9, 200000) })] } }
     (tabGet (fun _ => ({} : GainSt)) s.rout.outGain 27).wait = some (9, 200000) ∧ 200000 ≤ s.clock.now) ∧
    (let s := { base with rout := { outGain := [(0, { ramp := some (9, 199808) })] } }
     (tabGet (fun _ => ({} : GainSt)) s.rout.outGain 0).ramp = some (9, 199808) ∧ 199808 + 192 ≤ s.clock.now) ∧
    (let s := routS [ctr none (some (5, 199809))] 0 0; ctr none (some (5, 199809)) ∈ s.rout.contribs ∧ s.clock.now < 199809 + 192) := by decide

theorem witness_BusScalesFiltersAndMetersAdvance :
    (let s := { base with rout := { busScale := [(63, { start := 199000, m := 1000 })] } }
     let x := tabGet (fun _ => ({} : BusScale)) s.rout.busScale 63; x.start + x.m ≤ s.clock.now) ∧
    (let s := { base with rout := { busScale := [(0, { start := 199000, m := 1001 })] } }
     let x := tabGet (fun _ => ({} : BusScale)) s.rout.busScale 0; s.clock.now < x.start + x.m) ∧
    (let s := { base with rout := { hpf := [(3, { old := some ({}, 199904) })] } }
     (tabGet (fun _ => ({} : HpfSt)) s.rout.hpf 3).old = some ({}, 199904) ∧ 199904 + 96 ≤ s.clock.now) ∧
    (let s := { base with rout := { hpf := [(3, { old := some ({}, 199905) })] } }
     (tabGet (fun _ => ({} : HpfSt)) s.rout.hpf 3).old = some ({}, 199905) ∧ s.clock.now < 199905 + 96) ∧
    (let s := { base with clock := { base.clock with tick := 96 }, rout := { meters := [(255, { peak := 1 })] } }
     let m := tabGet (fun _ => ({} : MeterSt)) s.rout.meters 255
     s.awake = true ∧ s.tickNat % 96 = 0 ∧ s.rout.meterAt ≠ s.clock.now ∧ m.fed = false ∧ m.reaches = true) ∧
    (let m : MeterSt := { heldPeak := 1, holdLeft := 1 }; m.reaches = false ∧ 0 < m.holdLeft) ∧
    (let m : MeterSt := { heldPeak := 1 }; m.reaches = false ∧ m.holdLeft = 0) ∧
    (let s := base; s.awake = false ∨ s.tickNat % 96 ≠ 0 ∨ s.rout.meterAt = s.clock.now) := by decide


/-- Port 0 as given in Run, with its PORT_FMT and PORT_CLK, between a boundary and the opening of its tick. -/
def portS (q : Port) (fmt clk : Nat) : State :=
  withDir [(0x1400, fmt), (0x1406, clk)] { runS with clock := { runS.clock with opened := false }, ports := { port := [(0, q)] } }

theorem witness_PortFrameStartsAreCounted :
    (let s := withDir [(0x140B, 0)] base; s.portOn 5 = false) ∧
    (let s := { portS {} 0 1 with power := { mode := .idle } }; s.portOn 0 = true ∧ s.inIdle = true ∧ fmtBck (s.pFmt 0) = false) ∧
    (let s := { portS { edgeFirst := some 5, lastStart := some 5 } 4 1 with power := { mode := .idle } }
     s.portOn 0 = true ∧ s.inIdle = true ∧ fmtBck (s.pFmt 0) = true ∧ (s.port 0).lastStart.isSome = true) ∧
    (let s := portS { state := 2, counting := true } 0 1; s.portOn 0 = true ∧ s.inRun = true ∧ (s.port 0).state = 2 ∧ (s.port 0).counting = true ∧
      (s.port 0).gunAt = none) ∧
    (let s := portS { state := 2, counting := true, gunAt := some 200000 } 0 1; let w : PortWire := { at_ := 0, clocks := 63, slots := [] }
     s.portSync 0 = 0 ∧ (frameShort (s.pFmt 0) w || frameLong (s.pFmt 0) w) = true ∧ (s.port 0).gunAt = some 200000 ∧ 200000 ≤ s.clock.now) ∧
    (let s := portS {} 0 1; let w : PortWire := { at_ := 0, clocks := fmtSlots (s.pFmt 0) * fmtSw (s.pFmt 0), slots := [] }
     (frameShort (s.pFmt 0) w || frameLong (s.pFmt 0) w) = false) := by decide

theorem witness_PortExchangeIsMadeAtItsBoundary :
    (let s := portS { state := 2, nextP := some 200000, ends := [(0, 32768 * 200000 - 10000)] } 0xC 0x23
     (s.clock.opened = false ∧ s.cfg.armed = none ∧ s.gunDue = false) ∧ s.exchangeDue 0 = true ∧ (s.port 0).nextP = some 200000 ∧ s.portSlip 0 200000 = none) ∧
    (let s := portS { state := 2, nextP := some 200001 } 0xC 3
     (s.clock.opened = false ∧ s.cfg.armed = none ∧ s.gunDue = false) ∧ s.exchangeDue 0 = false) ∧
    base.clock.opened = true := by decide

theorem witness_GunsFireAndStartPorts :
    (let s := { withDir [(0x1418, 7)] (portS { state := 1 } 0 1) with ports := { port := [(0, { state := 1 })], guns := [(128, 64000, false, 5)] } }
     s.clock.opened = false ∧ s.cfg.armed = none ∧ s.gunDue = true ∧ s.inRun = true ∧ s.gunsDue.testBit (s.pGroup 0) = true ∧ s.portOn 0 = true ∧
       (s.port 0).cls = 0 ∧ (s.port 0).state = 1) ∧
    (let s := { runS with ports := { guns := [(128, 64001, false, 5)] } }; s.gunDue = false) ∧
    (let s := withDir [(0x1424, 0x0500)] { runS with ports := { lastPinGun := some 199040 } }
     s.inRun = true ∧ (s.dir 0x1424).testBit 16 = false ∧ s.ports.lastPinGun = some 199040 ∧ 199040 + 960 ≤ s.clock.now) ∧
    (let s := { runS with ports := { lastPinGun := some 199041 } }; s.ports.lastPinGun = some 199041 ∧ s.clock.now < 199041 + 960) ∧
    base.inRun = false := by decide

theorem witness_PortsStopReportLockAndMask :
    (let s := portS { state := 2, started := true, lastValid := 32768 * 199744 } 0 1
     s.inRun = true ∧ s.portOn 0 = true ∧ (s.port 0).started = true ∧ fmtFull (s.pFmt 0) = false ∧ (s.port 0).state ≠ 3 ∧
       (s.port 0).lastValid + 32768 * 256 ≤ 32768 * s.clock.now) ∧
    (let s := portS { state := 2, started := true, lastValid := 32768 * 199744 + 1 } 0 1; 32768 * s.clock.now < (s.port 0).lastValid + 32768 * 256) ∧
    (let s := { portS {} 0 1 with clock := { base.clock with tick := 9600 } }; s.awake = true ∧ s.tickNat % 9600 = 0 ∧ s.portOn 0 = true) ∧
    (base.tickNat % 9600 ≠ 0) ∧
    (let s := portS { acquireFrom := some 1 } 0 1; s.portSync 0 = 0 ∧ (s.port 0).acquireFrom.isSome = true) ∧
    (let s := portS {} 0 3; s.portSync 0 ≠ 0) ∧
    (let s := portS { state := 2, counting := true, staged := some (0, 3), stagedAt := 5, lastStart := some 100000 } 0 3
     (s.port 0).staged = some (0, 3) ∧ s.inRun = true ∧ (s.port 0).state = 2 ∧ (s.port 0).counting = true ∧ (s.port 0).stagedNext = false ∧ (s.port 0).lastStart = some 100000 ∧
       (s.port 0).stagedAt + s.twoBits 0 ≤ 100000 ∧ (s.port 0).stagedAt < 100000) ∧
    (let s := portS {} 0 3; (s.port 0).staged = none) ∧ ((portS { staged := some (0, 1), stagedNext := true } 0 3).port 0).stagedNext = true := by decide


/-- LINKA as given, with both ports enabled. -/
def linkS (p : LinkPort) : State := withDir [(0x1700, 0x000A0BFF)] { base with link := { a := p } }
def hop (b : Bool) (r : Fin 16) : HopInfo :=
  { letterB := b, revMax := r, id := 5, serial := 77, pace := 5, paceSerial := 77, pacePrio := 1, identity := 9, live := false, tick := 64000 }
def ann (n : Fin 1024) : Announcement :=
  { id := n, serial := 77, prio := 1, mode := 2, hops := 1, delayA := 0, delayB := 0, fwd := 0, revA := 2, revB := 2 }
def cell (dst : Fin 1024) : LinkCell := { first := true, last := true, src := 5, dst := dst, seq := 255, seg := 0, data := [1, 2] }

/-- A port in TRAINING that has frame lock and its measurements. -/
def trainS (p : LinkPort) : State := linkS { p with state := 1, locked := true, delays := List.replicate 64 0 }

theorem witness_LinkPortTrainsAndIsJudged :
    (let s := withDir [(0x1700, 0)] base; s.linkOn 0 = false ∧ s.linkOn 1 = false) ∧
    (let s := linkS {}; s.linkOn 0 = true ∧ (s.link.port 0).state = 0 ∧ (s.link.port 0).state ≠ 5) ∧
    (let s := linkS { state := 5, lostRun := 1 }; s.linkOn 0 = true ∧ (s.link.port 0).state = 5 ∧ (s.link.port 0).state ≠ 0 ∧ (s.link.port 0).lostRun ≠ 2) ∧
    (let s := linkS { state := 1, markRun := 8 }; (s.link.port 0).state ≠ 0 ∧ (s.link.port 0).markRun = 8) ∧
    (let s := linkS { state := 1, markRun := 7 }; (s.link.port 0).markRun ≠ 8 ∧ (s.link.port 0).locked = false) ∧
    (let s := linkS { state := 4, locked := true, lostRun := 2 }; (s.link.port 0).locked = true ∧ (s.link.port 0).lostRun = 2 ∧ (s.link.port 0).state = 4) ∧
    (let s := linkS { state := 1, locked := true, delays := List.replicate 63 0 }; (s.link.port 0).delays.length < 64) ∧
    (let s := trainS {}; s.linkOn 0 = true ∧ (s.link.port 0).state = 1 ∧ (s.link.port 0).locked = true ∧ 64 ≤ (s.link.port 0).delays.length) ∧
    ((hop false 2).letterB = decide ((0 : Fin 2).val = 1)) ∧
    ((hop true 0).letterB ≠ decide ((0 : Fin 2).val = 1) ∧ (hop true 0).revMax.val = 0) ∧ ((hop true 15).revMax.val > 2) ∧ ((hop true 1).revMax.val = 1) ∧
    (let s := { trainS {} with power := { mode := .run } }; let i := { hop true 2 with live := true }
     s.tooMany i = false ∧ s.idTwice i = false ∧ i.pacePrio.val ≠ 255 ∧ s.link.identity ≠ i.identity ∧ s.segLive = true ∧ i.live = true ∧
       (s.judgeHop 0 i).1 ≠ 5) := by decide

/-- A segment of two devices whose hop closes a ring. -/
def closeS : State := { trainS {} with link := { (trainS {}).link with l := 63, identity := 9, b := { state := 5 }, topo := [{ ann := { ann 5 with identity := 9 }, atB := some 199999 }] } }
theorem witness_closing_hop : (closeS.judgeHop 0 (hop true 2)).1 = 5 ∧ closeS.link.isPace = true ∧ closeS.link.k = 0 := by decide

/-- LINKA in ALIGNING as the side that joins, and what the partner is. -/
def joinS (a : Bool) (id : BitVec 64) : State :=
  { base with link := { aligned := a, identity := id, a := { state := 4, joins := true, partner := some (hop true 2), sysL := 9, sysK := 1 } } }

theorem witness_LinkJoinLoadsTick :
    (let s := joinS true 8; let i := hop true 2
     (s.link.port 1).state ≠ 4 ∧ (s.link.port 0).state = 4 ∧ (s.link.port 0).joins = true ∧ (s.link.port 0).partner = some i ∧ s.link.aligned = true ∧
       s.link.identity ≠ i.identity ∧ s.segIdle = true) ∧
    (let s := joinS true 9; (s.link.port 0).partner = some (hop true 2) ∧ s.link.aligned = true ∧ s.link.identity = (hop true 2).identity) ∧
    (let s := joinS false 8; s.link.aligned = false) ∧
    (let s := { joinS true 8 with power := { mode := .run } }; s.link.identity ≠ (hop true 2).identity ∧ s.segIdle = false) ∧
    (let s := linkS { state := 4 }; (s.link.port 1).state ≠ 4 ∧ (s.link.port 0).state = 4 ∧ (s.link.port 0).joins = false) ∧
    (let s := linkS { state := 5 }; (s.link.port 1).state ≠ 4 ∧ (s.link.port 0).state ≠ 4 ∧ s.inIdle = true) ∧
    (runS.inIdle = false ∧ (7 : BitVec 64) ≠ runS.link.identity) := by decide

theorem witness_LinkBreaksHealsAndReturns :
    (let s := linkS { state := 5, lostRun := 2 }; (s.link.port 0).state = 5 ∧ 2 ≤ (s.link.port 0).lostRun) ∧
    (let s := linkS { state := 4 }; (s.link.port 0).state ≠ 5) ∧ (let s := linkS { state := 5, lostRun := 1 }; (s.link.port 0).lostRun < 2) ∧
    (let s := { base with link := { formAt := some 64000 } }; s.link.formAt = some 64000 ∧ 64000 ≤ s.tickNat) ∧
    (let s := { base with link := { formAt := some 64001 } }; s.link.formAt = some 64001 ∧ s.tickNat < 64001) ∧
    (let s := linkS { returnAt := some 64000 }; (s.link.port 0).returnAt = some 64000 ∧ 64000 ≤ s.tickNat ∧ s.link.k = 0) ∧
    (let s := linkS { returnAt := some 64001 }; (s.link.port 0).returnAt = some 64001 ∧ s.tickNat < 64001) := by decide

theorem witness_LinkFramesAreReceivedLaunchedAndRetimed :
    (let s := linkS { state := 5, locked := true }; s.linkOn 0 = true ∧ (s.link.port 0).locked = true ∧ (s.link.port 0).state = 5) ∧
    (let s := linkS { state := 1, locked := true }; s.linkOn 0 = true ∧ (s.link.port 0).state ≠ 0 ∧ (s.link.port 0).state ≠ 2 ∧ (s.link.port 0).state ≠ 5) ∧
    (let s := linkS { state := 1 }; (s.link.port 0).locked = false ∧ (s.link.port 0).state ≠ 0 ∧ (s.link.port 0).state ≠ 2) ∧
    (let f : LinkFrame := { label := 0, origin := 0, pace := 0, l := 0, k := 0 }; let g := { f with markOk := false }; f.markOk = true ∧ f.good = true ∧ g.markOk = false) ∧
    (let s := linkS {}; (s.link.port 0).state = 0) ∧
    (let s := linkS { state := 3 }; s.linkOn 0 = true ∧ (s.link.port 0).state = 3 ∧ (s.link.port 0).rev ≠ 1) ∧
    (let s := linkS { state := 5 }; (s.link.port 0).state = 5 ∧ s.isOrigin 0 = true) ∧
    (let s := { linkS { state := 5 } with link := { a := { state := 5, origin := false }, b := { state := 5 } } }; (s.link.port 0).state = 5 ∧ s.isOrigin 0 = false) ∧
    (let s := withDir [(0x1700, 0)] base; s.linkOn 0 = false) ∧
    (let s := { linkS { state := 5 } with link := { a := { state := 5 }, k := 1 } }; s.linkOn 0 = true ∧ (s.link.port 0).state = 5 ∧ s.link.retimes = true) ∧
    (base.link.retimes = false) := by decide

theorem witness_LinkTopologyAlignmentAndOffsetFollow :
    (let s := { linkS { state := 3 } with clock := { base.clock with tick := 9600 } }
     s.awake = true ∧ s.ctl.running = true ∧ s.tickNat % 9600 = 0 ∧ 3 ≤ (s.link.port 0).state ∧ (s.link.port 1).state < 3) ∧
    (base.tickNat % 9600 ≠ 0) ∧
    (let s := linkS { state := 3 }; s.linkOn 0 = true ∧ 3 ≤ (s.link.port 0).state ∧ s.ctl.running = true ∧ (∀ e ∈ s.link.topo, e.ann.serial ≠ 77)) ∧
    (let s := { linkS { state := 3 } with link := { a := { state := 3 }, topo := [{ ann := ann 5, atA := some 0 }] } }
     3 ≤ (s.link.port 0).state ∧ s.link.topo.find? (fun y => decide (y.ann.serial = 77)) = some { ann := ann 5, atA := some 0 } ∧ (ann 5).revA ≠ 0) ∧
    (let s := { base with link := { topo := [{ ann := ann 5, atA := some 171200 }] } }
     ∃ e ∈ s.link.topo, e.ann.serial = 77 ∧ e.ann.id = 5 ∧ e.seen + 28800 ≤ s.clock.now) ∧
    (let s := { base with link := { topo := [{ ann := ann 5, atA := some 5, atB := some 171201 }] } }; ∀ e ∈ s.link.topo, e.ann.id = 5 → s.clock.now < e.seen + 28800) ∧
    (let s := { linkS {} with link := { isPace := false, a := { state := 5 }, near := 96 } }; s.link.target ≠ none ∧ s.link.near = 96) ∧
    (let s := { linkS {} with link := { isPace := false, b := { state := 5 }, far := 4 } }; s.link.target ≠ none ∧ s.link.near ≠ 96 ∧ s.link.far = 4) ∧
    (let s := linkS { state := 5 }; s.link.target = none ∧ s.link.isPace = true ∧ ∀ x, x < 2 → (s.link.port x).state ≠ 4) ∧
    (let s := { base with link := { lNext := [(64000, 9), (64500, 8)] } }; s.link.lNext = (64000, 9) :: [(64500, 8)] ∧ 64000 ≤ s.tickNat) ∧
    (let s := { base with link := { lNext := [(64001, 9)] } }; s.link.lNext = (64001, 9) :: [] ∧ s.tickNat < 64001) := by decide

/-- No constant of Config bounds what a serial number is: one that is not this device's exists. -/
theorem witness_other_serial : ∃ a : Announcement, a.serial ≠ Config.serial :=
  ⟨{ ann 5 with serial := Config.serial + 1 }, by simp⟩

/-- A request of port 0, and one of the link. -/
def req (p : List Byte) : Req := { port := 0, tag := 7, rev := 1, payload := p }

theorem witness_RemotePacketsTravelByCells :
    (let s := linkS { state := 3 }; let c := cell (Fin.ofNat 1024 s.devId)
     s.linkOn 0 = true ∧ 3 ≤ (s.link.port 0).state ∧ c.full = true ∧ c.good = true ∧ c.hopLocal = false ∧ c.bcast = false ∧ c.dst.val = s.devId) ∧
    (let s := linkS { state := 3 }; let c := cell 900; c.bcast = false ∧ c.hopLocal = false ∧ c.dst.val ≠ s.devId) ∧
    (let l : Link := { assembling := [{ port := 1, src := 5, seq := 255, segs := [(0, [0x4B, 0, 0x06, 0x00])], total := some 1 }] }
     (l.takeAssembled 1 5 255).map (fun x => (x.1, x.2.assembling)) = some ([0x4B, 0, 0x06, 0x00], []) ∧ le [0x4B, 0, 0x06, 0x00] 2 2 < 0x8000) ∧
    (let b : List Byte := [0x4B, 0, 0x06, 0x80, 7, 0, 2, 0, 0, 0, 0, 0, 0, 0]
     let o : Outstanding := { seq := 1, target := 5, req := req [], opcode := 6, deadline := 0 }
     let l : Link := { outstanding := [o] }
     0x8000 ≤ le b 2 2 ∧ l.answered 5 b = some o ∧ le b 12 1 ≠ 1 ∧ l.answered 6 b = none) ∧
    (let o : Outstanding := { seq := 255, target := 5, req := req [], opcode := 6, deadline := 200000 }
     let s := { base with link := { outstanding := [o] } }
     s.link.outstanding.find? (fun y => decide (y.seq = 255) && !y.accepted && decide (y.deadline ≤ s.clock.now)) = some o) ∧
    (let q := { req [] with remote := true, rev := 2 }; let s := { base with bus := { spi := { rev := 2 } } }
     q.port.val < 2 ∧ q.remote = true ∧ (900 : Fin 1024).val ≠ s.devId ∧ (s.served = true ∧ s.First q ∧ (s.bus.port false).ready = true ∧ (s.bus.port false).mailbox = []) ∧ s.revisionOk 6 q = true ∧
       (∀ e ∈ s.link.topo, e.ann.id ≠ 900)) ∧
    (let s := { base with link := { topo := [{ ann := ann 900, atA := some 0 }] } }
     (∃ e ∈ s.link.topo, e.ann.id = 900) ∧ (s.link.outstanding.filter (fun o => !o.accepted)).length < 8) := by decide


def synS (y : Synth) : State := { base with synth := y }
def dpllS (d : Dpll) : State := { base with dpll := d }
/-- Reference source 0 as given, named first in REF_PRIO. -/
def refS (r : RefSource) : State := withDir [(0x0200, 0xFFFFFFF0)] { base with dpll := { src := [(0, r)] } }

theorem witness_LockIsDeclaredAndLost :
    (let s := synS { xoOk := true, lock := true }; s.synth.xoOk = true ∧ s.synth.lock = true) ∧
    (let s := synS {}; s.synth.xoOk = false ∧ s.synth.lock = false ∧ s.synth.analogLock = false ∧ s.power.inReset = false ∧ s.asleep = false) ∧
    (let s := { base with power := { inReset := true } }; s.power.inReset = true) ∧
    (let s := { base with power := { mode := .rest, exiting := some .rest, valid := 1 } }; s.asleep = true ∧ s.power.supplied = false) ∧
    ((inMode .watch).asleep = true ∧ (inMode .watch).power.exiting = none) ∧
    (let s := withDir [(0x0102, 0x00020000)] (synS { xoOk := true, analogLock := true, xoFreq := 24576000, quietLock := true }); let errs : List Int := [9, 1000, -1000]
     s.synth.xoOk = true ∧ s.synth.analogLock = true ∧ s.synth.lock = false ∧ s.lockCount ≤ errs.length ∧
       (∀ e ∈ errs.drop (errs.length - s.lockCount), e.natAbs ≤ s.lockWin) ∧ s.lockCounted = true ∧ s.synth.quietLock = true) ∧
    (let s := withDir [(0x0102, 0x00020000)] (synS { xoFreq := 24, comparesAt := 200000 }); s.lockCounted = false) ∧
    (let s := withDir [(0x0102, 0x00020000)] (synS { xoOk := true, analogLock := true }); ([] : List Int).length < s.lockCount) ∧
    (let s := withDir [(0x0102, 0)] (synS { lock := true }); let errs : List Int := [2001, -2001, 2001, 2001]
     s.synth.lock = true ∧ 4 ≤ errs.length ∧ ∀ e ∈ errs.drop (errs.length - 4), s.unlockWin < e.natAbs) ∧
    (let s := withDir [(0x0102, 0)] (synS { lock := true }); let errs : List Int := [2001, 2000]
     s.synth.lock = true ∧ errs ≠ [] ∧ errs.length < 4 ∧ ∃ e ∈ errs.drop (errs.length - 4), e.natAbs ≤ s.unlockWin) ∧
    (let s := synS {}; s.synth.lock = false ∧ s.synth.analogLock = false) := by decide

theorem witness_SteeringSlewsStartAndEnd :
    (let s := synS { steers := [(64000, 500000001, 0)] }; s.synth.steers = [(64000, 500000001, 0)] ∧ 64000 ≤ s.tickNat) ∧
    (let s := synS { steers := [(64001, 5, 0)] }; ∀ e ∈ s.synth.steers, s.tickNat < e.1) ∧
    (let s := withDir [(0x0104, 4)] base; s.follows = false ∧ field (s.dir 0x0104) 0 3 = 4) ∧
    (let s := withDir [(0x0104, 0)] (synS { sNow := 100 })
     s.follows = false ∧ field (s.dir 0x0104) 0 3 = 0 ∧ (96 * max (-500000000) (min 500000000 (signed (s.dir 0x0103) 32)) - s.synth.sNow).natAbs ≤ 100) ∧
    (let s := withDir [(0x0104, 0)] (synS { sNow := 101 }); 96 * max (-500000000) (min 500000000 (signed (s.dir 0x0103) 32)) < s.synth.sNow - 100) ∧
    (let s := withDir [(0x0104, 0)] (synS { sNow := -101 }); s.synth.sNow + 100 < 96 * max (-500000000) (min 500000000 (signed (s.dir 0x0103) 32))) ∧
    (let s := { base with link := { a := { state := 5 }, isPace := false } }; s.follows = true) := by decide

theorem witness_ClockOutputsGateAndResume :
    (let s := withDir [(0x0114, 0x41)] (synS { lock := true, writeGate := 16, gated := 15 })
     s.synth.writeGate.getLsbD 4 = true ∧ ((s.ckOut 4).testBit 6 = true ∧ s.dpll.unreferenced = true) ∧ s.synth.gated.getLsbD 4 = false ∧
       (s.synth.out 4).2.2 ≤ s.rootCycle) ∧
    (let s := synS { gated := 31 }; s.synth.lock = false ∧ s.synth.gated.getLsbD 0 = true) ∧
    (let s := withDir [(0x0110, 1)] (synS { lock := true, gated := 1 })
     s.synth.lock = true ∧ (s.ckOut 0).testBit 6 = false ∧ (s.ckOut 0).testBit 7 = false ∧ s.synth.writeGate.getLsbD 0 = false ∧ s.synth.sleepGate.getLsbD 0 = false ∧
       (s.ckOut 0).testBit 0 = true ∧ s.synth.gated.getLsbD 0 = true) ∧
    (let s := withDir [(0x0110, 0)] (synS { lock := true, gated := 30 }); (s.ckOut 0).testBit 0 = false ∧ (s.ckOut 0).testBit 6 = false ∧ s.synth.gated.getLsbD 0 = false) := by
  decide

theorem witness_ReferenceSourcesQualify :
    (let s := withDir [(0x0202, 0x03000000)] (refS { qstate := 3, misses := 2 })
     s.awake = true ∧ s.refNamed 0 = true ∧ (s.refSrc 0).qstate = 3 ∧ (s.refSrc 0).misses < field (s.dir 0x0202) 24 2) ∧
    (let s := withDir [(0x0202, 0)] (refS { qstate := 3, misses := 2 })
     (s.refSrc 0).qstate = 3 ∧ field (s.dir 0x0202) 24 2 ≤ (s.refSrc 0).misses ∧ (s.refSrc 0).misses < 3) ∧
    (let s := refS { qstate := 3, misses := 3 }; (s.refSrc 0).misses = 3) ∧
    (let s := refS {}; s.refNamed 7 = false) ∧
    (let s := withDir [(0x0204, 0)] (refS { qstate := 4, dqReason := 1 })
     s.awake = true ∧ s.refNamed 0 = true ∧ s.refPortOk 0 = true ∧ s.refNarrow 0 = false ∧ ((s.refSrc 0).qstate = 4 ∧ (s.refSrc 0).dqReason = 1)) ∧
    (let s := { withDir [(0x0204, 0), (0x0203, 0x00010000), (0x0202, 0x0100)] (refS { qstate := 3 }) with clock := { base.clock with tick := 9600 } }
     s.awake = true ∧ s.refNamed 0 = true ∧ s.tickNat % 9600 = 0 ∧ (s.refSrc 0).qstate = 3 ∧ s.refPortOk 0 = true ∧ s.refNarrow 0 = false ∧
       field (s.dir 0x0203) 0 16 = 0 ∧ (-1000 : Int).natAbs ≤ 1000 * field (s.dir 0x0202) 8 8 ∧ 1000 * field (s.dir 0x0202) 8 8 < (-1001 : Int).natAbs) ∧
    (base.tickNat % 9600 ≠ 0) ∧
    (let s := withDir [(0x0202, 0x00020000)] (refS { qstate := 2, since := 180800 })
     (s.refSrc 0).qstate = 2 ∧ (s.refSrc 0).since + 9600 * field (s.dir 0x0202) 16 8 ≤ s.clock.now) ∧
    (let s := withDir [(0x0202, 0x00020000)] (refS { qstate := 2, since := 180801 }); s.clock.now < (s.refSrc 0).since + 9600 * field (s.dir 0x0202) 16 8) ∧
    (let s := withDir [(0x0201, 0x0200)] (refS { qstate := 3, qualifiedAt := 8000 })
     s.awake = true ∧ (s.refSrc 0).qstate = 3 ∧ (s.refSrc 0).qualifiedAt + 96000 * field (s.dir 0x0201) 8 8 ≤ s.clock.now) ∧
    (let s := withDir [(0x0201, 0x0200)] (refS { qstate := 3, qualifiedAt := 8001 }); s.clock.now < (s.refSrc 0).qualifiedAt + 96000 * field (s.dir 0x0201) 8 8) ∧
    ((inMode .recovery).awake = false) := by
  decide

theorem witness_HandoffHoldoverAndForce :
    (let s := dpllS { state := .handoff, target := 2 }; let b : List Int := [8, 0, 0, 0, 0, 0, 0, 0]
     s.dpll.state = .handoff ∧ s.awake = true ∧ b.length = 8 ∧ b.sum % 8 = 0 ∧ s.dpll.measured = none) ∧
    (let s := dpllS {}; s.dpll.state ≠ .handoff ∧ s.dpll.state ≠ .tracking ∧ s.dpll.state ≠ .holdover) ∧
    (let s := dpllS { state := .handoff, target := 2, measured := some (5, 6), measuredAt := 199999 }
     s.awake = true ∧ s.dpll.state = .handoff ∧ s.dpll.measured = some (5, 6) ∧ s.dpll.measuredAt < s.clock.now ∧ 2 ≤ s.dpll.target) ∧
    (let s := dpllS { state := .handoff, measured := some (5, 6), measuredAt := 200000 }; s.clock.now ≤ s.dpll.measuredAt) ∧
    (let s := { dpllS { state := .tracking, secTicks := 96000 } with synth := { lock := true } }
     s.dpll.state = .tracking ∧ s.synth.lock = true ∧ s.awake = true ∧ 96000 ≤ s.dpll.secTicks ∧ s.dpll.secBad = false) ∧
    (let s := { dpllS { state := .tracking, secTicks := 96000, secBad := true } with synth := { lock := true } }; s.dpll.secBad = true) ∧
    (let s := dpllS { state := .tracking, secTicks := 95999 }; s.dpll.secTicks < 96000) ∧
    (let s := { withDir [(0x0206, 0x00010000)] (dpllS { state := .holdover, hoAt := 0 }) with clock := { base.clock with now := 5760001 } }
     s.awake = true ∧ s.dpll.state = .holdover ∧ field (s.dir 0x0206) 16 16 ≠ 0 ∧ 5760000 * field (s.dir 0x0206) 16 16 < s.hoTime ∧ s.dpll.stoppedAt = none) ∧
    (let s := { withDir [(0x0206, 0x00010000)] (dpllS { state := .handoff, outgoing := .holdover, hoAt := 0 }) with clock := { base.clock with now := 5760001 } }
     s.awake = true ∧ s.dpll.state = .handoff ∧ s.dpll.outgoing = .holdover ∧ 5760000 * field (s.dir 0x0206) 16 16 < s.hoTime) ∧
    (let s := withDir [(0x0206, 0)] base; s.dir 0x0206 = 0) ∧
    (let s := dpllS { forceNext := [(64000, 1, 3, 0)] }; s.awake = true ∧ s.linkSource = none ∧ s.dpll.forceNext = [(64000, 1, 3, 0)] ∧ 64000 ≤ s.tickNat) ∧
    (let s := dpllS { forceNext := [(64000, 0, 0, 0)], force := some (2, 0) }; s.dpll.forceNext = [(64000, 0, 0, 0)] ∧ s.dpll.force.isSome = true) ∧
    (let s := dpllS { forceNext := [(64000, 2, 0, 0)] }; s.linkSource = none ∧ s.dpll.forceNext = [(64000, 2, 0, 0)]) ∧
    (let s := { base with link := { a := { state := 5 }, isPace := false }, dpll := { forceNext := [(64000, 1, 3, 0)] } }; s.awake = true ∧ s.linkSource.isSome = true) ∧
    ((inMode .watch).awake = false) ∧
    (let s := dpllS { forceNext := [(64000, 3, 0, 0)] }; s.dpll.forceNext = [(64000, 3, 0, 0)] ∧ 64000 ≤ s.tickNat) ∧
    (let s := dpllS { forceNext := [(64001, 3, 0, 0)] }; ∀ e ∈ s.dpll.forceNext, s.tickNat < e.1) := by
  (repeat' apply And.intro) <;> decide


def powS (p : Power) : State := { base with power := p }

theorem witness_SuppliesAndResetsAct :
    (let s := base; s.power.inReset = false ∧ s.asleep = false) ∧
    (let s := powS { mode := .rest }; s.power.inReset = false ∧ s.power.mode = .rest) ∧
    (let s := { base with out := { pump := .ready } }; s.out.pump = .ready) ∧ (let s := { base with out := { pump := .starting 7 } }; s.out.pump = .starting 7) ∧
    (let s := powS { inReset := true, valid := 63 }; s.power.inReset = true ∧ s.power.supplied = true) ∧
    (let d : Straps := { d0 := 3, d4 := 1 }; 259 = d.d0.val + 4 * d.d1.val + 16 * d.d2.val + 64 * d.d3.val + 256 * d.d4.val) ∧
    (let s := { powS { mode := .rest } with mram := {} }; (s.dev 0x1900).testBit 0 = false) ∧
    (let s := powS {}; s.out.vspkSince = none ∧ s.power.inReset = false ∧ s.power.exiting = none) ∧
    (let s := powS { inReset := true, valid := 31 }
     (5 ≠ 7) ∧ s.power.supplied = false ∧ s.power.inReset = true ∧ s.power.mode = .boot ∧ s.wake.listening = false ∧ s.power.resetLow = false ∧
       (s.power.valid ||| BitVec.ofNat 8 (2 ^ 5)).toNat % 64 = 63) ∧
    (let s := powS { inReset := true, valid := 31, resetLow := true }; s.power.resetLow = true) ∧
    (let s := powS { inReset := true, valid := 30 }; (s.power.valid ||| BitVec.ofNat 8 (2 ^ 5)).toNat % 64 ≠ 63) := by decide

theorem witness_BootAndExitReachIdle :
    (let s := { powS {} with synth := { lock := true } }
     s.power.mode = .boot ∧ s.power.inReset = false ∧ s.power.verified = false ∧ s.synth.lock = true ∧ (s.mram.bank s.mram.active1).passes = true) ∧
    (let s := { powS {} with synth := { lock := true }, mram := { active1 := true } }
     (s.mram.bank s.mram.active1).passes = false ∧ (s.mram.bank (!s.mram.active1)).passes = true ∧ s.mramBlocked = false) ∧
    (let s := { powS { mramHeld := true } with synth := { lock := true }, mram := { active1 := true } }
     (s.mram.bank s.mram.active1).passes = false ∧ (s.mram.bank (!s.mram.active1)).passes = true ∧ s.mramBlocked = true) ∧
    (let s := powS { bootFromRest := true }; s.power.bootFromRest = true) ∧ (base.power.bootFromRest = false ∧ base.power.bootFromRecovery = false) ∧
    (let s := { powS {} with synth := { lock := true }, mram := { bank0 := {} } }; s.mram.bank0.passes = false ∧ s.mram.bank1.passes = false) ∧
    (base.power.mode ≠ .boot ∧ base.power.exiting = none ∧ base.power.autorunDue = 0) ∧
    (let s := { powS { verified := true, fallback := true } with synth := { lock := true } }
     s.power.mode = .boot ∧ s.power.inReset = false ∧ s.power.verified = true ∧ s.synth.lock = true ∧ s.power.exiting = none ∧ s.power.fallback = true) ∧
    (let s := { powS { mode := .watch, exiting := some .watch, wake := some { code := 1 } } with synth := { lock := true } }
     s.power.mode = .watch ∧ s.power.exiting = some .watch ∧ s.synth.lock = true ∧ s.power.supplied = true ∧ s.power.retentionLost = false ∧
       s.power.wake = some { code := 1 }) ∧
    (let s := powS { mode := .idle, autorunDue := 1 }
     s.inIdle = true ∧ s.power.entering = none ∧ s.mramBlocked = false ∧ s.frozen = false ∧ s.ctl.running = true ∧ s.cfg.check = none ∧ s.power.autorunDue = 1 ∧
       s.cfg.armed = none ∧ (s.mram.slot 0).len = 0) ∧
    (let s := powS { mode := .idle, autorunDue := 2 }; s.inIdle = true ∧ s.power.autorunDue = 2 ∧ s.cfg.armed = none) := by decide

theorem witness_ModesAreLeftAndEnteredInOrder :
    (let s := powS { mode := .run, leaving := some (.idle, 200000) }; s.power.leaving = some (.idle, 200000) ∧ 200000 ≤ s.clock.now ∧ s.power.leaveJob = none) ∧
    (let s := { powS { mode := .run, leaving := some (.rest, 200000) } with out := { bias := .up } }
     s.power.leaving = some (.rest, 200000) ∧ 200000 ≤ s.clock.now ∧ s.power.leaveJob = none ∧ s.out.bias ≠ .down) ∧
    (let s := powS { mode := .run, leaving := some (.watch, 200001) }; s.power.leaving = some (.watch, 200001) ∧ s.clock.now < 200001) ∧
    (let s := withDir [(0x0605, 10)] (powS { mode := .idle, entering := some (.rest, 190400) })
     s.power.entering = some (.rest, 190400) ∧ s.power.entryStep = 0 ∧ 190400 + s.cmRamp ≤ s.clock.now ∧ s.mramBlocked = false) ∧
    (let s := withDir [(0x0605, 10)] (powS { mode := .idle, entering := some (.rest, 190401), mramHeld := true })
     s.power.entering = some (.rest, 190401) ∧ s.clock.now < 190401 + s.cmRamp ∧ s.mramBlocked = true) ∧
    (let s := { powS { mode := .idle, entering := some (.watch, 0), entryStep := 1, rampedAt := 199846 } with
        ctl := { sessions := [{ binding := { port := 0 }, number := 5, claims := 1, lastPacket := 0 }] } }
     s.power.entering = some (.watch, 0) ∧ s.power.entryStep = 1 ∧ s.power.rampedAt + 154 ≤ s.clock.now ∧ (∃ y ∈ s.ctl.sessions, y.claims ≠ 0)) ∧
    (let s := powS { mode := .idle, entering := some (.watch, 0), entryStep := 1, rampedAt := 199847 }; s.clock.now < s.power.rampedAt + 154) ∧
    (let s := powS { mode := .idle, entering := some (.watch, 0), entryStep := 2, rampedAt := 199750 }
     s.power.entering = some (.watch, 0) ∧ s.power.entryStep = 2 ∧ s.power.rampedAt + 250 ≤ s.clock.now) ∧
    (let s := powS { mode := .idle, entering := some (.watch, 0), entryStep := 2, rampedAt := 199751 }; s.clock.now < s.power.rampedAt + 250) := by decide

theorem witness_WakeSourcesWake :
    (let s := withDir [(0x0002, 0x61)] (powS { mode := .watch })
     (s.dir 0x0002).testBit 0 = true ∧ (s.dir 0x0002).testBit 5 = true ∧ (s.dir 0x0002).testBit 6 = true ∧ s.power.enteredAt + 96000 * field (s.dir 0x0002) 16 16 ≤ s.clock.now ∧ s.power.mode = .watch ∧ s.power.exiting = none ∧
       s.power.retentionLost = false ∧ s.power.inReset = false) ∧
    (let s := withDir [(0x0002, 0x61)] (powS { mode := .rest })
     s.power.mode = .rest ∧ s.power.exiting = none ∧ s.power.inReset = false ∧ s.power.supplied = true ∧ s.power.entering = none) ∧
    (let s := withDir [(0x0002, 0x20061)] (powS { mode := .rest, enteredAt := 8000 }); s.power.enteredAt + 96000 * field (s.dir 0x0002) 16 16 = s.clock.now) ∧
    (let s := withDir [(0x0002, 0x20061)] (powS { mode := .rest, enteredAt := 8001 }); s.clock.now < s.power.enteredAt + 96000 * field (s.dir 0x0002) 16 16) ∧
    (let s := withDir [(0x0002, 0x61)] (powS { mode := .rest, valid := 1 }); s.power.supplied = false) ∧
    (let s := withDir [(0x0002, 0x61)] (powS { mode := .idle, entering := some (.watch, 5) })
     (s.dir 0x0002).testBit 0 = true ∧ s.power.mode = .idle ∧ s.power.entering = some (.watch, 5) ∧ s.out.bias = .down) ∧
    (let s := { base with out := { bias := .falling (2 ^ 32) 190000 210000 } }; s.out.bias.level s.clock.now = 2 ^ 31) ∧
    (let s := base; s.awake = true ∧ s.power.entering = none) ∧
    (let s := withDir [(0x0002, 0)] (powS { mode := .watch }); s.dir 0x0002 = 0) ∧
    (let s := withDir [(0x0002, 0x10), (0x0603, 0x10)] (powS { mode := .watch, jackSamples := [(3, [false, true])] }); let old := tabGet (fun _ => []) s.power.jackSamples 3
     s.power.mode = .watch ∧ s.power.exiting = none ∧ (s.dir 0x0603).testBit 5 = false ∧ s.hpPinOn 3 = true ∧ (s.dir 0x0002).testBit (1 + 3) = true ∧
       old.take 2 = [false, !false] ∧ [true, true] ≠ [false, !false]) := by decide

theorem witness_PowerFailAndTheLastLap :
    (let s := withDir [(0x0001, 0x500)] base
     s.power.inReset = false ∧ s.asleep = false ∧ s.power.pfw = false ∧ s.cfg.save = none ∧ s.cfg.commit = none ∧
       s.warned { dvdd := false, mv := 4599, us := 5 } = true ∧ s.warned { dvdd := false, mv := 4600, us := 5 } = false ∧
       s.warned { dvdd := true, mv := 729, us := 5 } = true ∧ s.warned { dvdd := true, mv := 730, us := 5 } = false ∧
       s.warned { dvdd := true, mv := 729, us := 4 } = false) ∧
    (let s := powS { mode := .idle, pfw := true }; s.power.pfw = true) ∧
    (let s := powS { mode := .idle, pfwClear := some 190400 }; s.power.pfwClear = some 190400 ∧ s.power.pfw = false ∧ 190400 + 9600 ≤ s.clock.now) ∧
    (let s := powS { mode := .idle, pfwClear := some 190401 }; s.power.pfwClear = some 190401 ∧ s.clock.now < 190401 + 9600) ∧
    (let s := { base with out := { lapAt := some 199904 } }; s.out.lapAt = some 199904 ∧ 199904 + 96 ≤ s.clock.now) ∧
    (let s := { base with out := { lapAt := some 199905 } }; s.out.lapAt = some 199905 ∧ s.clock.now < 199905 + 96) ∧
    (let s := { base with out := { lapAt := some 1, lapClear := some 190400 } }
     s.power.pfw = false ∧ s.out.lapAt = some 1 ∧ s.out.lapClear = some 190400 ∧ 190400 + 9600 ≤ s.clock.now) ∧
    (let s := { base with out := { lapAt := some 1, lapClear := some 190401 } }; s.out.lapClear = some 190401 ∧ s.clock.now < 190401 + 9600) := by decide


def wakeS (w : Wake) : State := { base with wake := w }
/-- The base state between a boundary and its acts. -/
def between (s : State) : State := { s with clock := { s.clock with opened := false } }
def oneEpisode (now_ : BitVec 32) (slots : List Nat) (quiet : Nat) : Wake :=
  { listening := true, widx := now_, ring := List.replicate 256 5, episode := some { onset := 0, slots := slots, quiet := quiet },
    templates := [(2, { bytes := [(0, 1), (3, 25)], ready := true })] }

/-- The distance of a frame to a level-0 frame is at most 16 times 63.5 dB (R350), so a template of one such frame with the threshold 64 dB matches. -/
theorem level_range (l : List Int) (b : Nat) : ((frameLevels l).getD b 0).natAbs ≤ 127 := by
  rw [List.getD_eq_getElem?_getD]
  cases h : (frameLevels l)[b]? with
  | none => decide
  | some v =>
    obtain ⟨x, -, rfl⟩ := List.mem_map.mp (List.mem_of_getElem? h)
    simp only [Option.getD_some, halfDb]; omega
theorem sum_small (l : List Nat) : ∀ a, (∀ x ∈ l, x ≤ 127) → l.foldl (· + ·) a ≤ a + 127 * l.length := by
  induction l with
  | nil => simp
  | cons x l ih => intro a h; have := ih (a + x) (fun y hy => h y (by simp [hy])); have := h x (by simp); simp only [List.foldl_cons, List.length_cons]; omega
theorem one_near (l : List Int) : ({ bytes := [(0, 1), (3, 25)], ready := true } : Template).distance (frameLevels l) 0 ≤ 2032 := by
  unfold Template.distance
  refine Nat.le_trans (sum_small _ 0 fun x hx => ?_) (by simp)
  obtain ⟨b, hb, rfl⟩ := List.mem_map.mp hx
  have z : ∀ b, b < 16 → ({ bytes := [(0, 1), (3, 25)], ready := true } : Template).level 0 b = 0 := by decide
  rw [z b (by simpa using hb), Int.sub_zero]; exact level_range l b
theorem one_found : ∃ c, (oneEpisode 256 [2] 0).found { onset := 0, slots := [2], quiet := 0 } = some (0, 2, c) := by
  have hn : (oneEpisode 256 [2] 0).episodeFrames { onset := 0, slots := [2], quiet := 0 } = 1 := by decide
  have hp : (oneEpisode 256 [2] 0).pathsOf { onset := 0, slots := [2], quiet := 0 } =
      [(2, [some (({ bytes := [(0, 1), (3, 25)], ready := true } : Template).distance (frameLevels (((oneEpisode 256 [2] 0).ring.drop 0).take 256)) 0)])] := rfl
  have h := one_near (((oneEpisode 256 [2] 0).ring.drop 0).take 256)
  unfold Wake.found
  rw [hn, hp]
  generalize Template.distance _ _ _ = d at h ⊢
  have hw : (oneEpisode 256 [2] 0).within 2 d = true := by
    have : 16 * ((oneEpisode 256 [2] 0).template 2).frames * ((oneEpisode 256 [2] 0).template 2).threshold = 102400 := by decide
    unfold Wake.within; rw [this]; simp; omega
  generalize oneEpisode 256 [2] 0 = w at hw ⊢
  have hm : w.matchAt [(2, [some d])] 0 = [(2, d)] := by simp [Wake.matchAt, Option.filter, hw]
  exact ⟨d, by simp only [List.range_one, List.findSome?_cons, hm, List.foldl_nil]⟩

/-- R350: a path that goes on by one frame in each: sums 0 + 1 at the second frame of a template of two. -/
theorem test_warp : warped [[0, 9], [9, 1]] = [none, some 1] := by decide

theorem witness_PdmClocksSwitchAndSettle :
    (let s := withDir [(0x1802, 0x0501)] runS; s.wake.clk 0 ≠ s.pdmWant 0 ∧ s.pdmWaits 0 = false ∧ s.pdmWant 0 = .fast) ∧
    (let s := wakeS { clk1 := .fast }; s.wake.clk 1 ≠ s.pdmWant 1 ∧ s.pdmWaits 1 = false ∧ s.pdmWant 1 = .stopped) ∧
    (let s := withDir [(0x1800, 1)] { inMode .watch with wake := { listening := true, clk0 := .losc } }
     s.wake.clk 0 ≠ s.pdmWant 0 ∧ s.pdmWaits 0 = false ∧ s.wake.clk 0 = .losc ∧ s.pdmWant 0 = .slow) ∧
    (let s := wakeS { clk1 := .fast }; s.pdmWant (7 / 4) ≠ .fast) ∧
    (base.wake.clk 0 = base.pdmWant 0) ∧ (let s := withDir [(0x1802, 0x0501)] { runS with clock := {} }; s.pdmWaits 0 = true) ∧
    (let s := inMode .rest; s.power.mode = .rest ∧ s.wake.episode = none) ∧
    (let s := wakeS { clk0 := .fast, settle0 := some 200000 }; s.wake.settle 0 = some 200000 ∧ 200000 ≤ s.clock.now ∧ s.wake.clk 0 = .fast) ∧
    (let s := wakeS { clk1 := .slow, settle1 := some 7 }; s.wake.settle 1 = some 7 ∧ s.wake.clk 1 ≠ .fast) ∧
    (base.wake.settle 0 = none) ∧ (let s := wakeS { settle0 := some 200001 }; s.wake.settle 0 = some 200001 ∧ s.clock.now < 200001) := by decide

set_option maxRecDepth 4000 in
theorem witness_WakeDetectorHearsAndMatches :
    (let w := oneEpisode 256 [2] 0
     w.episode = some { onset := 0, slots := [2], quiet := 0 } ∧ (∃ c, w.found { onset := 0, slots := [2], quiet := 0 } = some (0, 2, c)) ∧
       (wakeS w).awake = true ∧ (wakeS w).power.entering = none) ∧
    (let s := { inMode .watch with clock := {}, wake := { listening := true, cic := { count := 47 } } }
     s.wake.listening = true ∧ s.clock.rootRunning = false ∧ s.wakeOnOnset = false ∧ s.wake.cic.count < 48) ∧
    (let s := withDir [(0x1800, 16)] (inMode .watch); s.wakeOnOnset = false ∧ s.wkSource = 8) ∧
    (let s := withDir [(0x1800, 2)] (inMode .watch); s.wakeOnOnset = false ∧ (s.wkSource % 2 = 1 ↔ (s.dir 0x1802).testBit (2 + s.wkSource / 4) = true) = False ∧ s.wkSource < 8) ∧
    (let s := withDir [(0x1800, 2), (0x1802, 4)] (inMode .watch); s.wkSource % 2 = 1 ∧ (s.dir 0x1802).testBit (2 + s.wkSource / 4) = true) ∧
    (base.wake.listening = false) ∧
    (let s := wakeS { listening := true, ring := List.replicate 256 5, widx := 256 }
     s.wake.listening = true ∧ s.clock.rootRunning = true ∧ s.wake.floor = none ∧ 256 + s.wake.widx.toNat % 256 ≤ s.wake.ring.length ∧
       s.wake.widx - BitVec.ofNat 32 (s.wake.widx.toNat % 256) ≠ s.wake.frameDone) ∧
    (let s := { inMode .watch with wake := oneEpisode 256 [2] 0 }
     s.wakeOnOnset = false ∧ s.power.mode = .watch ∧ s.power.exiting = none ∧
       s.power.retentionLost = false ∧ s.power.inReset = false) ∧
    (base.wake.episode = none) ∧
    (let w := oneEpisode 32768 [] 0; 128 * 256 ≤ (w.widx - 0).toNat ∧ w.found { onset := 0, slots := [], quiet := 0 } = none) ∧ (let w := oneEpisode 32767 [] 19; (w.widx - 0).toNat < 128 * 256 ∧ 19 < 20) :=
  ⟨⟨rfl, one_found, rfl, rfl⟩, by decide⟩

theorem witness_HandoverStartsAndCatchesUp :
    (let s := { between (wakeS { handoverNext := [(64000, some 5, 100, 0)], ring := [1, 2, 3], widx := 8, startIdx := 5 }) with dep := { injectNext := 17 } }
     s.clock.opened = false ∧ s.cfg.armed = none ∧ s.gunDue = false ∧ (∀ p : Fin 6, s.exchangeDue p = false) ∧
       s.wake.handoverNext = [(64000, some 5, 100, 0)] ∧ 64000 ≤ s.tickNat ∧ 0 ≤ ((5 : BitVec 32) - s.wake.startIdx).toInt ∧ s.forceDue = false ∧ s.dep.injectNext ≠ 0) ∧
    (let s := between (wakeS { handoverNext := [(64000, some 5, 100, 0)], ring := [1, 2, 3], widx := 8, startIdx := 5 }); s.clock.opened = false ∧ s.dep.injectNext = 0) ∧
    (let s := wakeS { handoverNext := [(64000, some 5, 100, 0)], startIdx := 6 }; ((5 : BitVec 32) - s.wake.startIdx).toInt < 0) ∧
    (let s := { between (wakeS { handoverNext := [(64000, none, 0, 0)] }) with dep := { injectNext := 17 } }
     s.clock.opened = false ∧ s.gunDue = false ∧ (∀ p : Fin 6, s.exchangeDue p = false) ∧ s.wake.handoverNext = [(64000, none, 0, 0)] ∧ 64000 ≤ s.tickNat ∧ s.dep.injectNext ≠ 0) ∧
    (let s := wakeS { handoverNext := [(64001, none, 0, 0)] }; ∀ e ∈ s.wake.handoverNext, s.tickNat < e.1) ∧
    (let s := wakeS { handover := some { idx := 0, r := 5, ran := true }, widx := 8 }
     s.wake.handover = some { idx := 0, r := 5, ran := true } ∧ (s.wake.widx - 0).toInt ≤ 8) ∧
    (let s := wakeS { handover := some { idx := 0, r := 5, ran := true, sixth := 5 }, widx := 10 }; 9 < (s.wake.widx - 0).toInt) ∧
    (base.wake.handover = none) := by decide


/-- The base state with one bus port as given; a packet of n payload bytes as its bytes. -/
def busS (twi : Bool) (p : BusPort) : State := { base with bus := if twi then { twi := p } else { spi := p } }
def packetOf (n : Byte) : List Byte := [0x4B, 0x10, 1, 0, 7, 0, n, 0] ++ List.replicate n.toNat 9 ++ [1, 2, 3, 4]
def resetS : State := powS { inReset := true }

/-- The address of R361's example: code 99, in 10-bit mode 0xF0 0x63, in 7-bit mode 0xC6 to write and 0xC7 to read. -/
def addrS (seven : Bool) : State := { base with bus := { code := 99, addr7 := seven } }

theorem test_address_bytes :
    (addrS false).addrWrite = [0xF0, 0x63] ∧ (addrS false).addrRead = [0xF1] ∧ (addrS true).addrWrite = [0xC6] ∧ (addrS true).addrRead = [0xC7] := by decide

/-- R361, R363, R366: a packet to the device's own address is taken; one to another address, or after a general call, is not; one pointer byte alone leaves
the pointer. -/
theorem test_mailbox_write :
    ((answer (execMailboxWrite true (some [0xF0, 0x63, 0x00, 0x01]) (packetOf 0) (addrS false))).bus.twi.mailbox.length = 1) ∧
    ((answer (execMailboxWrite true (some [0xC6, 0x00, 0x01]) (packetOf 0) (addrS true))).bus.twi.mailbox.length = 1) ∧
    ((answer (execMailboxWrite true (some [0xF0, 0x64, 0x00, 0x01]) (packetOf 0) (addrS false))).bus.twi.mailbox.length = 0) ∧
    ((answer (execMailboxWrite true (some [0x00, 0x00, 0x01]) (packetOf 0) (addrS true))).bus.twi.phase = .deaf) ∧
    ((answer (execMailboxWrite true (some [0xC6, 0x10]) [] (addrS true))).bus.twi.pointer = 0) ∧
    ((answer (execMailboxWrite false (some [2, 0x00, 0x01]) (packetOf 0) base)).bus.spi.mailbox.length = 1) := by decide

/-- R364: a read address alone after a STOP is not answered in 10-bit mode; in 7-bit mode it reads at the pointer. R375: an SPI READ answers with the
status byte and three zeros first. -/
theorem test_window_read :
    ((answer (execReplyPageRead true (some { addr := [0xF1] }) 2 (addrS false))).bus.twi.lastRead = []) ∧
    ((answer (execReplyPageRead true (some { addr := [0xC7] }) 2 (addrS true))).bus.twi.lastRead = [0x55, 0x4B]) ∧
    ((answer (execReplyPageRead true (some { write := [0xF0, 0x63, 0x02, 0x00], addr := [0xF1] }) 2 (addrS false))).bus.twi.lastRead = [0x28, 0x24]) ∧
    ((answer (execReplyPageRead false (some { addr := [3, 0, 0, 0] }) 2 base)).bus.spi.lastRead.drop 1 = [0, 0, 0, 0x55, 0x4B]) := by decide

theorem witness_MailboxWriteFramesPackets :
    (let b := packetOf 3
     base.Answers true ∧ (addrS true).Answers true ∧ (addrS false).Answers true ∧ base.Answers false ∧ base.served = true ∧ (0x0100 : BitVec 16).toNat / 256 = 1 ∧
       b.length = 12 + 4 * (le b 1 1 % 2) + le b 6 2 ∧ le b 6 2 ≤ 1024 ∧ (base.bus.port true).mailQueued + b.length ≤ 2080) ∧
    (base.busAlive = true ∧ (0x01FF : BitVec 16).toNat / 256 = 1) ∧ ((0x0200 : BitVec 16).toNat / 256 ≠ 1 ∧ packetOf 0 ≠ []) ∧
    (let s := { base with ctl := { running := false } }; s.Answers true ∧ s.served = false) ∧
    (deafByte 0 = true ∧ deafByte 1 = true ∧ deafByte 0x0F = true ∧ deafByte 2 = false ∧ deafByte 0x10 = false) ∧
    ((addrS true).addrWrite.head? ≠ some 0xC8 ∧ (addrS true).addrRead ≠ [0xC8] ∧ (addrS true).bus.twi.phase ≠ .deaf ∧ (addrS true).bus.twi.fragment = []) ∧
    (let s := { base with bus := { addrReserved := true } }; s.busAlive = true ∧ s.bus.addrReserved = true ∧ s.bus.twi.phase ≠ .deaf) ∧
    ((busS true { phase := .deaf }).bus.twi.phase = .deaf) ∧
    (resetS.busAlive = false) ∧ ((base.bus.port true).active = false) := by
  (repeat' apply And.intro) <;> decide

theorem witness_RegisterWindowReads :
    (let s := busS true { replies := [[1, 2], [3]] }
     s.Answers true ∧ s.ctl.running = true ∧ s.power.mode ≠ .boot ∧ (s.bus.port true).held = [] ∧
       (s.bus.port true).replies = [1, 2] :: [[3]] ∧ [(1 : Byte), 2] ≠ []) ∧
    (base.Answers true ∧ base.Answers false ∧ base.ctl.running = true ∧ (base.bus.port true).replies = []) ∧
    (let s := addrS true; s.Answers true ∧ s.bus.twi.pointer.toNat / 256 ≠ 2 ∧ s.bus.twi.pointer.toNat + 512 ≤ 0x0200 ∧ s.bus.addr7 = true) ∧
    (let s := { base with bus := { twi := { pointer := 0x0300, addressed := true } } }
     s.Answers true ∧ s.bus.twi.pointer.toNat / 256 ≠ 2 ∧ 0x0300 ≤ s.bus.twi.pointer.toNat ∧ s.bus.twi.pointer.toNat + 4 ≤ 0x10000 ∧ s.bus.twi.addressed = true) ∧
    (base.bus.addr7 = false ∧ base.bus.twi.addressed = false) ∧
    (resetS.busAlive = false) := by
  (repeat' apply And.intro) <;> decide

theorem witness_BusConditionsAndInBandPulses :
    (let s := busS true { fragment := [0x4B, 0x10, 1, 0, 7] }
     s.busAlive = true ∧ (s.bus.port true).fragment ≠ [] ∧ (s.bus.port true).held = [] ∧ (s.bus.port true).queued + 14 ≤ 2080) ∧
    (let s := busS false { replies := [List.replicate 66 0] }; (s.bus.port false).queued + 14 ≤ 2080) ∧
    (base.busAlive = true ∧ (base.bus.port false).fragment = [] ∧ base.bus.twi.phase ≠ .deaf) ∧ (resetS.busAlive = false) ∧
    ((busS true { phase := .deaf }).bus.twi.phase = .deaf) ∧
    (let s := withDir [(0x1903, 1)] { base with bus := { pulseDue := true } }
     s.awake = true ∧ (s.dir 0x1903).testBit 0 = true ∧ s.bus.pulseDue = true ∧ s.bus.twi.fragment = []) ∧
    (let s := withDir [(0x1903, 1)] { base with bus := { pulseDue := true, twi := { fragment := [1] } } }; s.bus.twi.fragment ≠ []) ∧
    (let s := withDir [(0x1903, 0x0301), (0x1902, 4)] { base with bus := { lastPulse := some 197120, attn := 4 } }
     s.awake = true ∧ (s.dir 0x1903).testBit 0 = true ∧ s.bus.pulseDue = false ∧ s.bus.lastPulse = some 197120 ∧ field (s.dir 0x1903) 8 8 ≠ 0 ∧
       197120 + 960 * field (s.dir 0x1903) 8 8 ≤ s.clock.now ∧ s.inbandSet = true ∧ s.bus.readSince = false) ∧
    ((resetS.dir 0x1903).testBit 0 = false ∧ (inMode .rest).awake = false) := by decide

def ses (n : BitVec 16) (last : Nat) (claims : BitVec 64) : Session := { binding := { port := 0 }, number := n, lastPacket := last, claims := claims }
def ctlS (c : Control) : State := { base with ctl := c }

theorem witness_SessionsLockoutsAndRecordsAge :
    (let s := withDir [(0x1A00, 1)] (ctlS { sessions := [ses 9 104000 1] })
     s.ctl.sessions.find? (fun y => decide (y.number = 9)) = some (ses 9 104000 1) ∧ 104000 + 96000 * field (s.dir 0x1A00) 0 16 ≤ s.clock.now ∧
       (ses 9 104000 1).claims ≠ 0) ∧
    (let s := withDir [(0x1A00, 1)] (ctlS { sessions := [ses 9 104001 0] })
     s.clock.now < 104001 + 96000 * field (s.dir 0x1A00) 0 16 ∧ (ses 9 104001 0).claims = 0) ∧
    (∀ y ∈ base.ctl.sessions, y.number ≠ 9) ∧
    (let s := ctlS { lockedUntil := [(1, 200000)] }; tabGet (fun _ => 0) s.ctl.lockedUntil 1 ≤ s.clock.now) ∧
    (let s := ctlS { lockedUntil := [(1, 200001)] }; s.clock.now < tabGet (fun _ => 0) s.ctl.lockedUntil 1) ∧
    (base.mramBlocked = false ∧ base.power.inReset = false ∧ base.ctl.running = true) ∧ (powS { pfw := true }).mramBlocked = true ∧
    (ctlS { running := false }).ctl.running = false ∧
    (let s := { base with log := { sinceCommit := 600 } }; 600 ≤ s.log.sinceCommit ∧ s.asleep = false ∧ s.log.due = false) ∧
    (let s := { base with log := { sinceCommit := 599 } }; s.log.sinceCommit < 600 ∧ s.log.due = false) := by decide

theorem witness_ControlRestartsAndResumes :
    (base.firmware = true ∧ base.ctl.running = true ∧ base.ctl.inbox = [] ∧ base.log.served + 9600 ≤ base.clock.now) ∧ (resetS.firmware = false) ∧
    (let s := { base with log := { served := 190401 } }; s.ctl.running = true ∧ s.clock.now < s.log.served + 9600) ∧
    (let s := ctlS { running := false, restartAt := 190400 }
     s.firmware = true ∧ s.ctl.running = false ∧ s.ctl.restartAt + 9600 ≤ s.clock.now ∧ s.log.due = false) := by decide

theorem witness_MemoryErrorsAreFoundAndRepaired :
    (base.scrubs 0 = true ∧ base.scrubs 8 = true ∧ (∀ x ∈ base.dep.injected, x.mem ≠ 8 ∨ x.word ≠ 3)) ∧ (base.ringRead 4096 = false ∧ base.scrubs 9 = false) ∧
    (let s := { runS with ports := { port := [(1, { state := 2 })] } }; s.ringRead 4096 = true ∧ s.ringRead (4096 + 2048) = true ∧ s.ringRead 8191 = true) ∧
    (let f : BankFault := { activeBank := false, kind := 1, index := 0x0500 }
     let s := { base with dep := { bankFaults := [f] } }
     f ∈ s.dep.bankFaults ∧ paramClass 0x0500 = .banked ∧ (1, 0x0500) ∉ s.dep.writtenShadow) ∧
    ((⟨true, 1, 0⟩ : BankFault) ∉ base.dep.bankFaults) ∧
    (let s := between { base with dep := { injectNext := 0x00050031 } }
     s.clock.opened = false ∧ s.cfg.armed = none ∧ s.gunDue = false ∧ (∀ p : Fin 6, s.exchangeDue p = false) ∧ s.handoverDue = false ∧ s.forceDue = false ∧
       s.dep.injectNext = 0x00050031 ∧ field 0x00050031 0 4 ≠ 7 ∧ 1 ≤ field 0x00050031 0 4) ∧
    (base.clock.opened = true ∧ base.dep.injectNext = 0) ∧
    (base.clock.rootRunning = true ∧ tabGet (fun _ => 0) base.out.bridgeFails 2 = 0 ∧ tabGet (fun _ => 0) base.out.bridgeFails 2 ≠ base.pwmPeriod 2) ∧
    (let s := { base with clock := { base.clock with phase := 16 }, out := { bridgeFails := [(2, 1600001)], ch := [(26, { driving := true })] } }
     tabGet (fun _ => 0) s.out.bridgeFails 2 = s.pwmPeriod 2 ∧ s.pwmPeriod 2 ≠ 0 ∧ (s.outCh 26).driving = true ∧ s.stages 2 = [2] ∧
       (s.outCh 26).prot.getLsbD 1 = false) ∧
    ({ base with clock := {} }.clock.rootRunning = false) := by decide

theorem witness_HistogramsAndJtag :
    (let s := withDir [(0x0480, 0x100)] { base with conv := { meas := [(11, { value := 2500, valid := true })] } }
     s.asleep = false ∧ s.power.inReset = false ∧ (s.dir 0x0480).testBit 8 = true ∧ s.log.histAt + 96000 ≤ s.clock.now ∧
       (∀ k : Fin 14, 4 ≤ k.val → k.val ≠ 11 → (s.meas k).valid = false) ∧ (s.meas 11).valid = true) ∧
    (let s := withDir [(0x0480, 0x100)] base; (s.meas 11).valid = false ∧ (s.dir 0x0480).testBit 8 = true) ∧
    (let s := { base with log := { histAt := 104001 } }; s.clock.now < s.log.histAt + 96000) ∧ (inMode .rest).asleep = true ∧
    (base.jtag.drives = false ∧ 17 % 16 = 1 ∧ 15 % 16 ≥ 5) ∧
    (let s := { base with jtag := .extest }; s.jtag.drives = true ∧ s.power.supplied = true ∧ s.power.resetLow = false) := by decide

/-- A request on port 0 of the base state agreed at revision 3, with a session open there. -/
def ask (p : List Byte) : Req := { port := 0, rev := 3, payload := p }
def openS : State := { base with bus := { spi := { rev := 3 } }, ctl := { sessions := [ses 9 100000 0] } }
/-- State.Takes and State.Admits as computations. -/
def takesB (s : State) (q : Req) : Bool :=
  s.served && s.heads.all (fun h => headBefore (s.clock.now, q.port.val, q.origin.val, q.oport.val, h.2.2.2.2) h) && (decide (2 ≤ q.port.val) ||
    ((s.bus.port (decide (q.port.val = 1))).ready && (s.bus.port (decide (q.port.val = 1))).mailbox.isEmpty))
def admitsB (s : State) (op : Nat) (q : Req) : Bool :=
  takesB s q && s.revisionOk op q && (opRow op).any (fun row => decide (row.rev ≤ q.rev.val) &&
    (!row.session || decide (q.port.val = 4) || (s.ctl.sessionOf (bindingOf q)).isSome) && lengthOk op q.payload && decide (s.claimClash (s.jobOf op q) = 0) &&
    s.stateOk row)
theorem takes {s : State} {q : Req} (h : takesB s q = true) : s.Takes q := by
  simp only [takesB, Bool.and_eq_true, Bool.or_eq_true, decide_eq_true_eq, List.isEmpty_iff, List.all_eq_true] at h
  exact ⟨h.1.1, h.1.2, fun hp => h.2.resolve_left (by omega)⟩
theorem admits {s : State} {op : Nat} {q : Req} (h : admitsB s op q = true) : s.Admits op q := by
  simp only [admitsB, Bool.and_eq_true, Option.any_eq_true, Bool.or_eq_true, Bool.not_eq_true', decide_eq_true_eq] at h
  obtain ⟨⟨h1, h2⟩, row, h3, ⟨⟨⟨h4, h5⟩, h6⟩, h7⟩, h8⟩ := h
  exact ⟨takes h1, h2, row, h3, h4, by rcases h5 with (h | h) | h <;> simp [h], h6, h7, h8⟩

/-- A packet waits on port 1 since the tick before. -/
def waitS : State := { openS with bus := { spi := { rev := 3 }, twi := { mailbox := [⟨[1, 0, 0, 0], 199999, 63999⟩] } } }

set_option maxRecDepth 20000 in
theorem witness_RequestsAreJudgedInOrder :
    (requestOf (.hello (ask [])) = some (0x0001, ask []) ∧ (ask []).port.val < 2 ∧ { openS with ctl := { running := false } }.served = false) ∧
    (openS.served = true ∧
      (({ openS with bus := { spi := { rev := 3, mailbox := [⟨[], 0, 0⟩] } } }).bus.port false).mailbox ≠ [] ∧
      (({ openS with bus := { spi := { rev := 3, mailbox := [⟨[], 0, 0⟩] } } }).bus.port false).mailQueued +
        (packet 3 false false 1 0 openS.devId 0 []).length ≤ 2080) ∧
    (({ openS with bus := { spi := { rev := 3, held := [[1]] } } }).bus.port false).ready = false ∧
    ({ openS with ctl := { running := false } }.firmware = true ∧ { openS with ctl := { running := false } }.ctl.running = false) ∧
    (base.Takes (ask []) ∧ base.revisionOk 0x0102 (ask []) = false) ∧
    (base.Takes (req []) ∧ base.revisionOk 0x0501 (req []) = true ∧ (opRow 0x0501).any (fun row => decide ((req []).rev.val < row.rev)) = true) ∧
    (base.Takes (req []) ∧ base.revisionOk 0x0102 (req []) = true ∧ (opRow 0x0102).any (fun row => decide (row.rev ≤ 1) && row.session) = true ∧
      base.ctl.sessionOf (bindingOf (req [])) = none ∧ base.ctl.expired.contains (bindingOf (req [])) = false) ∧
    ((ctlS { expired := [{ port := 0 }] }).Takes (req []) ∧ (ctlS { expired := [{ port := 0 }] }).ctl.sessionOf (bindingOf (req [])) = none ∧
      (ctlS { expired := [{ port := 0 }] }).ctl.expired.contains (bindingOf (req [])) = true) ∧
    (openS.Takes (ask []) ∧ openS.revisionOk 0x0102 (ask []) = true ∧ (openS.ctl.sessionOf (bindingOf (ask []))).isSome = true ∧
      lengthOk 0x0102 (ask []).payload = false) ∧
    (({ openS with ctl := { sessions := [ses 9 0 0, { ses 8 0 1 with binding := { port := 1 } }] } }).Takes (ask [2, 0, 0, 0]) ∧ lengthOk 0x0203 [2, 0, 0, 0] = true ∧
      lengthOk 0x0501 (leBytes 8 1) = true ∧
      ({ openS with ctl := { sessions := [ses 9 0 0, { ses 8 0 (BitVec.ofNat 64 (2 ^ 64 - 1)) with binding := { port := 1 } }] } }).claimClash
        (openS.jobOf 0x0203 (ask [2, 0, 0, 0])) ≠ 0) ∧
    (({ openS with power := { mode := .recovery } }).Takes (ask (leBytes 2 0 ++ leBytes 2 0 ++ leBytes 4 0)) ∧
      (opRow 0x0102).any (fun row => !({ openS with power := { mode := .recovery } }).stateOk row) = true) ∧
    (openS.First (ask []) ∧ ({ openS with bus := { spi := { rev := 3, held := [[1]] } } }).First (ask []) ∧
      ({ openS with bus := { spi := { rev := 3, held := [[1]], mailbox := [⟨[], 200000, 64000⟩] } } }).First (ask [])) ∧
    (waitS.served = true ∧ waitS.bus.spi.mailbox.length + waitS.bus.twi.mailbox.length + waitS.ctl.inbox.length = 1 ∧
      (firstHead waitS.heads).any (fun h => !headBefore (waitS.clock.now, 0, 0, 0, h.2.2.2.2) h &&
        takesB ((waitS.takeHead h).runPacket h.2.1 h.2.2.1 h.2.2.2.1 h.2.2.2.2) (ask [])) = true) := by
  repeat' (first | exact takes (by decide) | decide | apply And.intro)

/-- SHA-256 of "abc" (the example of its standard). -/
theorem test_sha256_abc : sha256 [0x61, 0x62, 0x63] = beBytes 32 0xBA7816BF8F01CFEA414140DE5DAE2223B00361A396177A9CB410FF61F20015AD := by decide +kernel

/-- The wrapping of a 256-bit key under a 256-bit key (the example 4.6 of RFC 3394). -/
def kek : List Byte := (List.range 32).map (BitVec.ofNat 8)
def wrapped : List Byte := beBytes 8 0x28C9F404C4B810F4 ++ beBytes 8 0xCBCCB35CFB87F826 ++ beBytes 8 0x3F5786E2D80ED326 ++ beBytes 8 0xCBC7F0E71A99F43B ++
  beBytes 8 0xFB988B9B7A02DD21
set_option maxRecDepth 1000000 in
theorem test_keyUnwrap :
    keyUnwrap kek wrapped = some (beBytes 16 0x00112233445566778899AABBCCDDEEFF ++ (List.range 16).map (BitVec.ofNat 8)) := by decide +kernel

theorem foldl_keeps {α β : Type} (P : β → Prop) (f : β → α → β) (h : ∀ b a, P b → P (f b a)) (l : List α) (b : β) (hb : P b) : P (l.foldl f b) := by
  induction l generalizing b with
  | nil => exact hb
  | cons a l ih => exact ih _ (h b a hb)
theorem shaRound_length (v : List Nat) (k : Nat × Nat) (h : v.length = 8) : (shaRound v k).length = 8 := by
  unfold shaRound; split <;> simp_all
theorem sha256_length (m : List Byte) : (sha256 m).length = 32 := by
  have h : ∀ l : List (List Nat), (l.foldl shaBlock shaInit).length = 8 := fun l => foldl_keeps (fun v : List Nat => v.length = 8) _ (fun b a hb => by
    simp [shaBlock, hb, foldl_keeps (fun v : List Nat => v.length = 8) shaRound shaRound_length _ b hb]) l _ rfl
  have h4 : ∀ a, (beBytes 4 a).length = 4 := fun a => by simp [beBytes, leBytes]
  simp [sha256, List.length_flatMap, h4, List.map_const', h]
theorem hmac_length (k m : List Byte) : (hmacSha256 k m).length = 32 := sha256_length _

/-- A challenge on port 0, and the proof that answers it. -/
def chal : Challenge := { binding := { port := 0 }, nh := List.replicate 16 1, nd := List.replicate 16 2, made := 199999 }
def provS : State := { base with bus := { spi := { rev := 3 } }, ctl := { challenges := [chal] }, mram := { key := kek } }
def proof_ : List Byte := hmacSha256 kek (provS.hostMessage (ask []) chal)

theorem witness_SessionRequestsAct :
    (openS.Admits 0x0001 (ask [1, 3, 0, 0]) ∧ base.Admits 0x0001 (req [4, 5, 0, 0]) ∧ (3 : Nat) < (4 : Byte).toNat) ∧
    (base.Admits 0x0001 { port := 2, rev := 2, payload := [1, 3, 0, 0] } ∧ base.Admits 0x0001 { port := 4, rev := 2, payload := [4, 4, 0, 0] }) ∧
    ((ctlS { lockedUntil := [(0, 200001)] }).Admits 0x0002 (req (List.replicate 16 0)) ∧ (ctlS { lockedUntil := [(0, 200001)] }).lockedOut 0 = true) ∧
    (base.Admits 0x0002 (req (List.replicate 16 0)) ∧ base.lockedOut 0 = false ∧ base.portFull (bindingOf (req [])) = false ∧
      base.ctl.sessionOf (bindingOf (req [])) = none ∧ base.mram.unprovisioned = true ∧ base.ctl.sessions.length ≤ 18) ∧
    (provS.Admits 0x0002 (ask (List.replicate 16 0)) ∧ provS.mram.unprovisioned = false) ∧
    (provS.Admits 0x0003 (ask (List.replicate 32 0)) ∧ provS.lockedOut 0 = false ∧ provS.portFull (bindingOf (ask [])) = false ∧
      provS.ctl.challenges.find? (fun c => decide (c.binding = bindingOf (ask [])) && decide (provS.clock.now < c.made + 960000)) = some chal) ∧
    (base.Admits 0x0004 (req []) ∧ base.ctl.sessionOf (bindingOf (req [])) = none) ∧
    (openS.Admits 0x0004 (ask []) ∧ ((openS.seen (ask [])).ctl.sessionOf (bindingOf (ask []))).isSome = true) ∧
    (({ openS with power := { mode := .idle, pfw := true } }).Admits 0x0005 (ask wrapped) ∧ ({ openS with power := { mode := .idle, pfw := true } }).mramBlocked = true) ∧
    (({ openS with mram := { key := [] } }).Admits 0x0005 (ask wrapped) ∧ ({ openS with mram := { key := [] } }).mramBlocked = false ∧
      keyUnwrap ({ openS with mram := { key := [] } }).mram.key wrapped = none) := by
  repeat' (first | exact admits (by decide) | decide | apply And.intro)

theorem witness_SessionRequestsAct_proof :
    provS.Admits 0x0003 (ask proof_) ∧ hmacSha256 provS.mram.key (provS.hostMessage (ask proof_) chal) = (ask proof_).payload := by
  have hl : lengthOk 0x0003 (ask proof_).payload = true := by
    have : proof_.length = 32 := hmac_length _ _
    simp [lengthOk, fixedLength, ask, this]
  refine ⟨⟨takes (by decide), by decide, _, rfl, by decide, .inl rfl, hl, ?_, by decide⟩, ?_⟩
  · unfold State.claimClash
    split
    · rfl
    · simp [provS, base]
  · have h : ∀ p : List Byte, provS.hostMessage (ask p) chal = provS.hostMessage (ask []) chal := fun _ => rfl
    have hp : ∀ p : List Byte, (ask p).payload = p := fun _ => rfl
    have hk : provS.mram.key = kek := rfl
    rw [h, hp, hk, proof_]

theorem witness_SessionRequestsAct_keyChange :
    ({ openS with mram := { key := kek } }).Admits 0x0005 (ask wrapped) ∧ ({ openS with mram := { key := kek } }).mramBlocked = false ∧
      ∃ k, keyUnwrap ({ openS with mram := { key := kek } }).mram.key (ask wrapped).payload = some k :=
  ⟨admits (by decide), by decide, _, test_keyUnwrap⟩

/-- The open state with one node of four parameters in its active graph, one ledger record, or an incoming swap. -/
def oneNode : NodeRec := { op := 1, raMax := 0, flow := 0, home := 0, pFirst := 0, pCount := 4, size := 0, dataOfs := 0 }
def graphS (g : Graph) : State := { openS with graph := g }
def nodeS : State := graphS { active := { nodes := [oneNode] } }
def ledgerS : State := { openS with ctl := openS.ctl.record 5 0 0 9 0x0102 0 1 0 7 }
def frozenS : State := { openS with cfg := { refilling := true } }

theorem witness_ReadsAnswer :
    (openS.First (ask []) ∧ base.First { port := 2, rev := 2 }) ∧ openS.Admits 0x0006 (ask []) ∧ (openS.Admits 0x0101 (ask [0, 5, 1, 0]) ∧ paramDefined 0x0500 = true ∧ paramClass 0x0500 = .banked) ∧
    (openS.Admits 0x0101 (ask [0xFF, 0xFF, 0, 0]) ∧ paramDefined 0xFFFF = false) ∧ openS.Admits 0x0101 (ask [0, 5, 2, 0]) ∧
    (nodeS.Admits 0x0106 (ask (leBytes 2 0 ++ leBytes 2 3 ++ leBytes 2 1 ++ [0, 0])) ∧ nodeS.graph.active.nodes[0]? = some oneNode ∧ 3 + 1 ≤ oneNode.pCount) ∧
    openS.Admits 0x0108 (ask ([15, 1] ++ leBytes 2 1420 ++ leBytes 2 1020)) ∧ openS.Admits 0x0805 (ask (leBytes 2 2046 ++ [1, 0] ++ leBytes 2 2)) ∧
    openS.Admits 0x0304 (ask [0, 0, 63, 0]) ∧
    (openS.Admits 0x0401 (ask [12, 0, 0, 0, 1, 0, 0, 0]) ∧ ((openS.seen (ask [])).latched 12).any (fun w => decide (1 ≤ w.length)) = true) ∧
    (ledgerS.Admits 0x0605 (ask (leBytes 4 1 ++ [31, 0, 0, 0])) ∧ ledgerS.ctl.ledger ≠ []) ∧ openS.Admits 0x0606 (ask (leBytes 4 216 ++ leBytes 2 1020)) ∧
    (openS.Admits 0x0801 (ask [0, 0, 42, 0]) ∧ openS.link.topo = []) := by
  repeat' (first | exact admits (by decide) | decide | apply And.intro)

/-- A PARAM_WRITE request. -/
def wr (id v : Nat) : Req := ask (leBytes 2 id ++ [0, 0] ++ leBytes (paramWidth id) v)

theorem witness_WritesAct :
    (openS.Writes (wr 0x0500 0x0A01) 0x0500 0x0A01 ∧ paramClass 0x0500 = .banked) ∧
    (openS.Writes (wr 0x0100 24576000) 0x0100 24576000 ∧ mramParam 0x0100 = true) ∧ openS.Writes (wr 0x0103 0x80000000) 0x0103 0x80000000 ∧
    openS.Writes (wr 0x0400 5) 0x0400 5 ∧ openS.Writes (wr 0x044B 4) 0x044B 4 ∧ openS.Writes (wr 0x0710 4) 0x0710 4 ∧ openS.Writes (wr 0x140C 1) 0x140C 1 ∧
    openS.Writes (wr 0x1300 0x0000000141440000) 0x1300 0x0000000141440000 ∧ openS.Writes (wr 0x1C00 8) 0x1C00 8 ∧
    (openS.Writes (wr 0x1C01 1) 0x1C01 1 ∧ (1 : Nat).testBit 0 = true ∧ (openS.dir 0x1C01).testBit 0 = false) ∧
    openS.Writes (wr 0x0206 0x3E8) 0x0206 0x3E8 ∧ openS.Writes (wr 0x1803 4) 0x1803 4 ∧ openS.Writes (wr 0x1900 1) 0x1900 1 ∧ openS.Writes (wr 0 0) 0 0 ∧
    le (wr 0x0800 0).payload 0 2 = 0x0800 ∧
    (openS.Admits 0x0103 (ask (leBytes 2 0x0400 ++ leBytes 2 2 ++ [4, 0, 0, 0] ++ leBytes 4 5 ++ leBytes 4 3)) ∧ openS.inIdle = true ∧ openS.frozen = false ∧
      openS.loses (openS.jobOf 0x0103 (ask [])) (.params 0x0400 2) = false ∧
      (∀ k : Fin 2, paramDefined (0x0400 + k) = true ∧ sameBlock 0x0400 (0x0400 + k) = true ∧ paramWidth (0x0400 + k) = 4 ∧ mramParam (0x0400 + k) = false) ∧
      openS.Admits 0x0103 (ask (leBytes 2 0x0103 ++ leBytes 2 1 ++ [4, 0, 0, 0] ++ leBytes 4 0x80000000)) ∧ openS.valueOk 0x0103 0x80000000 = true ∧
      openS.valueOk 0x0400 5 = true ∧ openS.valueOk 0x0401 3 = true ∧ openS.valueOk 0x0401 9 = false) ∧
    (openS.Admits 0x0107 (ask ([15, 0] ++ leBytes 2 2436 ++ leBytes 4 7)) ∧ openS.Admits 0x0804 (ask (leBytes 2 2046 ++ [0, 0, 1, 2])) ∧
      frozenS.Admits 0x0107 (ask ([15, 0] ++ leBytes 2 2436 ++ leBytes 4 7)) ∧ frozenS.frozen = true ∧ frozenS.cfg.queue = []) ∧
    (nodeS.Admits 0x0105 (ask (leBytes 2 0 ++ leBytes 2 0 ++ leBytes 2 1 ++ [0, 0] ++ leBytes 8 64001 ++ leBytes 4 0)) ∧ nodeS.tickNat < 64001 ∧
      (slotFmt 1 0 0).ok 0 = true ∧ nodeS.loses (nodeS.jobOf 0x0105 (ask [])) (.slots 0 0 1 64001) = false ∧ nodeS.graph.events = [] ∧ nodeS.inRun = false) ∧
    openS.Admits 0x0301 (ask (leBytes 4 0 ++ [1])) := by
  repeat' (first | exact admits (by decide) | decide | apply And.intro)

/-- The open state in Run, with MRAM held, with a claim of another port, and with a slot that holds an empty configuration. -/
def openRun : State := { openS with power := { mode := .run } }
def heldS : State := { openS with power := { mode := .idle, pfw := true } }
def otherS : State := { openS with ctl := { sessions := [ses 9 0 2, { ses 8 0 1 with binding := { port := 1 } }] } }
def emptyImage : List Byte :=
  let b := slotMagic ++ leBytes 2 1 ++ leBytes 2 0 ++ List.replicate 16 0 ++ leBytes 4 40 ++ leBytes 4 0
  b ++ leBytes 4 (crc32c b) ++ leBytes 4 (crc32c b ^^^ 0x4B552428)
def slotS : State := { openS with mram := { slots := [(3, { start := 0, len := 5, image := emptyImage })] } }
def checkS (k : CheckKind) : State := { openS with cfg := { check := some { kind := k, job := openS.jobOf 0x0104 (ask []), named := 64001 } } }
def at_ (l : List Byte) (t : Nat) : Req := ask (l ++ leBytes 8 t)

set_option maxRecDepth 8000 in
theorem witness_ModeBankAndStoreRequestsAct :
    (openS.Admits 0x0104 (at_ [] 0) ∧ openS.loses (openS.jobOf 0x0104 (at_ [] 0)) .swap = false ∧ openS.cfg.check = none ∧ openS.cfg.armed = none) ∧
    ((checkS .swap).Admits 0x0104 (at_ [] 64005) ∧ (checkS .swap).loses (openS.jobOf 0x0104 (at_ [] 64005)) .swap = false ∧
      (checkS .swap).cfg.check.isSome = true) ∧
    (openS.Admits 0x0201 (ask []) ∧ openS.inIdle = true ∧ openS.power.entering = none ∧ openS.power.pfw = false) ∧
    ((checkS .arm).Admits 0x0201 (ask []) ∧ (checkS .arm).cfg.check.isSome = true ∧ (checkS .arm).inIdle = true) ∧
    (openRun.Admits 0x0201 (ask []) ∧ openRun.inIdle = false) ∧ (heldS.Admits 0x0201 (ask []) ∧ heldS.power.pfw = true) ∧
    (openRun.Admits 0x0202 (ask []) ∧ openRun.inRun = true ∧ openRun.power.leaving = none) ∧ (openS.Admits 0x0202 (ask []) ∧ openS.inRun = false) ∧
    (openS.Admits 0x0203 (ask [2, 0, 0, 0]) ∧ openRun.Admits 0x0203 (ask [2, 0, 0, 0]) ∧ openS.Admits 0x0203 (ask [0, 0, 0, 0]) ∧ openS.Admits 0x0203 (ask [1, 0, 0, 0]) ∧
      openS.Admits 0x0203 (ask [3, 0, 0, 0])) ∧
    (openRun.Admits 0x0204 (at_ [7, 0, 0, 0, 0, 0, 0, 0] 0) ∧
      openRun.loses (openRun.jobOf 0x0204 (ask [])) (.groups 7 (openRun.effectTick 0)) = false ∧ openS.Admits 0x0204 (at_ [7, 0, 0, 0, 0, 0, 0, 0] 0)) ∧
    (openS.Admits 0x0302 (ask []) ∧ openS.cfg.graphCheck = none) ∧
    (({ openS with cfg := { graphCheck := some { kind := .graph, job := openS.jobOf 0x0302 (ask []), named := 0 } } }).Admits 0x0302 (ask [])) ∧
    (openS.Admits 0x0601 (ask [7, 0, 0, 0, 1, 2, 3, 4]) ∧ openS.mramBlocked = false ∧ openS.storeBusy = false) ∧
    (heldS.Admits 0x0601 (ask [7, 0, 0, 0, 1, 2, 3, 4]) ∧ heldS.mramBlocked = true) ∧
    (slotS.Admits 0x0602 (ask [3, 1, 0, 0]) ∧ slotS.frozen = false ∧ (slotS.mram.slot 3).judge.1 = 0 ∧ (slotS.mram.slot 7).judge.1 ≠ 0) ∧
    (openRun.Admits 0x0602 (ask [0, 0, 0, 0]) ∧ openRun.inIdle = false) ∧
    (openS.Admits 0x0603 (ask (leBytes 4 0 ++ [1])) ∧ heldS.Admits 0x0603 (ask (leBytes 4 0 ++ [1]))) ∧
    (openS.Admits 0x0604 (ask []) ∧ heldS.Admits 0x0604 (ask []) ∧
      ({ openS with cfg := { commit := some (openS.jobOf 0x0604 (ask [])) } }).Admits 0x0604 (ask []) ∧
      ({ openS with cfg := { commit := some (openS.jobOf 0x0604 (ask [])) } }).storeBusy = true) := by
  repeat' (first | exact admits (by decide) | decide | apply And.intro)

set_option maxRecDepth 8000 in
theorem witness_OtherRequestsAct :
    (openS.Admits 0x0501 (ask (leBytes 8 0x3F1FFFFFFF)) ∧ 0x3F1FFFFFFF ||| claimBits = claimBits ∧ openS.ctl.sessionOf (bindingOf (ask [])) = some (ses 9 100000 0) ∧
      openS.loses (openS.jobOf 0x0501 (ask [])) (.claims 0x3F1FFFFFFF) = false) ∧
    (otherS.Admits 0x0501 (ask (leBytes 8 3)) ∧
      (otherS.ctl.sessions.filter (fun y => decide (y.binding ≠ bindingOf (ask [])))).foldl (fun a y => a ||| (y.claims.toNat &&& 3)) 0 = 1) ∧
    (({ openS with ctl := { sessions := [ses 9 0 0], photo := [(200000, { port := 1 }, .claims 4)] } }).Admits 0x0501 (ask (leBytes 8 4)) ∧
      ({ openS with ctl := { sessions := [ses 9 0 0], photo := [(200000, { port := 1 }, .claims 4)] } }).loses (openS.jobOf 0x0501 (ask [])) (.claims 4) = true) ∧
    (openS.Admits 0x0502 (ask (leBytes 8 2)) ∧ openS.Admits 0x0502 (ask (leBytes 8 (2 ^ 29))) ∧ 2 ^ 29 ||| claimBits ≠ claimBits) ∧
    (openS.Admits 0x0403 (ask (leBytes 4 (2 ^ 18 - 1))) ∧ openS.Admits 0x0403 (ask (leBytes 4 (2 ^ 18)))) ∧
    (openS.Admits 0x0402 (ask [10, 0, 0, 0]) ∧ openS.Admits 0x0402 (ask [12, 0, 0, 0]) ∧ openS.Admits 0x0402 (ask [13, 0, 0, 0]) ∧ openS.Admits 0x0402 (ask [18, 0, 0, 0])) ∧
    (openS.Admits 0x0303 (ask [8, 0, 0, 0]) ∧ openS.inRun = false ∧ openS.Admits 0x0303 (ask [9, 0, 0, 0])) ∧
    (openS.Admits 0x0701 (at_ [0, 0, 0, 0, 0, 0, 0, 0] 64001) ∧ openS.forceBarred 0 0 = false ∧
      openS.loses (openS.jobOf 0x0701 (ask [])) (.act 0x0701 (openS.effectTick 64001)) = false) ∧
    (openS.Admits 0x0701 (at_ [1, 7, 0, 0, 0, 0, 0, 0] 0) ∧ openS.forceBarred 1 7 = true) ∧
    (openS.Admits 0x0702 (at_ [0, 0, 0, 0x80, 0, 0, 0, 0] 64001) ∧ openS.loses (openS.jobOf 0x0702 (ask [])) (steerThing (openS.effectTick 64001) (openS.effectTick 0)) = false ∧
      openS.tickNat < 64001 ∧ openS.Admits 0x0702 (at_ [0, 0, 0, 0x80, 0, 0, 0, 0] 64000) ∧
      openS.loses (openS.jobOf 0x0702 (ask [])) (steerThing (openS.effectTick 64000) (openS.effectTick 0)) = false) ∧
    (openS.Admits 0x0803 (at_ [63, 0, 0, 0, 0, 0, 0, 0] 0) ∧ openS.link.isPace = true ∧ openS.lMin ≤ 63 ∧
      openS.loses (openS.jobOf 0x0803 (ask [])) (.act 0x0803 (max (openS.effectTick 0) (openS.tickNat + openS.link.l + 2))) = false ∧
      (max (openS.effectTick 0) (openS.tickNat + openS.link.l + 2)) = openS.tickNat + openS.link.l + 2) ∧
    (({ openS with link := { isPace := false } }).Admits 0x0803 (at_ [2, 0, 0, 0, 0, 0, 0, 0] 0) ∧ { openS with link := { isPace := false } }.link.isPace = false) ∧
    (openS.Admits 0x0901 (ask [3, 0, 0, 0, 60]) ∧ (openS.wake.loadPiece 3 0 [60]).isSome = true) ∧
    (openS.Admits 0x0902 (at_ [1, 2, 0, 0, 0xFF, 0xFF, 0xFF, 0xFF] 0) ∧ openS.awake = true ∧
      openS.loses (openS.jobOf 0x0902 (ask [])) (.act 0x0902 (openS.effectTick 0)) = false ∧ openS.Admits 0x0902 (at_ [0, 0, 0, 0, 0, 0, 0, 0] 0)) := by
  repeat' (first | exact admits (by decide) | decide | apply And.intro)

/-- The serial number of the part is a constant of no known value: a request may name it or another. -/
theorem witness_OtherRequestsAct_serial (n : Nat) (hn : n < 2 ^ 64) :
    openS.Admits 0x0802 (ask (leBytes 8 n ++ [5, 0, 0, 0])) ∧ le (ask (leBytes 8 n ++ [5, 0, 0, 0])).payload 8 2 = 5 ∧
      le (ask (leBytes 8 n ++ [5, 0, 0, 0])).payload 0 8 = n ∧ Config.serial.toNat < 2 ^ 64 := by
  have ht : openS.Takes (ask []) := takes (by decide)
  have hr : openS.revisionOk 0x0802 (ask []) = true := by decide
  have hs : (openS.ctl.sessionOf (bindingOf (ask []))).isSome = true := by decide
  have hl : lengthOk 0x0802 (leBytes 8 n ++ [5, 0, 0, 0]) = true := by simp [lengthOk, fixedLength, leBytes]
  exact ⟨⟨ht, hr, { code := 0x0802 }, by decide, by show 1 ≤ 3; decide, .inr (.inr hs), hl, by
    unfold State.claimClash; split <;> rfl, by decide⟩, by
      simp [le, ask, leBytes, slice, leNat, show List.range 2 = [0, 1] from rfl], by
      simp [le, ask, leBytes, slice, leNat, show List.range 8 = [0, 1, 2, 3, 4, 5, 6, 7] from rfl]; omega, Config.serial.isLt⟩

/-- A swap or an ARM whose check runs, or that is armed, and a save and a commit that are due. -/
def pend (k : CheckKind) (named : Nat) : Pending := { kind := k, job := base.jobOf 0x0104 (ask []), named := named }
def chk (k : CheckKind) (named : Nat) : State := { base with cfg := { check := some (pend k named) } }
def badChk (k : CheckKind) : State := { base with cfg := { shadow := [(0x0300, 3)], check := some (pend k 0) } }
def armS (k : CheckKind) (t : Nat) : State :=
  { base with clock := { base.clock with opened := false }, cfg := { armed := some (pend k t, t) } }
def saveS : State := { base with cfg := { save := some { job := base.jobOf 0x0601 (ask []), slot := 2, label := 7, image := some (8, emptyImage) } } }
def commitS (st : Option (Tab Byte)) (m : Mode) : State := { inMode m with cfg := { stage := st, commit := some (base.jobOf 0x0604 (ask [])) } }

/-- A graph in Run with one node that queue 0's runner fires. -/
def fireS (late : Bool) (made : Nat) : State :=
  { runS with graph := { active := { nodes := [oneNode] }, runners := [(0, some { node := 0, write := false, made := made, ahead := 0, epoch := 0, heat := 0, start := 0, moved := false, late := late })] } }
/-- An ARM of port 4 whose check has passed, inside the 100 ms after a warning. -/
def autoArmS : State :=
  { base with
    cfg := { check := some { kind := .arm, job := base.jobOf 0x0201 { port := 4, rev := 3 }, named := 0 } }
    power := { mode := .idle, mramHeld := true } }
def evS : State := { base with graph := { active := { nodes := [oneNode] }, events := [{ node := 0, slot := 3, values := [5], key := 64000, phase := false, order := 0 }] } }
/-- A whole staged image of 144 bytes (R426). -/
def fwImage : List Byte :=
  [0x4B, 0x46, 0x57, 0x31] ++ leBytes 2 1 ++ leBytes 2 0x2428 ++ leBytes 4 0x01000002 ++ leBytes 4 0x10 ++ leBytes 4 16 ++ leBytes 4 144 ++ leBytes 4 0 ++ List.replicate 116 0
def fwTab : Tab Byte := putBytes [] 0 fwImage

theorem witness_GraphEventsAndFiringsComplete :
    (evS.graph.events = [{ node := 0, slot := 3, values := [5], key := 64000, phase := false, order := 0 }] ∧ 64000 ≤ evS.tickNat ∧
      evS.graph.active.nodes[0]? = some oneNode ∧ 3 < oneNode.pCount ∧ evS.swapDue = false) ∧
    ((armS .swap 64000).clock.opened = false ∧ (armS .swap 64000).cfg.armed = some (pend .swap 64000, 64000) ∧ 64000 ≤ (armS .swap 64000).tickNat) ∧
    (∀ e, e ∈ base.graph.events → base.tickNat < e.key) ∧ base.swapDue = false ∧
    ((fireS false 5).completing 0 8191 = some { node := 0, write := false, made := 5, ahead := 0, epoch := 0, heat := 0, start := 0, moved := false, late := false } ∧
      (fireS false 5).graph.dropped { node := 0, write := false, made := 5, ahead := 0, epoch := 0, heat := 0, start := 0, moved := false } = false) ∧
    ((fireS true 5).completing 0 0 = some { node := 0, write := false, made := 5, ahead := 0, epoch := 0, heat := 0, start := 0, moved := false, late := true }) ∧
    (let s := { fireS false 5 with graph := { (fireS false 5).graph with nodes := [(0, { floor := some (1, 5, 0) })] } }
     s.graph.dropped { node := 0, write := false, made := 5, ahead := 0, epoch := 0, heat := 0, start := 0, moved := false } = true) ∧
    (base.inRun = false ∧ 8192 ≤ 8192 ∧ runS.graph.runner 0 = none) ∧
    (let s := { fireS false 5 with graph := { (fireS false 5).graph with asked := (2048 * 200000, 1), cycle := 4 } }
     (0 : Nat) / 4 < s.graph.cycle / 4 ∧ (2048 * s.clock.now + 0 / 4 = s.graph.asked.1 ∧ 0 < s.graph.asked.2)) := by decide

theorem witness_TicksAndSprintSamplesPass :
    (let s := { base with clock := { base.clock with phase := 127, opened := true } }; s.clock.rootRunning = true ∧ s.clock.phase < 128 ∧ s.clock.opened = true ∧ s.audioPath = true) ∧
    (let s := { inMode .recovery with clock := { base.clock with phase := 127, opened := true } }; s.clock.phase < 128 ∧ s.audioPath = false) ∧
    (let s := { base with clock := { base.clock with phase := 128, opened := true } }; 128 ≤ s.clock.phase) ∧ (base.clock.rootRunning = true ∧ base.clock.phase < 128) ∧
    (let s := { base with clock := { base.clock with phase := 128, opened := true } }
     s.clock.rootRunning = true ∧ s.clock.phase = 128 ∧ s.clock.opened = true ∧ s.bus.spi.mailbox = [] ∧ s.bus.twi.mailbox = [] ∧ s.ctl.inbox = []) ∧
    (let s : State := { clock := { now := 5 } }; s.clock.rootRunning = false ∧ s.bus.spi.mailbox = [] ∧ s.bus.twi.mailbox = [] ∧ s.ctl.inbox = []) := by decide

theorem witness_BanksSwapAtTheirTick :
    (let s := chk .swap 64000; s.cfg.check = some (pend .swap 64000) ∧ (pend .swap 64000).kind = .swap ∧ s.checkReady = true ∧ 64000 ≤ s.tickNat ∧ s.cfg.queue = []) ∧
    (let s := armS .swap 64000; s.clock.opened = false ∧ s.cfg.armed = some (pend .swap 64000, 64000) ∧ 64000 ≤ s.tickNat ∧ (pend .swap 64000).lost = false) ∧
    (let s := armS .arm 64000; s.clock.opened = false ∧ s.cfg.armed = some (pend .arm 64000, 64000) ∧ s.inIdle = true) ∧
    (base.cfg.check = none ∧ base.swapDue = false ∧ (armS .arm 64001).swapDue = false ∧ base.cfg.graphCheck = none) ∧
    (let s := { base with cfg := { refilling := true } }; s.cfg.refilling = true ∧ s.cfg.check = none ∧ s.cfg.armed = none ∧ s.cfg.queue = []) ∧
    (let s := { base with cfg := { refilling := true, check := some (pend .swap 0) } }; s.checkReady = false) := by decide

/-! The consistency check passes on the default banks. -/
/-- Every route of the default banks is 0 (R436). -/
theorem route_row (k : Nat) (h : k < 2048) : paramRow (0x0800 + k) = some { first := 0x0800, count := 2048, cls := .banked, wide := true } := by
  have e : paramIndex = (paramIndexA ++ paramIndexB.dropLast) ++ ({ first := 0x0800, count := 2048, cls := .banked, wide := true } :: paramIndexC) := rfl
  have a : (paramIndexA ++ paramIndexB.dropLast).all (fun r => decide (r.first + r.count ≤ 0x0800)) = true := by decide
  have n : (paramIndexA ++ paramIndexB.dropLast).find? (fun r => decide (r.first ≤ 0x0800 + k ∧ 0x0800 + k < r.first + r.count)) = none := by
    rw [List.find?_eq_none]
    intro r hr
    have := List.all_eq_true.mp a r hr
    simp only [decide_eq_true_eq] at this ⊢
    omega
  rw [paramRow, e, List.find?_append, n, List.find?_cons]
  have : (decide ((2048 : Nat) ≤ 0x0800 + k ∧ 0x0800 + k < 2048 + 2048)) = true := by simp; omega
  simp only [this, Option.none_or]
theorem route_zero (k : Nat) (h : k < 2048) : base.param true (0x0800 + k) = 0 := by
  have d : paramDefault (0x0800 + k) = 0 := by simp [paramDefault, route_row k h]
  have m : mramParam (0x0800 + k) = false := by simp [mramParam]; omega
  have c : paramClass (0x0800 + k) = .banked := by simp [paramClass, route_row k h]
  rw [State.param, m, c]
  show (BitVec.ofNat 64 (paramDefault (0x0800 + k))).toNat = 0
  rw [d]; rfl
theorem link_passes (bank : Nat → Nat) (img : Tab Byte) (p : ((List.range 5).map (· + 0x1700)).find? (fun id => !paramFieldsOk id (bank id)) = none)
    (t : ∀ i, txEntry img i = 0) (r : ∀ i, rxEntry img i = 0) : checkLink bank img = none := by
  have o : eOn 0 = false := by decide
  have d : decide (eDir 0 = 3) = false := by decide
  have g : decide (field 0 13 3 ≠ 0) = false := by decide
  have n : ∀ l : List Nat, l.find? (fun _ => false) = none := fun l => by rw [List.find?_eq_none]; simp
  have a : ∀ l : List Nat, l.any (fun _ => false) = false := fun l => by simp
  unfold checkLink
  generalize List.range 512 = l
  simp only [p, t, r, o, d, g, n, a, Bool.or_self, Bool.false_and, Bool.and_false]
theorem routes_pass (bank : Nat → Nat) (z : ∀ k, k < 2048 → bank (0x0800 + k) = 0) (m : mixParams.find? (fun id => !paramFieldsOk id (bank id)) = none) :
    checkRoutes bank = none := by
  have en : (List.range 2048).filter (fun k => rEnabled (bank (0x0800 + k))) = [] := by
    rw [List.filter_eq_nil_iff]; intro k hk; rw [z k (List.mem_range.mp hk)]; decide
  have f : (List.range 2048).find? (fun k => !routeFieldsOk (bank (0x0800 + k))) = none := by
    rw [List.find?_eq_none]; intro k hk; rw [z k (List.mem_range.mp hk)]; decide
  have ar : busArcs bank = [] := by rw [busArcs, en]; rfl
  have pe : peel [] 64 [] (List.range 64) = List.range 64 := by decide +kernel
  have pl : (List.range 64).filter (fun b => !(List.range 64).contains b) = [] := by decide +kernel
  have dp : (List.range 64).find? (fun b => decide (8 < tabGet (fun _ => 0) (busDepths [] (List.range 64)) b)) = none := by decide +kernel
  have n : ∀ l : List Nat, l.find? (fun _ => false) = none := fun l => by rw [List.find?_eq_none]; simp
  unfold checkRoutes
  generalize List.range 2048 = l at *
  simp only [en, f, ar, pe, pl, m]
  simp [dp, n]
theorem link_ok : checkLink (base.param true) [] = none :=
  link_passes _ _ (by decide +kernel) (fun i => by simp [txEntry, slotEntry, tabGet]) (fun i => by simp [rxEntry, slotEntry, tabGet])
theorem routes_ok : checkRoutes (base.param true) = none := routes_pass _ route_zero (by decide +kernel)
theorem store_ok : checkStore (base.param true) true = none := by decide +kernel
theorem clocks_ok : checkClocks (base.param true) (base.meas 8).value = none := by decide +kernel
theorem refs_ok (arm : Bool) : checkRefs (base.param true) arm (decide (base.dpll.state = .tracking) && base.synth.lock) = none := by revert arm; decide +kernel
theorem outputs_ok : checkOutputs (base.param true) [] false (decide ((base.meas 10).value < 7500)) = none := by decide +kernel
theorem ports_ok : checkPorts (base.param true) = none := by decide +kernel
theorem sprint_ok : checkSprint (fun n => base.param true (0x0700 + n)) [] = none := by decide +kernel
theorem graph_ok : base.graph.checkShadow.code = 0 := by decide +kernel
theorem steps_pass (s : State) (arm spk : Bool) (h1 : checkStore (s.param true) s.graph.shadow.isSome = none) (h2 : checkClocks (s.param true) (s.meas 8).value = none)
    (h3 : checkRefs (s.param true) arm (decide (s.dpll.state = .tracking) && s.synth.lock) = none) (h4 : checkRoutes (s.param true) = none)
    (h5 : checkOutputs (s.param true) s.cfg.cellsShadow spk (decide ((s.meas 10).value < 7500)) = none) (h6 : checkPorts (s.param true) = none)
    (h7 : checkLink (s.param true) s.cfg.linkShadow = none) (h8 : checkSprint (fun n => s.param true (0x0700 + n)) s.cfg.cellsShadow = none)
    (h9 : s.graph.checkShadow.code = 0) : (s.checkAll arm spk).code = 0 := by
  have h : s.checkSteps arm spk = none := by
    unfold State.checkSteps
    simp [h1, h2, h3, h4, h5, h6, h7, h8]
  unfold State.checkAll
  rw [h]
  exact h9
/-- The same, for a state that has the banks and the readings of `base`. -/
theorem all_ok (s : State) (arm : Bool) (hp : s.param true = base.param true) (hg : s.graph = base.graph) (hc : s.conv = base.conv) (hd : s.dpll = base.dpll)
    (hs : s.synth = base.synth) (hk : s.cfg.cellsShadow = []) (hl : s.cfg.linkShadow = []) : (s.checkAll arm false).code = 0 := by
  have m : ∀ k, s.meas k = base.meas k := fun k => by unfold State.meas; rw [hc]
  have c : base.graph.shadow.isSome = true := by decide +kernel
  apply steps_pass
  · rw [hp, hg, c]; exact store_ok
  · rw [hp, m]; exact clocks_ok
  · rw [hp, hd, hs]; exact refs_ok arm
  · rw [hp]; exact routes_ok
  · rw [hp, hk, m]; exact outputs_ok
  · rw [hp]; exact ports_ok
  · rw [hp, hl]; exact link_ok
  · rw [hp, hk]; exact sprint_ok
  · rw [hg]; exact graph_ok
theorem param_same (s : State) (h : s.cfg.shadow = []) (d : s.cfg.direct = []) (m : s.mram = {}) : s.param true = base.param true := by
  funext id
  unfold State.param State.shd State.dir State.dev
  rw [h, d, m]
  rfl
theorem chk_ok (k : CheckKind) (n : Nat) (arm : Bool) : ((chk k n).checkAll arm false).code = 0 :=
  all_ok _ arm (param_same _ rfl rfl rfl) rfl rfl rfl rfl rfl rfl

theorem witness_BanksSwapAtTheirTick_verdicts :
    (((chk .swap 64001).tickNat < 64001) ∧ ((chk .swap 64001).checkAll false (chk .swap 64001).enablesSpk).code = 0) ∧
    ((pend .swap 0).named = 0 ∧ (badChk .swap).cfg.queue = [] ∧ (badChk .swap).checkReady = true) ∧
    ((chk .arm 0).checkReady = true ∧ ((chk .arm 0).checkAll true (chk .arm 0).shadowSpk).code = 0 ∧ (chk .arm 0).power.pfw = false) ∧
    (autoArmS.checkReady = true ∧ autoArmS.power.pfw = false ∧ autoArmS.power.mramHeld = true ∧ autoArmS.cfg.queue = [] ∧
      (autoArmS.checkAll true autoArmS.shadowSpk).code = 0) := by
  have e : (chk .swap 64001).enablesSpk = false := by decide +kernel
  have d : (chk .arm 0).shadowSpk = false := by decide +kernel
  have a : autoArmS.shadowSpk = false := by decide +kernel
  rw [e, d, a]
  exact ⟨⟨by decide, chk_ok _ _ _⟩, by decide, ⟨by decide, chk_ok _ _ _, rfl⟩, by decide, rfl, rfl, rfl,
    all_ok _ true (param_same _ rfl rfl rfl) rfl rfl rfl rfl rfl rfl⟩
theorem witness_BanksSwapAtTheirTick_refusals :
    ((badChk .swap).checkAll false (badChk .swap).enablesSpk).code ≠ 0 ∧ ((badChk .arm).checkAll true (badChk .arm).shadowSpk).code ≠ 0 := by decide +kernel

set_option maxRecDepth 100000 in
theorem witness_SavesAndCommitsComplete :
    (saveS.mramBlocked = false ∧ saveS.ctl.running = true ∧ saveS.cfg.save.any (fun x => x.image = some (8, emptyImage)) = true) ∧
    (base.cfg.save = none ∧ base.cfg.commit = none) ∧
    (let s := commitS none .idle; s.cfg.commit = some (base.jobOf 0x0604 (ask [])) ∧ s.ctl.running = true ∧ s.firmware = true ∧ s.cfg.stage = none) ∧
    (let s := commitS (some fwTab) .idle; s.cfg.stage = some fwTab ∧ s.firmware = true ∧ s.power.mode ≠ .recovery) ∧
    (let s := commitS (some fwTab) .recovery; s.cfg.stage.isSome = true ∧ s.firmware = true ∧ s.power.mode = .recovery) := by decide

/-- The verdict of a whole image is 0 when its signature verifies; whether it does is a free value. -/
theorem fwTab_holds : stageHeader fwTab = true ∧ stageLen fwTab = 144 ∧ written fwTab 144 = true ∧ tabGetRun (fun _ => 0#8) fwTab 0 144 = fwImage := by decide +kernel
theorem fwTab_fields : tabGetRun (fun _ => 0#8) fwTab 0 4 = [75#8, 70#8, 87#8, 49#8] ∧ stageField fwTab 4 2 = 1 ∧ stageField fwTab 8 4 = 0x01000002 ∧
    stageField fwTab 0x0D 3 = 0 ∧ stageField fwTab 0x1C 36 = 0 ∧ stageField fwTab 0x10 4 = 16 ∧ stageField fwTab 0x18 4 = 0 ∧ stageField fwTab 6 2 = 0x2428 ∧
    stageField fwTab 0x0C 1 = 0x10 := by decide +kernel
theorem witness_SavesAndCommitsComplete_verdict (m : Mode)
    (h : Config.signatureOk (sha256 (fwImage.take 80)) (fwImage.drop 80) = true) : (commitS (some fwTab) m).stageVerdict = 0 := by
  obtain ⟨a1, a2, a3, a4⟩ := fwTab_holds
  obtain ⟨b1, b2, b3, b4, b5, b6, b7, b8, b9⟩ := fwTab_fields
  have r : (inMode m).mram.rollbackMin.toNat = 0 := rfl
  have f : fwSigned fwTab = true := by
    have z : tabGetRun (fun _ => (0 : Byte)) fwTab 0 144 = fwImage := a4
    unfold fwSigned
    simp only [a2, z]
    exact h
  simp [State.stageVerdict, commitS, r, a1, a2, a3, b1, b2, b3, b4, b5, b6, b7, b8, b9, f, fwMax]


/-! Single commands on small states. -/
/-- The state after one step that runs the command. -/
def after (i : Instr) (s : State) : State := match step { s with pending := [i] } with | .next t => t | _ => s
/-- R27, R29: TICK counts at a boundary, 128 sprint samples after the last, and a reset sets it to 0 in BOOT. -/
theorem test_tick : ((after .tickBoundary { base with clock := { base.clock with phase := 128 } }).clock.tick,
    (after .tickBoundary { base with clock := { base.clock with phase := 128 } }).clock.now) = (64001, 200001) := by decide +kernel
theorem test_reset : ((after .resetNLow base).clock.tick, (after .resetNLow base).power.mode, (after .resetNLow base).power.lastReset) = (0, .boot, 2) := by decide +kernel
/-- R411: a BANKED write goes to the shadow bank alone; a LIVE one acts at once; R437: a value outside its range is refused and writes nothing. -/
theorem test_bankedWrite : ((after (.paramWrite (wr 0x0500 0x0A02)) openS).shd 0x0500, (after (.paramWrite (wr 0x0500 0x0A02)) openS).act 0x0500) = (0x0A02, 0x0A01) := by
  decide +kernel
theorem test_liveWrite : (after (.paramWrite (wr 0x1901 3)) openS).dir 0x1901 = 3 := by decide +kernel
theorem test_refusedWrite : (after (.paramWrite (wr 0x0300 3)) openS).cfg = openS.cfg := by decide +kernel
/-- R404: CLAIM gives the session the blocks of its mask, RELEASE takes them back. -/
theorem test_claim : (after (.claim (ask (leBytes 8 6))) openS).ctl.sessions.map (fun x => x.claims) = [6] := by decide +kernel
theorem test_release : (after (.release (ask (leBytes 8 2))) { openS with ctl := { sessions := [ses 9 100000 6] } }).ctl.sessions.map (fun x => x.claims) = [4] := by
  decide +kernel
/-- R417: ARM in Run is refused, R212: DISARM begins the mute. -/
theorem test_disarm : (after (.disarm (ask [])) openRun).power.leaving.isSome = true := by decide +kernel
/-- R44: the raised cosine at its middle is 1/2, at its last sample 0; R102: 0.506 into a fade's second half. R175: −3.01 dB at the
middle of the equal-power law. R42: 6.5 dB is the factor 2.11349. -/
theorem test_raisedCosine : (fallAt 127 256, fallAt 255 256) = (2147483648, 0) := by decide +kernel
theorem test_fade506 : cosQuarter 129 256 ^ 2 / fine * 1000 / fine = 493 := by decide +kernel
theorem test_equalPower : cosQuarter 50 100 * 100000 / fine = 70710 := by decide +kernel
theorem test_decibels : twoTo (650 * logTen / 2000) * 100000 / fine = 211348 := by decide +kernel
/-- R311: BW codes 18 to 20 are 1, 2 and 4 kHz. -/
theorem test_bandwidth : [18, 19, 20, 0, 17].map bandwidth = [1000000, 2000000, 4000000, 1, 500000] := by decide +kernel

/-- Two sessions, of two buses, with different claims. -/
def twoS : State :=
  { base with
    ctl := { sessions := [{ ses 9 0 2 with binding := { port := 0 } }, { ses 8 0 1 with binding := { port := 1 } }] }
    pending := [.tickBoundary, .resetNLow] }

theorem witness_StepRunsTheFrontCommand : twoS.pending = [Instr.tickBoundary, .resetNLow] ∧ base.pending = [] := by decide
theorem witness_SessionsStayExclusive :
    twoS.ctl.sessions.Pairwise (fun x y => x.binding ≠ y.binding ∧ x.claims &&& y.claims = 0) ∧ twoS.ctl.challenges = [] ∧ ∃ t, step twoS = .next t := by
  refine ⟨by decide, by decide, ?_⟩
  exact ⟨_, rfl⟩

theorem witness_TickFollowsItsRule :
    ((0 : Fin 8) = 0 ∧ (5 : Fin 8).val ≤ 5 ∧ base.power.inReset = false ∧ base.asleep = false) ∧
    (let s := { base with synth := { analogLock := true, xoFreq := 24576000 } }; s.synth.analogLock = true ∧ s.synth.lock = false ∧ s.lockCount ≤ (List.replicate s.lockCount (0 : Int)).length ∧
      ∀ e, e ∈ (List.replicate s.lockCount (0 : Int)).drop 0 → e.natAbs ≤ s.lockWin) ∧
    ({ base with synth := { analogLock := true, xoFreq := 24576000 } } : State).lockCounted = true ∧ (base.clock.rootRunning = true ∧ base.clock.phase < 128) ∧
    ({ base with clock := { base.clock with phase := 128 } } : State).clock.phase = 128 ∧
    (base.asleep = false ∧ base.clock.counting = true ∧ base.clock.rootRunning = true) ∧
    (let s := { base with power := { mode := .idle, entering := some (.watch, 0), entryStep := 2, rampedAt := 199750 } }
     s.power.entering = some (.watch, 0) ∧ s.power.entryStep = 2 ∧ s.power.rampedAt + 250 ≤ s.clock.now) ∧
    (let s := joinS true 8
     (s.link.port 1).state ≠ 4 ∧ (s.link.port 0).state = 4 ∧ (s.link.port 0).joins = true ∧ (s.link.port 0).partner = some (hop true 2) ∧
       s.link.aligned = true ∧ s.link.identity ≠ (hop true 2).identity ∧ s.segIdle = true) := by decide

theorem witness_ParamWritesAreJudgedByWidthAndRange :
    (openS.Takes (ask [0, 3, 0, 0, 0]) ∧ openS.revisionOk 0x0102 (ask [0, 3, 0, 0, 0]) = true ∧ 1 ≤ (ask []).rev.val ∧
      (openS.ctl.sessionOf (bindingOf (ask []))).isSome = true ∧ paramDefined 0x0300 = true ∧ (5 : Nat) ≠ 4 + paramWidth 0x0300) ∧
    (paramDefined 0xFFFF = false ∧ (openS.Takes (ask [0xFF, 0xFF, 0])) ∧ (3 : Nat) ≠ 8) ∧
    (openS.Admits 0x0102 (ask ([0xFF, 0xFF, 0, 0] ++ leBytes 4 1)) ∧ openS.Admits 0x0102 (wr 0x0310 1) ∧ le (wr 0x0310 1).payload 0 2 = 0x0300 + 16 ∧
      openS.Admits 0x0102 (wr 0x0300 3) ∧ le (wr 0x0300 3).payload 0 2 = 0x0300 + 0 ∧ leNat ((wr 0x0300 3).payload.drop 4) = 3) := by
  repeat' (first | exact admits (by decide) | exact takes (by decide) | decide | apply And.intro)

end Sys2Proof.Tests
end

section
/-! O59, R29: what each command does to TICK, to its counting and to the root. Commands are of four kinds: those that keep all three, those that
may wake or boot the device, those that reset it, and four that set the clock. -/
namespace Sys2Proof.Machine

/-! What R29 speaks of. -/

/-- TICK, whether it counts, and whether the root runs. -/
def Clock.count (c : Clock) : TickWord × Bool × Bool := (c.tick, c.counting, c.rootRunning)

theorem Clock.count_eq_iff {c d : Clock} : c.count = d.count ↔ c.tick = d.tick ∧ c.counting = d.counting ∧ c.rootRunning = d.rootRunning := by
  simp [Clock.count]

/-! The boundary and the sprint sample (R16, R86). -/

@[simp] theorem State.openTick_count (s : State) : s.openTick.clock.count = s.clock.count := by
  simp [State.openTick, Clock.count]

@[simp] theorem State.openIfReady_count (s : State) : s.openIfReady.clock.count = s.clock.count := by
  unfold State.openIfReady
  split
  · rfl
  · exact s.openTick_count

@[simp] theorem State.settle_count (s : State) : s.settle.clock.count = s.clock.count := by
  unfold State.settle
  split
  · rfl
  · simp

@[simp] theorem State.sprintStep_count (s : State) (levels : List (List Int)) (pdm : List Bool) :
    (s.sprintStep levels pdm).clock.count = s.clock.count := by
  simp [State.sprintStep, Clock.count]

/-- R29: where it counts and the root runs, TICK goes on by one as a tick passes. -/
theorem State.advance_count (s : State) :
    s.advance.clock.count =
      { s.clock with tick := if s.clock.counting = true ∧ s.clock.rootRunning = true then s.clock.tick + 1 else s.clock.tick }.count := by
  simp [State.advance, Clock.count]

theorem State.advance_count_congr {s t : State} (h : s.clock.count = t.clock.count) : s.advance.clock.count = t.advance.clock.count := by
  obtain ⟨htick, hcounting, hroot⟩ := Clock.count_eq_iff.mp h
  rw [State.advance_count, State.advance_count]
  simp [Clock.count, htick, hcounting, hroot]

theorem execSprintSample_count {levels : List (List Int)} {pdm : List Bool} {s t : State} (h : execSprintSample levels pdm s = .next t) :
    t.clock.count = s.clock.count := by
  simp only [execSprintSample, Host.Outcome.next.injEq] at h
  subst h
  split
  · split
    · simp
    · exact s.settle_count
  · rfl

/-- Before its time a boundary does nothing; at its time a tick passes. -/
theorem execTickBoundary_cases {s t : State} (h : execTickBoundary s = .next t) :
    (t = s ∧ s.clock.rootRunning = true ∧ s.clock.phase ≠ 128) ∨ t.clock.count = s.advance.clock.count := by
  simp only [execTickBoundary, Host.Outcome.next.injEq] at h
  subst h
  split
  · exact .inr (State.advance_count_congr (by simp))
  · next hroot =>
    split
    · refine .inr ((State.openIfReady_count _).trans (State.advance_count_congr ?_))
      rw [State.ite_clock, (State.release_keeps _).1, ite_self, (State.serveAll_keeps _).1, State.settle_count]
    · next hphase => exact .inl ⟨rfl, by simpa using hroot, fun h128 => hphase (by simp [State.rootCounter, h128])⟩

theorem execTickBoundary_early {s : State} (hroot : s.clock.rootRunning = true) (hphase : s.clock.phase < 128) : execTickBoundary s = .next s := by
  have hnot : ¬ (s.rootCounter = 0 ∧ 0 < s.clock.phase) := by
    unfold State.rootCounter
    omega
  simp only [execTickBoundary, hroot, hnot, Bool.not_true, Bool.false_eq_true, if_false]

/-! What may wake or boot the device (R330, R336, R337). -/

/-- What a wake or a boot may do: TICK stands, and a device that is not asleep keeps its whole clock and stays so. -/
structure State.WakesTo (s t : State) : Prop where
  tick : t.clock.tick = s.clock.tick
  clock : s.asleep = false → t.clock = s.clock
  awake : s.asleep = false → t.asleep = false

theorem State.asleep_congr {s t : State} (h : t.power.mode = s.power.mode) : t.asleep = s.asleep := by
  simp only [State.asleep, h]

/-- What keeps the clock and the mode does no more. -/
theorem State.WakesTo.of_keeps {s t : State} (hclock : t.clock = s.clock) (hmode : t.power.mode = s.power.mode) : s.WakesTo t :=
  ⟨by rw [hclock], fun _ => hclock, fun h => by rw [State.asleep_congr hmode, h]⟩

theorem State.WakesTo.trans {s t u : State} (h : s.WakesTo t) (k : t.WakesTo u) : s.WakesTo u :=
  ⟨k.tick.trans h.tick, fun ha => (k.clock (h.awake ha)).trans (h.clock ha), fun ha => k.awake (h.awake ha)⟩

/-- R337: the exit from Rest boots with TICK as it stood. -/
theorem State.restBoot_tick (s : State) : s.restBoot.clock.tick = s.clock.tick := by
  simp [State.restBoot]

theorem State.restBoot_wakes {s : State} (h : s.asleep = true) : s.WakesTo s.restBoot :=
  ⟨s.restBoot_tick, fun ha => absurd (h.symm.trans ha) Bool.noConfusion, fun ha => absurd (h.symm.trans ha) Bool.noConfusion⟩

theorem State.bootBegin_wakes (s : State) : s.WakesTo s.bootBegin :=
  ⟨by simp, fun _ => by simp, fun _ => rfl⟩

theorem State.tryBoot_wakes (s : State) : s.WakesTo s.tryBoot := by
  have hself : s.WakesTo s := .of_keeps rfl rfl
  unfold State.tryBoot
  split
  · exact hself
  split
  · split
    · exact hself
    · exact s.bootBegin_wakes
  split
  · split
    · next hrest => exact State.restBoot_wakes (by simp [State.asleep, hrest])
    · exact hself
  · split
    · next hwatch => exact State.restBoot_wakes (by simp [State.asleep, hwatch.1])
    · exact hself
  · exact hself

/-- What ends in an attempt to boot, and keeps the clock and the mode before it. -/
theorem State.tryBoot_wakes_of_keeps {s t : State} (hclock : t.clock = s.clock) (hmode : t.power.mode = s.power.mode) : s.WakesTo t.tryBoot :=
  (State.WakesTo.of_keeps hclock hmode).trans t.tryBoot_wakes

theorem State.wakeUp_wakes (s : State) (c : WakeCause) : s.WakesTo (s.wakeUp c) := by
  have hself : s.WakesTo s := .of_keeps rfl rfl
  unfold State.wakeUp
  split
  · split
    · exact hself
    · exact State.tryBoot_wakes_of_keeps rfl rfl
  · split
    · exact hself
    · exact State.tryBoot_wakes_of_keeps (by simp) (by simp)
  · split
    · exact hself
    · exact .of_keeps (by simp) (by simp)
  · exact hself

theorem State.wakeEvent_wakes (s : State) (start end_ : BitVec 32) (template distance : Nat) : s.WakesTo (s.wakeEvent start end_ template distance) := by
  simp only [State.wakeEvent]
  split
  · exact .trans (.of_keeps (by simp) (by simp)) (State.wakeUp_wakes _ _)
  · exact .of_keeps (by simp) (by simp)

theorem State.stage1_wakes (s : State) : s.WakesTo s.stage1 := by
  have hself : s.WakesTo s := .of_keeps rfl rfl
  unfold State.stage1
  extract_lets w past e f p avail start fresh
  split
  · exact hself
  split
  · exact .of_keeps rfl rfl
  · extract_lets loud count floor quiet ep onset w1 s1
    have hnext : s.WakesTo s1 := .of_keeps rfl rfl
    clear_value s1 start onset
    split
    · exact hnext.trans (s1.wakeEvent_wakes _ _ _ _)
    · exact hnext

theorem State.foldl_wakes {β : Type} (f : State → β → State) (h : ∀ (s : State) x, s.WakesTo (f s x)) (l : List β) (s : State) : s.WakesTo (l.foldl f s) := by
  induction l generalizing s with
  | nil => exact .of_keeps rfl rfl
  | cons x l ih => exact (h s x).trans (ih (f s x))

theorem execWakeFrameEnd_wakes {bits : List (Bool × Bool)} {s t : State} (h : execWakeFrameEnd bits s = .next t) : s.WakesTo t := by
  simp only [execWakeFrameEnd, Host.Outcome.next.injEq] at h
  subst h
  refine State.WakesTo.trans ?_ (State.stage1_wakes _)
  split
  · exact State.foldl_wakes _ (fun _ _ => .trans (.of_keeps (by rfl) (by rfl)) (State.stage1_wakes _)) bits s
  · exact .of_keeps rfl rfl

theorem execStage2Match_wakes {s t : State} (h : execStage2Match s = .next t) : s.WakesTo t := by
  simp only [execStage2Match, Host.Outcome.next.injEq] at h
  subst h
  split
  · split
    · exact .trans (.of_keeps (by rfl) (by rfl)) (State.wakeEvent_wakes _ _ _ _ _)
    · exact .of_keeps rfl rfl
  · exact .of_keeps rfl rfl

theorem execSupplyPorRelease_wakes {i : Fin 8} {straps : Straps} {s t : State} (h : execSupplyPorRelease i straps s = .next t) : s.WakesTo t := by
  simp only [execSupplyPorRelease, Host.Outcome.next.injEq] at h
  subst h
  split
  · exact State.tryBoot_wakes_of_keeps (by simp) (by simp)
  · exact State.tryBoot_wakes_of_keeps (by simp) (by simp)

theorem execResetNRise_wakes {straps : Straps} {s t : State} (h : execResetNRise straps s = .next t) : s.WakesTo t := by
  simp only [execResetNRise, Host.Outcome.next.injEq] at h
  subst h
  exact State.tryBoot_wakes_of_keeps rfl rfl

theorem execJackWake_wakes {pin : Fin 4} {level : Bool} {s t : State} (h : execJackWake pin level s = .next t) : s.WakesTo t := by
  simp only [execJackWake, Host.Outcome.next.injEq] at h
  subst h
  split
  · exact .of_keeps rfl rfl
  split
  · exact .trans (.of_keeps (by simp) (by simp)) (State.wakeUp_wakes _ _)
  · exact .of_keeps (by simp) (by simp)

/-- A wake under a condition, as WAKE_N, REST_TIMER and BUS_WAKE have it. -/
theorem State.wakeUpIf_wakes (s : State) (c : Bool) (cause : WakeCause) : s.WakesTo (if c then s.wakeUp cause else s) := by
  split
  · exact s.wakeUp_wakes cause
  · exact .of_keeps rfl rfl

/-- The commands that may wake or boot the device. -/
def bringsWake : Instr → Bool
  | .wakeN | .restTimer | .busWake | .jackWake _ _ | .wakeFrameEnd _ | .stage2Match | .supplyPorRelease _ _ | .resetNRise _ => true
  | _ => false

theorem exec_wakes {i : Instr} {s t : State} (hi : bringsWake i = true) (h : exec i s = .next t) : s.WakesTo t := by
  cases i with
  | wakeN => cases h; exact s.wakeUpIf_wakes _ _
  | restTimer => cases h; exact s.wakeUpIf_wakes _ _
  | busWake => cases h; exact s.wakeUpIf_wakes _ _
  | jackWake pin level => exact execJackWake_wakes h
  | wakeFrameEnd bits => exact execWakeFrameEnd_wakes h
  | stage2Match => exact execStage2Match_wakes h
  | supplyPorRelease supply straps => exact execSupplyPorRelease_wakes h
  | resetNRise straps => exact execResetNRise_wakes h
  | _ => cases hi

/-! What resets the device (R29, R322-R324, R463). -/

@[simp] theorem State.deviceReset_clock (s : State) (cause supply : Nat) (aonLost : Bool) :
    (s.deviceReset cause supply aonLost).clock = { now := s.clock.now } := rfl

/-- R322: VAON always, another required supply outside reset, Rest and Watch: the clock is that of a reset, with TICK 0, not counting, the root stopped. -/
theorem execSupplyPorAssert_resets {s : State} {i : Fin 8} (hi : i = 0 ∨ (i.val ≤ 5 ∧ s.power.inReset = false ∧ s.asleep = false)) :
    ∃ t, execSupplyPorAssert i s = .next t ∧ t.clock = { now := s.clock.now } := by
  refine ⟨_, rfl, ?_⟩
  by_cases h0 : i.val = 0
  · simp [h0]
  · obtain rfl | ⟨h5, hreset, hawake⟩ := hi
    · exact absurd rfl h0
    · have h6 : i.val ≠ 6 := by omega
      have h7 : i.val ≠ 7 := by omega
      -- By these two, which simp finds in the context, the match on the mode takes its last branch.
      have hrest : s.power.mode ≠ .rest := fun h => by simp [State.asleep, h] at hawake
      have hwatch : s.power.mode ≠ .watch := fun h => by simp [State.asleep, h] at hawake
      simp [h0, h6, h7, hreset]

/-- A supply that fails resets the device or keeps its clock. -/
theorem execSupplyPorAssert_tick {i : Fin 8} {s t : State} (h : execSupplyPorAssert i s = .next t) : t.clock.tick = s.clock.tick ∨ t.clock.tick = 0 := by
  simp only [execSupplyPorAssert, Host.Outcome.next.injEq] at h
  subst h
  repeat' split
  all_goals simp

theorem State.jtagSet_tick (s : State) (i : Jtag) : (s.jtagSet i).clock.tick = s.clock.tick ∨ (s.jtagSet i).clock.tick = 0 := by
  unfold State.jtagSet
  extract_lets s1
  split
  · exact .inr (State.tryBoot_wakes _).tick
  · split <;> exact .inl rfl

theorem exec_reset_tick {i : Instr} {s t : State} (hi : resetsDevice i = true) (h : exec i s = .next t) : t.clock.tick = s.clock.tick ∨ t.clock.tick = 0 := by
  cases i with
  | supplyPorAssert supply => exact execSupplyPorAssert_tick h
  | resetNLow => cases h; exact .inr rfl
  | jtagInstruction code => cases h; exact s.jtagSet_tick _
  | tapReset => cases h; exact s.jtagSet_tick _
  | _ => cases hi

/-! What sets the clock: the boundary, the declaration of LOCK, the stop of the root, and a join. -/

/-- The commands other than resets that set TICK, its counting or the root. -/
def setsClock : Instr → Bool
  | .tickBoundary | .lockDeclare _ | .rootStop | .linkJoinAlign _ => true
  | _ => false

/-- R29: LOCK declared, TICK counts and the root runs; else the clock stands. -/
theorem execLockDeclare_clock {errs : List Int} {s t : State} (h : execLockDeclare errs s = .next t) :
    t.clock = { s.clock with counting := true, rootRunning := true } ∨ t.clock = s.clock := by
  simp only [execLockDeclare, Host.Outcome.next.injEq] at h
  subst h
  split
  · exact .inl rfl
  · exact .inr (State.compared_keeps _ _).1

theorem execLockDeclare_declares {errs : List Int} {s : State} (hanalog : s.synth.analogLock = true) (hlock : s.synth.lock = false)
    (hlength : s.lockCount ≤ errs.length) (hwindow : ∀ e, e ∈ errs.drop (errs.length - s.lockCount) → e.natAbs ≤ s.lockWin) (hcounted : s.lockCounted = true) :
    ∃ t, execLockDeclare errs s = .next t ∧ t.synth.lock = true ∧ t.clock = { s.clock with counting := true, rootRunning := true } := by
  have hlast : (errs.reverse.take s.lockCount).all (fun e => decide (e.natAbs ≤ s.lockWin)) = true := by
    simpa [List.take_reverse] using hwindow
  refine ⟨_, rfl, ?_⟩
  simp [hanalog, hlock, hcounted, hlast, hlength]

theorem execRootStop_tick {s t : State} (h : execRootStop s = .next t) : t.clock.tick = s.clock.tick := by
  simp only [execRootStop, Host.Outcome.next.injEq] at h
  subst h
  repeat' split
  all_goals simp

/-- R333: the root stops at its time, and the device is in Rest or Watch. -/
theorem execRootStop_stops {s : State} {target : Mode} {b : Nat} (hentering : s.power.entering = some (target, b)) (hstep : s.power.entryStep = 2)
    (htime : s.power.rampedAt + 250 ≤ s.clock.now) :
    ∃ t, execRootStop s = .next t ∧ t.power.mode = target ∧ t.clock.count = { s.clock with rootRunning := false }.count := by
  refine ⟨_, rfl, ?_⟩
  simp [hentering, hstep, htime, Clock.count]

theorem State.takeSystem_runs (s : State) (pace : Nat) (identity : BitVec 64) (tick : BitVec 48) (l k : Nat) :
    (s.takeSystem pace identity tick l k).clock.counting = s.clock.counting ∧ (s.takeSystem pace identity tick l k).clock.rootRunning = s.clock.rootRunning := by
  simp only [State.takeSystem]
  split <;> exact ⟨rfl, rfl⟩

/-- A join sets nothing but TICK. -/
theorem execLinkJoinAlign_runs {join : JoinInfo} {s t : State} (h : execLinkJoinAlign join s = .next t) :
    t.clock.counting = s.clock.counting ∧ t.clock.rootRunning = s.clock.rootRunning := by
  simp only [execLinkJoinAlign, Host.Outcome.next.injEq] at h
  subst h
  repeat' split
  all_goals simp [State.takeSystem_runs]

/-- R267: a joiner of another system loads the TICK that the join brings. -/
theorem execLinkJoinAlign_loads {s : State} {join : JoinInfo} {i : HopInfo} (h0 : (s.link.port 0).state = 4) (h1 : (s.link.port 1).state ≠ 4)
    (hjoins : (s.link.port 0).joins = true) (hpartner : (s.link.port 0).partner = some i) (haligned : s.link.aligned = true)
    (hother : s.link.identity ≠ i.identity) (hidle : s.segIdle = true) :
    ∃ t, execLinkJoinAlign join s = .next t ∧ t.clock.tick = join.tick := by
  refine ⟨_, rfl, ?_⟩
  simp [h0, h1, hjoins, hpartner, haligned, hidle, State.takeSystem, hother]

/-! Every other command. -/

/-- A packet opcode keeps the clock, whatever waits before it (R388). -/
theorem exec_request_clock {i : Instr} {op : Nat} {q : Req} {s t : State} (hi : requestOf i = some (op, q)) (h : exec i s = .next t) :
    t.clock = s.clock := by
  rw [exec_dispatch i op q s hi] at h
  cases h
  exact (s.request_keeps op State.dispatch q State.dispatch_keeps).1

/-- The acts of a boundary and the sprint sample, which may open the tick. -/
def opensTick : Instr → Bool
  | .bankSwapAct | .armTick | .gunFire | .portExchange _ | .handoverStart | .errorInject | .sprintSample _ _ => true
  | _ => false

/-- An act that ends with the opening of the tick keeps what R29 speaks of. -/
theorem State.actThenOpen_count {s u : State} (c : Bool) (h : u.clock = s.clock) : (if c then s else u.openIfReady).clock.count = s.clock.count := by
  split
  · rfl
  · rw [State.openIfReady_count, h]

theorem exec_opensTick_count {i : Instr} {s t : State} (hi : opensTick i = true) (h : exec i s = .next t) : t.clock.count = s.clock.count := by
  cases i with
  | bankSwapAct => cases h; exact State.actThenOpen_count _ (by simp)
  | armTick => cases h; exact State.actThenOpen_count _ (by simp)
  | gunFire => cases h; exact State.actThenOpen_count _ (by simp)
  | portExchange p => cases h; exact State.actThenOpen_count _ (by simp)
  | handoverStart => cases h; exact State.actThenOpen_count _ (by simp)
  | errorInject => cases h; exact State.actThenOpen_count _ (by simp)
  | sprintSample levels pdm => exact execSprintSample_count h
  | _ => cases hi

/-- The commands of none of the kinds above, no packet opcode among them. -/
def keepsClock (i : Instr) : Bool :=
  !setsClock i && !resetsDevice i && !bringsWake i && !opensTick i && (requestOf i).isNone

theorem exec_keeps_clock {i : Instr} {s t : State} (hi : keepsClock i = true) (h : exec i s = .next t) : t.clock = s.clock := by
  cases i with
  | paramEventApply => exact (execParamEventApply_keeps s t h).1
  | nodeFiringComplete runner cycle => exact (execNodeFiringComplete_keeps runner cycle s t h).1
  | sprintCrossfadeEnd cell => exact (execSprintCrossfadeEnd_keeps cell s t h).1
  | converterBridgeParityError ch core => exact (execConverterBridgeParityError_keeps ch core s t h).1
  | powerBridgeParityError spk => exact (execPowerBridgeParityError_keeps spk s t h).1
  | modulatorOverload ch limit => exact (execModulatorOverload_keeps ch limit s t h).1
  | modulatorResetEnd ch => exact (execModulatorResetEnd_keeps ch s t h).1
  | unsettledEnd ch => exact (execUnsettledEnd_keeps ch s t h).1
  | quickSettleConversionEnd ch => exact (execQuickSettleConversionEnd_keeps ch s t h).1
  | measConversionEnd ms value => exact (execMeasConversionEnd_keeps ms value s t h).1
  | inputGainZeroCrossing ch => exact (execInputGainZeroCrossing_keeps ch s t h).1
  | inputGainZcTimeout ch => exact (execInputGainZcTimeout_keeps ch s t h).1
  | inputMuteCurveEnd ch => exact (execInputMuteCurveEnd_keeps ch s t h).1
  | analogSettleEnd ch => exact (execAnalogSettleEnd_keeps ch s t h).1
  | phantomFrame => exact (execPhantomFrame_keeps s t h).1
  | phantomRampEnd ch => exact (execPhantomRampEnd_keeps ch s t h).1
  | phantomDischargeEnd ch => exact (execPhantomDischargeEnd_keeps ch s t h).1
  | inputJackPinChange pin level => exact (execInputJackPinChange_keeps pin level s t h).1
  | inputJackDebounceEnd pin => exact (execInputJackDebounceEnd_keeps pin s t h).1
  | insertSettleEnd pin => exact (execInsertSettleEnd_keeps pin s t h).1
  | routeCrossfadeEnd index => exact (execRouteCrossfadeEnd_keeps index s t h).1
  | routeGainZeroCrossing index => exact (execRouteGainZeroCrossing_keeps index s t h).1
  | routeGainZcTimeout index => exact (execRouteGainZcTimeout_keeps index s t h).1
  | gainRampEnd index => exact (execGainRampEnd_keeps index s t h).1
  | busScaleRampEnd index => exact (execBusScaleRampEnd_keeps index s t h).1
  | hpfCrossfadeEnd index => exact (execHpfCrossfadeEnd_keeps index s t h).1
  | meterUpdate => exact (execMeterUpdate_keeps s t h).1
  | outputCurveEnd o => exact (execOutputCurveEnd_keeps o s t h).1
  | cmBiasRampEnd => exact (execCmBiasRampEnd_keeps s t h).1
  | lineBufferConnect l => exact (execLineBufferConnect_keeps l s t h).1
  | lineOffsetCalEnd l => exact (execLineOffsetCalEnd_keeps l s t h).1
  | chargePumpReady => exact (execChargePumpReady_keeps s t h).1
  | chargePumpStartTimeout => exact (execChargePumpStartTimeout_keeps s t h).1
  | chargePumpRetry => exact (execChargePumpRetry_keeps s t h).1
  | chargePumpIdleStop => exact (execChargePumpIdleStop_keeps s t h).1
  | hpOvercurrent n => exact (execHpOvercurrent_keeps n s t h).1
  | hpOcRemeasure n => exact (execHpOcRemeasure_keeps n s t h).1
  | hpJackPinChange pin level => exact (execHpJackPinChange_keeps pin level s t h).1
  | hpJackDebounceEnd pin => exact (execHpJackDebounceEnd_keeps pin s t h).1
  | hpTestCurrentUp n => exact (execHpTestCurrentUp_keeps n s t h).1
  | hpTestCurrentDown n => exact (execHpTestCurrentDown_keeps n s t h).1
  | hpGlitchTimeout pin => exact (execHpGlitchTimeout_keeps pin s t h).1
  | spkPrechargeEnd spk => exact (execSpkPrechargeEnd_keeps spk s t h).1
  | spkOvercurrent spk => exact (execSpkOvercurrent_keeps spk s t h).1
  | spkDcTrip spk => exact (execSpkDcTrip_keeps spk s t h).1
  | spkUndervoltage => exact (execSpkUndervoltage_keeps s t h).1
  | spkOvervoltage => exact (execSpkOvervoltage_keeps s t h).1
  | spkThermalTrip => exact (execSpkThermalTrip_keeps s t h).1
  | spkRetry spk => exact (execSpkRetry_keeps spk s t h).1
  | vspkDecouplingConnect => exact (execVspkDecouplingConnect_keeps s t h).1
  | modeMuteEnd => exact (execModeMuteEnd_keeps s t h).1
  | lastLapSpeakerStop => exact (execLastLapSpeakerStop_keeps s t h).1
  | lastLapClear => exact (execLastLapClear_keeps s t h).1
  | gbyHealthLoss g => exact (execGbyHealthLoss_keeps g s t h).1
  | gbyPremuteEnd g => exact (execGbyPremuteEnd_keeps g s t h).1
  | gbyRestore g => exact (execGbyRestore_keeps g s t h).1
  | gbySettleEnd g => exact (execGbySettleEnd_keeps g s t h).1
  | portFrameStart p frame => exact (execPortFrameStart_keeps p frame s t h).1
  | portStopped p => exact (execPortStopped_keeps p s t h).1
  | rateReport => exact (execRateReport_keeps s t h).1
  | asrcLock p => exact (execAsrcLock_keeps p s t h).1
  | startNEdge => exact (execStartNEdge_keeps s t h).1
  | maskTakeEffect p => exact (execMaskTakeEffect_keeps p s t h).1
  | linkSignalDetect x present => exact (execLinkSignalDetect_keeps x present s t h).1
  | linkFrameLock x => exact (execLinkFrameLock_keeps x s t h).1
  | linkTrainingDone x info => exact (execLinkTrainingDone_keeps x info s t h).1
  | linkFrameReceived x frame time => exact (execLinkFrameReceived_keeps x frame time s t h).1
  | linkFrameLaunch x => exact (execLinkFrameLaunch_keeps x s t h).1
  | linkRetime x => exact (execLinkRetime_keeps x s t h).1
  | linkBreak x => exact (execLinkBreak_keeps x s t h).1
  | linkAnnouncement => exact (execLinkAnnouncement_keeps s t h).1
  | announcementReceived x ann => exact (execAnnouncementReceived_keeps x ann s t h).1
  | announcementDrop id => exact (execAnnouncementDrop_keeps id s t h).1
  | ringFormation => exact (execRingFormation_keeps s t h).1
  | linkRepairReturn x => exact (execLinkRepairReturn_keeps x s t h).1
  | linkAlignedChange gained => exact (execLinkAlignedChange_keeps gained s t h).1
  | linkOffsetChange => exact (execLinkOffsetChange_keeps s t h).1
  | controlCellReceived x cell => exact (execControlCellReceived_keeps x cell s t h).1
  | remotePacketReassembled x src seq => exact (execRemotePacketReassembled_keeps x src seq s t h).1
  | remoteReplyReceived x src seq => exact (execRemoteReplyReceived_keeps x src seq s t h).1
  | remoteTimeout seq => exact (execRemoteTimeout_keeps seq s t h).1
  | remoteForward q target opcode => exact (execRemoteForward_keeps q target opcode s t h).1
  | xoLoss => exact (execXoLoss_keeps s t h).1
  | xoRecover => exact (execXoRecover_keeps s t h).1
  | analogLockSet => exact (execAnalogLockSet_keeps s t h).1
  | lockLoss errs => exact (execLockLoss_keeps errs s t h).1
  | steerSlewStart => exact (execSteerSlewStart_keeps s t h).1
  | steerSlewEnd => exact (execSteerSlewEnd_keeps s t h).1
  | clockOutputGate o => exact (execClockOutputGate_keeps o s t h).1
  | clockOutputResume o => exact (execClockOutputResume_keeps o s t h).1
  | refBeatMissed src => exact (execRefBeatMissed_keeps src s t h).1
  | refSignalSeen src => exact (execRefSignalSeen_keeps src s t h).1
  | refFreqReport src ppb => exact (execRefFreqReport_keeps src ppb s t h).1
  | acceptTimeEnd src => exact (execAcceptTimeEnd_keeps src s t h).1
  | wtrEnd src => exact (execWtrEnd_keeps src s t h).1
  | handoffMeasureDone beats pulse => exact (execHandoffMeasureDone_keeps beats pulse s t h).1
  | handoffCapture => exact (execHandoffCapture_keeps s t h).1
  | holdoverHistoryRecord => exact (execHoldoverHistoryRecord_keeps s t h).1
  | holdoverExpire => exact (execHoldoverExpire_keeps s t h).1
  | forceAct => exact (execForceAct_keeps s t h).1
  | firmwareVerify => exact (execFirmwareVerify_keeps s t h).1
  | bootIdleReached => exact (execBootIdleReached_keeps s t h).1
  | autorun => exact (execAutorun_keeps s t h).1
  | biasRampDownEnd => exact (execBiasRampDownEnd_keeps s t h).1
  | sessionsCloseAtEntry => exact (execSessionsCloseAtEntry_keeps s t h).1
  | exitComplete => exact (execExitComplete_keeps s t h).1
  | powerFailWarning dip => exact (execPowerFailWarning_keeps dip s t h).1
  | powerFailClear => exact (execPowerFailClear_keeps s t h).1
  | mramWriteResume => exact (execMramWriteResume_keeps s t h).1
  | pdmClockSwitch c => exact (execPdmClockSwitch_keeps c s t h).1
  | pdmClkSettleEnd c => exact (execPdmClkSettleEnd_keeps c s t h).1
  | stage2End => exact (execStage2End_keeps s t h).1
  | handoverCaughtUp => exact (execHandoverCaughtUp_keeps s t h).1
  | mailboxWrite twi head bytes => exact (execMailboxWrite_keeps twi head bytes s t h).1
  | replyPageRead twi head len => exact (execReplyPageRead_keeps twi head len s t h).1
  | packetFragmentDiscard twi => exact (execPacketFragmentDiscard_keeps twi s t h).1
  | rstartAtAck => exact (execRstartAtAck_keeps s t h).1
  | busError => exact (execBusError_keeps s t h).1
  | sclTimeout held => exact (execSclTimeout_keeps held s t h).1
  | sdaTimeout held => exact (execSdaTimeout_keeps held s t h).1
  | spiFrameError => exact (execSpiFrameError_keeps s t h).1
  | inbandPulse => exact (execInbandPulse_keeps s t h).1
  | inbandPulseAbort => exact (execInbandPulseAbort_keeps s t h).1
  | sessionIdleTimeout number => exact (execSessionIdleTimeout_keeps number s t h).1
  | challengeExpire port => exact (execChallengeExpire_keeps port s t h).1
  | ledgerMirror => exact (execLedgerMirror_keeps s t h).1
  | ckXoFreqWrite q => exact (execCkXoFreqWrite_keeps q s t h).1
  | ckSteerWrite q => exact (execCkSteerWrite_keeps q s t h).1
  | cvOrderWrite q => exact (execCvOrderWrite_keeps q s t h).1
  | spOrderWrite q => exact (execSpOrderWrite_keeps q s t h).1
  | portMaskWrite q => exact (execPortMaskWrite_keeps q s t h).1
  | mtCfgWrite q => exact (execMtCfgWrite_keeps q s t h).1
  | grRunaheadWrite q => exact (execGrRunaheadWrite_keeps q s t h).1
  | grTraceWrite q => exact (execGrTraceWrite_keeps q s t h).1
  | refParamWrite q => exact (execRefParamWrite_keeps q s t h).1
  | wakeParamWrite q => exact (execWakeParamWrite_keeps q s t h).1
  | deviceRecordParamWrite q => exact (execDeviceRecordParamWrite_keeps q s t h).1
  | bankSwapCheckDone => exact (execBankSwapCheckDone_keeps s t h).1
  | refillEnd => exact (execRefillEnd_keeps s t h).1
  | configSaveComplete => exact (execConfigSaveComplete_keeps s t h).1
  | fwCommitVerifyDone => exact (execFwCommitVerifyDone_keeps s t h).1
  | controlRestart => exact (execControlRestart_keeps s t h).1
  | restartComplete => exact (execRestartComplete_keeps s t h).1
  | watchdogExpiry => exact (execWatchdogExpiry_keeps s t h).1
  | scrubVisit mem runner word found late => exact (execScrubVisit_keeps mem runner word found late s t h).1
  | bankWordRestore active kind index => exact (execBankWordRestore_keeps active kind index s t h).1
  | histogramSample => exact (execHistogramSample_keeps s t h).1
  | logCommit => exact (execLogCommit_keeps s t h).1
  | consistencyCheckDone => exact (execConsistencyCheckDone_keeps s t h).1
  | hpDriverConnect n => exact (execHpDriverConnect_keeps n s t h).1
  | lockedOutEnd port => exact (execLockedOutEnd_keeps port s t h).1
  | frameLockLoss x => exact (execFrameLockLoss_keeps x s t h).1
  | attnCauseRead twi => exact (execAttnCauseRead_keeps twi s t h).1
  | _ => cases hi

/-- Every command that sets no clock and resets nothing keeps TICK; and the counting and the root, where the device is not asleep. -/
theorem exec_holds {i : Instr} {s t : State} (hset : setsClock i = false) (hreset : resetsDevice i = false) (h : exec i s = .next t) :
    t.clock.tick = s.clock.tick ∧ (s.asleep = false → t.clock.count = s.clock.count) := by
  have of_count (hc : t.clock.count = s.clock.count) : t.clock.tick = s.clock.tick ∧ (s.asleep = false → t.clock.count = s.clock.count) :=
    ⟨(Clock.count_eq_iff.mp hc).1, fun _ => hc⟩
  cases hwake : bringsWake i with
  | true => exact ⟨(exec_wakes hwake h).tick, fun ha => by rw [(exec_wakes hwake h).clock ha]⟩
  | false =>
    cases hopen : opensTick i with
    | true => exact of_count (exec_opensTick_count hopen h)
    | false =>
      cases hrequest : requestOf i with
      | some r => exact of_count (by rw [exec_request_clock hrequest h])
      | none => exact of_count (by rw [exec_keeps_clock (by simp [keepsClock, hset, hreset, hwake, hopen, hrequest]) h])

/-! The rule. -/

/-- R29: once it counts and the root runs, only a reset and ROOT_STOP end that. -/
theorem exec_goes_on {i : Instr} {s t : State} (h : exec i s = .next t) (hawake : s.asleep = false) (hcounting : s.clock.counting = true)
    (hroot : s.clock.rootRunning = true) :
    (t.clock.counting = true ∧ t.clock.rootRunning = true) ∨ resetsDevice i = true ∨ i = .rootStop := by
  have of_runs (hc : t.clock.counting = s.clock.counting ∧ t.clock.rootRunning = s.clock.rootRunning) :
      t.clock.counting = true ∧ t.clock.rootRunning = true := ⟨hc.1.trans hcounting, hc.2.trans hroot⟩
  cases hset : setsClock i with
  | true =>
    cases i with
    | tickBoundary =>
      obtain ⟨rfl, _, _⟩ | hcount := execTickBoundary_cases h
      · exact .inl ⟨hcounting, hroot⟩
      · exact .inl (of_runs (Clock.count_eq_iff.mp (hcount.trans s.advance_count)).2)
    | lockDeclare errs =>
      obtain hclock | hclock := execLockDeclare_clock h
      · exact .inl (by simp [hclock])
      · exact .inl (of_runs (by simp [hclock]))
    | rootStop => exact .inr (.inr rfl)
    | linkJoinAlign join => exact .inl (of_runs (execLinkJoinAlign_runs h))
    | _ => cases hset
  | false =>
    cases hreset : resetsDevice i with
    | true => exact .inr (.inl rfl)
    | false => exact .inl (of_runs (Clock.count_eq_iff.mp ((exec_holds hset hreset h).2 hawake)).2)

/-- R29: TICK changes at a boundary, by a join, and to 0 by a reset. -/
theorem exec_tick_cases {i : Instr} {s t : State} (h : exec i s = .next t) :
    t.clock.tick = s.clock.tick ∨ i = .tickBoundary ∨ (∃ v, i = .linkJoinAlign v) ∨ (resetsDevice i = true ∧ t.clock.tick = 0) := by
  cases hset : setsClock i with
  | true =>
    cases i with
    | tickBoundary => exact .inr (.inl rfl)
    | lockDeclare errs => exact .inl (by obtain hclock | hclock := execLockDeclare_clock h <;> rw [hclock])
    | rootStop => exact .inl (execRootStop_tick h)
    | linkJoinAlign join => exact .inr (.inr (.inl ⟨join, rfl⟩))
    | _ => cases hset
  | false =>
    cases hreset : resetsDevice i with
    | true => exact (exec_reset_tick hreset h).imp_right fun h0 => .inr (.inr ⟨rfl, h0⟩)
    | false => exact .inl (exec_holds hset hreset h).1

/-- R29: a boundary at its time counts, where TICK counts and the root runs. -/
theorem execTickBoundary_counts {s : State} (hphase : s.clock.rootRunning = true → s.clock.phase = 128) :
    ∃ t, execTickBoundary s = .next t ∧
      t.clock.tick = if s.clock.counting = true ∧ s.clock.rootRunning = true then s.clock.tick + 1 else s.clock.tick := by
  refine ⟨_, rfl, ?_⟩
  obtain ⟨_, hroot, hnot⟩ | hcount := execTickBoundary_cases (s := s) rfl
  · exact absurd (hphase hroot) hnot
  · exact (Clock.count_eq_iff.mp (hcount.trans s.advance_count)).1

/-- Settles O59: each clause is what one command, or one kind of commands, does to the clock. -/
theorem tickFollowsItsRule : Obligations.TickFollowsItsRule := by
  refine ⟨?_, ?_, ?_, fun s t i => exec_goes_on, fun s => execTickBoundary_counts, fun s => execTickBoundary_early, ?_, ?_, fun s t i => exec_tick_cases⟩
  · intro s i hi
    obtain ⟨t, ht, hclock⟩ := execSupplyPorAssert_resets hi
    exact ⟨t, ht, by simp [hclock]⟩
  · exact fun s => ⟨_, rfl, rfl, rfl, rfl⟩
  · intro s errs hanalog hlock hlength hwindow hcounted
    obtain ⟨t, ht, hlocked, hclock⟩ := execLockDeclare_declares hanalog hlock hlength hwindow hcounted
    exact ⟨t, ht, hlocked, by simp [hclock]⟩
  · intro s target b hentering hstep htime
    obtain ⟨t, ht, hmode, hcount⟩ := execRootStop_stops hentering hstep htime
    obtain ⟨htick, hcounting, hroot⟩ := Clock.count_eq_iff.mp hcount
    exact ⟨t, ht, hmode, hroot, htick, hcounting⟩
  · rintro s tick p i rfl h1 h0 hjoins hpartner haligned hother hidle sys
    exact execLinkJoinAlign_loads h0 h1 hjoins hpartner haligned hother hidle

end Sys2Proof.Machine
end

section
/-! O60, R432, R437, R40: which lengths of a PARAM_WRITE suit its ID, and which of its values lie outside their range. -/
namespace Sys2Proof.Machine

/-! WIDTH and LENGTH (R432). -/

theorem paramWidth_eq_four_or_eight (id : Nat) : paramWidth id = 4 ∨ paramWidth id = 8 := by
  unfold paramWidth
  split
  · exact .inr rfl
  · exact .inl rfl

theorem lengthOk_paramWrite_of_defined {p : List Byte} (hdefined : paramDefined (le p 0 2) = true) :
    lengthOk 0x0102 p = decide (p.length = 4 + paramWidth (le p 0 2)) := by
  simp [lengthOk, fixedLength, hdefined]

theorem lengthOk_paramWrite_of_undefined {p : List Byte} (hundefined : paramDefined (le p 0 2) = false) :
    lengthOk 0x0102 p = decide (p.length = 8 ∨ p.length = 12) := by
  simp [lengthOk, fixedLength, hundefined]

/-- R386, step 7: a request in order up to there whose LENGTH does not suit its opcode. -/
theorem State.request_badLength {s : State} {q : Req} {op : Nat} {row : OpRow} (htakes : s.Takes q) (hrevision : s.revisionOk op q = true)
    (hrow : opRow op = some row) (hsince : row.rev ≤ q.rev.val) (hsession : q.port.val = 4 ∨ (s.ctl.sessionOf (bindingOf q)).isSome = true)
    (hlength : lengthOk op q.payload = false) (run : State → Job → State) :
    s.request op run q = (s.seen q).reply (s.jobOf op q) 0x11 0 [] := by
  have hseen : (s.seen q).revisionOk op q = true := (s.revisionOk_touch _ op q).trans hrevision
  have hnumber : (s.seen q).sessionNo q = s.sessionNo q := s.sessionNo_touch _ q
  have hopen : (row.session && decide (q.port.val ≠ 4) && ((s.seen q).ctl.sessionOf (bindingOf q)).isNone) = false := by
    rw [State.seen, State.sessionOf_touch, Option.isNone_map]
    obtain hport | hsome := hsession
    · simp [hport]
    · simp [Option.isNone_eq_false_iff.mpr hsome]
  rw [State.request_takes htakes]
  simp only [State.judge, State.jobOf, hseen, hnumber, hrow, Nat.not_lt.mpr hsince, hopen, hlength, Bool.not_true, Bool.not_false,
    Bool.false_eq_true, if_false, if_true]

/-! How an admitted PARAM_WRITE is answered at step 10 (R432, R437). -/

theorem exec_paramWrite (q : Req) (s : State) : exec (.paramWrite q) s = .next (s.request 0x0102 State.doParamWrite q) := rfl

theorem exec_paramWrite_of_admits {s : State} {q : Req} (h : s.Admits 0x0102 q) :
    exec (.paramWrite q) s = .next ((s.seen q).doParamWrite (s.jobOf 0x0102 q)) := by
  rw [exec_paramWrite, State.request_admits h]

theorem exec_paramWrite_badLength {s : State} {q : Req} (htakes : s.Takes q) (hrevision : s.revisionOk 0x0102 q = true) (hsince : 1 ≤ q.rev.val)
    (hsession : q.port.val = 4 ∨ (s.ctl.sessionOf (bindingOf q)).isSome = true) (hlength : lengthOk 0x0102 q.payload = false) :
    exec (.paramWrite q) s = .next ((s.seen q).reply (s.jobOf 0x0102 q) 0x11 0 []) := by
  rw [exec_paramWrite, State.request_badLength (row := { code := 0x0102 }) htakes hrevision rfl hsince hsession hlength]

theorem State.doParamWrite_undefined {s : State} {j : Job} (hundefined : paramDefined (le j.req.payload 0 2) = false) :
    s.doParamWrite j = s.reply j 0x14 0 [] := by
  simp [State.doParamWrite, hundefined]

theorem State.doParamWrite_outOfRange {s : State} {j : Job} {id v : Nat} (hid : le j.req.payload 0 2 = id) (hv : leNat (j.req.payload.drop 4) = v)
    (hdefined : paramDefined id = true) (hstatic : (paramClass id).isStatic = false) (hvalue : s.valueOk id v = false) :
    s.doParamWrite j = s.outOfRange j := by
  simp [State.doParamWrite, hid, hv, hdefined, hstatic, hvalue]

/-! IN_MODE (R40): IDs 0x0300 to 0x0317. -/

theorem paramRow_inMode (c : Fin 24) : paramRow (0x0300 + c.val) = some { first := 0x0300, count := 24, cls := .banked } := by
  revert c
  decide

theorem paramDefined_inMode (c : Fin 24) : paramDefined (0x0300 + c.val) = true := by
  simp [paramDefined, paramRow_inMode]

theorem paramClass_inMode (c : Fin 24) : paramClass (0x0300 + c.val) = .banked := by
  simp [paramClass, paramRow_inMode]

/-- R40: the modes of a channel are 0 to 2, and 0 alone from AIN16 on. -/
theorem inputFieldsOk_inMode (c : Fin 24) (v : Nat) : inputFieldsOk (0x0300 + c.val) v = if c.val < 16 then decide (v ≤ 2) else decide (v = 0) := by
  have hblock : 0x0300 + c.val < 0x0318 := by omega
  have hmic : 0x0300 + c.val < 0x0310 ↔ c.val < 16 := by omega
  simp only [inputFieldsOk, hblock, hmic, if_true]

theorem paramFieldsOk_inMode {c : Fin 24} {v : Nat} (h : paramFieldsOk (0x0300 + c.val) v = true) : inputFieldsOk (0x0300 + c.val) v = true := by
  have hblock : paramBlock (0x0300 + c.val) = 3 := by unfold paramBlock; omega
  simpa [hblock] using (Bool.and_eq_true_iff.mp h).2

theorem State.valueOk_inMode_eq_false (s : State) {c : Fin 24} {v : Nat} (h : (16 ≤ c.val ∧ v ≠ 0) ∨ v = 3) : s.valueOk (0x0300 + c.val) v = false := by
  refine Bool.eq_false_iff.mpr fun hok => ?_
  have hmode := paramFieldsOk_inMode (Bool.and_eq_true_iff.mp hok).1
  rw [inputFieldsOk_inMode] at hmode
  split at hmode <;> rw [decide_eq_true_eq] at hmode <;> omega

/-- Settles O60: a LENGTH that does not suit is answered at step 7, an undefined ID and a mode outside its range at step 10. -/
theorem paramWritesAreJudgedByWidthAndRange : Obligations.ParamWritesAreJudgedByWidthAndRange := by
  refine ⟨paramWidth_eq_four_or_eight, ?_, ?_, ?_, ?_⟩
  · rintro s q id rfl htakes hrevision hsince hsession
    refine ⟨fun hdefined hlength => ?_, fun hundefined h8 h12 => ?_, fun hdefined hlength => ?_⟩
    · exact exec_paramWrite_badLength htakes hrevision hsince hsession (by simp [lengthOk_paramWrite_of_defined hdefined, hlength])
    · exact exec_paramWrite_badLength htakes hrevision hsince hsession (by simp [lengthOk_paramWrite_of_undefined hundefined, h8, h12])
    · simp [lengthOk_paramWrite_of_defined hdefined, hlength]
  · intro q hundefined hlength
    simp [lengthOk_paramWrite_of_undefined hundefined, hlength]
  · intro s q hadmits hundefined
    rw [exec_paramWrite_of_admits hadmits, State.doParamWrite_undefined hundefined]
  · intro s q c v hadmits hid hv hmode
    rw [exec_paramWrite_of_admits hadmits, State.doParamWrite_outOfRange hid hv (paramDefined_inMode c) (by simp [paramClass_inMode, PClass.isStatic])
      (State.valueOk_inMode_eq_false _ hmode), State.outOfRange]

end Sys2Proof.Machine
end

section
/-! O58, O56, O57, R391, R392, R405: the sessions exclude one another. What only ends sessions and challenges keeps that; what opens a session or takes a
claim looks at the others first. What every command does to the queue, and the state at reset. -/
namespace Sys2Proof.Machine

-- One proof after another: a check of the whole text in one process stays within its memory.
set_option Elab.async false

/-! What only ends sessions and challenges. -/

/-- No session and no challenge stands in t that does not stand in s. -/
structure State.Sheds (s t : State) : Prop where
  sessions : t.ctl.sessions.Sublist s.ctl.sessions
  challenges : t.ctl.challenges ⊆ s.ctl.challenges

theorem State.Sheds.of_eq {s t : State} (h : t.ctl.sessions = s.ctl.sessions ∧ t.ctl.challenges = s.ctl.challenges) : s.Sheds t :=
  ⟨h.1 ▸ .refl _, h.2 ▸ fun _ hc => hc⟩

theorem State.Sheds.of_ctl {s t : State} (h : t.ctl = s.ctl) : s.Sheds t := .of_eq (by simp [h])

theorem State.Sheds.of_none {s t : State} (hsessions : t.ctl.sessions = []) (hchallenges : t.ctl.challenges = []) : s.Sheds t :=
  ⟨by simp [hsessions], by simp [hchallenges]⟩

theorem State.Sheds.rfl {s : State} : s.Sheds s := .of_eq ⟨Eq.refl _, Eq.refl _⟩

theorem State.Sheds.trans {s t u : State} (h : s.Sheds t) (k : t.Sheds u) : s.Sheds u :=
  ⟨k.sessions.trans h.sessions, List.Subset.trans k.challenges h.challenges⟩

theorem State.Sheds.ite {s t u : State} {c : Prop} [Decidable c] (h : c → s.Sheds t) (k : ¬ c → s.Sheds u) : s.Sheds (if c then t else u) := by
  split
  case isTrue hc => exact h hc
  case isFalse hc => exact k hc

theorem State.Exclusive.sheds {s t : State} (he : s.Exclusive) (h : s.Sheds t) : t.Exclusive :=
  ⟨he.1.sublist h.sessions, fun c hc x hx => he.2 c (h.challenges hc) x (h.sessions.subset hx)⟩

theorem State.Exclusive.of_eq {s t : State} (he : s.Exclusive) (h : t.ctl.sessions = s.ctl.sessions ∧ t.ctl.challenges = s.ctl.challenges) : t.Exclusive :=
  he.sheds (.of_eq h)

/-- A symmetric relation that holds pairwise holds of any two different members. -/
theorem pairwise_apart {α : Type} {r : α → α → Prop} (hsymm : ∀ a b, r a b → r b a) {l : List α} (h : l.Pairwise r) :
    ∀ x ∈ l, ∀ y ∈ l, x ≠ y → r x y := by
  induction h with
  | nil => exact fun x hx => absurd hx List.not_mem_nil
  | cons hhead _ ih =>
    intro x hx y hy hne
    rcases List.mem_cons.1 hx with hxa | hxl
    · rcases List.mem_cons.1 hy with hya | hyl
      · exact absurd (hxa.trans hya.symm) hne
      · exact hxa ▸ hhead y hyl
    · rcases List.mem_cons.1 hy with hya | hyl
      · exact hsymm _ _ (hya ▸ hhead x hxl)
      · exact ih x hxl y hyl hne

/-- Two different sessions have different bindings and no claim in common. -/
theorem State.Exclusive.apart {s : State} (he : s.Exclusive) {x y : Session} (hx : x ∈ s.ctl.sessions) (hy : y ∈ s.ctl.sessions) (hne : x ≠ y) :
    x.binding ≠ y.binding ∧ x.claims &&& y.claims = 0 := by
  obtain ⟨hpair, -⟩ := he
  exact pairwise_apart (fun a b h => ⟨h.1.symm, by rw [BitVec.and_comm]; exact h.2⟩) hpair x hx y hy hne

theorem State.endSession_sessions (s : State) (x : Session) (reason opcode tick : Nat) :
    (s.endSession x reason opcode tick).ctl.sessions = s.ctl.sessions.filter (fun y => decide (y.number ≠ x.number)) ∧
    (s.endSession x reason opcode tick).ctl.challenges = s.ctl.challenges := ⟨rfl, rfl⟩

theorem State.endSession_sheds (s : State) (x : Session) (reason opcode tick : Nat) : s.Sheds (s.endSession x reason opcode tick) :=
  ⟨by rw [(s.endSession_sessions ..).1]; exact List.filter_sublist, fun _ hc => hc⟩

theorem State.endSessions_sheds (s : State) (l : List Session) (reason opcode tick : Nat) : s.Sheds (s.endSessions l reason opcode tick) := by
  unfold State.endSessions
  induction l generalizing s with
  | nil => exact .rfl
  | cons x l ih => exact (s.endSession_sheds x reason opcode tick).trans (ih _)

theorem State.dropChallenge_sheds (s : State) (b : Binding) : s.Sheds (s.dropChallenge b) :=
  ⟨.refl _, fun _ hc => (List.mem_filter.mp hc).1⟩

/-- The challenges that outlast the drop are of other bindings. -/
theorem State.dropChallenge_other {s : State} {b : Binding} {c : Challenge} (hc : c ∈ (s.dropChallenge b).ctl.challenges) : c.binding ≠ b := by
  simpa using (List.mem_filter.mp hc).2

/-- The session of a binding, if it has one, ends. -/
def State.closeOf (s : State) (b : Binding) (reason opcode tick : Nat) : State :=
  match s.ctl.sessionOf b with | some x => s.endSession x reason opcode tick | none => s

theorem State.closeOf_sheds (s : State) (b : Binding) (reason opcode tick : Nat) : s.Sheds (s.closeOf b reason opcode tick) := by
  unfold State.closeOf
  split
  · exact s.endSession_sheds ..
  · exact .rfl

theorem Control.sessionOf_some {c : Control} {b : Binding} {x : Session} (h : c.sessionOf b = some x) : x ∈ c.sessions ∧ x.binding = b :=
  ⟨List.mem_of_find?_eq_some h, by simpa using List.find?_some h⟩

theorem Control.sessionOf_none {c : Control} {b : Binding} (h : c.sessionOf b = none) {x : Session} (hx : x ∈ c.sessions) : x.binding ≠ b := by
  simpa using List.find?_eq_none.mp h x hx

/-- A binding whose session has ended has none. -/
theorem State.Exclusive.closeOf_free {s : State} (he : s.Exclusive) (b : Binding) (reason opcode tick : Nat) {y : Session}
    (hy : y ∈ (s.closeOf b reason opcode tick).ctl.sessions) : y.binding ≠ b := by
  unfold State.closeOf at hy
  split at hy
  · next x hx =>
    obtain ⟨hmem, rfl⟩ := Control.sessionOf_some hx
    rw [(s.endSession_sessions ..).1, List.mem_filter, decide_eq_true_eq] at hy
    obtain ⟨hy, hnumber⟩ := hy
    exact (he.apart hy hmem fun h => hnumber (h ▸ rfl)).1
  · next hx => exact Control.sessionOf_none hx hy

/-! What opens a session, and what changes claims. -/

/-- A session, without a claim, of a binding that has neither a session nor a challenge. -/
theorem State.Exclusive.addSession {s t : State} (he : s.Exclusive) {x : Session} (hclaims : x.claims = 0)
    (hsessions : ∀ y ∈ s.ctl.sessions, y.binding ≠ x.binding) (hchallenges : ∀ c ∈ s.ctl.challenges, c.binding ≠ x.binding)
    (hs : t.ctl.sessions = s.ctl.sessions ++ [x]) (hc : t.ctl.challenges = s.ctl.challenges) : t.Exclusive := by
  unfold State.Exclusive
  rw [hs, hc, List.pairwise_append]
  refine ⟨⟨he.1, by simp, fun y hy z hz => ?_⟩, fun c hcm y hy => ?_⟩
  · rw [List.mem_singleton.mp hz]
    exact ⟨hsessions y hy, by simp [hclaims]⟩
  · obtain hy | hy := List.mem_append.mp hy
    · exact he.2 c hcm y hy
    · rw [List.mem_singleton.mp hy]
      exact hchallenges c hcm

/-- The sessions of one binding hold other claims, which no other session holds. -/
theorem State.Exclusive.setClaims {s t : State} (he : s.Exclusive) {b : Binding} {held : BitVec 64}
    (hfree : ∀ x ∈ s.ctl.sessions, x.binding ≠ b → x.claims &&& held = 0)
    (hs : t.ctl.sessions = s.ctl.sessions.map (fun x => if x.binding = b then { x with claims := held } else x))
    (hc : t.ctl.challenges = s.ctl.challenges) : t.Exclusive := by
  unfold State.Exclusive
  rw [hs, hc, List.pairwise_map]
  have hbinding (x : Session) : (if x.binding = b then { x with claims := held } else x).binding = x.binding := by split <;> rfl
  refine ⟨he.1.imp_of_mem fun {x y} hx hy hxy => ?_, fun c hcm x hx => ?_⟩
  · refine ⟨by rw [hbinding, hbinding]; exact hxy.1, ?_⟩
    by_cases hxb : x.binding = b <;> by_cases hyb : y.binding = b
    · exact absurd (hxb.trans hyb.symm) hxy.1
    · rw [if_pos hxb, if_neg hyb, BitVec.and_comm]
      exact hfree y hy hyb
    · rw [if_neg hxb, if_pos hyb]
      exact hfree x hx hxb
    · rw [if_neg hxb, if_neg hyb]
      exact hxy.2
  · obtain ⟨y, hy, rfl⟩ := List.mem_map.mp hx
    rw [hbinding]
    exact he.2 c hcm y hy

theorem foldl_or_eq_zero {α : Type} {f : α → Nat} (l : List α) {a : Nat} (h : l.foldl (fun a x => a ||| f x) a = 0) : a = 0 ∧ ∀ x ∈ l, f x = 0 := by
  induction l generalizing a with
  | nil => exact ⟨h, by simp⟩
  | cons y l ih =>
    obtain ⟨ha, hl⟩ := ih h
    obtain ⟨ha, hy⟩ := Nat.or_eq_zero_iff.mp ha
    exact ⟨ha, by simpa [hy] using hl⟩

theorem BitVec.and_ofNat_eq_zero {w : Nat} {x : BitVec w} {m : Nat} (h : x.toNat &&& m = 0) : x &&& BitVec.ofNat w m = 0 := by
  apply BitVec.eq_of_toNat_eq
  rw [BitVec.toNat_and, BitVec.toNat_ofNat, ← Nat.mod_eq_of_lt x.isLt, ← Nat.and_mod_two_pow, h]
  simp

/-- The claims that the session of a binding holds. -/
def Control.claimsOf (c : Control) (b : Binding) : BitVec 64 := match c.sessionOf b with | some x => x.claims | none => 0

/-- No other session holds what the session of a binding holds. -/
theorem State.Exclusive.claimsOf_free {s : State} (he : s.Exclusive) {b : Binding} {x : Session} (hx : x ∈ s.ctl.sessions) (hb : x.binding ≠ b) :
    x.claims &&& s.ctl.claimsOf b = 0 := by
  unfold Control.claimsOf
  split
  · next y hy =>
    obtain ⟨hmem, rfl⟩ := Control.sessionOf_some hy
    exact (he.apart hx hmem fun h => hb (h ▸ rfl)).2
  · simp

theorem State.doClaim_exclusive {s : State} (he : s.Exclusive) (j : Job) : (s.doClaim j).Exclusive := by
  simp only [State.doClaim]
  split
  · exact he.of_eq (by simp)
  split
  · exact he.of_eq (by simp)
  split
  · exact he.of_eq (by simp)
  · next hclash =>
    refine he.setClaims (b := bindingOf j.req) (held := s.ctl.claimsOf (bindingOf j.req) ||| BitVec.ofNat 64 (le j.req.payload 0 8)) (fun x hx hb => ?_)
      (by cases h : s.ctl.sessionOf (bindingOf j.req) <;> simp [Control.claimsOf, h]) (by simp)
    have hm := (foldl_or_eq_zero _ (Decidable.not_not.mp hclash)).2 x (by simp [hx, hb])
    rw [BitVec.and_or_distrib_left, he.claimsOf_free hx hb, BitVec.and_ofNat_eq_zero hm]
    rfl

theorem State.doRelease_exclusive {s : State} (he : s.Exclusive) (j : Job) : (s.doRelease j).Exclusive := by
  simp only [State.doRelease]
  split
  · exact he.of_eq (by simp)
  · refine he.setClaims (b := bindingOf j.req) (held := s.ctl.claimsOf (bindingOf j.req) &&& ~~~ BitVec.ofNat 64 (le j.req.payload 0 8)) (fun x hx hb => ?_)
      (by cases h : s.ctl.sessionOf (bindingOf j.req) <;> simp [Control.claimsOf, h]) (by simp)
    rw [← BitVec.and_assoc, he.claimsOf_free hx hb]
    simp

/-- A challenge for a binding that has no session. -/
theorem State.Exclusive.addChallenge {s t : State} (he : s.Exclusive) {c : Challenge} (hfree : ∀ y ∈ s.ctl.sessions, y.binding ≠ c.binding)
    (hs : t.ctl.sessions = s.ctl.sessions) (hc : t.ctl.challenges = s.ctl.challenges ++ [c]) : t.Exclusive := by
  unfold State.Exclusive
  rw [hs, hc]
  refine ⟨he.1, fun d hd x hx => ?_⟩
  obtain hd | hd := List.mem_append.mp hd
  · exact he.2 d hd x hx
  · rw [List.mem_singleton.mp hd]
    exact (hfree x hx).symm

/-- SESSION_OPEN drops the challenge of its binding and closes its session first. -/
theorem State.doSessionOpen_exclusive {s : State} (he : s.Exclusive) (j : Job) : (s.doSessionOpen j).Exclusive := by
  let s0 := s.dropChallenge (bindingOf j.req)
  let s1 := s0.closeOf (bindingOf j.req) 6 j.opcode j.tick
  have he0 : s0.Exclusive := he.sheds (s.dropChallenge_sheds _)
  have he1 : s1.Exclusive := he0.sheds (State.closeOf_sheds ..)
  have hfree : ∀ y ∈ s1.ctl.sessions, y.binding ≠ bindingOf j.req := fun _ => he0.closeOf_free _ 6 j.opcode j.tick
  have hother : ∀ c ∈ s1.ctl.challenges, c.binding ≠ bindingOf j.req := fun _ hc =>
    State.dropChallenge_other ((s0.closeOf_sheds _ 6 j.opcode j.tick).challenges hc)
  simp only [State.doSessionOpen]
  split
  · exact he0.of_eq (by simp [s0])
  split
  · exact he0.of_eq (by simp [s0])
  split
  · exact he1.addSession (x := { binding := bindingOf j.req, number := _, lastPacket := _ }) rfl hfree hother
      (State.reply_sessions ..).1 (State.reply_sessions ..).2
  · exact he1.addChallenge hfree (State.reply_sessions ..).1 (State.reply_sessions ..).2

/-- SESSION_PROVE answers a challenge of its binding, which therefore has no session. -/
theorem State.doSessionProve_exclusive {s : State} (he : s.Exclusive) (j : Job) : (s.doSessionProve j).Exclusive := by
  let s0 := s.dropChallenge (bindingOf j.req)
  have he0 : s0.Exclusive := he.sheds (s.dropChallenge_sheds _)
  simp only [State.doSessionProve]
  split
  · exact he0.of_eq (by simp [s0])
  split
  · exact he0.of_eq (by simp [s0])
  · next c hc =>
    have hbinding : c.binding = bindingOf j.req := by simpa using And.left (by simpa using List.find?_some hc)
    have hfree (y : Session) (hy : y ∈ s.ctl.sessions) : y.binding ≠ bindingOf j.req :=
      hbinding ▸ (he.2 c (List.mem_of_find?_eq_some hc) y hy).symm
    split
    · exact he0.of_eq (by simp [s0])
    split
    · exact he0.of_eq (by simp [s0])
    · exact he0.addSession (x := { binding := bindingOf j.req, number := _, lastPacket := _ }) rfl hfree (fun _ => State.dropChallenge_other)
        (State.reply_sessions ..).1 (State.reply_sessions ..).2

theorem State.doSessionClose_sheds (s : State) (j : Job) : s.Sheds (s.doSessionClose j) :=
  (s.dropChallenge_sheds (bindingOf j.req)).trans ((State.closeOf_sheds _ (bindingOf j.req) 0 j.opcode j.tick).trans (.of_eq (State.reply_sessions ..)))

theorem State.doKeyChange_sheds (s : State) (j : Job) : s.Sheds (s.doKeyChange j) := by
  simp only [State.doKeyChange]
  split
  · exact .of_eq (by simp)
  split
  · exact .of_eq (by simp)
  · refine .trans (.trans ?_ (State.endSessions_sheds ..)) (.of_eq (State.accept_sessions ..))
    exact .of_ctl (Eq.refl _)

theorem State.assignId_sheds (s : State) (id tick : Nat) : s.Sheds (s.assignId id tick) :=
  (s.endSessions_sheds ..).trans (.of_ctl (State.takeId_keeps ..).2.2.2.2.2.1)

theorem State.doLinkAssign_sheds (s : State) (j : Job) : s.Sheds (s.doLinkAssign j) := by
  simp only [State.doLinkAssign]
  split
  · exact .of_eq (by simp)
  · refine .trans ?_ (.of_eq (State.accept_sessions ..))
    split
    · exact s.assignId_sheds ..
    · exact .of_ctl (Eq.refl _)

/-! How a packet is judged and executed (R386, R388). -/

theorem State.dispatch_exclusive {s : State} (he : s.Exclusive) (j : Job) : (s.dispatch j).Exclusive := by
  simp only [State.dispatch]
  split
  case h_2 => exact doSessionOpen_exclusive he j
  case h_3 => exact doSessionProve_exclusive he j
  case h_4 => exact he.sheds (s.doSessionClose_sheds j)
  case h_5 => exact he.sheds (s.doKeyChange_sheds j)
  case h_26 => exact doClaim_exclusive he j
  case h_27 => exact doRelease_exclusive he j
  case h_37 => exact he.sheds (s.doLinkAssign_sheds j)
  all_goals exact he.of_eq (by simp)

theorem State.touch_exclusive {s : State} (he : s.Exclusive) (b : Binding) : (s.touch b).Exclusive := by
  unfold State.Exclusive State.touch
  refine ⟨List.pairwise_map.mpr ?_, fun c hc x hx => ?_⟩
  · simpa only [touchOne_binding, touchOne_claims] using he.1
  · obtain ⟨y, hy, rfl⟩ := List.mem_map.mp hx
    rw [touchOne_binding]
    exact he.2 c hc y hy

theorem State.judge_exclusive {s : State} (he : s.Exclusive) {run : State → Job → State} (hrun : ∀ j, (run s j).Exclusive) (j : Job) :
    (s.judge run j).Exclusive := by
  simp only [State.judge]
  split
  · exact he.of_eq (by simp)
  split
  · exact he.of_eq (by simp)
  split
  · exact he.of_eq (by simp)
  split
  · split <;> exact he.of_eq (by simp)
  split
  · exact he.of_eq (by simp)
  split
  · exact he.of_eq (by simp)
  split
  · exact he.of_eq (by simp)
  · exact hrun _

theorem State.execute_exclusive {s : State} (he : s.Exclusive) {run : State → Job → State} (hrun : ∀ {s : State}, s.Exclusive → ∀ j, (run s j).Exclusive)
    (j : Job) : (s.execute run j).Exclusive :=
  State.judge_exclusive (State.touch_exclusive he _) (hrun (State.touch_exclusive he _)) j

theorem State.forwardJudged_exclusive {s : State} (he : s.Exclusive) (target op : Nat) (q : Req) : (s.forwardJudged target op q).Exclusive := by
  simp only [State.forwardJudged]
  split
  · exact he.of_eq (by simp)
  · exact (State.touch_exclusive he _).of_eq (State.forward_sessions ..)

theorem State.runPacket_exclusive {s : State} (he : s.Exclusive) (port origin oport : Nat) (w : Waiting) : (s.runPacket port origin oport w).Exclusive := by
  simp only [State.runPacket]
  split
  · exact he.of_eq (by simp)
  split
  · exact he.of_eq (by simp)
  split
  · exact State.forwardJudged_exclusive he ..
  · exact State.execute_exclusive he State.dispatch_exclusive _

theorem State.serve_exclusive (n : Nat) {s : State} (he : s.Exclusive) : (State.serve n s).Exclusive := by
  induction n generalizing s with
  | zero => exact he
  | succ n ih =>
    simp only [State.serve]
    split
    · exact he
    split
    · exact ih (State.runPacket_exclusive (he.of_eq (by simp)) ..)
    · exact he

theorem State.serveBefore_exclusive (q : Req) (n : Nat) {s : State} (he : s.Exclusive) : (State.serveBefore q n s).Exclusive := by
  induction n generalizing s with
  | zero => exact he
  | succ n ih =>
    simp only [State.serveBefore]
    split
    · exact he
    split
    · split
      · exact he
      · exact ih (State.runPacket_exclusive (he.of_eq (by simp)) ..)
    · exact he

theorem State.enter_exclusive {s : State} (he : s.Exclusive) {go : State → State} (hgo : ∀ {s : State}, s.Exclusive → (go s).Exclusive) (target op : Nat)
    (q : Req) : (s.enter target op q go).Exclusive := by
  have hb := State.serveBefore_exclusive q (s.bus.spi.mailbox.length + s.bus.twi.mailbox.length + s.ctl.inbox.length) he
  simp only [State.enter]
  split
  · split
    · exact hb
    split
    · exact hgo hb
    split
    · exact hb.of_eq (by simp)
    · exact hb
  split
  · exact hgo hb
  split
  · exact hb.of_eq (by simp)
  · exact hb

theorem State.request_exclusive {s : State} (he : s.Exclusive) {run : State → Job → State}
    (hrun : ∀ {s : State}, s.Exclusive → ∀ j, (run s j).Exclusive) (op : Nat) (q : Req) : (s.request op run q).Exclusive :=
  State.enter_exclusive he (fun h => State.execute_exclusive h hrun _) ..

theorem State.writeOf_exclusive {s : State} (he : s.Exclusive) (kind : Nat → Bool) (q : Req) : (s.writeOf kind q).Exclusive := by
  simp only [State.writeOf]
  split
  · exact State.request_exclusive he (fun h j => h.of_eq (State.doParamWrite_sessions ..)) ..
  · exact he

/-! What a reset, a boot, a wake, a restart and an error leave of the sessions (R322, R330, R337, R394, R448). -/

theorem State.deviceReset_sheds (s : State) (cause supply : Nat) (aonLost : Bool) : s.Sheds (s.deviceReset cause supply aonLost) := .of_none rfl rfl

theorem State.bootBegin_ctl (s : State) : s.bootBegin.ctl = s.ctl := by simp [State.bootBegin]

theorem State.restBoot_sheds (s : State) : s.Sheds s.restBoot :=
  (s.deviceReset_sheds 3 0 false).trans (.of_ctl (State.bootBegin_ctl _))

theorem State.tryBoot_sheds (s : State) : s.Sheds s.tryBoot := by
  unfold State.tryBoot
  split
  · exact .rfl
  split
  · exact .ite (fun _ => .rfl) (fun _ => .of_ctl s.bootBegin_ctl)
  split
  · exact .ite (fun _ => s.restBoot_sheds) (fun _ => .rfl)
  · exact .ite (fun _ => s.restBoot_sheds) (fun _ => .rfl)
  · exact .rfl

/-- What ends in an attempt to boot, and keeps the control memory before it. -/
theorem State.tryBoot_sheds_of_ctl {s t : State} (h : t.ctl = s.ctl) : s.Sheds t.tryBoot := (State.Sheds.of_ctl h).trans t.tryBoot_sheds

theorem State.wakeUp_sheds (s : State) (c : WakeCause) : s.Sheds (s.wakeUp c) := by
  unfold State.wakeUp
  split
  · exact .ite (fun _ => .rfl) (fun _ => State.tryBoot_sheds_of_ctl (by rfl))
  · exact .ite (fun _ => .rfl) (fun _ => State.tryBoot_sheds_of_ctl (by simp))
  · split
    · exact .rfl
    · exact .of_ctl (by simp)
  · exact .rfl

theorem State.wakeEvent_sheds (s : State) (start end_ : BitVec 32) (template distance : Nat) : s.Sheds (s.wakeEvent start end_ template distance) := by
  simp only [State.wakeEvent]
  split
  · exact .trans (.of_ctl (by simp)) (State.wakeUp_sheds _ _)
  · exact .of_ctl (by simp)

theorem State.stage1_sheds (s : State) : s.Sheds s.stage1 := by
  unfold State.stage1
  extract_lets w past e f p avail start fresh
  split
  · exact .rfl
  split
  · exact .of_ctl (by rfl)
  · extract_lets loud count floor quiet ep onset w1 s1
    have hnext : s.Sheds s1 := .of_ctl (by rfl)
    clear_value s1 start onset
    exact .ite (fun _ => hnext.trans (s1.wakeEvent_sheds ..)) (fun _ => hnext)

theorem State.foldl_sheds {β : Type} (f : State → β → State) (h : ∀ (s : State) x, s.Sheds (f s x)) (l : List β) (s : State) : s.Sheds (l.foldl f s) := by
  induction l generalizing s with
  | nil => exact .rfl
  | cons x l ih => exact (h s x).trans (ih (f s x))

theorem State.controlRestart_sheds (s : State) (cause : RestartCause) : s.Sheds (s.controlRestart cause) := .of_none (by rfl) (by rfl)

theorem State.recoveryBoot_sheds (s : State) : s.Sheds s.recoveryBoot := .of_none (by rfl) (by rfl)

theorem State.controlUe_sheds (s : State) : s.Sheds s.controlUe := by
  rcases h : s.pick 0 3 with _ | _ | k <;> simp only [State.controlUe, h] <;>
    exact .ite (fun _ => .of_none (by rfl) (by rfl)) fun _ => .of_eq ⟨Eq.refl _, Eq.refl _⟩

theorem State.contentUe_sheds (s : State) (m runner word : Nat) : s.Sheds (s.contentUe m runner word) := by
  unfold State.contentUe
  split
  case h_5 => exact s.controlUe_sheds
  case h_8 => exact .of_eq (State.mramUe_sessions ..)
  all_goals exact .of_ctl (by simp)

theorem State.ueFound_sheds (s : State) (m runner word : Nat) (injected : Bool) : s.Sheds (s.ueFound m runner word injected) :=
  .trans (t := (s.noteUe m runner word injected).contentUe m runner word) (.trans (.of_ctl (by rfl)) (State.contentUe_sheds ..)) (.of_ctl (by rfl))

theorem State.jtagSet_sheds (s : State) (i : Jtag) : s.Sheds (s.jtagSet i) := by
  simp only [State.jtagSet]
  split
  · exact .trans (t := { ({ s with jtag := i } : State).deviceReset 2 0 true with jtag := i }) (.of_none (by rfl) (by rfl)) (State.tryBoot_sheds _)
  split <;> exact .of_ctl (by rfl)

/-! What commands leave of the sessions. -/

theorem execSessionIdleTimeout_sheds {number : BitVec 16} {s t : State} (h : execSessionIdleTimeout number s = .next t) : s.Sheds t := by
  cases h
  split
  · next x _ => exact .ite (fun _ => .trans (s.endSession_sheds x 1 0 s.tickNat) (.of_eq ⟨Eq.refl _, Eq.refl _⟩)) (fun _ => .rfl)
  · exact .rfl

theorem execChallengeExpire_sheds {port : Fin 5} {s t : State} (h : execChallengeExpire port s = .next t) : s.Sheds t := by
  cases h
  exact ⟨.refl _, fun _ hc => (List.mem_filter.mp hc).1⟩

theorem execSessionsCloseAtEntry_sheds {s t : State} (h : execSessionsCloseAtEntry s = .next t) : s.Sheds t := by
  cases h
  exact .ite (fun _ => ⟨(s.endSessions_sheds ..).sessions, by simp⟩) (fun _ => .rfl)

theorem execSupplyPorAssert_sheds {i : Fin 8} {s t : State} (h : execSupplyPorAssert i s = .next t) : s.Sheds t := by
  simp only [execSupplyPorAssert, Host.Outcome.next.injEq] at h
  subst h
  refine .ite (fun _ => .of_none (by rfl) (by rfl)) fun _ => .ite (fun _ => ?_) fun _ => .ite (fun _ => .of_ctl (by simp)) fun _ => .ite (fun _ => .of_ctl (by rfl))
    fun _ => ?_
  · split <;> exact .of_ctl (by rfl)
  · split
    · exact .of_ctl (by rfl)
    · exact .of_ctl (by simp)
    · exact .of_none (by rfl) (by rfl)

theorem execSupplyPorRelease_sheds {i : Fin 8} {straps : Straps} {s t : State} (h : execSupplyPorRelease i straps s = .next t) : s.Sheds t := by
  cases h
  exact State.tryBoot_sheds_of_ctl (by simp)

theorem execJackWake_sheds {pin : Fin 4} {level : Bool} {s t : State} (h : execJackWake pin level s = .next t) : s.Sheds t := by
  cases h
  exact .ite (fun _ => .rfl) fun _ => .ite (fun _ => .trans (.of_ctl (by simp)) (State.wakeUp_sheds _ _)) fun _ => .of_ctl (by simp)

theorem State.wakeUpIf_sheds (s : State) (c : Bool) (cause : WakeCause) : s.Sheds (if c then s.wakeUp cause else s) :=
  .ite (fun _ => s.wakeUp_sheds cause) fun _ => .rfl

theorem execWatchdogExpiry_sheds {s t : State} (h : execWatchdogExpiry s = .next t) : s.Sheds t := by
  cases h
  exact .ite (fun _ => .rfl) fun _ => .ite (fun _ => .ite (fun _ => s.controlRestart_sheds _) fun _ => .rfl)
    fun _ => .ite (fun _ => .of_eq ⟨Eq.refl _, Eq.refl _⟩) fun _ => .rfl

theorem execFwCommitVerifyDone_sheds {s t : State} (h : execFwCommitVerifyDone s = .next t) : s.Sheds t := by
  cases h
  split
  · refine .ite (fun _ => .rfl) fun _ => .ite (fun _ => .of_eq (State.refuseConfig_sessions ..)) fun _ => .ite (fun _ => .of_none (by rfl) (by rfl))
      fun _ => .of_none (by rfl) (by rfl)
  · exact .rfl

theorem execScrubVisit_sheds {mem runner word : Nat} {found : Fin 4} {late : Bool} {s t : State} (h : execScrubVisit mem runner word found late s = .next t) :
    s.Sheds t := by
  simp only [execScrubVisit, Host.Outcome.next.injEq] at h
  subst h
  have noted (d : Dep) (u : State) (h : ({ s with dep := d } : State).Sheds u) : s.Sheds u :=
    .trans (t := { s with dep := d }) (.of_ctl (by rfl)) h
  refine .ite (fun _ => .ite (fun _ => .of_ctl (by simp)) fun _ => .rfl) fun _ => .ite (fun _ => .rfl) fun _ => ?_
  split
  · exact .ite (fun _ => noted _ _ (State.ueFound_sheds ..)) fun _ => .of_ctl (by rfl)
  · exact .ite (fun _ => .of_ctl (by rfl)) fun _ => .ite (fun _ => noted _ _ (State.ueFound_sheds ..)) fun _ => .of_ctl (by rfl)

theorem execControlCellReceived_sheds {x : Fin 2} {cell : LinkCell} {s t : State} (h : execControlCellReceived x cell s = .next t) : s.Sheds t := by
  cases h
  refine .ite (fun _ => .rfl) fun _ => .ite (fun _ => .of_ctl (by simp)) fun _ => .ite (fun _ => .ite (fun _ => .of_ctl (by simp)) fun _ => ?_)
    fun _ => .of_ctl (by rfl)
  exact .ite (fun _ => s.assignId_sheds ..) fun _ => .rfl

theorem execWakeFrameEnd_sheds {bits : List (Bool × Bool)} {s t : State} (h : execWakeFrameEnd bits s = .next t) : s.Sheds t := by
  simp only [execWakeFrameEnd, Host.Outcome.next.injEq] at h
  subst h
  refine State.Sheds.trans ?_ (State.stage1_sheds _)
  exact .ite (fun _ => State.foldl_sheds _ (fun _ _ => .trans (.of_ctl (by rfl)) (State.stage1_sheds _)) bits s) fun _ => .of_ctl (by rfl)

theorem execStage2Match_sheds {s t : State} (h : execStage2Match s = .next t) : s.Sheds t := by
  simp only [execStage2Match, Host.Outcome.next.injEq] at h
  subst h
  split
  · split
    · exact .trans (.of_ctl (by rfl)) (State.wakeEvent_sheds ..)
    · exact .rfl
  · exact .rfl

/-- The commands, no packet opcode among them, that leave the control memory as it is. -/
def keepsCtl : Instr → Bool
  | .tickBoundary | .paramEventApply | .sprintSample _ _ | .modeMuteEnd | .portExchange _ | .gunFire | .controlCellReceived _ _
  | .remotePacketReassembled _ _ _ | .remoteReplyReceived _ _ _ | .remoteTimeout _ | .remoteForward _ _ _ | .supplyPorAssert _
  | .supplyPorRelease _ _ | .resetNLow | .resetNRise _ | .firmwareVerify | .bootIdleReached | .autorun | .sessionsCloseAtEntry | .wakeN
  | .jackWake _ _ | .restTimer | .busWake | .exitComplete | .powerFailWarning _ | .wakeFrameEnd _ | .stage2Match | .handoverStart
  | .mailboxWrite _ _ _ | .replyPageRead _ _ _ | .packetFragmentDiscard _ | .rstartAtAck | .busError | .sclTimeout _ | .sdaTimeout _ | .spiFrameError
  | .sessionIdleTimeout _ | .challengeExpire _ | .ckXoFreqWrite _ | .ckSteerWrite _ | .cvOrderWrite _ | .spOrderWrite _ | .portMaskWrite _
  | .mtCfgWrite _ | .grRunaheadWrite _ | .grTraceWrite _ | .refParamWrite _ | .wakeParamWrite _ | .deviceRecordParamWrite _ | .bankSwapCheckDone
  | .bankSwapAct | .refillEnd | .armTick | .configSaveComplete | .fwCommitVerifyDone | .controlRestart | .restartComplete | .watchdogExpiry
  | .scrubVisit _ _ _ _ _ | .errorInject | .jtagInstruction _ | .tapReset | .consistencyCheckDone | .lockedOutEnd _ | .attnCauseRead _ => false
  | _ => true

/-- What every command but a packet opcode does to the queue and, if it is of those, to the control memory: nothing. -/
theorem exec_keeps_queue {i : Instr} {s t : State} (hi : requestOf i = none) (h : exec i s = .next t) :
    t.pending = s.pending ∧ (keepsCtl i = true → t.ctl = s.ctl) := by
  cases i with
  | tickBoundary => exact ⟨by simp only [execTickBoundary_keeps s t h], nofun⟩
  | paramEventApply => exact ⟨by simp only [execParamEventApply_keeps s t h], nofun⟩
  | nodeFiringComplete runner cycle => simp only [execNodeFiringComplete_keeps runner cycle s t h, implies_true, and_self]
  | sprintSample levels pdm => exact ⟨by simp only [execSprintSample_keeps levels pdm s t h], nofun⟩
  | sprintCrossfadeEnd cell => simp only [execSprintCrossfadeEnd_keeps cell s t h, implies_true, and_self]
  | converterBridgeParityError ch core => simp only [execConverterBridgeParityError_keeps ch core s t h, implies_true, and_self]
  | powerBridgeParityError spk => simp only [execPowerBridgeParityError_keeps spk s t h, implies_true, and_self]
  | modulatorOverload ch limit => simp only [execModulatorOverload_keeps ch limit s t h, implies_true, and_self]
  | modulatorResetEnd ch => simp only [execModulatorResetEnd_keeps ch s t h, implies_true, and_self]
  | unsettledEnd ch => simp only [execUnsettledEnd_keeps ch s t h, implies_true, and_self]
  | quickSettleConversionEnd ch => simp only [execQuickSettleConversionEnd_keeps ch s t h, implies_true, and_self]
  | measConversionEnd ms value => simp only [execMeasConversionEnd_keeps ms value s t h, implies_true, and_self]
  | inputGainZeroCrossing ch => simp only [execInputGainZeroCrossing_keeps ch s t h, implies_true, and_self]
  | inputGainZcTimeout ch => simp only [execInputGainZcTimeout_keeps ch s t h, implies_true, and_self]
  | inputMuteCurveEnd ch => simp only [execInputMuteCurveEnd_keeps ch s t h, implies_true, and_self]
  | analogSettleEnd ch => simp only [execAnalogSettleEnd_keeps ch s t h, implies_true, and_self]
  | phantomFrame => simp only [execPhantomFrame_keeps s t h, implies_true, and_self]
  | phantomRampEnd ch => simp only [execPhantomRampEnd_keeps ch s t h, implies_true, and_self]
  | phantomDischargeEnd ch => simp only [execPhantomDischargeEnd_keeps ch s t h, implies_true, and_self]
  | inputJackPinChange pin level => simp only [execInputJackPinChange_keeps pin level s t h, implies_true, and_self]
  | inputJackDebounceEnd pin => simp only [execInputJackDebounceEnd_keeps pin s t h, implies_true, and_self]
  | insertSettleEnd pin => simp only [execInsertSettleEnd_keeps pin s t h, implies_true, and_self]
  | routeCrossfadeEnd index => simp only [execRouteCrossfadeEnd_keeps index s t h, implies_true, and_self]
  | routeGainZeroCrossing index => simp only [execRouteGainZeroCrossing_keeps index s t h, implies_true, and_self]
  | routeGainZcTimeout index => simp only [execRouteGainZcTimeout_keeps index s t h, implies_true, and_self]
  | gainRampEnd index => simp only [execGainRampEnd_keeps index s t h, implies_true, and_self]
  | busScaleRampEnd index => simp only [execBusScaleRampEnd_keeps index s t h, implies_true, and_self]
  | hpfCrossfadeEnd index => simp only [execHpfCrossfadeEnd_keeps index s t h, implies_true, and_self]
  | meterUpdate => simp only [execMeterUpdate_keeps s t h, implies_true, and_self]
  | outputCurveEnd o => simp only [execOutputCurveEnd_keeps o s t h, implies_true, and_self]
  | cmBiasRampEnd => simp only [execCmBiasRampEnd_keeps s t h, implies_true, and_self]
  | lineBufferConnect l => simp only [execLineBufferConnect_keeps l s t h, implies_true, and_self]
  | lineOffsetCalEnd l => simp only [execLineOffsetCalEnd_keeps l s t h, implies_true, and_self]
  | chargePumpReady => simp only [execChargePumpReady_keeps s t h, implies_true, and_self]
  | chargePumpStartTimeout => simp only [execChargePumpStartTimeout_keeps s t h, implies_true, and_self]
  | chargePumpRetry => simp only [execChargePumpRetry_keeps s t h, implies_true, and_self]
  | chargePumpIdleStop => simp only [execChargePumpIdleStop_keeps s t h, implies_true, and_self]
  | hpOvercurrent n => simp only [execHpOvercurrent_keeps n s t h, implies_true, and_self]
  | hpOcRemeasure n => simp only [execHpOcRemeasure_keeps n s t h, implies_true, and_self]
  | hpJackPinChange pin level => simp only [execHpJackPinChange_keeps pin level s t h, implies_true, and_self]
  | hpJackDebounceEnd pin => simp only [execHpJackDebounceEnd_keeps pin s t h, implies_true, and_self]
  | hpTestCurrentUp n => simp only [execHpTestCurrentUp_keeps n s t h, implies_true, and_self]
  | hpTestCurrentDown n => simp only [execHpTestCurrentDown_keeps n s t h, implies_true, and_self]
  | hpGlitchTimeout pin => simp only [execHpGlitchTimeout_keeps pin s t h, implies_true, and_self]
  | spkPrechargeEnd spk => simp only [execSpkPrechargeEnd_keeps spk s t h, implies_true, and_self]
  | spkOvercurrent spk => simp only [execSpkOvercurrent_keeps spk s t h, implies_true, and_self]
  | spkDcTrip spk => simp only [execSpkDcTrip_keeps spk s t h, implies_true, and_self]
  | spkUndervoltage => simp only [execSpkUndervoltage_keeps s t h, implies_true, and_self]
  | spkOvervoltage => simp only [execSpkOvervoltage_keeps s t h, implies_true, and_self]
  | spkThermalTrip => simp only [execSpkThermalTrip_keeps s t h, implies_true, and_self]
  | spkRetry spk => simp only [execSpkRetry_keeps spk s t h, implies_true, and_self]
  | vspkDecouplingConnect => simp only [execVspkDecouplingConnect_keeps s t h, implies_true, and_self]
  | modeMuteEnd => exact ⟨by simp only [execModeMuteEnd_keeps s t h], nofun⟩
  | lastLapSpeakerStop => simp only [execLastLapSpeakerStop_keeps s t h, implies_true, and_self]
  | lastLapClear => simp only [execLastLapClear_keeps s t h, implies_true, and_self]
  | gbyHealthLoss g => simp only [execGbyHealthLoss_keeps g s t h, implies_true, and_self]
  | gbyPremuteEnd g => simp only [execGbyPremuteEnd_keeps g s t h, implies_true, and_self]
  | gbyRestore g => simp only [execGbyRestore_keeps g s t h, implies_true, and_self]
  | gbySettleEnd g => simp only [execGbySettleEnd_keeps g s t h, implies_true, and_self]
  | portFrameStart p frame => simp only [execPortFrameStart_keeps p frame s t h, implies_true, and_self]
  | portExchange p => exact ⟨by simp only [execPortExchange_keeps p s t h], nofun⟩
  | portStopped p => simp only [execPortStopped_keeps p s t h, implies_true, and_self]
  | rateReport => simp only [execRateReport_keeps s t h, implies_true, and_self]
  | asrcLock p => simp only [execAsrcLock_keeps p s t h, implies_true, and_self]
  | gunFire => exact ⟨by simp only [execGunFire_keeps s t h], nofun⟩
  | startNEdge => simp only [execStartNEdge_keeps s t h, implies_true, and_self]
  | maskTakeEffect p => simp only [execMaskTakeEffect_keeps p s t h, implies_true, and_self]
  | linkSignalDetect x present => simp only [execLinkSignalDetect_keeps x present s t h, implies_true, and_self]
  | linkFrameLock x => simp only [execLinkFrameLock_keeps x s t h, implies_true, and_self]
  | linkTrainingDone x info => simp only [execLinkTrainingDone_keeps x info s t h, implies_true, and_self]
  | linkJoinAlign join => simp only [execLinkJoinAlign_keeps join s t h, implies_true, and_self]
  | linkFrameReceived x frame time => simp only [execLinkFrameReceived_keeps x frame time s t h, implies_true, and_self]
  | linkFrameLaunch x => simp only [execLinkFrameLaunch_keeps x s t h, implies_true, and_self]
  | linkRetime x => simp only [execLinkRetime_keeps x s t h, implies_true, and_self]
  | linkBreak x => simp only [execLinkBreak_keeps x s t h, implies_true, and_self]
  | linkAnnouncement => simp only [execLinkAnnouncement_keeps s t h, implies_true, and_self]
  | announcementReceived x ann => simp only [execAnnouncementReceived_keeps x ann s t h, implies_true, and_self]
  | announcementDrop id => simp only [execAnnouncementDrop_keeps id s t h, implies_true, and_self]
  | ringFormation => simp only [execRingFormation_keeps s t h, implies_true, and_self]
  | linkRepairReturn x => simp only [execLinkRepairReturn_keeps x s t h, implies_true, and_self]
  | linkAlignedChange gained => simp only [execLinkAlignedChange_keeps gained s t h, implies_true, and_self]
  | linkOffsetChange => simp only [execLinkOffsetChange_keeps s t h, implies_true, and_self]
  | controlCellReceived x cell => exact ⟨by simp only [execControlCellReceived_keeps x cell s t h], nofun⟩
  | remotePacketReassembled x src seq => exact ⟨by simp only [execRemotePacketReassembled_keeps x src seq s t h], nofun⟩
  | remoteReplyReceived x src seq => exact ⟨by simp only [execRemoteReplyReceived_keeps x src seq s t h], nofun⟩
  | remoteTimeout seq => exact ⟨by simp only [execRemoteTimeout_keeps seq s t h], nofun⟩
  | remoteForward q target opcode => exact ⟨by simp only [execRemoteForward_keeps q target opcode s t h], nofun⟩
  | xoLoss => simp only [execXoLoss_keeps s t h, implies_true, and_self]
  | xoRecover => simp only [execXoRecover_keeps s t h, implies_true, and_self]
  | analogLockSet => simp only [execAnalogLockSet_keeps s t h, implies_true, and_self]
  | lockDeclare errs => simp only [execLockDeclare_keeps errs s t h, implies_true, and_self]
  | lockLoss errs => simp only [execLockLoss_keeps errs s t h, implies_true, and_self]
  | steerSlewStart => simp only [execSteerSlewStart_keeps s t h, implies_true, and_self]
  | steerSlewEnd => simp only [execSteerSlewEnd_keeps s t h, implies_true, and_self]
  | clockOutputGate o => simp only [execClockOutputGate_keeps o s t h, implies_true, and_self]
  | clockOutputResume o => simp only [execClockOutputResume_keeps o s t h, implies_true, and_self]
  | refBeatMissed src => simp only [execRefBeatMissed_keeps src s t h, implies_true, and_self]
  | refSignalSeen src => simp only [execRefSignalSeen_keeps src s t h, implies_true, and_self]
  | refFreqReport src ppb => simp only [execRefFreqReport_keeps src ppb s t h, implies_true, and_self]
  | acceptTimeEnd src => simp only [execAcceptTimeEnd_keeps src s t h, implies_true, and_self]
  | wtrEnd src => simp only [execWtrEnd_keeps src s t h, implies_true, and_self]
  | handoffMeasureDone beats pulse => simp only [execHandoffMeasureDone_keeps beats pulse s t h, implies_true, and_self]
  | handoffCapture => simp only [execHandoffCapture_keeps s t h, implies_true, and_self]
  | holdoverHistoryRecord => simp only [execHoldoverHistoryRecord_keeps s t h, implies_true, and_self]
  | holdoverExpire => simp only [execHoldoverExpire_keeps s t h, implies_true, and_self]
  | forceAct => simp only [execForceAct_keeps s t h, implies_true, and_self]
  | supplyPorAssert supply => exact ⟨by simp only [execSupplyPorAssert_keeps supply s t h], nofun⟩
  | supplyPorRelease supply straps => exact ⟨by simp only [execSupplyPorRelease_keeps supply straps s t h], nofun⟩
  | resetNLow => exact ⟨by simp only [execResetNLow_keeps s t h], nofun⟩
  | resetNRise straps => exact ⟨by simp only [execResetNRise_keeps straps s t h], nofun⟩
  | firmwareVerify => exact ⟨by simp only [execFirmwareVerify_keeps s t h], nofun⟩
  | bootIdleReached => exact ⟨by simp only [execBootIdleReached_keeps s t h], nofun⟩
  | autorun => exact ⟨by simp only [execAutorun_keeps s t h], nofun⟩
  | biasRampDownEnd => simp only [execBiasRampDownEnd_keeps s t h, implies_true, and_self]
  | sessionsCloseAtEntry => exact ⟨by simp only [execSessionsCloseAtEntry_keeps s t h], nofun⟩
  | rootStop => simp only [execRootStop_keeps s t h, implies_true, and_self]
  | wakeN => exact ⟨by simp only [execWakeN_keeps s t h], nofun⟩
  | jackWake pin level => exact ⟨by simp only [execJackWake_keeps pin level s t h], nofun⟩
  | restTimer => exact ⟨by simp only [execRestTimer_keeps s t h], nofun⟩
  | busWake => exact ⟨by simp only [execBusWake_keeps s t h], nofun⟩
  | exitComplete => exact ⟨by simp only [execExitComplete_keeps s t h], nofun⟩
  | powerFailWarning dip => exact ⟨by simp only [execPowerFailWarning_keeps dip s t h], nofun⟩
  | powerFailClear => simp only [execPowerFailClear_keeps s t h, implies_true, and_self]
  | mramWriteResume => simp only [execMramWriteResume_keeps s t h, implies_true, and_self]
  | pdmClockSwitch c => simp only [execPdmClockSwitch_keeps c s t h, implies_true, and_self]
  | pdmClkSettleEnd c => simp only [execPdmClkSettleEnd_keeps c s t h, implies_true, and_self]
  | wakeFrameEnd bits => exact ⟨by simp only [execWakeFrameEnd_keeps bits s t h], nofun⟩
  | stage2Match => exact ⟨by simp only [execStage2Match_keeps s t h], nofun⟩
  | stage2End => simp only [execStage2End_keeps s t h, implies_true, and_self]
  | handoverStart => exact ⟨by simp only [execHandoverStart_keeps s t h], nofun⟩
  | handoverCaughtUp => simp only [execHandoverCaughtUp_keeps s t h, implies_true, and_self]
  | mailboxWrite twi head bytes => exact ⟨by simp only [execMailboxWrite_keeps twi head bytes s t h], nofun⟩
  | replyPageRead twi head len => exact ⟨by simp only [execReplyPageRead_keeps twi head len s t h], nofun⟩
  | packetFragmentDiscard twi => exact ⟨by simp only [execPacketFragmentDiscard_keeps twi s t h], nofun⟩
  | rstartAtAck => exact ⟨by simp only [execRstartAtAck_keeps s t h], nofun⟩
  | busError => exact ⟨by simp only [execBusError_keeps s t h], nofun⟩
  | sclTimeout held => exact ⟨by simp only [execSclTimeout_keeps held s t h], nofun⟩
  | sdaTimeout held => exact ⟨by simp only [execSdaTimeout_keeps held s t h], nofun⟩
  | spiFrameError => exact ⟨by simp only [execSpiFrameError_keeps s t h], nofun⟩
  | inbandPulse => simp only [execInbandPulse_keeps s t h, implies_true, and_self]
  | inbandPulseAbort => simp only [execInbandPulseAbort_keeps s t h, implies_true, and_self]
  | sessionIdleTimeout number => exact ⟨by simp only [execSessionIdleTimeout_keeps number s t h], nofun⟩
  | challengeExpire port => exact ⟨by simp only [execChallengeExpire_keeps port s t h], nofun⟩
  | ledgerMirror => simp only [execLedgerMirror_keeps s t h, implies_true, and_self]
  | ckXoFreqWrite q => exact ⟨by simp only [execCkXoFreqWrite_keeps q s t h], nofun⟩
  | ckSteerWrite q => exact ⟨by simp only [execCkSteerWrite_keeps q s t h], nofun⟩
  | cvOrderWrite q => exact ⟨by simp only [execCvOrderWrite_keeps q s t h], nofun⟩
  | spOrderWrite q => exact ⟨by simp only [execSpOrderWrite_keeps q s t h], nofun⟩
  | portMaskWrite q => exact ⟨by simp only [execPortMaskWrite_keeps q s t h], nofun⟩
  | mtCfgWrite q => exact ⟨by simp only [execMtCfgWrite_keeps q s t h], nofun⟩
  | grRunaheadWrite q => exact ⟨by simp only [execGrRunaheadWrite_keeps q s t h], nofun⟩
  | grTraceWrite q => exact ⟨by simp only [execGrTraceWrite_keeps q s t h], nofun⟩
  | refParamWrite q => exact ⟨by simp only [execRefParamWrite_keeps q s t h], nofun⟩
  | wakeParamWrite q => exact ⟨by simp only [execWakeParamWrite_keeps q s t h], nofun⟩
  | deviceRecordParamWrite q => exact ⟨by simp only [execDeviceRecordParamWrite_keeps q s t h], nofun⟩
  | bankSwapCheckDone => exact ⟨by simp only [execBankSwapCheckDone_keeps s t h], nofun⟩
  | bankSwapAct => exact ⟨by simp only [execBankSwapAct_keeps s t h], nofun⟩
  | refillEnd => exact ⟨by simp only [execRefillEnd_keeps s t h], nofun⟩
  | armTick => exact ⟨by simp only [execArmTick_keeps s t h], nofun⟩
  | configSaveComplete => exact ⟨by simp only [execConfigSaveComplete_keeps s t h], nofun⟩
  | fwCommitVerifyDone => exact ⟨by simp only [execFwCommitVerifyDone_keeps s t h], nofun⟩
  | controlRestart => exact ⟨by simp only [execControlRestart_keeps s t h], nofun⟩
  | restartComplete => exact ⟨by simp only [execRestartComplete_keeps s t h], nofun⟩
  | watchdogExpiry => exact ⟨by simp only [execWatchdogExpiry_keeps s t h], nofun⟩
  | scrubVisit mem runner word found late => exact ⟨by simp only [execScrubVisit_keeps mem runner word found late s t h], nofun⟩
  | bankWordRestore active kind index => simp only [execBankWordRestore_keeps active kind index s t h, implies_true, and_self]
  | errorInject => exact ⟨by simp only [execErrorInject_keeps s t h], nofun⟩
  | histogramSample => simp only [execHistogramSample_keeps s t h, implies_true, and_self]
  | logCommit => simp only [execLogCommit_keeps s t h, implies_true, and_self]
  | jtagInstruction code => exact ⟨by simp only [execJtagInstruction_keeps code s t h], nofun⟩
  | tapReset => exact ⟨by simp only [execTapReset_keeps s t h], nofun⟩
  | consistencyCheckDone => exact ⟨by simp only [execConsistencyCheckDone_keeps s t h], nofun⟩
  | hpDriverConnect n => simp only [execHpDriverConnect_keeps n s t h, implies_true, and_self]
  | lockedOutEnd port => exact ⟨by simp only [execLockedOutEnd_keeps port s t h], nofun⟩
  | frameLockLoss x => simp only [execFrameLockLoss_keeps x s t h, implies_true, and_self]
  | attnCauseRead twi => exact ⟨by simp only [execAttnCauseRead_keeps twi s t h], nofun⟩
  | _ => cases hi

theorem execTickBoundary_exclusive {s t : State} (he : s.Exclusive) (h : execTickBoundary s = .next t) : t.Exclusive := by
  have hserved : s.settle.serveAll.Exclusive := State.serve_exclusive _ (he.of_eq s.settle_sessions)
  simp only [execTickBoundary, Host.Outcome.next.injEq] at h
  subst h
  split
  · exact State.Exclusive.of_eq (s := s.serveAll) (State.serve_exclusive _ he) (by simp)
  split
  · refine hserved.of_eq ?_
    rw [(State.openIfReady_sessions _).1, (State.openIfReady_sessions _).2]
    split <;> simp
  · exact he

theorem execRemoteForward_exclusive {q : Req} {target : Fin 1024} {op : BitVec 15} {s t : State} (he : s.Exclusive)
    (h : execRemoteForward q target op s = .next t) : t.Exclusive := by
  cases h
  split
  · exact State.enter_exclusive he (fun h => State.forwardJudged_exclusive h ..) ..
  · exact he

/-- The commands that are no packet opcode and execute packets: what waits at a boundary, a remote packet, and the writes that a row of the table of R397
names. -/
def servesPackets : Instr → Bool
  | .tickBoundary | .remoteForward _ _ _ | .ckXoFreqWrite _ | .ckSteerWrite _ | .cvOrderWrite _ | .spOrderWrite _ | .portMaskWrite _ | .mtCfgWrite _
  | .grRunaheadWrite _ | .grTraceWrite _ | .refParamWrite _ | .wakeParamWrite _ | .deviceRecordParamWrite _ => true
  | _ => false

theorem exec_serves_exclusive {i : Instr} {s t : State} (he : s.Exclusive) (hi : servesPackets i = true) (h : exec i s = .next t) : t.Exclusive := by
  cases i with
  | tickBoundary => exact execTickBoundary_exclusive he h
  | remoteForward q target op => exact execRemoteForward_exclusive he h
  | ckXoFreqWrite q => cases h; exact State.writeOf_exclusive he _ q
  | ckSteerWrite q => cases h; exact State.writeOf_exclusive he _ q
  | cvOrderWrite q => cases h; exact State.writeOf_exclusive he _ q
  | spOrderWrite q => cases h; exact State.writeOf_exclusive he _ q
  | portMaskWrite q => cases h; exact State.writeOf_exclusive he _ q
  | mtCfgWrite q => cases h; exact State.writeOf_exclusive he _ q
  | grRunaheadWrite q => cases h; exact State.writeOf_exclusive he _ q
  | grTraceWrite q => cases h; exact State.writeOf_exclusive he _ q
  | refParamWrite q => cases h; exact State.writeOf_exclusive he _ q
  | wakeParamWrite q => cases h; exact State.writeOf_exclusive he _ q
  | deviceRecordParamWrite q => cases h; exact State.writeOf_exclusive he _ q
  | _ => cases hi

/-- The acts of a boundary and the opening of a tick touch no session. -/
theorem State.actThenOpen_sheds {s u : State} (c : Bool) (h : u.ctl.sessions = s.ctl.sessions ∧ u.ctl.challenges = s.ctl.challenges) :
    s.Sheds (if c then s else u.openIfReady) :=
  .ite (fun _ => .rfl) fun _ => (State.Sheds.of_eq h).trans (.of_eq u.openIfReady_sessions)

theorem execSprintSample_sheds {levels : List (List Int)} {pdm : List Bool} {s t : State} (h : execSprintSample levels pdm s = .next t) : s.Sheds t := by
  cases h
  exact .ite (fun _ => (State.Sheds.of_eq s.settle_sessions).trans (.ite (fun _ => .of_ctl (by simp)) fun _ => .of_ctl (by rfl))) fun _ => .rfl

theorem execReplyPageRead_sheds {twi : Bool} {head : Option ReadHead} {len : Nat} {s t : State} (h : execReplyPageRead twi head len s = .next t) :
    s.Sheds t := by
  cases h
  refine .ite (fun _ => .rfl) fun _ => ?_
  split
  · exact .of_eq (by simp)
  · exact .ite (fun _ => .of_eq (by simp)) fun _ => .rfl

theorem execMailboxWrite_sheds {twi : Bool} {head : Option (List Byte)} {bytes : List Byte} {s t : State}
    (h : execMailboxWrite twi head bytes s = .next t) : s.Sheds t := by
  cases h
  refine .ite (fun _ => .rfl) fun _ => ?_
  split
  · exact .of_eq (by simp)
  · exact .ite (fun _ => .of_eq (by simp)) fun _ => .rfl

theorem execConsistencyCheckDone_sheds {s t : State} (h : execConsistencyCheckDone s = .next t) : s.Sheds t := by
  simp only [execConsistencyCheckDone, Host.Outcome.next.injEq] at h
  subst h
  cases hcheck : s.cfg.check with
  | none =>
    repeat' split
    all_goals exact .of_eq (by simp)
  | some p =>
    repeat' split
    all_goals exact .of_eq (by simp)

/-- Under every other command sessions and challenges only end. -/
theorem exec_sheds {i : Instr} {s t : State} (hi : (keepsCtl i || servesPackets i) = false) (h : exec i s = .next t) : s.Sheds t := by
  cases i with
  | sessionIdleTimeout number => exact execSessionIdleTimeout_sheds h
  | challengeExpire port => exact execChallengeExpire_sheds h
  | sessionsCloseAtEntry => exact execSessionsCloseAtEntry_sheds h
  | supplyPorAssert supply => exact execSupplyPorAssert_sheds h
  | supplyPorRelease supply straps => exact execSupplyPorRelease_sheds h
  | resetNLow => cases h; exact .of_none (by rfl) (by rfl)
  | resetNRise straps => cases h; exact State.tryBoot_sheds_of_ctl (by rfl)
  | jtagInstruction code => cases h; exact s.jtagSet_sheds _
  | tapReset => cases h; exact s.jtagSet_sheds _
  | wakeN => cases h; exact s.wakeUpIf_sheds _ _
  | restTimer => cases h; exact s.wakeUpIf_sheds _ _
  | busWake => cases h; exact s.wakeUpIf_sheds _ _
  | jackWake pin level => exact execJackWake_sheds h
  | wakeFrameEnd bits => exact execWakeFrameEnd_sheds h
  | stage2Match => exact execStage2Match_sheds h
  | controlRestart => cases h; exact .ite (fun _ => s.controlRestart_sheds _) fun _ => .rfl
  | watchdogExpiry => exact execWatchdogExpiry_sheds h
  | fwCommitVerifyDone => exact execFwCommitVerifyDone_sheds h
  | scrubVisit mem runner word found late => exact execScrubVisit_sheds h
  | controlCellReceived x cell => exact execControlCellReceived_sheds h
  | consistencyCheckDone => exact execConsistencyCheckDone_sheds h
  | sprintSample levels pdm => exact execSprintSample_sheds h
  | mailboxWrite twi head bytes => exact execMailboxWrite_sheds h
  | replyPageRead twi head len => exact execReplyPageRead_sheds h
  | attnCauseRead twi => exact execReplyPageRead_sheds (twi := twi) (head := some (s.readHead twi 0x0011)) (len := 4) h
  | paramEventApply =>
    cases h
    exact (State.Sheds.ite (fun _ => .rfl) fun _ => .of_eq s.armedAct_sessions).trans (.of_ctl (by rfl))
  | bankSwapAct => cases h; exact State.actThenOpen_sheds _ (by simp)
  | armTick => cases h; exact State.actThenOpen_sheds _ (by simp)
  | gunFire => cases h; exact State.actThenOpen_sheds _ (by simp)
  | portExchange p => cases h; exact State.actThenOpen_sheds _ (by simp)
  | handoverStart => cases h; exact State.actThenOpen_sheds _ (by simp)
  | errorInject => cases h; exact State.actThenOpen_sheds _ (by simp)
  | lockedOutEnd port => cases h; exact .of_eq ⟨Eq.refl _, Eq.refl _⟩
  | packetFragmentDiscard twi => cases h; exact .ite (fun _ => .of_eq (s.stops_sessions twi)) fun _ => .rfl
  | sclTimeout held => cases h; exact .of_eq (s.busTimeout_sessions ..)
  | sdaTimeout held => cases h; exact .of_eq (s.busTimeout_sessions ..)
  | bootIdleReached => cases h; exact .of_eq s.bootIdle_sessions
  | modeMuteEnd =>
    cases h
    repeat' split
    all_goals exact .of_eq (by simp)
  | remotePacketReassembled x src seq =>
    cases h
    repeat' split
    all_goals exact .of_eq (by simp)
  | remoteReplyReceived x src seq =>
    cases h
    repeat' split
    all_goals exact .of_eq (by simp)
  | remoteTimeout seq =>
    cases h
    repeat' split
    all_goals exact .of_eq (by simp)
  | firmwareVerify =>
    cases h
    repeat' split
    all_goals exact .of_eq (by simp)
  | autorun =>
    cases h
    repeat' split
    all_goals exact .of_eq (by simp)
  | exitComplete =>
    cases h
    repeat' split
    all_goals exact .of_eq (by simp)
  | powerFailWarning dip =>
    cases h
    repeat' split
    all_goals exact .of_eq (by simp)
  | rstartAtAck =>
    cases h
    repeat' split
    all_goals exact .of_eq (by simp)
  | busError =>
    cases h
    repeat' split
    all_goals exact .of_eq (by simp)
  | spiFrameError =>
    cases h
    repeat' split
    all_goals exact .of_eq (by simp)
  | bankSwapCheckDone =>
    cases h
    repeat' split
    all_goals exact .of_eq (by simp)
  | refillEnd =>
    cases h
    repeat' split
    all_goals exact .of_eq (by simp)
  | configSaveComplete =>
    cases h
    repeat' split
    all_goals exact .of_eq (by simp)
  | restartComplete =>
    cases h
    repeat' split
    all_goals exact .of_eq (by simp)
  | _ => cases hi

/-- Every command keeps the rule: the packet opcodes and what executes packets by how packets are judged, the others because sessions only end. -/
theorem exec_exclusive {i : Instr} {s t : State} (he : s.Exclusive) (h : exec i s = .next t) : t.Exclusive := by
  cases hrequest : requestOf i with
  | some r =>
    rw [exec_dispatch i r.1 r.2 s hrequest] at h
    cases h
    exact State.request_exclusive he State.dispatch_exclusive r.1 r.2
  | none =>
    cases hkeeps : keepsCtl i with
    | true => exact he.sheds (.of_ctl ((exec_keeps_queue hrequest h).2 hkeeps))
    | false =>
      cases hserves : servesPackets i with
      | true => exact exec_serves_exclusive he hserves h
      | false => exact he.sheds (exec_sheds (by rw [hkeeps, hserves]; rfl) h)

/-! Steps. -/

theorem step_nil {s : State} (h : s.pending = []) : step s = .next s := by simp [step, h]

theorem step_cons {s : State} {c : Instr} {rest : List Instr} (h : s.pending = c :: rest) : step s = exec c (s.withPending rest) := by simp [step, h]

/-- Settles O58: an empty queue changes nothing, and the command at the front keeps the rule. -/
theorem sessionsStayExclusive : Obligations.SessionsStayExclusive := by
  intro s t he h
  cases hpending : s.pending with
  | nil =>
    rw [step_nil hpending] at h
    cases h
    exact he
  | cons c rest =>
    rw [step_cons hpending] at h
    exact exec_exclusive (he.of_eq (by simp)) h

/-- No command is refused. -/
theorem exec_completes (i : Instr) (s : State) : ∃ t, exec i s = .next t := by
  unfold exec
  split <;> exact ⟨_, rfl⟩

theorem exec_keeps_pending {i : Instr} {s t : State} (h : exec i s = .next t) : t.pending = s.pending := by
  cases hrequest : requestOf i with
  | some r =>
    rw [exec_dispatch i r.1 r.2 s hrequest] at h
    cases h
    exact (s.request_keeps r.1 State.dispatch r.2 State.dispatch_keeps).2.2
  | none => exact (exec_keeps_queue hrequest h).1

/-- Settles O56: a step is the front command's effect, and every command ends in a state with the queue as it was. -/
theorem stepRunsTheFrontCommand : Obligations.StepRunsTheFrontCommand := by
  have completes (s : State) (c : Instr) : ∃ t, exec c s = .next t ∧ t.pending = s.pending :=
    (exec_completes c s).imp fun _ h => ⟨h, exec_keeps_pending h⟩
  refine ⟨fun s c rest => step_cons, fun s => step_nil, completes, fun s c rest h => ?_⟩
  rw [step_cons h]
  exact completes (s.withPending rest) c

/-- Every default fits 64 bits. -/
theorem paramDefault_lt (id : Nat) : paramDefault id < 2 ^ 64 := by
  have hrows : ∀ r ∈ paramIndex, r.default + r.step * r.count < 2 ^ 64 := by decide +kernel
  unfold paramDefault
  split
  · next r hr =>
    have hid : r.first ≤ id ∧ id < r.first + r.count := by simpa using List.find?_some hr
    have hstep : r.step * (id - r.first) ≤ r.step * r.count := Nat.mul_le_mul_left _ (by omega)
    have := hrows r (List.mem_of_find?_eq_some hr)
    omega
  · decide

theorem pGet_nil (id : Nat) : pGet [] id = paramDefault id := by
  simp only [pGet, tabGet, pDefault, BitVec.toNat_ofNat, Nat.mod_eq_of_lt (paramDefault_lt id)]

/-- Settles O57: the state is written out, and a parameter that no table lists reads its default. -/
theorem resetHoldsWhatTheManualGives : Obligations.ResetHoldsWhatTheManualGives :=
  ⟨rfl, rfl, rfl, rfl, rfl, rfl, rfl, rfl, rfl, rfl, rfl, rfl, fun id => ⟨pGet_nil id, pGet_nil id, pGet_nil id, pGet_nil id⟩, fun _ => rfl, .nil, nofun⟩

end Sys2Proof.Machine
end

section
/-! SUPPORT. The inputs and the conversions (chapters 2 and 3): what each timed command does at its end and before it. -/
namespace Sys2Proof.Machine

-- One proof after another: a check of the whole text in one process stays within its memory.
set_option Elab.async false

/-- Nothing changes but the inputs' component. -/
theorem Frame.inp (s : State) (x : Inputs) : Frame [.inp] s { s with inp := x } := by
  intro p hp
  cases p with
  | inp => simp at hp
  | _ => rfl

/-- An input's update is the updated input in its place. -/
theorem State.modIn_eq_putIn (s : State) (n : Nat) (f : InputCh → InputCh) : s.modIn n f = s.putIn n (f (s.inCh n)) := rfl

@[simp] theorem zeroCrossed_iff (p n : Int) : zeroCrossed p n = true ↔ n = 0 ∨ (p < 0 ∧ 0 < n) ∨ (0 < p ∧ n < 0) := by
  simp [zeroCrossed, or_assoc]

/-- A gain put in force in the tick itself (R45, R46). -/
theorem InputCh.setGain_same (c : InputCh) (s : State) (n a t : Nat) (h : c.aStep = a) : c.setGain s n a t = { c with trim := t, wait := none } := by
  simp [InputCh.setGain, h]

theorem InputCh.setGain_other (c : InputCh) (s : State) (n a t : Nat) (h : c.aStep ≠ a) :
    c.setGain s n a t = { c with aStep := a, trim := t, wait := none, unsettledTo := max c.unsettledTo (s.clock.now + s.inSettle n),
                                 disturbedAt := some (max s.clock.now (c.disturbedAt.getD 0)) } := by
  simp [InputCh.setGain, h, InputCh.disturb, b2n]

/-- Settles O1: the crossing and the deadline decide whether the waiting gain is made, and `setGain` says how. -/
theorem inputGainIsMadeAtCrossingOrTimeout : Obligations.InputGainIsMadeAtCrossingOrTimeout := by
  intro s ch w c hc hw
  have hcross : exec (.inputGainZeroCrossing ch) s = .next (s.putIn ch.val (if zeroCrossed (tabGet (fun _ => ({} : AdcCh)) s.conv.adc ch.val).cicPrev
      (tabGet (fun _ => ({} : AdcCh)) s.conv.adc ch.val).cicNow then c.setGain s ch.val w.aStep w.trim else c)) := by
    simp only [exec, execInputGainZeroCrossing, State.modIn_eq_putIn, hc, hw]
  have htimeout : exec (.inputGainZcTimeout ch) s = .next (s.putIn ch.val (if w.deadline ≤ s.clock.now then c.setGain s ch.val w.aStep w.trim else c)) := by
    simp only [exec, execInputGainZcTimeout, State.modIn_eq_putIn, hc, hw]
  simp only [hcross, htimeout, zeroCrossed_iff]
  refine ⟨fun h he => ?_, fun h he => ?_, fun h => ?_, fun h he => ?_, fun h he => ?_, fun h => ?_⟩
  · rw [if_pos h, c.setGain_same s _ _ _ he]
  · rw [if_pos h, c.setGain_other s _ _ _ he]
  · rw [if_neg h]
  · rw [if_pos h, c.setGain_same s _ _ _ he]
  · rw [if_pos h, c.setGain_other s _ _ _ he]
  · rw [if_neg (Nat.not_le.2 h)]

theorem MutePoint.over_of_some {m : MutePoint} {v : Curve} (h : m.curve = some v) (k : Nat) : m.over k = decide (v.start + v.len ≤ k) := by
  simp [MutePoint.over, h]

theorem MutePoint.over_eq_false {m : MutePoint} {k : Nat} (h : ∀ v, m.curve = some v → k < v.start + v.len) : m.over k = false := by
  cases hc : m.curve with
  | none => simp [MutePoint.over, hc]
  | some v => simp [MutePoint.over, hc, h v hc]

theorem MutePoint.settle_of_some {m : MutePoint} {v : Curve} (h : m.curve = some v) : m.settle = { gain := if v.rising then 2 ^ 32 else 0, curve := none } := by
  simp [MutePoint.settle, h, unity]

theorem InputCh.setGain_seqStep (c : InputCh) (s : State) (n a t : Nat) (b : Bool) : (c.setGain s n a t b).seqStep = c.seqStep := by
  unfold InputCh.setGain InputCh.disturb
  split <;> rfl

/-- A cause that has cleared beside another one leaves the mute as it is (R44). -/
theorem InputCh.unmuteFor_caused (c : InputCh) (s : State) (n : Nat) (h : c.caused = true) :
    c.unmuteFor s n = { c with clearLen := if c.clearAt = s.clock.now then max c.clearLen n else n, clearAt := s.clock.now } := by
  unfold InputCh.unmuteFor
  exact if_pos h

/-- The last cause that has cleared unmutes over 2 ms (R44). -/
theorem InputCh.unmuteFor_clear (c : InputCh) (s : State) (h : c.caused = false) :
    c.unmuteFor s 192 = { c with
      clearLen := if c.clearAt = s.clock.now then max c.clearLen 192 else 192, clearAt := s.clock.now, seqUnmute := true
      mute := { c.mute with curve := some { rising := true, g0 := c.mute.value (s.samp - 1), start := s.samp, len := 128 * (if c.clearAt = s.clock.now then max c.clearLen 192 else 192) } } } := by
  unfold InputCh.unmuteFor
  refine (if_neg (by simp only [InputCh.caused] at h ⊢; simp [h])).trans ?_
  simp [MutePoint.rise, MutePoint.reached]

/-- The end of an input's mute curve, by what it leaves. -/
theorem exec_inputMuteCurveEnd_fell (s : State) (ch : Fin 16) (c : InputCh) (v : Curve) (hc : s.inCh ch.val = c) (hv : c.mute.curve = some v)
    (hover : v.start + v.len ≤ s.samp) (hfall : v.rising = false) :
    let z : InputCh := { c with mute := { gain := 0, curve := none } }
    let g := match c.wait with | some w => z.setGain s ch.val w.aStep w.trim | none => z
    exec (.inputMuteCurveEnd ch) s = .next (s.putIn ch.val (if c.seqStep = 1 then g.advance s ch.val else g)) := by
  intro z g
  have hg : g.seqStep = c.seqStep := by
    cases hw : c.wait with
    | none => simp [g, z, hw]
    | some w => simp [g, z, hw, InputCh.setGain_seqStep]
  have hrun : exec (.inputMuteCurveEnd ch) s = .next (s.putIn ch.val (if g.seqStep = 1 then g.advance s ch.val else g)) := by
    simp only [exec, execInputMuteCurveEnd, State.modIn_eq_putIn, hc, MutePoint.over_of_some hv, hover, decide_true, if_true, MutePoint.settle_of_some hv, hfall]
    cases hw : c.wait <;> simp [g, z, hw, MutePoint.atZero]
  rw [hrun, hg]

theorem exec_inputMuteCurveEnd_rose (s : State) (ch : Fin 16) (c : InputCh) (v : Curve) (hc : s.inCh ch.val = c) (hv : c.mute.curve = some v)
    (hover : v.start + v.len ≤ s.samp) (hrise : v.rising = true) :
    exec (.inputMuteCurveEnd ch) s = .next (s.putIn ch.val { c with
      mute := { gain := 2 ^ 32, curve := none }, seqStep := if c.seqStep = 7 then 0 else c.seqStep }) := by
  simp only [exec, execInputMuteCurveEnd, State.modIn_eq_putIn, hc, MutePoint.over_of_some hv, hover, decide_true, if_true, MutePoint.settle_of_some hv, hrise,
    MutePoint.atZero]
  by_cases h7 : c.seqStep = 7 <;> simp [h7]

theorem exec_inputMuteCurveEnd_runs (s : State) (ch : Fin 16) (c : InputCh) (hc : s.inCh ch.val = c)
    (h : ∀ v : Curve, c.mute.curve = some v → s.samp < v.start + v.len) : exec (.inputMuteCurveEnd ch) s = .next (s.putIn ch.val c) := by
  simp [exec, execInputMuteCurveEnd, State.modIn_eq_putIn, hc, MutePoint.over_eq_false h]

/-- A mode sequence at its target mode whose chain is still disturbed waits in step 5 (R47). -/
theorem InputCh.advance_unsettled (c : InputCh) (s : State) (n : Nat) (hmode : c.mode = s.act (0x0300 + n)) (hph : c.phantom ≠ .queued)
    (hle : s.clock.now ≤ c.unsettledTo) (hpos : 0 < c.unsettledTo) : c.advance s n = { c with seqStep := 5 } := by
  have hq : c.unqueue s n = c := if_neg fun h => hph h.1
  unfold InputCh.advance
  simp only [hq, hmode, ne_eq, not_true_eq_false, if_false]
  exact if_pos ⟨hle, Nat.ne_of_gt hpos⟩

theorem exec_phantomRampEnd_due (s : State) (ch : Fin 16) (c : InputCh) (hc : s.inCh ch.val = c) (hph : c.phantom = .ramping) (hend : c.phEnd ≤ s.clock.now) :
    exec (.phantomRampEnd ch) s = .next (s.putIn ch.val
      (if c.phClear then { c with phantom := .on } else if c.seqStep = 6 then ({ c with phantom := .on } : InputCh).advance s ch.val
       else ({ c with phantom := .on, causePhantom := false } : InputCh).unmuteFor s 192)) := by
  simp only [exec, execPhantomRampEnd, State.modIn_eq_putIn, hc, hph, hend, and_self, if_true]

theorem exec_phantomRampEnd_early (s : State) (ch : Fin 16) (c : InputCh) (hc : s.inCh ch.val = c) (h : c.phantom ≠ .ramping ∨ s.clock.now < c.phEnd) :
    exec (.phantomRampEnd ch) s = .next (s.putIn ch.val c) := by
  have hne : ¬ (c.phantom = .ramping ∧ c.phEnd ≤ s.clock.now) := fun hd => h.elim (· hd.1) (Nat.not_lt.2 hd.2)
  simp only [exec, execPhantomRampEnd, State.modIn_eq_putIn, hc, hne, if_false]

theorem exec_phantomDischargeEnd_due (s : State) (ch : Fin 16) (c : InputCh) (hc : s.inCh ch.val = c) (hph : c.phantom = .discharging)
    (hend : c.phEnd ≤ s.clock.now) :
    exec (.phantomDischargeEnd ch) s = .next (s.putIn ch.val
      (if c.phRequeue then { c with phantom := .queued, phRequeue := false }
       else if c.seqStep = 2 then ({ c with phantom := .off } : InputCh).advance s ch.val
       else if c.seqStep = 6 then { c with phantom := .off }
       else ({ c with phantom := .off, causePhantom := false } : InputCh).unmuteFor s 192)) := by
  simp only [exec, execPhantomDischargeEnd, State.modIn_eq_putIn, hc, hph, hend, and_self, if_true]

theorem exec_phantomDischargeEnd_early (s : State) (ch : Fin 16) (c : InputCh) (hc : s.inCh ch.val = c) (h : c.phantom ≠ .discharging ∨ s.clock.now < c.phEnd) :
    exec (.phantomDischargeEnd ch) s = .next (s.putIn ch.val c) := by
  have hne : ¬ (c.phantom = .discharging ∧ c.phEnd ≤ s.clock.now) := fun hd => h.elim (· hd.1) (Nat.not_lt.2 hd.2)
  simp only [exec, execPhantomDischargeEnd, State.modIn_eq_putIn, hc, hne, if_false]

/-- A phantom cause that clears beside another cause leaves the mute; the last one unmutes over 2 ms (R44, R53, R54). -/
theorem InputCh.phantomCleared_caused (c : InputCh) (s : State) (ph : PhState) (h : c.causeMode = true ∨ c.causeJack = true) :
    ({ c with phantom := ph, causePhantom := false } : InputCh).unmuteFor s 192 =
      { c with phantom := ph, causePhantom := false, clearLen := if c.clearAt = s.clock.now then max c.clearLen 192 else 192, clearAt := s.clock.now } :=
  InputCh.unmuteFor_caused _ s 192 (by rcases h with h | h <;> simp [InputCh.caused, h])

/-- A phantom frame's effect on the inputs and the phantom port (R51-R53). -/
theorem exec_phantomFrame_due (s : State) (hawake : s.asleep = false) (hreset : s.power.inReset = false) (hroot : s.clock.rootRunning = true)
    (hphase : s.clock.phase = 0) (hfree : s.inp.phantom.sending = none)
    (hdue : s.phantomDue = true ∨ ∀ t, s.inp.phantom.frameAt = some t → t + 960 ≤ s.clock.now) :
    exec .phantomFrame s = .next { s with inp := { s.inp with
      ch := s.framedInputs
      phantom := { s.inp.phantom with
        sending := some (s.frameBits s.framedInputs)
        frameAt := some s.clock.now
        lastEnable := if s.phantomPick.isSome then some (s.clock.now + 1) else s.inp.phantom.lastEnable } } } := by
  simp only [exec, execPhantomFrame, hawake, hreset, hroot, hfree, hphase]
  cases hat : s.inp.phantom.frameAt with
  | none => simp
  | some t =>
    have hgo : s.phantomDue = true ∨ t + 960 ≤ s.clock.now := hdue.imp_right (· t hat)
    rcases hgo with hgo | hgo <;> simp [hgo]

theorem exec_phantomFrame_idle (s : State) (h : s.asleep = true ∨ s.power.inReset = true ∨ s.clock.rootRunning = false ∨ s.clock.phase ≠ 0 ∨
      s.inp.phantom.sending.isSome = true ∨ (s.phantomDue = false ∧ ∃ t, s.inp.phantom.frameAt = some t ∧ s.clock.now < t + 960)) :
    exec .phantomFrame s = .next s := by
  simp only [exec, execPhantomFrame]
  rcases h with h | h | h | h | h | ⟨hdue, t, hat, hlt⟩
  · simp [h]
  · simp [h]
  · simp [h]
  · simp [h]
  · have hbusy : s.inp.phantom.sending.isNone = false := by simpa using h
    simp [hbusy]
  · simp [hdue, hat, Nat.not_le.2 hlt]

/-- Settles O2: one lemma of each command at its end and before it, put together. -/
theorem inputSequencesAndPhantomFramesAdvance : Obligations.InputSequencesAndPhantomFramesAdvance := by
  refine ⟨?_, ?_, exec_phantomFrame_idle, ?_⟩
  · intro s ch c hc len cleared raised
    refine ⟨?_, fun v hv hover hrise => exec_inputMuteCurveEnd_rose s ch c v hc hv hover hrise,
      exec_inputMuteCurveEnd_runs s ch c hc, fun h4 hend => ?_, c.advance_unsettled s ch.val, fun h => ?_, fun hph hend => ?_,
      exec_phantomRampEnd_early s ch c hc, fun hph hend => ?_, exec_phantomDischargeEnd_early s ch c hc⟩
    · intro v hv hover hfall z g
      rw [exec_inputMuteCurveEnd_fell s ch c v hc hv hover hfall]
      exact ⟨fun h => by rw [if_neg h] <;> rfl, fun h => by rw [if_pos h] <;> rfl⟩
    · simp [exec, execAnalogSettleEnd, State.modIn_eq_putIn, hc, h4, hend]
    · have hne : ¬ (c.seqStep = 4 ∧ c.settleEnd ≤ s.clock.now) := fun hd => h.elim (· hd.1) (Nat.not_lt.2 hd.2)
      simp only [exec, execAnalogSettleEnd, State.modIn_eq_putIn, hc, hne, if_false]
    · rw [exec_phantomRampEnd_due s ch c hc hph hend]
      refine ⟨fun h => by rw [if_pos h], fun h h6 => by rw [if_neg (by simp [h]), if_pos h6], fun h h6 hm => ?_, fun h h6 hm hj => ?_⟩
      · rw [if_neg (by simp [h]), if_neg h6, c.phantomCleared_caused s _ hm]
      · rw [if_neg (by simp [h]), if_neg h6, InputCh.unmuteFor_clear _ s (by simp [InputCh.caused, hm, hj])]
    · rw [exec_phantomDischargeEnd_due s ch c hc hph hend]
      refine ⟨fun h => by rw [if_pos h], fun h h2 => by rw [if_neg (by simp [h]), if_pos h2],
        fun h h6 => by rw [if_neg (by simp [h]), if_neg (by simp [h6]), if_pos h6], fun h h2 h6 hm => ?_, fun h h2 h6 hm hj => ?_⟩
      · rw [if_neg (by simp [h]), if_neg h2, if_neg h6, c.phantomCleared_caused s _ hm]
      · rw [if_neg (by simp [h]), if_neg h2, if_neg h6, InputCh.unmuteFor_clear _ s (by simp [InputCh.caused, hm, hj])]
  · intro s hawake hreset hroot hphase hfree hdue
    refine ⟨_, exec_phantomFrame_due s hawake hreset hroot hphase hfree hdue, ?_⟩
    refine ⟨by dsimp only, by dsimp only, rfl, rfl, rfl, fun h => ?_, fun h => ?_, Frame.inp s _⟩
    · simp [h]
    · simp only [h, if_true]
  · intro p now off w hsend hoff
    simp [PhantomPort.boundary, hsend, hoff]

/-- An ADC channel's update is the updated channel in its place. -/
theorem State.modAdc_eq_putAdc (s : State) (n : Nat) (f : AdcCh → AdcCh) : s.modAdc n f = s.putAdc n (f (s.adcCh n)) := rfl

theorem fullScale_eq (neg : Bool) (mute : Nat) : fullScale neg mute = (if neg then -2147483648 else 2147483647) * (mute : Int) / 2 ^ 32 := by
  simp [fullScale, unity]

/-- The windows of the overload test (R61). -/
theorem mem_ovlSums (cfg : Nat) (w : List Int) (x : Int) : x ∈ ovlSums cfg w ↔ ∃ i, i < 4 ∧ ((w.drop i).take (field cfg 0 4)).sum = x := by
  simp [ovlSums, List.sum_eq_foldl]

theorem overloaded_iff (cfg : Nat) (w : List Int) :
    overloaded cfg w = true ↔ ∃ i, i < 4 ∧ field cfg 4 8 * field cfg 0 4 < 16 * (((w.drop i).take (field cfg 0 4)).sum).natAbs := by
  simp only [overloaded, ovlSum, List.find?_isSome, decide_eq_true_eq, mem_ovlSums]
  exact ⟨fun ⟨_, ⟨i, hi, hsum⟩, hlt⟩ => ⟨i, hi, hsum ▸ hlt⟩, fun ⟨i, hi, hlt⟩ => ⟨_, ⟨i, hi, rfl⟩, hlt⟩⟩

theorem sum_map_negated (l : List Int) : (l.map (fun v => -v)).sum = -l.sum := by
  induction l with
  | nil => rfl
  | cons v l ih =>
    rw [List.map_cons, List.sum_cons, List.sum_cons, ih]
    omega

/-- The overload test takes either sign alike (R61). -/
theorem overloaded_neg (cfg : Nat) (w : List Int) : overloaded cfg w = overloaded cfg (w.map (fun v => -v)) := by
  rw [Bool.eq_iff_iff, overloaded_iff, overloaded_iff]
  simp only [← List.map_drop, ← List.map_take, sum_map_negated, Int.natAbs_neg]

theorem InputCh.clips_iff (c : InputCh) (now settle : Nat) : c.clips now settle = true ↔ ∃ t, c.overAt = some t ∧ t < now ∧ now ≤ t + settle := by
  cases h : c.overAt <;> simp [InputCh.clips, h]

/-- A flagged modulator sample of a channel, with or without the integrator limit (R49, R61). -/
theorem exec_modulatorOverload_hit (s : State) (ch : Fin 24) (limit : Bool) (c : InputCh) (a : AdcCh) (hc : s.inCh ch.val = c) (ha : s.adcCh ch.val = a)
    (hhit : (limit || a.inReset || overloaded (s.dir 0x0481) a.window) = true) :
    exec (.modulatorOverload ch limit) s = .next ((s.putIn ch.val (c.overload s.clock.now)).putAdc ch.val { a.flagClip with
      inReset := a.inReset || limit
      overNeg := if a.inReset then a.overNeg else ovlNegative (s.dir 0x0481) a.window
      sprintWord := fullScale (if a.inReset then a.overNeg else ovlNegative (s.dir 0x0481) a.window) (c.mute.value s.samp) }) := by
  subst hc ha
  simp only [exec, execModulatorOverload, hhit, if_true]
  rfl

theorem exec_modulatorOverload_clear (s : State) (ch : Fin 24) (c : InputCh) (a : AdcCh) (hc : s.inCh ch.val = c) (ha : s.adcCh ch.val = a)
    (hreset : a.inReset = false) (hover : overloaded (s.dir 0x0481) a.window = false) :
    exec (.modulatorOverload ch false) s = .next ((s.putIn ch.val c).putAdc ch.val a) := by
  subst hc ha
  simp only [exec, execModulatorOverload, hreset, hover, Bool.or_self, Bool.false_eq_true, if_false]
  rfl

theorem exec_modulatorResetEnd_eq (s : State) (ch : Fin 24) (c : InputCh) (a : AdcCh) (hc : s.inCh ch.val = c) (ha : s.adcCh ch.val = a) :
    exec (.modulatorResetEnd ch) s = .next
      ((s.putIn ch.val (if a.inReset then (c.overload s.clock.now).disturb s.clock.now (s.inSettle ch.val) else c)).putAdc ch.val
        (if a.inReset then { a.flagClip with inReset := false }.spoil else a)) := by
  subst hc ha
  rfl

/-- Settles O4: a sample that counts as flagged is `exec_modulatorOverload_hit`, and `overloaded_iff` reads the overload test off its windows. -/
theorem modulatorOverloadIsFoundAndMarked : Obligations.ModulatorOverloadIsFoundAndMarked := by
  refine ⟨fun s ch c a hc ha => ?_, InputCh.clips_iff, fun cfg w => ⟨overloaded_neg cfg w, overloaded_iff cfg w⟩⟩
  intro clip neg full held
  refine ⟨?_, fun h => ?_, exec_modulatorOverload_clear s ch c a hc ha, fun h => ?_, fun h => ?_⟩
  · rw [exec_modulatorOverload_hit s ch true c a hc ha rfl, fullScale_eq, Bool.or_true]
    rfl
  · rw [exec_modulatorOverload_hit s ch false c a hc ha (by simpa using h), fullScale_eq, Bool.or_false]
    rfl
  · rw [exec_modulatorResetEnd_eq s ch c a hc ha, if_pos h, if_pos h]
    rfl
  · rw [exec_modulatorResetEnd_eq s ch c a hc ha]
    simp [h]

/-- The end of an UNSETTLED mark (R47, R70). -/
theorem exec_unsettledEnd_eq (s : State) (ch : Fin 24) (c : InputCh) (hc : s.inCh ch.val = c) :
    exec (.unsettledEnd ch) s = .next (s.putIn ch.val (if c.unsettledTo < s.clock.now then
      if c.seqStep = 5 then ({ c with unsettledTo := 0 } : InputCh).advance s ch.val else { c with unsettledTo := 0 } else c)) := by
  subst hc
  rfl

theorem exec_quickSettleConversionEnd_eq (s : State) (ch : Fin 24) (a : AdcCh) (ha : s.adcCh ch.val = a) :
    exec (.quickSettleConversionEnd ch) s = .next (s.putAdc ch.val (if a.quick.fresh && s.quickMode ch.val then
      { a with quick := { a.quick with held := a.quick.result, heldClip := a.quick.resultClip, valid := true, fresh := false } } else a)) := by
  subst ha
  rfl

/-- Nothing changes but the sprint component. -/
theorem Frame.sprint (s : State) (x : Sprint) : Frame [.sprint] s { s with sprint := x } := by
  intro p hp
  cases p with
  | sprint => simp at hp
  | _ => rfl

/-- A sprint crossfade that has run its 256 samples drops the outgoing datapath (R102). -/
theorem exec_sprintCrossfadeEnd_over (s : State) (n : Fin 16) (hold : (s.cell n.val).old.isSome = true) (hfade : 256 ≤ (s.cell n.val).fade) :
    exec (.sprintCrossfadeEnd n) s = .next (s.modCell n.val fun c => { c with old := none }) := by
  simp [exec, execSprintCrossfadeEnd, hold, hfade]

/-- Settles O5: the equation of each of the three commands, and of the crossfade's end. -/
theorem settlesConversionsAndCrossfadesEnd : Obligations.SettlesConversionsAndCrossfadesEnd := by
  refine ⟨fun s ch c hc hend h5 => ?_, fun s ch c hc hend h5 => ?_, fun s ch c hc hrun => ?_, fun s ch a ha hq hf => ?_, fun s ch a ha hf => ?_,
    fun s n hold hfade => ⟨_, exec_sprintCrossfadeEnd_over s n hold hfade, rfl, rfl, Frame.sprint s _⟩, fun s n hfade => ?_⟩
  · rw [exec_unsettledEnd_eq s ch c hc, if_pos hend, if_neg h5]
  · rw [exec_unsettledEnd_eq s ch c hc, if_pos hend, if_pos h5]
  · rw [exec_unsettledEnd_eq s ch c hc, if_neg (Nat.not_lt.2 hrun)]
  · rw [exec_quickSettleConversionEnd_eq s ch a ha, if_pos (by simp [hf, hq])]
  · rw [exec_quickSettleConversionEnd_eq s ch a ha, if_neg (by simp [hf])]
  · simp [exec, execSprintCrossfadeEnd, Nat.not_le.2 hfade]

/-- What takes a measured value leaves the measured words, the converters and the PDM channels (R81). -/
theorem State.measTaken_conv (s : State) (k : Nat) (v : Int) :
    (s.measTaken k v).conv.meas = s.conv.meas ∧ (s.measTaken k v).conv.adc = s.conv.adc ∧ (s.measTaken k v).conv.dac = s.conv.dac ∧
    (s.measTaken k v).conv.pdm = s.conv.pdm := by
  have hreading : (s.hpReading k v).conv.meas = s.conv.meas ∧ (s.hpReading k v).conv.adc = s.conv.adc ∧ (s.hpReading k v).conv.dac = s.conv.dac ∧
      (s.hpReading k v).conv.pdm = s.conv.pdm := by
    cases h : (s.hpJack k).step <;> simp [State.hpReading, h]
  unfold State.measTaken
  split
  · exact hreading
  split
  · simp
  split
  · simp
  split
  · simp
  · simp

/-- The supplies' conversions change nothing of the converters' component but the measured word (R81, R454). -/
theorem State.measTaken_supply (s : State) {k : Nat} (v : Int) (h4 : 4 ≤ k) (h10 : k < 10) : s.measTaken k v = s.supplyRead (k - 4) v := by
  unfold State.measTaken
  rw [if_neg (by omega), if_neg (by omega), if_pos (by omega)]

theorem Conv.next_keeps (v : Conv) (enabled : Bool) (now : Nat) :
    (v.next enabled now).meas = v.meas ∧ (v.next enabled now).adc = v.adc ∧ (v.next enabled now).dac = v.dac ∧ (v.next enabled now).pdm = v.pdm := by
  unfold Conv.next Conv.askNext Conv.scanNext
  repeat' split
  all_goals exact ⟨Eq.refl _, Eq.refl _, Eq.refl _, Eq.refl _⟩

/-- With nothing asked for, the scan converts next (R81). -/
theorem Conv.next_scan (v : Conv) (now : Nat) (h : v.asked = []) : v.next true now = v.scanNext now := by
  simp [Conv.next, h]

/-- A supply asked for comes before all others (R81). -/
theorem Conv.next_ask (v : Conv) (enabled : Bool) (now k : Nat) (h : v.asked = [k]) (h4 : 4 ≤ k) : v.next enabled now = v.askNext k now := by
  simp [Conv.next, h, h4]

/-- The state in which a completed conversion has been taken, before the next one is chosen (R80, R81). -/
def State.measured (s : State) (k : Nat) (v : Int) : State :=
  { s with conv := { s.conv with
    meas := tabSet (fun _ => {}) s.conv.meas k { value := sat 24 v, valid := true, at_ := s.clock.now }
    asked := if k < 4 then s.conv.asked else s.conv.asked.filter (fun a => decide (a ≠ k)) } }.measTaken k (sat 24 v)

theorem exec_measConversionEnd_due (s : State) (ms : Fin 14) (v : Int) (hcur : s.conv.current = some ms.val) (hroot : s.clock.rootRunning = true)
    (htick : s.tickNat % 64 = 0) (hend : s.conv.startAt + 64 ≤ s.clock.now) :
    exec (.measConversionEnd ms v) s = .next { s.measured ms.val v with
      conv := (s.measured ms.val v).conv.next ((s.dir 0x0480).testBit 8) s.clock.now } := by
  simp only [exec, execMeasConversionEnd, hcur, hroot, htick, hend, decide_true, Bool.and_self, if_true, State.measured]

theorem State.measured_supply_conv (s : State) (k : Nat) (v : Int) (h4 : 4 ≤ k) (h10 : k < 10) :
    (s.measured k v).conv = { s.conv with
      meas := tabSet (fun _ => {}) s.conv.meas k { value := sat 24 v, valid := true, at_ := s.clock.now }
      asked := s.conv.asked.filter (fun a => decide (a ≠ k)) } := by
  unfold State.measured
  rw [State.measTaken_supply _ _ h4 h10, if_neg (Nat.not_lt.2 h4)]
  exact (State.supplyRead_keeps _ _ _).2.2.2.2.2.2.2.2.2.2.2.1

theorem exec_measConversionEnd_frame {s t : State} {ms : Fin 14} {v : Int} (h : exec (.measConversionEnd ms v) s = .next t) :
    Frame [.conv, .log, .dep, .bus, .out] s t := by
  intro p hp
  cases p with
  | conv | log | dep | bus | out => simp at hp
  | _ => simp only [Part.same, execMeasConversionEnd_keeps ms v s t h]

/-- Settles O6: `exec_measConversionEnd_due` says what an end does, `Conv.next_scan` and `Conv.next_ask` what comes after it. -/
theorem measurementConversionsFollowTheScan : Obligations.MeasurementConversionsFollowTheScan := by
  refine ⟨fun s ms v hcur hroot htick hend => ?_, fun s ms v hcur hroot htick hend h4 h10 hasked hon => ?_,
    fun s ms v k hcur hroot htick hend h4 h10 hk hne hasked => ?_, fun s ms v h => ?_⟩
  · have hdue := exec_measConversionEnd_due s ms v hcur hroot htick hend
    obtain ⟨hmeas, hadc, hdac, hpdm⟩ := Conv.next_keeps (s.measured ms.val v).conv ((s.dir 0x0480).testBit 8) s.clock.now
    obtain ⟨kmeas, kadc, kdac, kpdm⟩ := State.measTaken_conv { s with conv := { s.conv with
      meas := tabSet (fun _ => {}) s.conv.meas ms.val { value := sat 24 v, valid := true, at_ := s.clock.now }
      asked := if ms.val < 4 then s.conv.asked else s.conv.asked.filter (fun a => decide (a ≠ ms.val)) } } ms.val (sat 24 v)
    refine ⟨_, hdue, ?_, hadc.trans kadc, hdac.trans kdac, hpdm.trans kpdm, exec_measConversionEnd_frame hdue⟩
    exact hmeas.trans (kmeas.trans (by simp [sat]))
  · refine ⟨_, exec_measConversionEnd_due s ms v hcur hroot htick hend, ?_⟩
    rw [hon, State.measured_supply_conv s _ v h4 h10, Conv.next_scan _ _ (by simp [hasked])]
    exact ⟨rfl, rfl, rfl⟩
  · refine ⟨_, exec_measConversionEnd_due s ms v hcur hroot htick hend, ?_⟩
    rw [State.measured_supply_conv s _ v h4 h10, Conv.next_ask _ _ _ k (by simp [hasked, hne]) hk]
    exact ⟨rfl, rfl⟩
  · simp only [exec, execMeasConversionEnd]
    rcases h with h | h | h
    · simp [h]
    · simp [h]
    · simp [Nat.not_le.2 h]

end Sys2Proof.Machine
end

section
/-! SUPPORT. The outputs (chapter 8): line steps, the charge pump, the headphone jacks, the guard pins and the speakers' protections. -/
namespace Sys2Proof.Machine

-- One proof after another: a check of the whole text in one process stays within its memory.
set_option Elab.async false

/-- Nothing changes but the outputs' component. -/
theorem Frame.out (s : State) (x : Outputs) : Frame [.out] s { s with out := x } := by
  intro p hp
  cases p with
  | out => simp at hp
  | _ => rfl

/-! Outputs of a state: the ones updated, and the others. -/

theorem State.modOut_eq_putOut (s : State) (o : Nat) (f : OutCh → OutCh) : s.modOut o f = s.putOut o (f (s.outCh o)) := rfl
theorem State.modJack_eq_putJack (s : State) (h : Nat) (f : HpJack → HpJack) : s.modJack h f = s.putJack h (f (s.hpJack h)) := rfl
theorem State.modHpPin_eq_putHpPin (s : State) (j : Nat) (f : JackPin → JackPin) : s.modHpPin j f = s.putHpPin j (f (s.hpPin j)) := rfl

theorem State.outCh_modOuts (s : State) (l : List Nat) (hl : l.Nodup) (f : Nat → OutCh → OutCh) (o : Nat) :
    (s.modOuts l f).outCh o = if o ∈ l then f o (s.outCh o) else s.outCh o :=
  tabGet_mods (fun _ => ({} : OutCh)) f l hl s.out.ch o

theorem State.modOuts_nil (s : State) (f : Nat → OutCh → OutCh) : s.modOuts [] f = s := rfl

theorem State.frame_modOuts (s : State) (l : List Nat) (f : Nat → OutCh → OutCh) : Frame [.out] s (s.modOuts l f) := Frame.out s _

/-- The headphones' channels 16 to 23, updated one by one. -/
theorem tabGet_mods_hp {α : Type} [DecidableEq α] (d : Nat → α) (f : Nat → α → α) (t : Tab α) (i : Nat) (hi : i < 8) :
    tabGet d ((List.range 8).foldl (fun t i => tabMod d t (16 + i) (f (16 + i))) t) (16 + i) = f (16 + i) (tabGet d t (16 + i)) := by
  have hmap : (List.range 8).foldl (fun t i => tabMod d t (16 + i) (f (16 + i))) t =
      ((List.range 8).map (16 + ·)).foldl (fun t o => tabMod d t o (f o)) t := by rw [List.foldl_map]
  rw [hmap, tabGet_mods d f _ (by decide), if_pos (by simpa using hi)]

/-! The pair (R208). -/

theorem State.pairUpper_eq_false (s : State) (n : Nat) (h0 : n = 1 → (s.dir 0x0530).testBit 0 = false) (h1 : n = 3 → (s.dir 0x0530).testBit 1 = false) :
    s.pairUpper n = false := by
  simp only [State.pairUpper, Bool.or_eq_false_iff, Bool.and_eq_false_iff, decide_eq_false_iff_not]
  exact ⟨Decidable.or_iff_not_imp_left.2 fun h => h0 (Decidable.not_not.1 h), Decidable.or_iff_not_imp_left.2 fun h => h1 (Decidable.not_not.1 h)⟩

/-- What `pairFollow` leaves of an output. -/
theorem State.outCh_pairFollow (s : State) (o : Nat) :
    s.pairFollow.outCh o = if (o = 25 ∨ o = 27) ∧ s.pairUpper (o - 24) = true then
      { s.outCh o with driving := (s.outCh (o - 1)).driving, step := 0, stopping := false } else s.outCh o := by
  unfold State.pairFollow
  rw [State.outCh_modOuts _ _ (List.Pairwise.filter _ (by decide : [25, 27].Nodup))]
  simp

theorem State.outCh_pairFollow_lower (s : State) (o : Nat) (h : s.pairUpper (o - 24) = false) : s.pairFollow.outCh o = s.outCh o := by
  rw [State.outCh_pairFollow, if_neg (by simp [h])]

/-! Causes (R193, R194). -/

theorem OutCh.lower_step (c : OutCh) (s : State) (o k : Nat) : (c.lower s o k).step = c.step ∧ (c.lower s o k).stepEnd = c.stepEnd := by
  unfold OutCh.lower
  split <;> exact ⟨rfl, rfl⟩

/-- A cause that clears alone in its tick (R194). -/
theorem OutCh.lower_eq_without (c : OutCh) (s : State) (o k : Nat) (hk : c.causes.getLsbD k = true) (hat : c.clearAt ≠ s.clock.now) :
    c.lower s o k = c.without s k (s.unmuteLen o k) := by
  simp only [OutCh.lower, OutCh.without, hk, if_true, hat, if_false]
  rfl

theorem OutCh.raise_causes (c : OutCh) (s : State) (o k j : Nat) :
    (c.raise s o k).causes.getLsbD j = (c.causes.getLsbD j || (decide (j = k) && decide (j < 7))) := by
  unfold OutCh.raise
  split
  case isTrue h =>
    by_cases hj : j = k
    · simp [hj, h]
    · simp [hj]
  case isFalse h =>
    simp only [BitVec.getLsbD_or, BitVec.getLsbD_ofNat, Nat.testBit_two_pow]
    rw [Bool.and_comm, decide_eq_decide.2 (eq_comm (a := k))]

/-! The line outputs (R194, R196, R197). -/

/-- The end of an output's curve (R194), by the state with the output as it is left. -/
theorem exec_outputCurveEnd_eq (s : State) (o : Fin 28) (c : OutCh) (hc : s.outCh o.val = c) :
    let c' : OutCh := if c.mute.over s.samp then
      (if ({ c with mute := c.mute.settle } : OutCh).mute.atZero && c.stopping then { c with mute := c.mute.settle, driving := false, stopping := false }
       else { c with mute := c.mute.settle }) else c
    exec (.outputCurveEnd o) s = .next (if c.mute.over s.samp && c.stopping && (s.putOut o.val c').wantsOut o.val then
      (s.putOut o.val c').pairFollow.beginOuts [o.val] else (s.putOut o.val c').pairFollow) := by
  subst hc
  rfl

theorem exec_outputCurveEnd_runs (s : State) (o : Fin 28) (c : OutCh) (v : Curve) (hc : s.outCh o.val = c) (hv : c.mute.curve = some v)
    (hover : v.start + v.len ≤ s.samp) (hstop : c.stopping = false) :
    exec (.outputCurveEnd o) s = .next (s.putOut o.val { c with mute := { gain := if v.rising then 2 ^ 32 else 0, curve := none } }).pairFollow := by
  rw [exec_outputCurveEnd_eq s o c hc]
  simp [MutePoint.over_of_some hv, hover, hstop, MutePoint.settle_of_some hv]

theorem exec_outputCurveEnd_stops (s : State) (o : Fin 28) (c : OutCh) (v : Curve) (hc : s.outCh o.val = c) (hv : c.mute.curve = some v)
    (hover : v.start + v.len ≤ s.samp) (hstop : c.stopping = true) (hfall : v.rising = false) :
    let off := s.putOut o.val { c with mute := { gain := 0, curve := none }, driving := false, stopping := false }
    exec (.outputCurveEnd o) s = .next (if off.wantsOut o.val then off.pairFollow.beginOuts [o.val] else off.pairFollow) := by
  intro off
  rw [exec_outputCurveEnd_eq s o c hc]
  simp [MutePoint.over_of_some hv, hover, hstop, MutePoint.settle_of_some hv, hfall, MutePoint.atZero, off]

theorem exec_outputCurveEnd_early (s : State) (o : Fin 28) (c : OutCh) (hc : s.outCh o.val = c) (h : ∀ v, c.mute.curve = some v → s.samp < v.start + v.len) :
    exec (.outputCurveEnd o) s = .next (s.putOut o.val c).pairFollow := by
  rw [exec_outputCurveEnd_eq s o c hc]
  simp [MutePoint.over_eq_false h]

theorem exec_cmBiasRampEnd_up (s : State) (v b e : Nat) (hb : s.out.bias = .rising v b e) (he : e ≤ s.clock.now) :
    exec .cmBiasRampEnd s = .next { s with out := { s.out with
      bias := .up, ch := (List.range 16).foldl (fun t o => tabMod (fun _ => {}) t o (fun c => c.biasUp s)) s.out.ch } } := by
  simp [exec, execCmBiasRampEnd, hb, he]

/-- A line that waits for the bias goes on when the bias is up (R197). -/
theorem exec_cmBiasRampEnd_lines (s : State) (v b e : Nat) (hb : s.out.bias = .rising v b e) (he : e ≤ s.clock.now) :
    Completes .cmBiasRampEnd s (fun t => t.out.bias = .up ∧ Frame [.out] s t ∧
      (∀ l, l < 16 → (s.outCh l).step = 1 → t.outCh l = { s.outCh l with step := 2, stepEnd := s.clock.now + 48 })) := by
  refine ⟨_, exec_cmBiasRampEnd_up s v b e hb he, rfl, Frame.out s _, fun l hl hstep => ?_⟩
  dsimp only [State.outCh] at hstep ⊢
  rw [tabGet_mods (fun _ => ({} : OutCh)) (fun _ c => c.biasUp s) (List.range 16) (by decide), if_pos (by simpa using hl), OutCh.biasUp, if_pos hstep]

theorem State.unmuteLen_line (s : State) (l : Fin 16) : s.unmuteLen l.val 1 = s.unmuteRamp l.val := by
  have : isSpk l.val = false := decide_eq_false (by omega)
  simp [State.unmuteLen, cJack, cProtect, this]

/-- A line's enable sequence ends with its DISABLED cause, alone in its tick (R193, R197). -/
theorem OutCh.enabled_line (c : OutCh) (s : State) (l : Fin 16) (hcause : c.causes.getLsbD 1 = true) (hat : c.clearAt ≠ s.clock.now) :
    c.enabled s l.val = ({ c with step := 0 } : OutCh).without s 1 (s.unmuteRamp l.val) := by
  rw [OutCh.enabled, cDisabled, OutCh.lower_eq_without { c with step := 0 } s _ 1 hcause hat, s.unmuteLen_line l]

theorem exec_lineBufferConnect_due (s : State) (l : Fin 16) (c : OutCh) (hc : s.outCh l.val = c) (h2 : c.step = 2) (hend : c.stepEnd ≤ s.clock.now) :
    exec (.lineBufferConnect l) s = .next (s.putOut l.val (if (s.dir (0x0520 + l.val)).testBit 2 && !c.calibrated then
      { c with driving := true, step := 3, stepEnd := s.clock.now + 480 } else ({ c with driving := true } : OutCh).enabled s l.val)) := by
  simp only [exec, execLineBufferConnect, State.modOut_eq_putOut, hc, h2, hend, and_self, if_true]

theorem exec_lineOffsetCalEnd_due (s : State) (l : Fin 16) (c : OutCh) (hc : s.outCh l.val = c) (h3 : c.step = 3) (hend : c.stepEnd ≤ s.clock.now) :
    exec (.lineOffsetCalEnd l) s = .next { s.putOut l.val (({ c with calibrated := true } : OutCh).enabled s l.val) with
      conv := { s.conv with dac := tabMod (fun _ => ({} : DacCh)) s.conv.dac l.val (fun d => { d with servo := servoSamples * lineOffset true l.val }) } } := by
  simp only [exec, execLineOffsetCalEnd, State.modOut_eq_putOut, hc, h3, hend, and_self, decide_true, if_true]
  rfl

theorem lineOffset_calibrated (l : Nat) : (lineOffset true l).natAbs ≤ 325392 := by
  simp only [lineOffset, lineTrim, if_true]
  omega

theorem State.pairFollow_unjoined (s : State) (h0 : (s.dir 0x0530).testBit 0 = false) (h1 : (s.dir 0x0530).testBit 1 = false) : s.pairFollow = s := by
  simp [State.pairFollow, State.pairUpper, h0, h1, State.modOuts_nil]

/-- The upper stage of a joined pair, as its lower one drives it (R208). -/
theorem State.pairFollow_joined (s : State) (n : Nat) (h : (n = 0 ∧ (s.dir 0x0530).testBit 0 = true) ∨ (n = 2 ∧ (s.dir 0x0530).testBit 1 = true)) :
    s.pairFollow.outCh (25 + n) = { s.outCh (25 + n) with driving := (s.outCh (24 + n)).driving, step := 0, stopping := false } := by
  rw [State.outCh_pairFollow, if_pos]
  · have : 25 + n - 1 = 24 + n := by omega
    rw [this]
  · rcases h with ⟨rfl, hb⟩ | ⟨rfl, hb⟩ <;> simp [State.pairUpper, hb]

/-- Settles O7: each step's equation, and what `pairFollow` leaves of the stages. -/
theorem lineOutputStepsEnd : Obligations.LineOutputStepsEnd := by
  refine ⟨exec_outputCurveEnd_runs, ?_, exec_outputCurveEnd_early, State.pairFollow_unjoined, fun s n h => ⟨s.pairFollow_joined n h, s.frame_modOuts _ _⟩,
    exec_cmBiasRampEnd_lines, fun s v b e hb he => ?_, fun s l c hc h2 hend hcfg hcal => ?_, fun s l c hc h2 hend hcfg hcause hat => ?_, ?_,
    lineOffset_calibrated⟩
  · intro s o c v hc hv hover hstop hfall off
    rw [exec_outputCurveEnd_stops s o c v hc hv hover hstop hfall]
    exact ⟨fun h => by rw [if_neg (by simp [off, h])], fun h => by rw [if_pos h]⟩
  · simp [exec, execCmBiasRampEnd, hb, he]
  · rw [exec_lineBufferConnect_due s l c hc h2 hend, if_pos (by simp [hcfg, hcal])]
  · rw [exec_lineBufferConnect_due s l c hc h2 hend, if_neg (by rcases hcfg with h | h <;> simp [h]), OutCh.enabled_line { c with driving := true } s l hcause hat]
  · intro s l c hc h3 hend hcause hat d v
    rw [exec_lineOffsetCalEnd_due s l c hc h3 hend, OutCh.enabled_line { c with calibrated := true } s l hcause hat]
    rfl

/-! The charge pump (R199). -/

/-- A headphone channel when the pump is ready: it unmutes if only CP_FAULT held it, and goes on if it waited. -/
def OutCh.pumpReady (c : OutCh) (s : State) (o : Nat) : OutCh :=
  let c := if c.prot = 0 then c.lower s o cProtect else c
  if c.step = 1 then { c with step := 2, stepEnd := s.clock.now + 48 } else c

theorem OutCh.pumpReady_waits (c : OutCh) (s : State) (o : Nat) (h : c.step = 1) :
    (c.pumpReady s o).step = 2 ∧ (c.pumpReady s o).stepEnd = s.clock.now + 48 := by
  have hstep : (if c.prot = 0 then c.lower s o cProtect else c).step = 1 := by
    split
    · rw [(c.lower_step s o _).1, h]
    · exact h
  simp only [OutCh.pumpReady, hstep, if_true, and_self]

theorem exec_chargePumpReady_starting (s : State) (b : Nat) (hp : s.out.pump = .starting b) (hv : s.power.valid.getLsbD 6 = true) :
    exec .chargePumpReady s = .next { s with out := { s.out with
      pump := .ready, cpFault := false
      ch := (List.range 8).foldl (fun t i => tabMod (fun _ => {}) t (16 + i) (fun c => c.pumpReady s (16 + i))) s.out.ch } } := by
  simp only [exec, execChargePumpReady, hp, hv, Bool.and_self, if_true]
  rfl

theorem exec_chargePumpStartTimeout_due (s : State) (b : Nat) (hp : s.out.pump = .starting b) (hend : b + 960 ≤ s.clock.now) :
    exec .chargePumpStartTimeout s = .next { s with
      out := { s.out with
        pump := .failed s.clock.now, cpFault := true
        ch := (List.range 8).foldl (fun t i => tabMod (fun _ => {}) t (16 + i) (fun c => c.raise s (16 + i) cProtect)) s.out.ch }
      bus := s.bus.raise s.inbandMask 8 } := by
  simp [exec, execChargePumpStartTimeout, hp, hend]

theorem exec_chargePumpStartTimeout_frame {s t : State} (h : exec .chargePumpStartTimeout s = .next t) : Frame [.out, .bus] s t := by
  intro p hp
  cases p with
  | out | bus => simp at hp
  | _ => simp only [Part.same, execChargePumpStartTimeout_keeps s t h]

theorem exec_chargePumpIdleStop_due (s : State) (b : Nat) (hb : s.out.pumpIdle = some b) (hend : b + 9600 * field (s.dir 0x0604) 0 8 ≤ s.clock.now)
    (hp : s.out.pump = .ready) (hw : s.pumpWanted = false) : exec .chargePumpIdleStop s = .next { s with out := s.out.pumpStop } := by
  have hms : b + ms (100 * field (s.dir 0x0604) 0 8) ≤ s.clock.now := by simp only [ms]; omega
  simp [exec, execChargePumpIdleStop, hb, hp, hw, hms]

/-- Settles O8: one equation for each of the four commands, and what the updates of the headphones' channels leave. -/
theorem chargePumpStartsFailsRetriesAndStops : Obligations.ChargePumpStartsFailsRetriesAndStops := by
  refine ⟨fun s b hp hv => ⟨_, exec_chargePumpReady_starting s b hp hv, rfl, rfl, Frame.out s _, fun i hi hstep => ?_⟩, fun s h => ?_,
    fun s b hp hend => ?_, fun s b hp hrun => ?_, fun s b hp hend => ?_, fun s b hp hrun => ?_,
    fun s b hb hend hp hw => ⟨_, exec_chargePumpIdleStop_due s b hb hend hp hw, rfl, Frame.out s _, fun i hi => ?_⟩, fun s hw => ?_⟩
  · dsimp only [State.outCh] at hstep ⊢
    rw [tabGet_mods_hp (fun _ => ({} : OutCh)) (fun o c => c.pumpReady s o) _ i hi]
    exact OutCh.pumpReady_waits _ s _ hstep
  · simp only [exec, execChargePumpReady]
    rcases h with h | h
    · simp only [h, Bool.false_and, Bool.false_eq_true, if_false]
      rw [← h]
    · simp only [h, Bool.and_false, Bool.false_eq_true, if_false]
  · have hdue := exec_chargePumpStartTimeout_due s b hp hend
    refine ⟨_, hdue, rfl, rfl, rfl, exec_chargePumpStartTimeout_frame hdue, fun i hi => ?_⟩
    dsimp only [State.outCh]
    rw [tabGet_mods_hp (fun _ => ({} : OutCh)) (fun o c => c.raise s o cProtect) _ i hi, OutCh.raise_causes]
    simp [cProtect]
  · simp only [exec, execChargePumpStartTimeout, hp, Nat.not_le.2 hrun, decide_false, Bool.or_false, Bool.false_eq_true, if_false]
    rw [← hp]
  · simp [exec, execChargePumpRetry, hp, hend]
  · simp only [exec, execChargePumpRetry, hp, Nat.not_le.2 hrun, if_false]
    rw [← hp]
  · dsimp only [State.outCh, Outputs.pumpStop]
    rw [tabGet_mods_hp (fun _ => ({} : OutCh)) (fun _ c => { c with driving := false, rejoin := false, step := if c.step = 0 then 0 else 1 }) _ i hi]
  · simp [exec, execChargePumpIdleStop, hw]

/-! The headphone jacks (R201, R202, R204). -/

theorem State.jackOuts_out (s : State) (h : Nat) :
    (s.jackOuts h).out.pins = s.out.pins ∧ (s.jackOuts h).out.jacks = s.out.jacks ∧ (s.jackOuts h).bus = s.bus ∧ (s.jackOuts h).log = s.log := ⟨rfl, rfl, rfl, rfl⟩

theorem State.frame_jackOuts (s : State) (h : Nat) : Frame [.out] s (s.jackOuts h) := s.frame_modOuts _ _

theorem Frame.trans {l : List Part} {s t u : State} (h : Frame l s t) (k : Frame l t u) : Frame l s u := fun p hp => by
  have hst := h p hp
  have htu := k p hp
  cases p <;> exact htu.trans hst

theorem exec_hpJackPinChange_frame {s t : State} {pin : Fin 4} {level : Bool} (h : exec (.hpJackPinChange pin level) s = .next t) :
    Frame [.out, .bus, .conv] s t := by
  intro p hp
  cases p with
  | out | bus | conv => simp at hp
  | _ => simp only [Part.same, execHpJackPinChange_keeps pin level s t h]

/-- A removal on a plugged pin (R204). -/
theorem exec_hpJackPinChange_removal (s : State) (pin : Fin 4) (level : Bool) (hne : (s.hpPin pin.val).level ≠ level) (hawake : s.asleep = false)
    (hon : s.hpPinOn pin.val = true) (hfirst : (s.hpPin pin.val).first = false) (hplug : level ≠ (s.dir (0x0600 + pin.val)).testBit 5)
    (hin : (s.hpPin pin.val).plugged = true) (hstill : (s.hpPin pin.val).debounceEnd = none) :
    exec (.hpJackPinChange pin level) s = .next (s.removeHp pin.val) := by
  simp [exec, execHpJackPinChange, hne, hawake, hon, hfirst, hplug, hin, hstill]

theorem State.removeHp_out (s : State) (j : Nat) :
    (s.removeHp j).out.pins = tabSet (fun _ => {}) s.out.pins j
      { s.hpPin j with level := !(s.hpPin j).level, debounceEnd := none, glitchEnd := some (s.clock.now + s.hpDebounce j) } ∧
    (s.removeHp j).bus.attn = s.bus.attn ||| BitVec.ofNat 32 (2 ^ 7) := ⟨rfl, rfl⟩

theorem exec_hpJackDebounceEnd_due (s : State) (pin : Fin 4) (e : Nat) (hon : s.hpPinOn pin.val = true) (hd : (s.hpPin pin.val).debounceEnd = some e)
    (he : e ≤ s.clock.now) (hkeep : (s.hpJack (s.hpPinFor pin.val)).keep = false) (hfirst : (s.hpPin pin.val).first = true)
    (hlevel : (s.hpPin pin.val).level ≠ (s.dir (0x0600 + pin.val)).testBit 5) :
    exec (.hpJackDebounceEnd pin) s = .next ((s.modHpPin pin.val fun p =>
      { p with debounceEnd := none, first := false, plugged := false, glitchEnd := none }).jackOuts (s.hpPinFor pin.val)) := by
  simp [exec, execHpJackDebounceEnd, hon, hd, he, hkeep, hfirst, hlevel]

/-- A channel that is asked for is among those asked for, converted next or not (R81). -/
theorem State.mem_askMeas (s : State) (k : Nat) : k ∈ (s.askMeas k).conv.asked := by
  unfold State.askMeas
  extract_lets src v waits
  have hasked : k ∈ v.asked := by
    change k ∈ if s.conv.asked.contains k = true then s.conv.asked else s.conv.asked ++ [k]
    split
    next hin => exact List.contains_iff_mem.1 hin
    · exact List.mem_append_right _ List.mem_cons_self
  have hnext : ∀ n, k ∈ (v.askNext k n).asked := fun _ => List.mem_append_right _ List.mem_cons_self
  dsimp only
  by_cases hnone : s.conv.current.isNone = true
  · rw [if_pos hnone]
    exact hnext _
  · rw [if_neg hnone]
    by_cases hwaits : waits = true
    · rw [if_pos hwaits]
      exact hnext _
    · rw [if_neg hwaits]
      exact hasked

theorem exec_hpTestCurrentUp_due (s : State) (h : Fin 4) (e : Nat) (hs : (s.hpJack h.val).step = .rise e) (he : e ≤ s.clock.now) :
    exec (.hpTestCurrentUp h) s = .next ((s.modJack h.val (fun k => { k with step := .readings, readL := [], readR := [] })).askMeas h.val) := by
  simp [exec, execHpTestCurrentUp, hs, he]

theorem exec_hpTestCurrentUp_frame {s t : State} {h : Fin 4} (hn : exec (.hpTestCurrentUp h) s = .next t) : Frame [.out, .conv] s t := by
  intro p hp
  cases p with
  | out | conv => simp at hp
  | _ => simp only [Part.same, execHpTestCurrentUp_keeps h s t hn]

theorem exec_hpTestCurrentDown_again (s : State) (h : Fin 4) (e : Nat) (hs : (s.hpJack h.val).step = .fall e) (he : e ≤ s.clock.now)
    (hu : unstable (s.hpJack h.val).readL = true) (hr : (s.hpJack h.val).repeats < 2) :
    exec (.hpTestCurrentDown h) s = .next ((s.modJack h.val (fun k => { k with repeats := k.repeats + 1 })).measureHp h.val) := by
  simp [exec, execHpTestCurrentDown, hs, he, hu, hr]

/-- The headphone after its legs are classed: its drivers reconnect where the pump is ready (R202). -/
def State.classedHp (s : State) (h : Nat) : State :=
  ((s.modJack h (fun _ => (s.hpJack h).classify s.free)).modOuts [16 + 2 * h, 17 + 2 * h] (fun _ c =>
    if s.out.pump = .ready then c.reconnect else { c with rejoin := false })).jackOuts h

theorem exec_hpTestCurrentDown_classed (s : State) (h : Fin 4) (e : Nat) (hs : (s.hpJack h.val).step = .fall e) (he : e ≤ s.clock.now)
    (hl : unstable (s.hpJack h.val).readL = false) (hr : unstable (s.hpJack h.val).readR = false) :
    exec (.hpTestCurrentDown h) s = .next (if ((s.hpJack h.val).classify s.free).short then (s.classedHp h.val).raise 8 else s.classedHp h.val) := by
  simp [exec, execHpTestCurrentDown, hs, he, hl, hr, State.classedHp]

theorem State.hpJack_of_jacks {s t : State} {h : Nat} {k : HpJack} (hj : t.out.jacks = tabSet (fun _ => {}) s.out.jacks h k) : t.hpJack h = k := by
  rw [State.hpJack, hj, tabGet_set_self]

theorem State.hpJack_modJack (s : State) (h : Nat) (f : HpJack → HpJack) : (s.modJack h f).hpJack h = f (s.hpJack h) := State.hpJack_of_jacks rfl

theorem State.measureHp_jacks (s : State) (h : Nat) : (s.measureHp h).out.jacks = tabSet (fun _ => {}) s.out.jacks h
    { s.hpJack h with step := .rise (s.clock.now + ms 20), readL := [], readR := [], classed := false } := rfl

theorem State.frame_measureHp (s : State) (h : Nat) : Frame [.out] s (s.measureHp h) :=
  ((Frame.out s _).trans (State.frame_modOuts _ _ _)).trans (State.frame_jackOuts _ _)

theorem State.hpJack_classedHp (s : State) (h : Nat) : (s.classedHp h).hpJack h = (s.hpJack h).classify s.free :=
  State.hpJack_of_jacks rfl

/-- A quotient that is whole needs no rounding. -/
theorem looseQuot_of_dvd (free n d : Nat) (h : n % d = 0) : looseQuot free (n : Int) d = (n / d : Nat) := by
  have hmod : (n : Int) % (d : Int) = 0 := by exact_mod_cast h
  simp [looseQuot, hmod]

theorem exec_hpTestCurrentDown_frame {s t : State} {h : Fin 4} (hn : exec (.hpTestCurrentDown h) s = .next t) : Frame [.out, .bus] s t := by
  intro p hp
  cases p with
  | out | bus => simp at hp
  | _ => simp only [Part.same, execHpTestCurrentDown_keeps h s t hn]

theorem exec_hpGlitchTimeout_frame {s t : State} {pin : Fin 4} (hn : exec (.hpGlitchTimeout pin) s = .next t) : Frame [.out, .log] s t := by
  intro p hp
  cases p with
  | out | log => simp at hp
  | _ => simp only [Part.same, execHpGlitchTimeout_keeps pin s t hn]

/-- The headphone whose removal lasts DEBOUNCE (R204). -/
def State.unpluggedHp (s : State) (j : Nat) : State :=
  ((s.modHpPin j (fun p => { p with glitchEnd := none, plugged := false })).modJack (s.hpPinFor j) (fun _ => { plugged := false })).jackOuts (s.hpPinFor j)

theorem exec_hpGlitchTimeout_due (s : State) (pin : Fin 4) (e : Nat) (hg : (s.hpPin pin.val).glitchEnd = some e) (he : e ≤ s.clock.now) :
    exec (.hpGlitchTimeout pin) s = .next { s.unpluggedHp pin.val with log := s.log.add (0xC4 + 4 * pin.val) 1 } := by
  simp only [exec, execHpGlitchTimeout, hg, he, decide_true, if_true]
  rfl

/-- Settles O10: each command's equation where it acts, and what the jack causes leave of pins and jacks. -/
theorem headphoneJackMeasurementRuns : Obligations.HeadphoneJackMeasurementRuns := by
  refine ⟨fun s pin level p hp hne hawake hon hfirst => ?_, fun s pin level hsame => ?_, fun s pin level p hp hne hawake hon hfirst hplug hin hstill => ?_,
    fun s pin p e hp hon hd he hkeep hfirst hlevel => ?_, fun s h e hs he => ?_, fun s h e k hk hs he hu hr => ?_, fun s h e k hk hs he hl hr => ?_,
    fun s pin p e hp hg he => ?_⟩
  · subst hp
    simp only [exec, execHpJackPinChange, hne, hawake, hon, hfirst, Bool.not_true, Bool.or_self, Bool.false_eq_true, if_true, if_false,
      State.modHpPin_eq_putHpPin]
    rfl
  · simp [exec, execHpJackPinChange, hsame]
  · subst hp
    have hdue := exec_hpJackPinChange_removal s pin level hne hawake hon hfirst hplug hin hstill
    obtain ⟨hpins, hattn⟩ := s.removeHp_out pin.val
    refine ⟨_, hdue, hpins.trans ?_, hattn, exec_hpJackPinChange_frame hdue⟩
    have hlevel : (!(s.hpPin pin.val).level) = level := Bool.not_eq.2 hne
    rw [hlevel, ← hstill]
    rfl
  · subst hp
    exact ⟨_, exec_hpJackDebounceEnd_due s pin e hon hd he hkeep hfirst hlevel, rfl, rfl, (Frame.out s _).trans (State.frame_jackOuts _ _)⟩
  · have hdue := exec_hpTestCurrentUp_due s h e hs he
    exact ⟨_, hdue, rfl, State.mem_askMeas _ _, exec_hpTestCurrentUp_frame hdue⟩
  · subst hk
    refine ⟨_, exec_hpTestCurrentDown_again s h e hs he hu hr, ?_, (Frame.out s _).trans (State.frame_measureHp _ _)⟩
    rw [State.hpJack_of_jacks (State.measureHp_jacks _ _), State.hpJack_modJack]
    rfl
  · subst hk
    have hdue := exec_hpTestCurrentDown_classed s h e hs he hl hr
    have hjack : (if ((s.hpJack h.val).classify s.free).short then (s.classedHp h.val).raise 8 else s.classedHp h.val).hpJack h.val =
        (s.hpJack h.val).classify s.free := by
      split
      · exact s.hpJack_classedHp h.val
      · exact s.hpJack_classedHp h.val
    refine ⟨_, hdue, ?_⟩
    dsimp only
    rw [hjack]
    refine ⟨rfl, ?_, ?_, fun hdiv => ?_, exec_hpTestCurrentDown_frame hdue⟩
    · simp [HpJack.classify, hl, List.sum_eq_foldl]
    · simp [HpJack.classify, hr, List.sum_eq_foldl]
    · rw [List.sum_eq_foldl] at hdiv ⊢
      simp only [HpJack.classify, looseQuot_of_dvd _ _ 400 hdiv, Int.toNat_natCast]
  · subst hp
    have hdue := exec_hpGlitchTimeout_due s pin e hg he
    exact ⟨_, hdue, rfl, rfl, rfl, exec_hpGlitchTimeout_frame hdue⟩

/-! The guard pins (R216, R217). -/

theorem State.frame_guardOuts (s : State) : Frame [.out] s s.guardOuts := s.frame_modOuts _ _

theorem State.gbyPin_of_gby {s t : State} {g : Nat} {p : GbyPin} (h : t.out.gby = tabSet (fun _ => {}) s.out.gby g p) : t.gbyPin g = p := by
  rw [State.gbyPin, h, tabGet_set_self]

theorem exec_gbyHealthLoss_lost (s : State) (g : Fin 4) (hon : s.gbyOn g.val = true) (hfail : s.gbyFails g.val ≠ 0) (hhigh : (s.gbyPin g.val).high = true)
    (hpre : (s.gbyPin g.val).preEnd = none) (hsettle : (s.gbyPin g.val).settleEnd = none) :
    exec (.gbyHealthLoss g) s = .next (s.modGby g.val (fun p => { p with
      lastCause := s.gbyFails g.val, recovery := gbyRecovery (s.gbyFails g.val), trip := 0, healthySince := none, preEnd := some (s.clock.now + ms 2) })).guardOuts := by
  simp [exec, execGbyHealthLoss, State.gbyLose, hon, hfail, hhigh, hpre, hsettle]

theorem exec_gbyPremuteEnd_due (s : State) (g : Fin 4) (e : Nat) (hpre : (s.gbyPin g.val).preEnd = some e) (he : e ≤ s.clock.now) :
    exec (.gbyPremuteEnd g) s = .next (s.gbyLow g.val).guardOuts := by
  simp [exec, execGbyPremuteEnd, hpre, he]

theorem exec_gbyPremuteEnd_frame {s t : State} {g : Fin 4} (h : exec (.gbyPremuteEnd g) s = .next t) : Frame [.out, .bus] s t := by
  intro p hp
  cases p with
  | out | bus => simp at hp
  | _ => simp only [Part.same, execGbyPremuteEnd_keeps g s t h]

theorem exec_gbyRestore_due (s : State) (g : Fin 4) (h : s.gbyDue g.val = true) : exec (.gbyRestore g) s = .next (s.gbyHigh g.val).guardOuts := by
  simp [exec, execGbyRestore, h]

theorem exec_gbyRestore_frame {s t : State} {g : Fin 4} (h : exec (.gbyRestore g) s = .next t) : Frame [.out, .bus] s t := by
  intro p hp
  cases p with
  | out | bus => simp at hp
  | _ => simp only [Part.same, execGbyRestore_keeps g s t h]

theorem exec_gbySettleEnd_due (s : State) (g : Fin 4) (e : Nat) (h : (s.gbyPin g.val).settleEnd = some e) (he : e ≤ s.clock.now) :
    exec (.gbySettleEnd g) s = .next (s.modGby g.val (fun p => { p with settleEnd := none })).guardOuts := by
  simp [exec, execGbySettleEnd, h, he]

/-- Settles O12: each command's equation where it acts; the guarded outputs' causes leave the pins. -/
theorem guardPinsFollowHealth : Obligations.GuardPinsFollowHealth := by
  refine ⟨fun s g p cause hp hon hcause hne hhigh hpre hsettle => ?_, fun s g h => ?_, fun s g p e hp hpre he => ?_, fun s g p hp hdue => ?_, fun s g hdue => ?_,
    fun s g p e hp hsettle he => ?_, fun s g e hsettle hrun => ?_⟩
  · subst hp hcause
    exact ⟨_, exec_gbyHealthLoss_lost s g hon hne hhigh hpre hsettle, State.gbyPin_of_gby rfl, (Frame.out s _).trans (State.frame_guardOuts _)⟩
  · rcases h with h | h <;> simp [exec, execGbyHealthLoss, h]
  · subst hp
    have hdue := exec_gbyPremuteEnd_due s g e hpre he
    exact ⟨_, hdue, State.gbyPin_of_gby rfl, rfl, exec_gbyPremuteEnd_frame hdue⟩
  · have hnext := exec_gbyRestore_due s g hdue
    have hpin : (s.gbyHigh g.val).guardOuts.gbyPin g.val = { s.gbyPin g.val with
        high := true, preEnd := none, settleEnd := some (s.clock.now + ms (field (s.gbyCfg g.val) 48 8)), sticky := true, recovery := 1, trip := 0 } :=
      State.gbyPin_of_gby rfl
    refine ⟨_, hnext, ?_, ?_, rfl, exec_gbyRestore_frame hnext⟩
    · rw [hpin]
    · rw [hpin]; rfl
  · simp [exec, execGbyRestore, hdue]
  · subst hp
    exact ⟨_, exec_gbySettleEnd_due s g e hsettle he, rfl, (Frame.out s _).trans (State.frame_guardOuts _)⟩
  · simp [exec, execGbySettleEnd, hsettle, Nat.not_le.2 hrun]

/-! The speakers' protections (R208-R210). -/

/-- A mute that begins leaves a mute point at zero gain only where it stood there (R194). -/
theorem MutePoint.fall_atZero (m : MutePoint) (k n : Nat) : (m.fall k n).atZero = m.atZero := by
  unfold MutePoint.fall
  cases hm : m.curve with
  | some c =>
    dsimp only
    split
    · rfl
    · simp [MutePoint.atZero, hm]
  | none =>
    dsimp only
    split
    · rfl
    case isFalse hg => simp [MutePoint.atZero, hm, hg]

theorem OutCh.raise_atZero (c : OutCh) (s : State) (o k : Nat) : (c.raise s o k).mute.atZero = c.mute.atZero := by
  unfold OutCh.raise
  split
  · rfl
  · exact MutePoint.fall_atZero _ _ _

/-- What a mute cause leaves of an output (R194). -/
theorem OutCh.raise_keeps (c : OutCh) (s : State) (o k : Nat) :
    (c.raise s o k).step = c.step ∧ (c.raise s o k).driving = c.driving ∧ (c.raise s o k).prot = c.prot ∧ (c.raise s o k).protSticky = c.protSticky := by
  unfold OutCh.raise
  split <;> exact ⟨rfl, rfl, rfl, rfl⟩

/-- A stage after a trip (R210). -/
theorem OutCh.trip_eq (c : OutCh) (s : State) (n k : Nat) :
    (c.trip s n k).prot = c.prot ||| BitVec.ofNat 7 (2 ^ k) ∧ (c.trip s n k).causes.getLsbD 4 = true ∧ (c.trip s n k).causes.getLsbD 1 = true ∧
    (c.trip s n k).step = 0 ∧ (c.trip s n k).protSticky = true ∧
    (c.trip s n k).driving = (c.driving && decide (k = 2 ∨ k = 3 ∨ k = 5) && !c.mute.atZero) ∧ (k = 2 → (c.trip s n k).latched = true) := by
  unfold OutCh.trip
  dsimp only
  simp only [OutCh.raise_keeps, OutCh.raise_atZero, OutCh.raise_causes, cProtect, cDisabled]
  refine ⟨trivial, by simp, by simp, trivial, trivial, ?_, fun h => by simp [h]⟩
  rw [Bool.and_comm (decide _)]

/-- No element is left twice. -/
theorem eraseDups_nodup (l : List Nat) : l.eraseDups.Nodup := by
  cases l with
  | nil => simp
  | cons a l =>
    rw [List.eraseDups_cons, List.nodup_cons]
    exact ⟨by simp [List.mem_eraseDups], eraseDups_nodup _⟩
  termination_by l.length
  decreasing_by
    have := List.length_filter_le (fun b => !b == a) l
    simp only [List.length_cons]
    omega

/-- The stages of a list that a protection trips, and those that trip with them (R208, R210). -/
def State.stagesHit (s : State) (l : List Nat) (k : Nat) : List Nat := l.filter (fun n => s.stageRuns n && !((s.outCh (24 + n)).prot.getLsbD k))
def State.stagesTripped (s : State) (l : List Nat) (k : Nat) : List Nat := ((s.stagesHit l k).flatMap s.stages).eraseDups

/-- The stages tripped, before the upper one of a pair follows the lower (R208, R210). -/
def State.tripped (s : State) (l : List Nat) (k : Nat) : State :=
  { s with
    out := { s.out with ch := (s.stagesTripped l k).foldl (fun t n => tabMod (fun _ => {}) t (24 + n) (fun c => c.trip s n k)) s.out.ch }
    bus := if (s.stagesHit l k).isEmpty then s.bus else s.bus.raise s.inbandMask 8
    log := if (s.stagesHit l k).isEmpty then s.log else
      s.log.add (0x78 + 4 * k) ((s.stagesHit l k).filter (fun n => !s.pairUpper n || !((s.stagesHit l k).contains (n - 1)))).length }

theorem State.tripSpk_eq (s : State) (l : List Nat) (k : Nat) : s.tripSpk l k = (s.tripped l k).pairFollow := rfl

theorem State.outCh_tripped (s : State) (l : List Nat) (k o : Nat) :
    (s.tripped l k).outCh o = if 24 ≤ o ∧ o - 24 ∈ s.stagesTripped l k then (s.outCh o).trip s (o - 24) k else s.outCh o := by
  have hmap : (s.tripped l k).out.ch = ((s.stagesTripped l k).map (24 + ·)).foldl (fun t o => tabMod (fun _ => {}) t o (fun c => c.trip s (o - 24) k)) s.out.ch := by
    rw [List.foldl_map]
    simp only [Nat.add_sub_cancel_left]
    rfl
  have hmem : o ∈ (s.stagesTripped l k).map (24 + ·) ↔ 24 ≤ o ∧ o - 24 ∈ s.stagesTripped l k := by
    rw [List.mem_map]
    exact ⟨fun ⟨n, hn, ho⟩ => ⟨by omega, by rwa [← ho, Nat.add_sub_cancel_left]⟩, fun ⟨ho, hn⟩ => ⟨o - 24, hn, by omega⟩⟩
  have hnodup : ((s.stagesTripped l k).map (24 + ·)).Nodup :=
    List.pairwise_map.2 ((eraseDups_nodup _).imp fun hne heq => hne (Nat.add_left_cancel heq))
  rw [State.outCh, hmap, tabGet_mods (fun _ => ({} : OutCh)) (fun o c => c.trip s (o - 24) k) _ hnodup]
  simp only [hmem]
  rfl

/-- What a trip leaves of an output: its own trip, and of the upper stage of a pair what the lower one drives. -/
theorem State.outCh_tripSpk (s : State) (l : List Nat) (k o : Nat) :
    (s.tripSpk l k).outCh o = if (o = 25 ∨ o = 27) ∧ s.pairUpper (o - 24) = true then
      { (s.tripped l k).outCh o with driving := ((s.tripped l k).outCh (o - 1)).driving, step := 0, stopping := false } else (s.tripped l k).outCh o := by
  have hupper : ∀ n, (s.tripped l k).pairUpper n = s.pairUpper n := fun _ => rfl
  rw [State.tripSpk_eq, State.outCh_pairFollow]
  simp only [hupper]

theorem State.mem_stagesTripped (s : State) (l : List Nat) (k m : Nat) : m ∈ s.stagesTripped l k ↔ ∃ n ∈ l, s.stageRuns n = true ∧
    (s.outCh (24 + n)).prot.getLsbD k = false ∧ m ∈ s.stages n := by
  simp [State.stagesTripped, State.stagesHit, List.mem_eraseDups, List.mem_flatMap, and_assoc]

theorem State.tripSpk_attn (s : State) (l : List Nat) (k : Nat) (h : s.stagesHit l k ≠ []) : (s.tripSpk l k).bus.attn = s.bus.attn ||| BitVec.ofNat 32 (2 ^ 8) := by
  have hbus : (s.tripSpk l k).bus = if (s.stagesHit l k).isEmpty then s.bus else s.bus.raise s.inbandMask 8 := rfl
  rw [hbus, if_neg (by simpa using h)]
  rfl

theorem State.frame_tripSpk (s : State) (l : List Nat) (k : Nat) : Frame [.out, .bus, .log] s (s.tripSpk l k) := by
  intro p hp
  cases p with
  | out | bus | log => simp at hp
  | _ => simp only [Part.same, State.tripSpk_keeps]

/-- A protection that finds no active stage trips nothing. -/
theorem State.tripSpk_none (s : State) (l : List Nat) (k : Nat) (h : s.stagesHit l k = []) : s.tripSpk l k = s.pairFollow := by
  rw [State.tripSpk_eq]
  simp [State.tripped, State.stagesTripped, h]

/-- An unjoined stage stands alone. -/
theorem State.pairUpper_of_stages (s : State) (n : Nat) (h : s.stages n = [n]) : s.pairUpper n = false := by
  unfold State.stages at h
  split at h
  · simp at h
  case isFalse hn =>
    refine s.pairUpper_eq_false n (fun h1 => ?_) (fun h3 => ?_)
    · simpa using fun hb => hn (.inl ⟨by omega, hb⟩)
    · simpa using fun hb => hn (.inr ⟨by omega, hb⟩)

theorem State.stagesHit_ne_nil (s : State) (l : List Nat) (k n : Nat) (hn : n ∈ l) (hrun : s.stageRuns n = true) (hk : (s.outCh (24 + n)).prot.getLsbD k = false) :
    s.stagesHit l k ≠ [] := List.ne_nil_of_mem (List.mem_filter.2 ⟨hn, by simp [hrun, hk]⟩)

/-- A trip of an active, unjoined stage, among those of a list (R210). -/
theorem State.tripSpk_trips (s : State) (l : List Nat) (k n : Nat) (c : OutCh) (hc : s.outCh (24 + n) = c) (hrun : c.step ≠ 0 ∨ c.driving = true)
    (hstages : s.stages n = [n]) (hk : c.prot.getLsbD k = false) (hn : n ∈ l) :
    (s.tripSpk l k).outCh (24 + n) = c.trip s n k ∧ (s.tripSpk l k).bus.attn = s.bus.attn ||| BitVec.ofNat 32 (2 ^ 8) ∧
    (∀ o, o < 24 → (s.tripSpk l k).outCh o = s.outCh o) := by
  have hruns : s.stageRuns n = true := by
    rcases hrun with h | h <;> simp [State.stageRuns, hstages, OutCh.active, hc, h]
  have hmem : n ∈ s.stagesTripped l k := (s.mem_stagesTripped l k n).2 ⟨n, hn, hruns, by rwa [hc], by simp [hstages]⟩
  refine ⟨?_, s.tripSpk_attn l k (s.stagesHit_ne_nil l k n hn hruns (by rwa [hc])), fun o ho => ?_⟩
  · rw [State.outCh_tripSpk, Nat.add_sub_cancel_left, if_neg (by simp [s.pairUpper_of_stages n hstages]), State.outCh_tripped]
    simp [hmem, hc]
  · rw [State.outCh_tripSpk, if_neg (by omega), State.outCh_tripped, if_neg (by omega)]

/-- The commands that bring protection k to stage n trip the stages of a list that holds n (R210). -/
theorem exec_protection (s : State) (n : Fin 4) (i : Instr) (k : Nat)
    (hi : (i = .spkOvercurrent n ∧ k = 0) ∨ (i = .spkDcTrip n ∧ k = 2 ∧ (s.dir 0x0530).testBit 3 = false) ∨ (i = .spkUndervoltage ∧ k = 3) ∨
      (i = .spkOvervoltage ∧ k = 4) ∨ (i = .spkThermalTrip ∧ k = 5)) :
    ∃ l, n.val ∈ l ∧ exec i s = .next (s.tripSpk l k) := by
  have hall : n.val ∈ [0, 1, 2, 3] := by
    obtain ⟨n, hn⟩ := n
    simp only [List.mem_cons, List.not_mem_nil, or_false]
    omega
  rcases hi with ⟨rfl, rfl⟩ | ⟨rfl, rfl, hdc⟩ | ⟨rfl, rfl⟩ | ⟨rfl, rfl⟩ | ⟨rfl, rfl⟩
  · exact ⟨[n.val], by simp, rfl⟩
  · exact ⟨[n.val], by simp, by simp [exec, execSpkDcTrip, hdc]⟩
  · exact ⟨_, hall, rfl⟩
  · exact ⟨_, hall, rfl⟩
  · exact ⟨_, hall, rfl⟩

/-- The stages of a joined pair (R208). -/
theorem State.stages_pair (s : State) (n p : Nat) (hn : n < 4) (h : s.stages n = [p, p + 1]) :
    (p = 0 ∨ p = 2) ∧ (n = p ∨ n = p + 1) ∧ s.pairUpper p = false ∧ s.pairUpper (p + 1) = true := by
  unfold State.stages at h
  split at h
  case isFalse => simp at h
  case isTrue hj =>
    obtain rfl : 2 * (n / 2) = p := by simpa using h
    refine ⟨by omega, by omega, s.pairUpper_eq_false _ (fun _ => by omega) (fun _ => by omega), ?_⟩
    rcases hj with ⟨hlt, hb⟩ | ⟨hle, hb⟩
    · have : n / 2 = 0 := by omega
      simp [State.pairUpper, this, hb]
    · have : n / 2 = 1 := by omega
      simp [State.pairUpper, this, hb]

/-- An overcurrent of either stage of a pair trips both (R208, R210). -/
theorem exec_spkOvercurrent_pair (s : State) (p : Nat) (n : Fin 4) (hst : s.stages n.val = [p, p + 1]) (hd : (s.outCh (24 + p)).driving = true)
    (hprot : (s.outCh (24 + n.val)).prot.getLsbD 0 = false) :
    Completes (.spkOvercurrent n) s (fun t => (∀ k, (k = p ∨ k = p + 1) → (t.outCh (24 + k)).prot = (s.outCh (24 + k)).prot ||| 1#7 ∧
      (t.outCh (24 + k)).driving = false ∧ (t.outCh (24 + k)).causes.getLsbD 4 = true) ∧ t.bus.attn = s.bus.attn ||| BitVec.ofNat 32 (2 ^ 8)) := by
  obtain ⟨hp, -, hlower, hupper⟩ := s.stages_pair n.val p n.isLt hst
  have hrun : s.stageRuns n.val = true := by simp [State.stageRuns, hst, OutCh.active, hd]
  have hmem : ∀ k, (k = p ∨ k = p + 1) → k ∈ s.stagesTripped [n.val] 0 := fun k hk =>
    (s.mem_stagesTripped _ _ _).2 ⟨n.val, by simp, hrun, hprot, by simpa [hst] using hk⟩
  have htrip : ∀ k, (k = p ∨ k = p + 1) → (s.tripped [n.val] 0).outCh (24 + k) = (s.outCh (24 + k)).trip s k 0 := fun k hk => by
    rw [State.outCh_tripped, Nat.add_sub_cancel_left, if_pos ⟨by omega, hmem k hk⟩]
  refine ⟨s.tripSpk [n.val] 0, rfl, fun k hk => ?_, s.tripSpk_attn _ _ (s.stagesHit_ne_nil _ _ n.val (by simp) hrun hprot)⟩
  obtain ⟨hprotk, hcause, -, -, -, hdrive, -⟩ := (s.outCh (24 + k)).trip_eq s k 0
  obtain ⟨-, -, -, -, -, hdrivep, -⟩ := (s.outCh (24 + p)).trip_eq s p 0
  rw [State.outCh_tripSpk, Nat.add_sub_cancel_left]
  rcases hk with rfl | rfl
  · rw [if_neg (by simp [hlower]), htrip k (.inl rfl)]
    exact ⟨hprotk, by simp [hdrive], hcause⟩
  · have hsub : 24 + (p + 1) - 1 = 24 + p := by omega
    rw [if_pos ⟨by omega, hupper⟩, hsub, htrip p (.inl rfl), htrip (p + 1) (.inr rfl)]
    exact ⟨hprotk, by simp [hdrivep], hcause⟩

/-- A precharge that ends starts the stage (R209). -/
theorem exec_spkPrechargeEnd_due (s : State) (n : Fin 4) (c : OutCh) (hc : s.outCh (24 + n.val) = c) (h2 : c.step = 2) (hend : c.stepEnd ≤ s.clock.now)
    (hcause : c.causes.getLsbD 1 = true) (hat : c.clearAt ≠ s.clock.now) :
    exec (.spkPrechargeEnd n) s = .next (s.putOut (24 + n.val) ({ c with driving := true, step := 0 }.without s 1 (s.spkSoft))).pairFollow := by
  have hlen : s.unmuteLen (24 + n.val) 1 = s.spkSoft := by simp [State.unmuteLen, cJack, cDisabled, isSpk]
  simp only [exec, execSpkPrechargeEnd, State.modOut_eq_putOut, hc, h2, hend, and_self, if_true, OutCh.enabled, cDisabled]
  rw [OutCh.lower_eq_without { c with driving := true, step := 0 } s _ 1 hcause hat, hlen]

theorem State.stages_nodup (s : State) (n : Nat) : (s.stages n).Nodup := by
  unfold State.stages
  split <;> simp

/-- What remains of a cause that clears (R194). -/
theorem OutCh.lower_cause (c : OutCh) (s : State) (o k : Nat) (hk : k < 7) : (c.lower s o k).causes.getLsbD k = false := by
  unfold OutCh.lower
  split
  · simp only [BitVec.getLsbD_and, BitVec.getLsbD_not, BitVec.getLsbD_ofNat, Nat.testBit_two_pow_self, hk, decide_true, Bool.and_self, Bool.not_true, Bool.and_false]
  case isFalse h => simpa using h

theorem OutCh.lower_keeps (c : OutCh) (s : State) (o k : Nat) :
    (c.lower s o k).prot = c.prot ∧ (c.lower s o k).retryAt = c.retryAt ∧ (c.lower s o k).trips = c.trips := by
  unfold OutCh.lower
  split <;> exact ⟨rfl, rfl, rfl⟩

/-- A stage whose protection has ended (R210). -/
def OutCh.recovered (c : OutCh) (s : State) (o : Nat) : OutCh :=
  { c with prot := 0, retryAt := none, clearSince := none, trips := if c.retryAt.isSome then s.clock.now :: c.trips else c.trips }.lower s o cProtect

/-- A recovered stage that is not wanted loses its protection (R210). -/
theorem exec_spkRetry_idle (s : State) (n : Fin 4) (r : Nat) (hst : s.stages n.val = [n.val]) (hprot : (s.outCh (24 + n.val)).prot = 1#7)
    (hretry : (s.outCh (24 + n.val)).retryAt = some r) (hr : r ≤ s.clock.now) (hlatch : (s.outCh (24 + n.val)).latched = false) (hrun : s.inRun = false) :
    exec (.spkRetry n) s = .next (s.modOuts [24 + n.val] fun o c => c.recovered s o) := by
  have hleft : (s.outCh (24 + n.val)).prot &&& ~~~ s.spkRecovered (s.outCh (24 + n.val)) = 0 := by
    unfold State.spkRecovered
    rw [hprot, hretry]
    simp only [hr, if_true]
    ext i hi
    rcases i with _ | i <;> simp
  have hwants : ∀ o, (s.modOuts [24 + n.val] fun o c => c.recovered s o).wantsOut o = false := fun o => by
    have : (s.modOuts [24 + n.val] fun o c => c.recovered s o).inRun = s.inRun := rfl
    simp [State.wantsOut, this, hrun]
  have hnext : exec (.spkRetry n) s = .next (if (s.modOuts [24 + n.val] fun o c => c.recovered s o).wantsOut
        (if s.pairUpper n.val then 24 + n.val - 1 else 24 + n.val) = true then
      (s.modOuts [24 + n.val] fun o c => c.recovered s o).beginOuts [if s.pairUpper n.val then 24 + n.val - 1 else 24 + n.val]
      else s.modOuts [24 + n.val] fun o c => c.recovered s o) := by
    have hdue : (decide ((s.outCh (24 + n.val)).prot ≠ 0) && decide ((s.outCh (24 + n.val)).prot &&& ~~~ s.spkRecovered (s.outCh (24 + n.val)) = 0) &&
        !(s.outCh (24 + n.val)).latched) = true := by rw [hleft, hprot, hlatch]; decide
    simp only [exec, execSpkRetry, hdue, if_true, hst, List.map_cons, List.map_nil]
    rfl
  rw [hnext, hwants, if_neg (by simp)]

/-- Settles O11: a trip is `OutCh.trip_eq` at the stages of `State.outCh_tripSpk`. -/
theorem speakerProtectionsTripAndRecover : Obligations.SpeakerProtectionsTripAndRecover := by
  refine ⟨fun s n c i k hc hrun hst hk hi => ?_, exec_spkOvercurrent_pair, fun s n hst hstep hdrive => ?_, fun s n hdc => ?_, exec_spkPrechargeEnd_due,
    fun s n c r hc hst hprot hretry hr hlatch hrun => ?_, fun s b hb hend => ?_, fun s b hb hrun => ?_⟩
  · obtain ⟨l, hn, hnext⟩ := exec_protection s n i k hi
    obtain ⟨htrip, hattn, hothers⟩ := s.tripSpk_trips l k n.val c hc hrun hst hk hn
    obtain ⟨hprot, hprotect, hdisabled, hstep, hsticky, hdrive, hlatch⟩ := c.trip_eq s n.val k
    refine ⟨_, hnext, ?_⟩
    dsimp only
    rw [htrip]
    exact ⟨hprot, hprotect, hdisabled, hstep, hsticky, hdrive, hlatch, hattn, hothers, s.frame_tripSpk l k⟩
  · have hnone : ∀ k, s.stagesHit [n.val] k = [] := fun k => by simp [State.stagesHit, State.stageRuns, hst, OutCh.active, hstep, hdrive]
    refine ⟨?_, fun hdc => ?_⟩
    · exact congrArg _ (s.tripSpk_none _ _ (hnone 0))
    · simp only [exec, execSpkDcTrip, hdc, Bool.false_eq_true, if_false, s.tripSpk_none _ _ (hnone 2)]
  · simp [exec, execSpkDcTrip, hdc]
  · subst hc
    have hout : (s.modOuts [24 + n.val] fun o c => c.recovered s o).outCh (24 + n.val) = (s.outCh (24 + n.val)).recovered s (24 + n.val) := by
      rw [State.outCh_modOuts _ _ (List.pairwise_singleton _ _), if_pos (List.mem_singleton_self _)]
    refine ⟨_, exec_spkRetry_idle s n r hst hprot hretry hr hlatch hrun, ?_⟩
    dsimp only
    rw [hout]
    obtain ⟨kprot, kretry, ktrips⟩ := OutCh.lower_keeps { s.outCh (24 + n.val) with
      prot := 0, retryAt := none, clearSince := none, trips := if (s.outCh (24 + n.val)).retryAt.isSome then s.clock.now :: (s.outCh (24 + n.val)).trips else (s.outCh (24 + n.val)).trips }
      s (24 + n.val) cProtect
    exact ⟨kprot, kretry, OutCh.lower_cause _ _ _ _ (by decide), ktrips.trans (if_pos (by simp [hretry])), s.frame_modOuts _ _⟩
  · simp [exec, execVspkDecouplingConnect, hb, hend]
  · simp only [exec, execVspkDecouplingConnect, hb, Nat.not_le.2 hrun, decide_false, Bool.or_false]
    rw [← hb]

end Sys2Proof.Machine
end

section
/-! SUPPORT. Routing, ports, time and the graph's firings (chapters 1, 6, 7 and 9). -/
namespace Sys2Proof.Machine

-- One proof after another: a check of the whole text in one process stays within its memory.
set_option Elab.async false

/-- Nothing changes but the routing component. -/
theorem Frame.rout (s : State) (x : Routing) : Frame [.rout] s { s with rout := x } := by
  intro p hp
  cases p with
  | rout => simp at hp
  | _ => rfl

/-! The end of a route fade (R175). -/

/-- The end of the fades of an entry at tick count `now`: a falling contribution stops, a rising one stands. -/
def Contribution.fadeDone (c : Contribution) (index now : Nat) : Contribution :=
  if decide (c.entry = index) && c.rising && c.ended now then { c with w0 := unity, start := 0, len := 0 } else c

theorem Contribution.fadeDone_keeps (c : Contribution) (index now : Nat) :
    (c.fadeDone index now).entry = c.entry ∧ (c.fadeDone index now).rising = c.rising := by
  unfold Contribution.fadeDone
  split <;> exact ⟨rfl, rfl⟩

theorem Contribution.fadeDone_falling (c : Contribution) (index now : Nat) (h : c.rising = false) : c.fadeDone index now = c := by
  simp [Contribution.fadeDone, h]

theorem Contribution.fadeDone_other (c : Contribution) (index now : Nat) (h : c.entry ≠ index) : c.fadeDone index now = c := by
  simp [Contribution.fadeDone, h]

theorem exec_routeCrossfadeEnd_eq (s : State) (index : Nat) : exec (.routeCrossfadeEnd index) s = .next { s with rout := { s.rout with
    contribs := (s.rout.contribs.filter (fun c => !(decide (c.entry = index) && !c.rising && c.ended s.clock.now))).map (·.fadeDone index s.clock.now) } } := rfl

/-- Settles O13: what stays is not a falling contribution that has ended, and a contribution of another entry is not changed. -/
theorem routeFadesEnd : Obligations.RouteFadesEnd := by
  intro s index
  refine ⟨_, exec_routeCrossfadeEnd_eq s index, fun c hc hentry hfall => ?_, fun c hc hentry hrise hend => ?_, fun c hentry => ?_, rfl, Frame.rout s _⟩
  · obtain ⟨d, hd, rfl⟩ := List.mem_map.1 hc
    obtain ⟨kentry, krising⟩ := d.fadeDone_keeps index s.clock.now
    rw [krising] at hfall
    rw [kentry] at hentry
    rw [d.fadeDone_falling _ _ hfall]
    simpa [hentry, hfall, Contribution.ended] using (List.mem_filter.1 hd).2
  · refine List.mem_map.2 ⟨c, List.mem_filter.2 ⟨hc, by simp [hrise]⟩, ?_⟩
    simp [Contribution.fadeDone, hentry, hrise, Contribution.ended, hend, unity]
  · constructor
    · intro hc
      obtain ⟨d, hd, rfl⟩ := List.mem_map.1 hc
      rw [(d.fadeDone_keeps index s.clock.now).1] at hentry
      rw [d.fadeDone_other _ _ hentry]
      exact (List.mem_filter.1 hd).1
    · intro hc
      exact List.mem_map.2 ⟨c, List.mem_filter.2 ⟨hc, by simp [hentry]⟩, c.fadeDone_other _ _ hentry⟩

/-! Bus scales, filters and meters (R179, R185, R187, R188). -/

theorem exec_busScaleRampEnd_eq (s : State) (b : Fin 64) (x : BusScale) (hx : tabGet (fun _ => ({} : BusScale)) s.rout.busScale b.val = x) :
    exec (.busScaleRampEnd b.val) s = .next { s with rout := { s.rout with
      busScale := tabSet (fun _ => {}) s.rout.busScale b.val (if x.start + x.m ≤ s.clock.now then { s0 := x.s1, s1 := x.s1, start := 0, m := 0 } else x) } } := by
  subst hx
  simp only [exec, execBusScaleRampEnd, b.isLt, if_true]
  rfl

theorem exec_hpfCrossfadeEnd_eq (s : State) (id : Nat) (x : HpfSt) (a : HpfArr) (b : Nat) (hx : tabGet (fun _ => ({} : HpfSt)) s.rout.hpf id = x)
    (hold : x.old = some (a, b)) : exec (.hpfCrossfadeEnd id) s = .next { s with rout := { s.rout with
      hpf := tabSet (fun _ => {}) s.rout.hpf id (if b + 96 ≤ s.clock.now then { x with old := none } else x) } } := by
  simp only [exec, execHpfCrossfadeEnd, tabMod, hx, hold]

theorem exec_meterUpdate_due (s : State) (hawake : s.awake = true) (htick : s.tickNat % 96 = 0) (hat : s.rout.meterAt ≠ s.clock.now) :
    exec .meterUpdate s = .next { s with rout := { s.rout with
      meterAt := s.clock.now
      meters := (List.range 256).foldl (fun t k => tabMod (fun _ => ({} : MeterSt)) t k (fun m => m.update s.free)) s.rout.meters } } := by
  simp [exec, execMeterUpdate, hawake, htick, hat]

/-- The held peak and its hold after an update of a slot (R187, R188). -/
theorem MeterSt.update_held (m : MeterSt) (free : Nat) :
    (m.reaches = true → (m.update free).heldPeak = m.peak ∧ (m.update free).fallen = 0 ∧ (m.update free).holdLeft = 100 * field m.cfg 20 8) ∧
    (m.reaches = false → 0 < m.holdLeft → (m.update free).heldPeak = m.heldPeak ∧ (m.update free).fallen = m.fallen ∧ (m.update free).holdLeft = m.holdLeft - 1) ∧
    (m.reaches = false → m.holdLeft = 0 → (m.update free).heldPeak = m.heldPeak ∧ (m.update free).fallen = m.fallen + field m.cfg 28 8 ∧ (m.update free).holdLeft = 0) := by
  unfold MeterSt.update
  refine ⟨fun h => ?_, fun h hl => ?_, fun h hl => ?_⟩
  · simp [h]
  · simp [h, hl]
  · simp [h, hl]

/-- The window that an update of a slot gives, and the one it begins (R188). -/
theorem MeterSt.update_window (m : MeterSt) (free : Nat) :
    (m.update free).peakNow = m.peak ∧ (m.update free).peak = 0 ∧ (m.update free).fed = false ∧ (m.update free).lastUnsettled = m.winUnsettled ∧
    (m.update free).lastSubst = m.winSubst ∧ (m.update free).clips = m.clips ∧ (m.fed = false → (m.update free).mirror = 0xFFFFFFFF#32) := by
  refine ⟨rfl, rfl, rfl, rfl, rfl, ?_, fun h => if_neg (by simp [h])⟩
  unfold MeterSt.update
  dsimp only
  split
  · rfl
  split
  · rfl
  · rfl

/-- Settles O15: each end's equation, and one update of a slot by `MeterSt.update_window` and `MeterSt.update_held`. -/
theorem busScalesFiltersAndMetersAdvance : Obligations.BusScalesFiltersAndMetersAdvance := by
  refine ⟨⟨fun s b x hx => ⟨fun h => ?_, fun h => ?_⟩, fun s id x a b hx hold => ⟨fun h => ?_, fun h => ?_⟩⟩, fun s k m hawake htick hat hk hm => ?_, fun s h => ?_⟩
  · rw [exec_busScaleRampEnd_eq s b x hx, if_pos h]
  · rw [exec_busScaleRampEnd_eq s b x hx, if_neg (Nat.not_le.2 h)]
  · rw [exec_hpfCrossfadeEnd_eq s id x a b hx hold, if_pos h]
  · rw [exec_hpfCrossfadeEnd_eq s id x a b hx hold, if_neg (Nat.not_le.2 h)]
  · refine ⟨_, exec_meterUpdate_due s hawake htick hat, ?_⟩
    dsimp only
    rw [tabGet_mods (fun _ => ({} : MeterSt)) (fun _ m => m.update s.free) _ List.nodup_range, if_pos (by simpa using hk), hm]
    obtain ⟨hnow, hpeak, hfed, hunsettled, hsubst, hclips, hmirror⟩ := m.update_window s.free
    obtain ⟨hreach, hhold, hfall⟩ := m.update_held s.free
    exact ⟨rfl, hnow, hpeak, hfed, hunsettled, hsubst, hclips, hmirror, hreach, hhold, hfall, Frame.rout s _⟩
  · simp only [exec, execMeterUpdate]
    rcases h with h | h | h
    · simp [h]
    · simp [h]
    · simp only [h, ne_eq, not_true_eq_false, decide_false, Bool.and_false, Bool.false_and, Bool.false_eq_true, if_false]
      rw [← h]

/-! The ports of a state: the ones updated, and the others. -/

theorem State.modPort_eq_putPort (s : State) (p : Nat) (f : Port → Port) : s.modPort p f = s.putPort p (f (s.port p)) := rfl

/-- Updates of several ports are updates of the table. -/
theorem Ports.foldl_mod_port (f : Nat → Port → Port) (l : List Nat) (x : Ports) :
    (l.foldl (fun x p => x.mod p (f p)) x).port = l.foldl (fun t p => tabMod (fun _ => {}) t p (f p)) x.port := by
  induction l generalizing x with
  | nil => rfl
  | cons p l ih => exact ih (x.mod p (f p))

theorem tabGet_foldl_mod (f : Nat → Port → Port) (l : List Nat) (hl : l.Nodup) (x : Ports) (p : Nat) :
    tabGet (fun _ => ({} : Port)) (l.foldl (fun x p => x.mod p (f p)) x).port p =
      if p ∈ l then f p (tabGet (fun _ => {}) x.port p) else tabGet (fun _ => {}) x.port p := by
  rw [Ports.foldl_mod_port, tabGet_mods (fun _ => ({} : Port)) f l hl]

/-- P_0 of a gun changes nothing of a port but `nextP` and its exchange count (R239). -/
def Port.SameButStart (q r : Port) : Prop := ∃ n e, r = { q with nextP := n, exchange := e }

theorem Port.SameButStart.refl (q : Port) : q.SameButStart q := ⟨q.nextP, q.exchange, rfl⟩

theorem State.starters_nodup (s : State) (p : Nat) : (s.starters p).Nodup := List.Pairwise.filter _ List.nodup_range

theorem State.settleStart_port (s : State) (p m : Nat) : (s.port m).SameButStart ((s.settleStart p).port m) := by
  unfold State.settleStart
  split
  case isFalse => exact .refl _
  case isTrue =>
    split
    case h_2 => exact .refl _
    case h_1 b _ =>
      have hget := tabGet_foldl_mod (fun _ q => { q with nextP := some b, exchange := 0 }) (s.starters p) (s.starters_nodup p) s.ports m
      unfold State.port
      dsimp only
      rw [hget]
      split
      · exact ⟨some b, 0, rfl⟩
      · exact .refl _

/-! Frame starts (R227, R235, R239). -/

/-- The root-cycle time of a frame start, and the frame that ended (R225, R227). -/
def State.frameAt (s : State) (p : Nat) (w : PortWire) : Nat := 32768 * s.clock.now + (if fmtFull (s.pFmt p) then 0 else w.at_.val)
def State.frameWrong (s : State) (p : Nat) (w : PortWire) : Bool := frameShort (s.pFmt p) w || frameLong (s.pFmt p) w

/-- The port with the start fed to its rate measurement (R235), and after the frame that ended and the one that starts (R227). -/
def State.timedPort (s : State) (p : Nat) (w : PortWire) : Port := if fmtBck (s.pFmt p) then s.port p else (s.port p).edge (s.frameAt p w)
def State.framedPort (s : State) (p : Nat) (w : PortWire) : Port :=
  ((s.timedPort p w).frameEnd (s.pFmt p) (s.portSync p) (s.frameAt p w) w).frameStart (s.frameAt p w)

theorem exec_portFrameStart_off (s : State) (p : Fin 6) (w : PortWire) (h : s.portOn p.val = false) : exec (.portFrameStart p w) s = .next s := by
  simp [exec, execPortFrameStart, h]

theorem exec_portFrameStart_idle (s : State) (p : Fin 6) (w : PortWire) (hon : s.portOn p.val = true) (hidle : s.inIdle = true) :
    exec (.portFrameStart p w) s = .next (s.putPort p.val { (s.timedPort p.val w).countErr (s.frameWrong p.val w) with lastStart := some (s.frameAt p.val w) }) := by
  have hawake : s.awake = true := by simp [State.awake, hidle]
  simp only [exec, execPortFrameStart, hon, hawake, hidle, Bool.not_true, Bool.or_self, Bool.false_eq_true, if_false, if_true]
  rfl

/-- In Run a frame start on a port that is not stopped: the port as the frame left it, sending the next one. -/
theorem exec_portFrameStart_run (s : State) (p : Fin 6) (w : PortWire) (hon : s.portOn p.val = true) (hrun : s.inRun = true) (hstate : (s.framedPort p.val w).state ≠ 3) :
    exec (.portFrameStart p w) s = .next { ((s.countSent p.val).modPort p.val (fun _ => s.portSend p.val (s.framedPort p.val w))).settleStart p.val with
      free := s.free + 32 } := by
  have hawake : s.awake = true := by simp [State.awake, hrun]
  have hidle : s.inIdle = false := by
    cases hm : s.power.mode <;> simp_all [State.inIdle, State.inRun]
  have hne : ¬ ((s.framedPort p.val w).state = 3 ∧ (!s.frameWrong p.val w) = true ∧ (s.framedPort p.val w).lastStart.isSome = true) := fun h => hstate h.1
  simp only [State.framedPort, State.timedPort, State.frameWrong, State.frameAt] at hne
  simp only [exec, execPortFrameStart, hon, hawake, hidle, Bool.not_true, Bool.or_self, Bool.false_eq_true, if_false, hne]
  rfl

/-- The rate measurement leaves the frames of a port (R235). -/
theorem State.timedPort_keeps (s : State) (p : Nat) (w : PortWire) :
    (s.timedPort p w).state = (s.port p).state ∧ (s.timedPort p w).counting = (s.port p).counting ∧ (s.timedPort p w).gunAt = (s.port p).gunAt ∧
    (s.timedPort p w).frame = (s.port p).frame ∧ (s.timedPort p w).lastStart = (s.port p).lastStart ∧
    (s.timedPort p w).frameErrs = (s.port p).frameErrs ∧ (s.timedPort p w).frameErrSticky = (s.port p).frameErrSticky := by
  unfold State.timedPort Port.edge
  split
  · simp
  · split <;> simp

theorem Port.countErr_eq (q : Port) (bad : Bool) : q.countErr bad = { q with
    frameErrs := if bad && q.lastStart.isSome then min (q.frameErrs + 1) 65535 else q.frameErrs
    frameErrSticky := q.frameErrSticky || (bad && q.lastStart.isSome) } := by
  unfold Port.countErr
  split
  case isTrue h => simp [h, satAdd]
  case isFalse h => simp [h]

/-- A frame end on a port that counts, unless it spoils the first frame after a gun (R227, R228). -/
theorem Port.frameEnd_counts (q : Port) (fmt sync t : Nat) (w : PortWire) (hcount : q.counting = true)
    (hgun : sync ≠ 0 ∨ (frameShort fmt w || frameLong fmt w) = false ∨ q.gunAt = none) :
    let r := q.frameEnd fmt sync t w
    r.counting = true ∧ r.frame = q.frame ∧ r.ringIn.head?.map (fun f => f.index) = some q.frame ∧ (q.state = 2 → r.state = 2) ∧
    r.frameErrs = (if (frameShort fmt w || frameLong fmt w) && q.lastStart.isSome then min (q.frameErrs + 1) 65535 else q.frameErrs) ∧
    r.frameErrSticky = (q.frameErrSticky || ((frameShort fmt w || frameLong fmt w) && q.lastStart.isSome)) := by
  intro r
  have hkeep : (decide (sync = 0) && (frameShort fmt w || frameLong fmt w) && q.gunAt.isSome) = false := by
    rcases hgun with h | h | h <;> simp [h]
  simp only [r, Port.frameEnd, hcount, if_true, Port.countErr_eq, hkeep, Bool.false_eq_true, if_false]
  refine ⟨trivial, trivial, by simp, fun h => by simp [h], trivial, trivial⟩

/-- A short or a long frame at SYNC 0 before the first complete one (R239). -/
theorem Port.frameEnd_spoils (q : Port) (fmt t g : Nat) (w : PortWire) (hcount : q.counting = true)
    (hbad : (frameShort fmt w || frameLong fmt w) = true) (hgun : q.gunAt = some g) :
    let r := q.frameEnd fmt 0 t w
    r.counting = false ∧ r.ringIn = [] ∧ r.gunAt = some g ∧ (q.state = 2 → r.state = 2) := by
  intro r
  simp [r, Port.frameEnd, hcount, hbad, hgun, Port.countErr_eq]

theorem Port.frameStart_counting (q : Port) (t : Nat) (h : q.counting = true) : q.frameStart t = { q with frame := q.frame + 1, lastStart := some t } := by
  simp [Port.frameStart, h]

/-- Frame 0 of a gun (R239, R242). -/
theorem Port.frameStart_first (q : Port) (t g : Nat) (hcount : q.counting = false) (hgun : q.gunAt = some g) (hg : 32768 * g ≤ t) :
    (q.frameStart t).frame = 0 ∧ (q.frameStart t).counting = true ∧ (q.frameStart t).gunAt = some g ∧ (q.frameStart t).ringIn = q.ringIn ∧
    (q.frameStart t).state = q.state := by
  cases hst : q.staged <;> simp [Port.frameStart, hcount, hgun, hg, hst]

theorem exec_portFrameStart_frame {s t : State} {p : Fin 6} {w : PortWire} (h : exec (.portFrameStart p w) s = .next t) : Frame [.ports, .log, .free] s t := by
  intro c hc
  cases c with
  | ports | log | free => simp at hc
  | _ => simp only [Part.same, execPortFrameStart_keeps p w s t h]

/-- What a frame start in Run leaves of its port, but for `nextP` and the exchange count, and what it sends. -/
theorem exec_portFrameStart_port (s : State) (p : Fin 6) (w : PortWire) (hon : s.portOn p.val = true) (hrun : s.inRun = true) (hstate : (s.framedPort p.val w).state = 2) :
    Completes (.portFrameStart p w) s (fun t => (s.portSend p.val (s.framedPort p.val w)).SameButStart (t.port p.val) ∧ Frame [.ports, .log, .free] s t) := by
  have hdue := exec_portFrameStart_run s p w hon hrun (by omega)
  refine ⟨_, hdue, ?_, exec_portFrameStart_frame hdue⟩
  have hport := State.settleStart_port ((s.countSent p.val).modPort p.val (fun _ => s.portSend p.val (s.framedPort p.val w))) p.val p.val
  rw [State.port_modPort_self] at hport
  exact hport

/-- Settles O16: the port after a frame start is `State.framedPort`, by `Port.frameEnd` and `Port.frameStart`. -/
theorem portFrameStartsAreCounted : Obligations.PortFrameStartsAreCounted := by
  refine ⟨exec_portFrameStart_off, fun s p w q hon hidle hq => ?_, fun s p w q hon hrun hq hstate hcount => ?_, fun s p w q g hon hrun hq hstate hcount hsync hbad hgun hg => ?_⟩
  · subst hq
    rw [exec_portFrameStart_idle s p w hon hidle, Port.countErr_eq]
    cases hbck : fmtBck (s.pFmt p.val) <;> cases hedge : (s.port p.val).edgeFirst <;>
      simp only [State.timedPort, hbck, Port.edge, hedge, Bool.false_eq_true, if_true, if_false] <;> rfl
  · intro wrong bad hgun
    subst hq
    obtain ⟨tstate, tcount, tgun, tframe, tstart, terrs, tsticky⟩ := s.timedPort_keeps p.val w
    obtain ⟨kcount, kframe, kring, kstate, kerrs, ksticky⟩ := (s.timedPort p.val w).frameEnd_counts (s.pFmt p.val) (s.portSync p.val) (s.frameAt p.val w) w
      (tcount.trans hcount) (by rw [tgun]; exact hgun)
    have hframed : s.framedPort p.val w = _ := Port.frameStart_counting _ _ kcount
    obtain ⟨t, hnext, ⟨nextP, exchange, hport⟩, hframe⟩ := exec_portFrameStart_port s p w hon hrun (by rw [hframed]; exact kstate (tstate.trans hstate))
    refine ⟨t, hnext, ?_⟩
    dsimp only
    rw [hport, hframed]
    rw [tframe] at kframe kring
    rw [terrs, tstart] at kerrs
    rw [tsticky, tstart] at ksticky
    exact ⟨congrArg (· + 1) kframe, kerrs, ksticky, rfl, kring, hframe⟩
  · subst hq
    obtain ⟨tstate, tcount, tgun, -⟩ := s.timedPort_keeps p.val w
    have hend := (s.timedPort p.val w).frameEnd_spoils (s.pFmt p.val) (s.frameAt p.val w) g w (tcount.trans hcount) hbad (tgun.trans hgun)
    rw [← hsync] at hend
    obtain ⟨kcount, kring, kgun, kstate⟩ := hend
    obtain ⟨fframe, fcount, fgun, fring, fstate⟩ := Port.frameStart_first _ (s.frameAt p.val w) g kcount kgun (by unfold State.frameAt; omega)
    obtain ⟨t, hnext, ⟨nextP, exchange, hport⟩, hframe⟩ := exec_portFrameStart_port s p w hon hrun (fstate.trans (kstate (tstate.trans hstate)))
    refine ⟨t, hnext, ?_⟩
    dsimp only
    rw [hport]
    exact ⟨fframe, fcount, fgun, fring.trans kring, hframe⟩

/-! Ports that stop, report, lock and take masks (R233-R236, R242). -/

/-- A port that has stopped holds its samples (R234). -/
def Port.stopped (q : Port) : Port := { q.hold with state := 3, nextP := none, gunAt := none, counting := false, sent := [] }

theorem Port.hold_present (q : Port) (k : Nat) (hk : k < 32) : q.hold.present[k]? = some { q.present.getD k StreamWord.zero with substituted := true } := by
  simp [Port.hold, hk, subst]

theorem State.countSent_port (s : State) (p : Nat) : ((s.countSent p).port p) = { s.port p with sentSub := [] } :=
  s.port_modPort_self p (fun q => { q with sentSub := [] })

/-- Guns given to the other members of a group leave the port. -/
theorem State.foldl_gun_port (s : State) (p : Nat) (l : List Nat) :
    (l.foldl (fun s m => if m = p then s else s.modPort m (fun q => q.gun (s.clock.now + 1) false)) s).port p = s.port p := by
  induction l generalizing s with
  | nil => rfl
  | cons m l ih =>
    rw [List.foldl_cons, ih]
    split
    · rfl
    case isFalse h => exact State.port_modPort_ne _ _ (Ne.symm h)

theorem exec_portStopped_eq (s : State) (p : Fin 6) : exec (.portStopped p) s = .next (
    if !(s.inRun && s.portOn p.val && (s.port p.val).started && !fmtFull (s.pFmt p.val) && decide ((s.port p.val).state ≠ 3) &&
      decide ((s.port p.val).lastValid + 32768 * 256 ≤ 32768 * s.clock.now)) then s
    else if decide (s.portSync p.val ≠ 0) && (s.port p.val).gunAt.isSome && (s.port p.val).nextP.isNone then
      (s.starters p.val).foldl (fun s' m => if m = p.val then s' else s'.modPort m (fun q => q.gun (s'.clock.now + 1) false)) ((s.countSent p.val).modPort p.val Port.stopped)
    else (s.countSent p.val).modPort p.val Port.stopped) := rfl

theorem exec_portStopped_due (s : State) (p : Fin 6) (hrun : s.inRun = true) (hon : s.portOn p.val = true) (hstart : (s.port p.val).started = true)
    (hfull : fmtFull (s.pFmt p.val) = false) (hstate : (s.port p.val).state ≠ 3) (hvalid : (s.port p.val).lastValid + 32768 * 256 ≤ 32768 * s.clock.now) :
    Completes (.portStopped p) s (fun t => t.port p.val = ({ s.port p.val with sentSub := [] } : Port).stopped) := by
  have hport : ((s.countSent p.val).modPort p.val Port.stopped).port p.val = ({ s.port p.val with sentSub := [] } : Port).stopped := by
    rw [State.port_modPort_self, State.countSent_port]
  have hdue : (s.inRun && s.portOn p.val && (s.port p.val).started && !fmtFull (s.pFmt p.val) && decide ((s.port p.val).state ≠ 3) &&
      decide ((s.port p.val).lastValid + 32768 * 256 ≤ 32768 * s.clock.now)) = true := by simp [hrun, hon, hstart, hfull, hstate, hvalid]
  refine ⟨_, exec_portStopped_eq s p, ?_⟩
  dsimp only
  rw [hdue, if_neg (by simp)]
  split
  · rw [State.foldl_gun_port, hport]
  · exact hport

theorem exec_portStopped_frame {s t : State} {p : Fin 6} (h : exec (.portStopped p) s = .next t) : Frame [.ports, .log] s t := by
  intro c hc
  cases c with
  | ports | log => simp at hc
  | _ => simp only [Part.same, execPortStopped_keeps p s t h]

/-- The port reads a measured rate, its class and deviation, and its next measurement begins at an edge (R235). -/
def Port.Reads (r : Port) (x : Nat × Nat × Int) (first : Option Nat) : Prop :=
  r.rate = x.1 ∧ r.cls = x.2.1 ∧ r.dev = x.2.2 ∧ r.edgeCount = 0 ∧ r.edgeFirst = first

theorem Port.Reads.ite {a b : Port} {x : Nat × Nat × Int} {e : Option Nat} {c : Prop} [Decidable c] (ha : a.Reads x e) (hb : b.Reads x e) :
    (if c then a else b).Reads x e := by
  split
  · exact ha
  · exact hb

/-- What a report measures stays through what follows it: an ASRC slip, a restart, a mismatch (R233-R235). -/
theorem State.portReport_reads (s : State) (p : Nat) (q : Port) :
    (s.portReport p q).Reads (s.rateOf p q) (if (s.rateOf p q).2.1 = 0 then none else q.edgeLast) := by
  unfold State.portReport
  extract_lets r jump q1 q2 q3 bad
  have h1 : q1.Reads r (if r.2.1 = 0 then none else q.edgeLast) := ⟨rfl, rfl, rfl, rfl, rfl⟩
  have h2 : q2.Reads r (if r.2.1 = 0 then none else q.edgeLast) := .ite h1 h1
  have h3 : q3.Reads r (if r.2.1 = 0 then none else q.edgeLast) := .ite h2 h2
  exact .ite h3 (.ite (.ite h3 h3) (.ite h3 (.ite h3 h3)))

theorem exec_rateReport_due (s : State) (hawake : s.awake = true) (htick : s.tickNat % 9600 = 0) :
    Completes .rateReport s (fun t => t.ports = ((List.range 6).filter s.portOn).foldl (fun x p => x.mod p (s.portReport p)) s.ports) := by
  refine ⟨_, rfl, ?_⟩
  simp [hawake, htick]

theorem exec_rateReport_frame {s t : State} (h : exec .rateReport s = .next t) : Frame [.ports, .bus, .log, .free] s t := by
  intro c hc
  cases c with
  | ports | bus | log | free => simp at hc
  | _ => simp only [Part.same, execRateReport_keeps s t h]

theorem exec_maskTakeEffect_due (s : State) (p : Fin 6) (i o b : Nat) (hstaged : (s.port p.val).staged = some (i, o)) (hrun : s.inRun = true)
    (hstate : (s.port p.val).state = 2) (hcount : (s.port p.val).counting = true) (hnext : (s.port p.val).stagedNext = false)
    (hstart : (s.port p.val).lastStart = some b) (htwo : (s.port p.val).stagedAt + s.twoBits p.val ≤ b) (hafter : (s.port p.val).stagedAt < b) :
    exec (.maskTakeEffect p) s = .next (s.modPort p.val (fun q => s.portSend p.val
      { q with staged := none, maskOut := o, maskFrame := q.frame, maskInAt := q.maskInAt ++ [(q.frame, i)] })) := by
  simp [exec, execMaskTakeEffect, hstaged, hrun, hstate, hcount, hnext, hstart, htwo, hafter]

theorem Frame.ports (s : State) (x : Ports) : Frame [.ports] s { s with ports := x } := by
  intro p hp
  cases p with
  | ports => simp at hp
  | _ => rfl

/-- Settles O19: each command's effect on its port. -/
theorem portsStopReportLockAndMask : Obligations.PortsStopReportLockAndMask := by
  refine ⟨fun s p hrun hon hstart hfull hstate hvalid => ?_, fun s p h => ?_, fun s p hawake htick hp hon => ?_, fun s h => ?_, fun s p q hq hsync hacq => ?_,
    fun s p q hq hsync => ?_, fun s p q i o b hq hstaged hrun hstate hcount hnext hstart htwo hafter => ?_, fun s p h => ?_⟩
  · obtain ⟨t, hnext, hport⟩ := exec_portStopped_due s p hrun hon hstart hfull hstate hvalid
    refine ⟨t, hnext, ?_⟩
    dsimp only
    rw [hport]
    exact ⟨rfl, rfl, fun k hk => Port.hold_present { s.port p.val with sentSub := [] } k hk, exec_portStopped_frame hnext⟩
  · simp only [exec, execPortStopped]
    rcases h with h | h | h
    · simp [h]
    · simp [h]
    · simp [Nat.not_le.2 h]
  · obtain ⟨t, hnext, hports⟩ := exec_rateReport_due s hawake htick
    have hport : t.port p = s.portReport p (s.port p) := by
      rw [State.port, hports, tabGet_foldl_mod s.portReport _ (List.Pairwise.filter _ List.nodup_range), if_pos (by simp [hp, hon])]
      rfl
    obtain ⟨hrate, hcls, hdev, hcount, hfirst⟩ := s.portReport_reads p (s.port p)
    refine ⟨t, hnext, ?_⟩
    dsimp only
    rw [hport]
    exact ⟨hrate, hcls, hdev, hcount, hfirst, exec_rateReport_frame hnext⟩
  · simp only [exec, execRateReport]
    rcases h with h | h <;> simp [h]
  · subst hq
    simp [exec, execAsrcLock, State.modPort_eq_putPort, hsync, hacq]
  · subst hq
    simp [exec, execAsrcLock, State.modPort_eq_putPort, hsync]
  · subst hq
    have hdue := exec_maskTakeEffect_due s p i o b hstaged hrun hstate hcount hnext hstart htwo hafter
    refine ⟨_, hdue, ?_⟩
    dsimp only
    rw [State.port_modPort_self]
    exact ⟨rfl, rfl, rfl, rfl, Frame.ports s _⟩
  · simp only [exec, execMaskTakeEffect]
    rcases h with h | h
    · simp [h]
    · cases hst : (s.port p.val).staged <;> simp [h]

/-! Exchanges (R230). -/

/-- The port goes on with the same exchange, due at the same boundary, in the same state. -/
def Port.SameCourse (q r : Port) : Prop := r.exchange = q.exchange ∧ r.nextP = q.nextP ∧ r.state = q.state

theorem Port.SameCourse.refl (q : Port) : q.SameCourse q := ⟨Eq.refl _, Eq.refl _, Eq.refl _⟩

theorem Port.SameCourse.trans {q r u : Port} (h : q.SameCourse r) (k : r.SameCourse u) : q.SameCourse u :=
  ⟨k.1.trans h.1, k.2.1.trans h.2.1, k.2.2.trans h.2.2⟩

theorem Port.SameCourse.ite {q a b : Port} {c : Prop} [Decidable c] (ha : q.SameCourse a) (hb : q.SameCourse b) : q.SameCourse (if c then a else b) := by
  split
  · exact ha
  · exact hb

theorem State.modPort_sameCourse (s : State) (m p : Nat) (f : Port → Port) (hf : ∀ q : Port, q.SameCourse (f q)) : (s.port p).SameCourse ((s.modPort m f).port p) := by
  rw [State.port_modPort]
  exact .ite (hf _) (.refl _)

/-- A ring sample found bad is replaced in the ring (R228). -/
theorem State.ringUe_sameCourse (s : State) (word p : Nat) (injected : Bool) : (s.port p).SameCourse ((s.ringUe word injected).port p) := by
  have hnote : (s.noteUe 6 0 word injected).port p = s.port p := by simp [State.port]
  unfold State.ringUe
  dsimp only
  rw [← hnote]
  split
  · exact State.modPort_sameCourse _ _ _ _ fun q => ⟨Eq.refl _, Eq.refl _, Eq.refl _⟩
  · exact State.modPort_sameCourse _ _ _ _ fun q => ⟨Eq.refl _, Eq.refl _, Eq.refl _⟩

theorem State.ringsFound_sameCourse (s : State) (p : Nat) : (s.port p).SameCourse (s.ringsFound.port p) := by
  have hfold : ∀ (l : List Injected) (u : State), (u.port p).SameCourse ((l.foldl (fun (s : State) x => s.ringUe x.word true) u).port p) := by
    intro l
    induction l with
    | nil => exact fun u => .refl _
    | cons x l ih => exact fun u => (u.ringUe_sameCourse x.word p true).trans (ih _)
  exact hfold _ _

theorem Port.asrcOpen_sameCourse (q : Port) (s : State) (p : Nat) : q.SameCourse (q.asrcOpen s p) := ⟨rfl, rfl, rfl⟩

theorem State.portsOpen_sameCourse (s : State) (p : Nat) : (s.port p).SameCourse (s.portsOpen.port p) := by
  unfold State.portsOpen State.port
  dsimp only
  rw [tabGet_foldl_mod _ _ List.nodup_range]
  refine .ite (.ite (.refl _) (.ite ⟨rfl, rfl, rfl⟩ (.ite (Port.asrcOpen_sameCourse _ s p) (.refl _)))) (.refl _)

theorem State.openTick_port (s : State) (p : Nat) : (s.port p).SameCourse (s.openTick.port p) := by
  have hlast : s.openTick.port p = s.follow.ringsFound.rxRead.portsOpen.port p := by
    simp [State.port, State.openTick]
  have hfollow : s.follow.port p = s.port p := by simp [State.port]
  have hrx : s.follow.ringsFound.rxRead.port p = s.follow.ringsFound.port p := by simp [State.port]
  have hopen := s.follow.ringsFound.rxRead.portsOpen_sameCourse p
  rw [hrx] at hopen
  rw [hlast, ← hfollow]
  exact (s.follow.ringsFound_sameCourse p).trans hopen

theorem State.openIfReady_port (s : State) (p : Nat) : (s.port p).SameCourse (s.openIfReady.port p) := by
  unfold State.openIfReady
  split
  · exact .refl _
  · exact s.openTick_port p

theorem State.openTick_clock (s : State) : s.openTick.clock = { s.clock with opened := true } := by
  simp [State.openTick]

theorem State.openIfReady_now (s : State) : s.openIfReady.clock.now = s.clock.now ∧ s.openIfReady.clock.tick = s.clock.tick := by
  unfold State.openIfReady
  split
  · exact ⟨Eq.refl _, Eq.refl _⟩
  · rw [State.openTick_clock]; exact ⟨Eq.refl _, Eq.refl _⟩

/-- Between acts, with neither an armed change nor a gun due, a boundary's first acts change nothing. -/
theorem State.between_acts {s : State} (h : s.Between) : s.armedAct.gunsAct = s := by
  obtain ⟨-, harmed, hgun⟩ := h
  have hact : s.armedAct = s := by simp [State.armedAct, harmed]
  rw [hact, State.gunsAct, hgun, if_neg (by simp)]

/-- An exchange that is due, without a slip (R230). -/
theorem State.portExchange_port (s : State) (p b : Nat) (hnext : (s.port p).nextP = some b) (hb : b ≤ s.clock.now) (hslip : s.portSlip p b = none) :
    ((s.portExchange p).port p).exchange = (s.port p).exchange + 1 ∧
    ((s.portExchange p).port p).nextP = some (b + exTicks (s.portSync p)) ∧ ((s.portExchange p).port p).state = 2 := by
  have hport : (s.portExchange p).port p = (s.port p).exchangeAt (s.portSync p) (s.portRaw p) (fmtSlots (s.pFmt p)) b none := by
    unfold State.portExchange
    simp only [hnext, hslip, Nat.not_lt.2 hb, if_false, Option.isSome_none, Bool.false_eq_true, List.foldl_nil]
    exact State.port_modPort_self s p _
  rw [hport]
  exact ⟨rfl, rfl, rfl⟩

/-- Settles O17: the exchange is `State.portExchange_port`, and the tick that may open then leaves it (`State.openIfReady_port`). -/
theorem portExchangeIsMadeAtItsBoundary : Obligations.PortExchangeIsMadeAtItsBoundary := by
  refine ⟨fun s p b hbetween hdue hnext hslip => ?_, fun s p hbetween hdue => ?_, fun s p hopen => ?_⟩
  · have hb : b ≤ s.clock.now := by
      simp only [State.exchangeDue, hnext, Bool.and_eq_true, decide_eq_true_eq] at hdue
      exact hdue.2
    obtain ⟨hex, hnextP, hstate⟩ := s.portExchange_port p.val b hnext hb hslip
    obtain ⟨kex, knextP, kstate⟩ := (s.portExchange p.val).openIfReady_port p.val
    obtain ⟨know, ktick⟩ := (s.portExchange p.val).openIfReady_now
    have hclock : (s.portExchange p.val).clock = s.clock := by simp
    refine ⟨(s.portExchange p.val).openIfReady, ?_, kex.trans hex, (knextP.trans hnextP).trans ?_, kstate.trans hstate, ?_, ?_⟩
    · simp only [exec, execPortExchange, State.between_acts hbetween, hbetween.1, hdue, Bool.not_true, Bool.or_self, Bool.false_eq_true, if_false]
    · rfl
    · rw [know, hclock]
    · rw [ktick, hclock]
  · simp [exec, execPortExchange, State.between_acts hbetween, hdue]
  · simp [exec, execPortExchange, hopen]

/-! Time (R16, R27, R29, R86). -/

/-- With no packet waiting a boundary serves none (R388). -/
theorem State.serveAll_empty (s : State) (hspi : s.bus.spi.mailbox = []) (htwi : s.bus.twi.mailbox = []) (hinbox : s.ctl.inbox = []) : s.serveAll = s := by
  simp [State.serveAll, hspi, htwi, hinbox, State.serve]

theorem State.settle_opened (s : State) (h : s.clock.opened = true) : s.settle = s := by
  simp [State.settle, h]

theorem State.openIfReady_phase (s : State) : s.openIfReady.clock.phase = s.clock.phase := by
  unfold State.openIfReady
  split
  · rfl
  · rw [State.openTick_clock]

/-- One sprint sample of the audio path moves the clock by one sample and the pipe by one place (R86). -/
theorem State.sprintStep_clock (s : State) (levels : List (List Int)) (pdm : List Bool) :
    (s.sprintStep levels pdm).clock = { s.clock with phase := s.clock.phase + 1 } ∧
    ∃ x, (s.sprintStep levels pdm).sprint.pipe = (x :: s.sprint.pipe).take 3 := by
  refine ⟨?_, ?_⟩
  · simp [State.sprintStep]
  · exact ⟨_, rfl⟩

theorem State.frame_sprintStep (s : State) (levels : List (List Int)) (pdm : List Bool) :
    Frame [.clock, .conv, .sprint, .wake, .free] s (s.sprintStep levels pdm) := by
  intro p hp
  cases p with
  | clock | conv | sprint | wake | free => simp at hp
  | _ => simp only [Part.same, State.sprintStep_keeps]

/-- A tick passes: the count of ticks goes on, and TICK with it where it counts and the root runs (R29). -/
theorem State.advance_clock (s : State) : s.advance.clock = { s.clock with
    now := s.clock.now + 1
    tick := if s.clock.counting && s.clock.rootRunning then s.clock.tick + 1 else s.clock.tick
    phase := 0 } := rfl

theorem State.frame_advance (s : State) (hroot : s.clock.rootRunning = false) : Frame [.clock, .log] s s.advance := by
  intro p hp
  cases p with
  | clock | log => simp at hp
  | inp => simp [Part.same, State.advance, hroot]
  | _ => simp only [Part.same, State.advance_keeps]

/-- A boundary after the 128th sprint sample of an open tick, with no packet waiting (R16). -/
theorem exec_tickBoundary_due (s : State) (hroot : s.clock.rootRunning = true) (hphase : s.clock.phase = 128) (hopen : s.clock.opened = true)
    (hspi : s.bus.spi.mailbox = []) (htwi : s.bus.twi.mailbox = []) (hinbox : s.ctl.inbox = []) :
    exec .tickBoundary s = .next (let u := (if s.awake then s.release else s).advance
      { u with clock := { u.clock with opened := false } }.openIfReady) := by
  have hcount : s.rootCounter = 0 ∧ 0 < s.clock.phase := by simp [State.rootCounter, hphase]
  simp only [exec, execTickBoundary, s.settle_opened hopen, s.serveAll_empty hspi htwi hinbox, hroot, hcount, Bool.not_true, Bool.false_eq_true, if_false, and_self, if_true]

/-- Settles O47: the sprint sample, the early boundary and the boundary that is due, each by its equation. -/
theorem ticksAndSprintSamplesPass : Obligations.TicksAndSprintSamplesPass := by
  refine ⟨fun s lv pdm hroot hphase hopen haudio => ?_, fun s lv pdm hroot hphase hopen haudio => ?_, fun s lv pdm h => ?_,
    fun s hroot hphase => execTickBoundary_early hroot hphase, fun s hroot hphase hopen hspi htwi hinbox => ?_, fun s hroot hspi htwi hinbox => ?_⟩
  · simp [exec, execSprintSample, s.settle_opened hopen, hroot, hphase, haudio]
  · obtain ⟨hclock, x, hpipe⟩ := s.sprintStep_clock lv pdm
    refine ⟨s.sprintStep lv pdm, ?_, hclock, ?_, ?_, s.frame_sprintStep lv pdm⟩
    · simp [exec, execSprintSample, s.settle_opened hopen, hroot, hphase, haudio]
    · rw [hpipe, List.length_take, List.length_cons]
    · rw [hpipe]; rfl
  · simp only [exec, execSprintSample]
    rcases h with h | h
    · simp [h]
    · simp [Nat.not_lt.2 h]
  · have hdue := exec_tickBoundary_due s hroot hphase hopen hspi htwi hinbox
    refine ⟨_, hdue, ?_⟩
    obtain ⟨hnow, htick⟩ := State.openIfReady_now { (if s.awake then s.release else s).advance with clock := { (if s.awake then s.release else s).advance.clock with opened := false } }
    dsimp only
    refine ⟨?_, ?_, ?_, ?_, ?_⟩
    · rw [hnow, State.advance_clock]; simp
    · rw [State.openIfReady_phase, State.advance_clock]
    · rw [htick, State.advance_clock]; simp [hroot]
    · rw [(State.openIfReady_sessions _).1]; simp
    · simp
  · refine ⟨s.advance, ?_, ?_, s.frame_advance hroot⟩
    · simp [exec, execTickBoundary, s.serveAll_empty hspi htwi hinbox, hroot]
    · rw [State.advance_clock]; simp [hroot]

/-! A run-ahead firing that a swap has taken its tick from (R149). -/

/-- A firing for tick 5, not late and not dropped by an epoch, that a swap accepted meanwhile takes its tick from. -/
def voidFiring : Firing := { node := 0, write := false, made := 5, ahead := 0, epoch := 0, heat := 0, start := 0, moved := false, void := true }

/-- A device in Run whose runner 0 runs it. -/
def voidState : State := { power := { mode := .run }, graph := { runners := [(0, some voidFiring)] } }

theorem voidState_completing : voidState.completing 0 0 = some voidFiring := by decide

theorem voidState_not_dropped : voidState.graph.dropped voidFiring = false := by decide

/-- Its completion leaves its node at the tick it stood at. -/
theorem voidState_completes : (match exec (.nodeFiringComplete 0 0) voidState with | .next t => (t.graph.rt 0).next | _ => 6) = 0 := by decide

/-- Refutes O46: a firing that a swap takes its tick from (R149) is neither late nor dropped by an epoch, and its completion does not move its
node on to the next tick. -/
theorem not_graphEventsAndFiringsComplete : ¬ Obligations.GraphEventsAndFiringsComplete := by
  intro h
  obtain ⟨-, -, -, hfire, -⟩ := h
  obtain ⟨t, hnext, -, -, -, -, -, -, hmoves, -⟩ := hfire voidState 0 0 voidFiring voidState_completing
  have hzero := voidState_completes
  rw [hnext] at hzero
  have hsix : (t.graph.rt 0).next = 6 := hmoves rfl voidState_not_dropped rfl
  exact absurd (hsix.symm.trans hzero) (by decide)

end Sys2Proof.Machine
end

section
/-! SUPPORT. Muythlink: link-up, joins, breaks, frames, the topology and remote packets (chapter 10). -/
namespace Sys2Proof.Machine

-- One proof after another: a check of the whole text in one process stays within its memory.
set_option Elab.async false

/-- Nothing changes but the link. -/
theorem Frame.link (s : State) (l : Link) : Frame [.link] s { s with link := l } := by
  intro p hp
  cases p with
  | link => simp at hp
  | _ => rfl

/-! A LINK port updated, and the other one. -/

theorem State.modLink_eq_putLink (s : State) (x : Fin 2) (f : LinkPort → LinkPort) : s.modLink x.val f = s.putLink x (f (s.link.port x.val)) := by
  by_cases hx : x.val = 0 <;> simp [State.modLink, State.putLink, Link.modPort, Link.port, hx]

theorem State.putLink_self (s : State) (x : Fin 2) : s.putLink x (s.link.port x.val) = s := by
  by_cases hx : x.val = 0 <;> simp [State.putLink, Link.port, hx]

theorem Link.other_port (x : Fin 2) : 1 - x.val = 0 ↔ ¬ x.val = 0 := by omega

@[simp] theorem Link.port_modPort_other (l : Link) (x : Fin 2) (f : LinkPort → LinkPort) : (l.modPort x.val f).port (1 - x.val) = l.port (1 - x.val) :=
  l.port_modPort_ne f (Link.other_port x)

@[simp] theorem Link.port_modPort_here (l : Link) (x : Fin 2) (f : LinkPort → LinkPort) : (l.modPort (1 - x.val) f).port x.val = l.port x.val :=
  l.port_modPort_ne f (by omega)

/-- An update of a port changes the ports alone. -/
theorem Link.modPort_eq (l : Link) (x : Nat) (f : LinkPort → LinkPort) : ∃ a b, l.modPort x f = { l with a := a, b := b } := by
  unfold Link.modPort
  split <;> exact ⟨_, _, rfl⟩

/-! Cells of this device's own wait at the ports, and change nothing else of them. -/

/-- A broadcast cell waits at every port from BLOCKED on (R253). -/
theorem Link.port_broadcast (l : Link) (self : Nat) (b : List Byte) (x : Nat) : (l.broadcast self b).port x =
    if 3 ≤ (l.port x).state then { l.port x with outbox := (l.port x).outbox ++ [l.ownCell self false b] } else l.port x := by
  by_cases hx : x = 0 <;> simp [Link.broadcast, Link.port, hx]

theorem Link.port_announce (l : Link) (self : Nat) (b : List Byte) (x : Nat) : ∃ o, (l.announce self b).port x = { l.port x with outbox := o } := by
  rw [Link.announce, Link.port_broadcast]
  by_cases hx : x = 0 <;> simp only [Link.port, hx, if_true, if_false] <;> repeat' split
  all_goals exact ⟨_, rfl⟩

theorem State.port_announceRing (s : State) (x : Nat) : ∃ o, s.announceRing.link.port x = { s.link.port x with outbox := o } :=
  Link.port_announce _ _ _ x

theorem State.port_announceReturn (s : State) (back : Option Nat) (x : Nat) : ∃ o, (s.announceReturn back).link.port x = { s.link.port x with outbox := o } := by
  cases back with
  | none => exact ⟨_, rfl⟩
  | some c => exact s.link.port_announce _ _ x

/-! A hop that comes UP (R255). -/

theorem Link.port_hopUp (l : Link) (x : Fin 2) (back : Option Nat) (hold : Bool) : (l.hopUp x.val back hold).port x.val =
    { l.port x.val with state := 5, joins := false, origin := decide ((l.port (1 - x.val)).state ≠ 5) } := by
  simp [Link.hopUp]

theorem Link.port_hopUp_other (l : Link) (x : Fin 2) (back : Option Nat) (hold : Bool) : (l.hopUp x.val back hold).port (1 - x.val) =
    if hold then { l.port (1 - x.val) with returnAt := back } else { l.port (1 - x.val) with origin := false, sched := 0 } := by
  simp [Link.hopUp]

theorem Link.hopUp_eq (l : Link) (x : Nat) (back : Option Nat) (hold : Bool) : ∃ a b, l.hopUp x back hold = { l with a := a, b := b } := by
  unfold Link.hopUp
  generalize (fun p : LinkPort => { p with state := 5, joins := false, origin := decide ((l.port (1 - x)).state ≠ 5) }) = f
  obtain ⟨a, b, h⟩ := l.modPort_eq x f
  obtain ⟨c, d, h'⟩ := (l.modPort x f).modPort_eq (1 - x) (fun q => if hold then { q with returnAt := back } else { q with origin := false, sched := 0 })
  exact ⟨c, d, by rw [h', h]⟩

/-! Link-up: signal, frame lock and its loss (R248, R266). -/

theorem exec_linkSignalDetect_eq (s : State) (x : Fin 2) (b : Bool) (p : LinkPort) (hp : s.link.port x.val = p) (hon : s.linkOn x.val = true) :
    exec (.linkSignalDetect x b) s = .next (
      if b then (if p.state = 0 then s.putLink x { p with state := 1, locked := false, markLabel := none, markRun := 0, lostRun := 0, delays := [], partner := none, rev := 0, blockReason := 0 } else s)
      else if p.state ≠ 5 then s.putLink x { p with state := 0, locked := false, rev := 0, blockReason := 0, joins := false } else s) := by
  subst hp
  simp only [exec, execLinkSignalDetect, State.modLink_eq_putLink, hon, Bool.not_true, Bool.false_eq_true, if_false]

theorem exec_linkFrameLock_eq (s : State) (x : Fin 2) (p : LinkPort) (hp : s.link.port x.val = p) : exec (.linkFrameLock x) s =
    .next (s.putLink x { p with locked := p.locked || (decide (p.state ≠ 0) && decide (p.markRun = 8)) }) := by
  subst hp
  simp only [exec, execLinkFrameLock, State.modLink_eq_putLink]

theorem exec_frameLockLoss_eq (s : State) (x : Fin 2) (p : LinkPort) (hp : s.link.port x.val = p) : exec (.frameLockLoss x) s =
    .next (s.putLink x (if p.locked && decide (p.lostRun = 2) && decide (p.state = 1 ∨ p.state = 3 ∨ p.state = 4) then
      { p with state := 0, locked := false, rev := 0, blockReason := 0, joins := false } else p)) := by
  subst hp
  simp only [exec, execFrameLockLoss, State.modLink_eq_putLink]

/-! The judgement at the end of training (R266-R268). -/

/-- The ports once the hop is judged. -/
def State.judgedLink (s : State) (x : Fin 2) (i : HopInfo) : Link :=
  (s.link.modPort (1 - x.val) (fun p => p.forwards s.free)).modPort x.val (fun p => { p.forwards s.free with
    partner := some i
    rev := min s.revMax i.revMax.val
    state := (s.judgeHop x.val i).1
    blockReason := (s.judgeHop x.val i).2.1
    joins := (s.judgeHop x.val i).2.2 })

theorem State.port_judgedLink (s : State) (x : Fin 2) (i : HopInfo) : (s.judgedLink x i).port x.val = { (s.link.port x.val).forwards s.free with
    partner := some i
    rev := min s.revMax i.revMax.val
    state := (s.judgeHop x.val i).1
    blockReason := (s.judgeHop x.val i).2.1
    joins := (s.judgeHop x.val i).2.2 } := by
  simp [State.judgedLink]

theorem State.port_judgedLink_other (s : State) (x : Fin 2) (i : HopInfo) : (s.judgedLink x i).port (1 - x.val) = (s.link.port (1 - x.val)).forwards s.free := by
  simp [State.judgedLink]

/-- The label at which the origin of a closing hop returns to forwarding, with K in force (R271). -/
def State.returnLabel (s : State) : Option Nat := if 0 < s.link.k then some (s.tickNat + s.link.l + 2) else none

/-- A closing hop, UP at once. -/
def State.closedHop (s : State) (x : Fin 2) (i : HopInfo) : State := { s with link := (s.judgedLink x i).hopUp x.val s.returnLabel true }

theorem State.closedHop_l (s : State) (x : Fin 2) (i : HopInfo) : (s.closedHop x i).link.l = s.link.l := by
  obtain ⟨a, b, h⟩ := (s.judgedLink x i).hopUp_eq x.val s.returnLabel true
  obtain ⟨c, d, h'⟩ := (s.link.modPort (1 - x.val) (fun p => p.forwards s.free)).modPort_eq x.val (fun p => { p.forwards s.free with
    partner := some i
    rev := min s.revMax i.revMax.val
    state := (s.judgeHop x.val i).1
    blockReason := (s.judgeHop x.val i).2.1
    joins := (s.judgeHop x.val i).2.2 })
  obtain ⟨e, g, h''⟩ := s.link.modPort_eq (1 - x.val) (fun p => p.forwards s.free)
  rw [State.closedHop, h]
  change (s.judgedLink x i).l = _
  rw [State.judgedLink, h', h'']

theorem exec_linkTrainingDone_early (s : State) (x : Fin 2) (i : HopInfo) (p : LinkPort) (hp : s.link.port x.val = p)
    (h : p.state ≠ 1 ∨ p.locked = false ∨ p.delays.length < 64) : exec (.linkTrainingDone x i) s = .next s := by
  subst hp
  have hearly : (!s.linkOn x.val || decide ((s.link.port x.val).state ≠ 1) || !(s.link.port x.val).locked ||
      decide ((s.link.port x.val).delays.length < 64)) = true := by
    rcases h with h | h | h <;> simp [h]
  simp only [exec, execLinkTrainingDone, hearly, if_true]

section
variable {s : State} {x : Fin 2} {p : LinkPort} {i : HopInfo} (hp : s.link.port x.val = p) (hon : s.linkOn x.val = true) (htrains : p.state = 1)
  (hlocked : p.locked = true) (hdelays : 64 ≤ p.delays.length)
include hp hon htrains hlocked hdelays

theorem exec_linkTrainingDone_eq : exec (.linkTrainingDone x i) s = .next (
    if i.letterB = decide (x.val = 1) then s.putLink x { p with state := 2, partner := some i }
    else if i.revMax.val = 0 ∨ 2 < i.revMax.val then s.putLink x { p with state := 0, locked := false }
    else if (s.judgeHop x.val i).1 ≠ 5 then { s with link := s.judgedLink x i }
    else if s.link.isPace && decide (s.link.k = 0) then (s.closedHop x i).announceRing.raise 12
    else ((s.closedHop x i).announceReturn s.returnLabel).raise 12) := by
  subst hp
  have hwhole : (!s.linkOn x.val || decide ((s.link.port x.val).state ≠ 1) || !(s.link.port x.val).locked ||
      decide ((s.link.port x.val).delays.length < 64)) = false := by
    simp [hon, htrains, hlocked, hdelays]
  simp only [exec, execLinkTrainingDone, hwhole, Bool.false_eq_true, if_false, State.modLink_eq_putLink]
  rfl

/-- A hop that does not close: the judgement stands at its port. -/
theorem exec_linkTrainingDone_apart (hletter : i.letterB ≠ decide (x.val = 1)) (hrev : i.revMax.val = 1 ∨ i.revMax.val = 2) (hstate : (s.judgeHop x.val i).1 ≠ 5) :
    exec (.linkTrainingDone x i) s = .next { s with link := s.judgedLink x i } := by
  rw [exec_linkTrainingDone_eq hp hon htrains hlocked hdelays, if_neg hletter, if_neg (by omega), if_pos hstate]

/-- A closing hop: the ports as it comes UP, but for the cells that wait, and the cause. -/
theorem exec_linkTrainingDone_closes (hletter : i.letterB ≠ decide (x.val = 1)) (hrev : i.revMax.val = 1 ∨ i.revMax.val = 2) (hstate : (s.judgeHop x.val i).1 = 5) :
    Completes (.linkTrainingDone x i) s (fun t => (∀ y, ∃ o, t.link.port y = { (s.closedHop x i).link.port y with outbox := o }) ∧
      t.bus.attn = s.bus.attn ||| BitVec.ofNat 32 (2 ^ 12) ∧
      (s.link.isPace = true → s.link.k = 0 → t.link.formAt = some (s.tickNat + s.link.l + 2))) := by
  have hnext := exec_linkTrainingDone_eq (i := i) hp hon htrains hlocked hdelays
  rw [if_neg hletter, if_neg (by omega), if_neg (Decidable.not_not.2 hstate)] at hnext
  by_cases hform : (s.link.isPace && decide (s.link.k = 0)) = true
  · rw [if_pos hform] at hnext
    refine ⟨_, hnext, fun y => (s.closedHop x i).port_announceRing y, rfl, fun _ _ => ?_⟩
    exact congrArg (fun l => some (s.tickNat + l + 2)) (s.closedHop_l x i)
  · rw [if_neg hform] at hnext
    refine ⟨_, hnext, fun y => (s.closedHop x i).port_announceReturn _ y, ?_, fun h1 h2 => absurd (by simp [h1, h2]) hform⟩
    simp [Bus.raise, State.closedHop]

end

theorem exec_linkTrainingDone_frame {s t : State} {x : Fin 2} {i : HopInfo} (h : exec (.linkTrainingDone x i) s = .next t) : Frame [.link, .bus] s t := by
  intro p hp
  cases p with
  | link | bus => simp at hp
  | _ => simp only [Part.same, execLinkTrainingDone_keeps x i s t h]

/-- Two systems that both run are kept apart (R267). -/
theorem State.judgeHop_live (s : State) (x : Nat) (i : HopInfo) (hmany : s.tooMany i = false) (htwice : s.idTwice i = false) (hprio : i.pacePrio.val ≠ 255)
    (hother : s.link.identity ≠ i.identity) (hlive : s.segLive = true) (hpartner : i.live = true) : s.judgeHop x i = (3, 1, false) := by
  simp [State.judgeHop, hmany, htwice, hprio, hother, hlive, hpartner]

/-- Settles O20: each command by its equation, and the judged hop apart or closing. -/
theorem linkPortTrainsAndIsJudged : Obligations.LinkPortTrainsAndIsJudged := by
  intro s x p hp
  refine ⟨fun hoff b => by simp [exec, execLinkSignalDetect, hoff], fun hon h => ?_, fun hon h => ?_, fun hon h => ?_, fun hon h => ?_, fun h hrun => ?_, fun h => ?_,
    fun hlocked hlost h => ?_, fun h => ?_, fun i => exec_linkTrainingDone_early s x i p hp, fun hon htrains hlocked hdelays i => ⟨fun hletter => ?_, fun hletter hrev => ?_, fun hletter hrev => ?_⟩⟩
  · rw [exec_linkSignalDetect_eq s x true p hp hon, if_pos rfl, if_pos h]
  · rw [exec_linkSignalDetect_eq s x true p hp hon, if_pos rfl, if_neg h]
  · rw [exec_linkSignalDetect_eq s x false p hp hon, if_neg Bool.false_ne_true, if_pos h]
  · rw [exec_linkSignalDetect_eq s x false p hp hon, if_neg Bool.false_ne_true, if_neg (Decidable.not_not.2 h)]
  · rw [exec_linkFrameLock_eq s x p hp]
    simp [h, hrun]
  · have hsame : (p.locked || (decide (p.state ≠ 0) && decide (p.markRun = 8))) = p.locked := by
      rcases h with h | h <;> simp [h]
    rw [exec_linkFrameLock_eq s x p hp, hsame, ← hp, State.putLink_self]
  · rw [exec_frameLockLoss_eq s x p hp, if_pos (by simp [hlocked, hlost, h])]
  · have hnot : ¬ (p.locked && decide (p.lostRun = 2) && decide (p.state = 1 ∨ p.state = 3 ∨ p.state = 4)) = true := by
      rcases h with h | h <;> simp [h]
    rw [exec_frameLockLoss_eq s x p hp, if_neg hnot, ← hp, State.putLink_self]
  · rw [exec_linkTrainingDone_eq hp hon htrains hlocked hdelays, if_pos hletter]
  · rw [exec_linkTrainingDone_eq hp hon htrains hlocked hdelays, if_neg hletter, if_pos hrev]
  · have hkept : s.tooMany i = false → s.idTwice i = false → i.pacePrio.val ≠ 255 → s.link.identity ≠ i.identity → s.segLive = true → i.live = true →
        (s.judgeHop x.val i).1 = 3 ∧ (s.judgeHop x.val i).2.1 = 1 := fun h1 h2 h3 h4 h5 h6 => by
      rw [s.judgeHop_live x.val i h1 h2 h3 h4 h5 h6]
      exact ⟨rfl, rfl⟩
    by_cases hstate : (s.judgeHop x.val i).1 = 5
    · obtain ⟨t, hnext, hports, hattn, hform⟩ := exec_linkTrainingDone_closes hp hon htrains hlocked hdelays hletter hrev hstate
      obtain ⟨o, hhere⟩ := hports x.val
      obtain ⟨o', hother⟩ := hports (1 - x.val)
      rw [State.closedHop, Link.port_hopUp, State.port_judgedLink] at hhere
      rw [State.closedHop, Link.port_hopUp_other, if_pos rfl] at hother
      have hfive : (t.link.port x.val).state = (s.judgeHop x.val i).1 := by rw [hhere, hstate]
      have hreason : (t.link.port x.val).blockReason = (s.judgeHop x.val i).2.1 := by rw [hhere]
      refine ⟨t, hnext, hfive, hreason, by rw [hhere], by rw [hhere], fun h => absurd hstate h, fun _ => ⟨hattn, exec_linkTrainingDone_frame hnext, ?_, hform⟩,
        fun h1 h2 h3 h4 h5 h6 => ?_⟩
      · rw [hother]
        rfl
      · rw [hfive, hreason]
        exact hkept h1 h2 h3 h4 h5 h6
    · refine ⟨_, exec_linkTrainingDone_apart hp hon htrains hlocked hdelays hletter hrev hstate, ?_⟩
      dsimp only
      rw [State.port_judgedLink, State.port_judgedLink_other]
      exact ⟨rfl, rfl, rfl, rfl, fun _ => ⟨rfl, Frame.link s _⟩, fun h => absurd h hstate, hkept⟩

/-! The hop that joins comes UP (R266, R267). -/

/-- An announcement changes nothing of the link but its ports and SEQ. -/
theorem State.announceReturn_link (s : State) (back : Option Nat) : ∃ a b n, (s.announceReturn back).link = { s.link with a := a, b := b, seq := n } := by
  cases back <;> exact ⟨_, _, _, rfl⟩

/-- The aligning hop at port x UP, on a device that has taken over the system as in `t`. -/
def State.hopJoined (s t : State) (x : Fin 2) : State :=
  ({ t with link := t.link.hopUp x.val (some (s.tickNat + s.link.l + 2)) (s.rejoins x.val) }.announceReturn
    (if s.rejoins x.val then some (s.tickNat + s.link.l + 2) else none)).raise 12

theorem State.hopJoined_link (s t : State) (x : Fin 2) : ∃ a b n, (s.hopJoined t x).link = { t.link with a := a, b := b, seq := n } := by
  obtain ⟨a, b, hup⟩ := t.link.hopUp_eq x.val (some (s.tickNat + s.link.l + 2)) (s.rejoins x.val)
  obtain ⟨c, d, n, h⟩ := { t with link := t.link.hopUp x.val (some (s.tickNat + s.link.l + 2)) (s.rejoins x.val) }.announceReturn_link
    (if s.rejoins x.val then some (s.tickNat + s.link.l + 2) else none)
  exact ⟨c, d, n, by rw [State.hopJoined, State.raise_link, h, hup]⟩

theorem State.hopJoined_state (s t : State) (x : Fin 2) : ((s.hopJoined t x).link.port x.val).state = 5 := by
  obtain ⟨o, h⟩ := { t with link := t.link.hopUp x.val (some (s.tickNat + s.link.l + 2)) (s.rejoins x.val) }.port_announceReturn
    (if s.rejoins x.val then some (s.tickNat + s.link.l + 2) else none) x.val
  rw [State.hopJoined, State.raise_link, h, Link.port_hopUp]

theorem State.hopJoined_origin (s t : State) (x : Fin 2) (hnew : s.rejoins x.val = false) : ((s.hopJoined t x).link.port (1 - x.val)).origin = false := by
  obtain ⟨o, h⟩ := { t with link := t.link.hopUp x.val (some (s.tickNat + s.link.l + 2)) (s.rejoins x.val) }.port_announceReturn
    (if s.rejoins x.val then some (s.tickNat + s.link.l + 2) else none) (1 - x.val)
  rw [State.hopJoined, State.raise_link, h, Link.port_hopUp_other, hnew, if_neg Bool.false_ne_true]

theorem State.hopJoined_attn (s t : State) (x : Fin 2) : (s.hopJoined t x).bus.attn = t.bus.attn ||| BitVec.ofNat 32 (2 ^ 12) := by
  simp [State.hopJoined, Bus.raise]

theorem State.frame_hopJoined (s t : State) (x : Fin 2) : Frame [.link, .bus] t (s.hopJoined t x) := by
  intro p hp
  cases p with
  | link | bus => simp at hp
  | _ => simp [Part.same, State.hopJoined]

/-- The ports that align. -/
theorem State.aligning_one (s : State) (x : Fin 2) (hfour : (s.link.port x.val).state = 4) (hother : (s.link.port (1 - x.val)).state ≠ 4) :
    [0, 1].filter (fun y => decide ((s.link.port y).state = 4)) = [x.val] := by
  match x with
  | 0 => simp_all
  | 1 => simp_all

theorem State.aligning_none (s : State) (x : Fin 2) (hnot : (s.link.port x.val).state ≠ 4) (hother : (s.link.port (1 - x.val)).state ≠ 4) :
    [0, 1].filter (fun y => decide ((s.link.port y).state = 4)) = [] := by
  match x with
  | 0 => simp_all
  | 1 => simp_all

section
variable {s : State} {x : Fin 2} {p : LinkPort} (hp : s.link.port x.val = p) (hother : (s.link.port (1 - x.val)).state ≠ 4) (hfour : p.state = 4)
include hp hother hfour

/-- The side that joins. -/
theorem exec_linkJoinAlign_side (hjoins : p.joins = true) (tick : BitVec 48) (sys : Option (Fin 1024 × BitVec 64)) (i : HopInfo) (hpartner : p.partner = some i) :
    exec (.linkJoinAlign ⟨tick, sys⟩) s = .next (if s.link.aligned && (s.rejoins x.val || s.segIdle) then
      s.hopJoined (s.takeSystem i.pace.val i.identity tick p.sysL p.sysK) x else s) := by
  subst hp
  simp only [exec, execLinkJoinAlign, s.aligning_one x hfour hother, List.find?_cons, hjoins, hpartner, List.foldl_cons, List.foldl_nil, List.any_cons, List.any_nil,
    Bool.or_false]
  rfl

theorem exec_linkJoinAlign_unaligned (hjoins : p.joins = true) (tick : BitVec 48) (sys : Option (Fin 1024 × BitVec 64)) (h : s.link.aligned = false) :
    exec (.linkJoinAlign ⟨tick, sys⟩) s = .next s := by
  cases hpartner : p.partner with
  | some i => rw [exec_linkJoinAlign_side hp hother hfour hjoins tick sys i hpartner, h, Bool.false_and, if_neg Bool.false_ne_true]
  | none =>
    subst hp
    simp only [exec, execLinkJoinAlign, s.aligning_one x hfour hother, List.find?_cons, hjoins, hpartner]

/-- The side that is joined. -/
theorem exec_linkJoinAlign_joined (hjoins : p.joins = false) (tick : BitVec 48) : exec (.linkJoinAlign ⟨tick, none⟩) s = .next (s.hopJoined s x) := by
  subst hp
  simp only [exec, execLinkJoinAlign, s.aligning_one x hfour hother, List.find?_cons, List.find?_nil, hjoins, List.isEmpty_cons, Bool.false_eq_true, if_false,
    List.foldl_cons, List.foldl_nil, List.any_cons, List.any_nil, Bool.or_false]
  rfl

theorem exec_linkJoinAlign_told (hjoins : p.joins = false) (tick : BitVec 48) (v : Fin 1024 × BitVec 64) : exec (.linkJoinAlign ⟨tick, some v⟩) s = .next s := by
  subst hp
  simp only [exec, execLinkJoinAlign, s.aligning_one x hfour hother, List.find?_cons, List.find?_nil, hjoins, List.isEmpty_cons, Bool.and_false, Bool.false_eq_true,
    if_false]

end

/-- A device behind the joining hop. -/
theorem exec_linkJoinAlign_behind (s : State) (x : Fin 2) (hnot : (s.link.port x.val).state ≠ 4) (hother : (s.link.port (1 - x.val)).state ≠ 4) (tick : BitVec 48) :
    exec (.linkJoinAlign ⟨tick, none⟩) s = .next s ∧
    ∀ (pace : Fin 1024) (id : BitVec 64), exec (.linkJoinAlign ⟨tick, some (pace, id)⟩) s =
      .next (if s.inIdle || decide (id = s.link.identity) then s.takeSystem pace.val id tick s.link.l s.link.k else s) := by
  simp only [exec, execLinkJoinAlign, s.aligning_none x hnot hother, List.find?_nil, List.isEmpty_nil, Bool.and_true, if_true, implies_true, and_self]

theorem State.takeSystem_link (s : State) (pace : Nat) (id : BitVec 64) (tick : BitVec 48) (l k : Nat) :
    (s.takeSystem pace id tick l k).link.identity = id ∧ (s.takeSystem pace id tick l k).link.pace = pace ∧ (s.takeSystem pace id tick l k).link.isPace = false ∧
    (s.takeSystem pace id tick l k).link.l = (if s.link.identity = id then s.link.l else l) ∧
    (s.takeSystem pace id tick l k).link.k = (if s.link.identity = id then s.link.k else k) := by
  unfold State.takeSystem
  split <;> exact ⟨rfl, rfl, rfl, rfl, rfl⟩

theorem State.takeSystem_clock (s : State) (pace : Nat) (id : BitVec 64) (tick : BitVec 48) (l k : Nat) :
    (s.takeSystem pace id tick l k).clock = if s.link.identity = id then s.clock else { s.clock with tick := tick } := by
  unfold State.takeSystem
  split <;> rfl

theorem State.frame_takeSystem (s : State) (pace : Nat) (id : BitVec 64) (tick : BitVec 48) (l k : Nat) : Frame [.clock, .link] s (s.takeSystem pace id tick l k) := by
  intro p hp
  cases p with
  | clock | link => simp at hp
  | _ => simp [Part.same]

/-- A frame holds with more components named. -/
theorem Frame.wide {a c : List Part} {s t : State} (h : Frame a s t) (hac : a ⊆ c) : Frame c s t := fun p hp => h p (fun hin => hp (hac hin))

/-- Settles O21: the joining hop is `State.hopJoined` on the system that `State.takeSystem` gives. -/
theorem linkJoinLoadsTick : Obligations.LinkJoinLoadsTick := by
  intro s x p tick hp hother
  have hrejoins : ∀ i : HopInfo, p.partner = some i → s.rejoins x.val = decide (i.identity = s.link.identity) := fun i hi => by
    rw [State.rejoins, hp, hi]
  refine ⟨fun hfour hjoins sys => ⟨fun i hi haligned hdiff hidle => ?_, fun i hi haligned hsame => ?_, exec_linkJoinAlign_unaligned hp hother hfour hjoins tick sys,
    fun i hi hdiff hidle => ?_⟩, fun hfour hjoins => ⟨?_, exec_linkJoinAlign_told hp hother hfour hjoins tick⟩, fun hnot => ?_⟩
  · have hnew : s.rejoins x.val = false := by simp [hrejoins i hi, Ne.symm hdiff]
    have hnext := exec_linkJoinAlign_side hp hother hfour hjoins tick sys i hi
    rw [haligned, hidle, Bool.or_true, Bool.and_true, if_pos rfl] at hnext
    have hframe := s.frame_takeSystem i.pace.val i.identity tick p.sysL p.sysK
    have hclock := s.takeSystem_clock i.pace.val i.identity tick p.sysL p.sysK
    obtain ⟨kid, kpace, kis, kl, kk⟩ := s.takeSystem_link i.pace.val i.identity tick p.sysL p.sysK
    rw [if_neg hdiff] at hclock kl kk
    generalize s.takeSystem i.pace.val i.identity tick p.sysL p.sysK = u at *
    obtain ⟨a, b, n, hlink⟩ := s.hopJoined_link u x
    refine ⟨_, hnext, ?_, ?_, ?_, ?_, ?_, ?_, s.hopJoined_origin u x hnew, s.hopJoined_state u x, ?_, (hframe.wide (by decide)).trans ((s.frame_hopJoined u x).wide (by decide))⟩
    · exact ((s.frame_hopJoined u x) .clock (by decide)).trans hclock
    · rw [hlink, kid]
    · rw [hlink, kpace]
    · rw [hlink, kis]
    · rw [hlink, kl]
    · rw [hlink, kk]
    · rw [s.hopJoined_attn u x, hframe .bus (by decide)]
  · have hback : s.rejoins x.val = true := by simp [hrejoins i hi, hsame]
    have hnext := exec_linkJoinAlign_side hp hother hfour hjoins tick sys i hi
    rw [haligned, hback, Bool.true_or, Bool.and_true, if_pos rfl] at hnext
    have hframe := s.frame_takeSystem i.pace.val i.identity tick p.sysL p.sysK
    have hclock := s.takeSystem_clock i.pace.val i.identity tick p.sysL p.sysK
    obtain ⟨kid, kpace, kis, kl, kk⟩ := s.takeSystem_link i.pace.val i.identity tick p.sysL p.sysK
    rw [if_pos hsame] at hclock kl kk
    generalize s.takeSystem i.pace.val i.identity tick p.sysL p.sysK = u at *
    obtain ⟨a, b, n, hlink⟩ := s.hopJoined_link u x
    have hall : Frame [.clock, .link, .bus] s (s.hopJoined u x) := (hframe.wide (by decide)).trans ((s.frame_hopJoined u x).wide (by decide))
    refine ⟨_, hnext, ?_, ?_, ?_, ?_, ?_, s.hopJoined_state u x, ?_, fun q hq => ?_⟩
    · rw [hlink, kid]
    · rw [hlink, kpace]
    · rw [hlink, kis]
    · rw [hlink, kl]
    · rw [hlink, kk]
    · rw [s.hopJoined_attn u x, hframe .bus (by decide)]
    · by_cases hq' : q = .clock
      · subst hq'
        exact ((s.frame_hopJoined u x) .clock (by decide)).trans hclock
      · exact hall q (by simpa [hq'] using hq)
  · rw [exec_linkJoinAlign_side hp hother hfour hjoins tick sys i hi, hidle, hrejoins i hi]
    simp [Ne.symm hdiff]
  · obtain ⟨a, b, n, hlink⟩ := s.hopJoined_link s x
    refine ⟨_, exec_linkJoinAlign_joined hp hother hfour hjoins tick, ?_, s.hopJoined_state s x, s.hopJoined_attn s x, s.frame_hopJoined s x⟩
    rw [hlink]
  · obtain ⟨halone, htold⟩ := exec_linkJoinAlign_behind s x (by rw [hp]; exact hnot) hother tick
    refine ⟨halone, fun pace id => ⟨fun h => ?_, fun hidle hdiff => by rw [htold, hidle]; simp [hdiff]⟩⟩
    have hnext := htold pace id
    rw [if_pos (by rcases h with h | h <;> simp [h])] at hnext
    obtain ⟨kid, kpace, kis, -, -⟩ := s.takeSystem_link pace.val id tick s.link.l s.link.k
    exact ⟨_, hnext, kpace, kid, kis, by rw [State.takeSystem_clock]; simp only [eq_comm], s.frame_takeSystem _ _ _ _ _⟩

/-! A break, the formation of a ring and the return to forwarding (R256, R269, R271). -/

/-- An election changes nothing of the link but who paces it, and ALIGNED. -/
theorem State.elect_link (s : State) (out : TopoEntry → Bool) : ∃ pace me al, (s.elect out).link = { s.link with pace := pace, isPace := me, acting := me, aligned := al } :=
  ⟨_, _, _, rfl⟩

theorem State.elect_port (s : State) (out : TopoEntry → Bool) (x : Nat) : (s.elect out).link.port x = s.link.port x := rfl

theorem State.elect_ring (s : State) (out : TopoEntry → Bool) : (s.elect out).link.ring = s.link.ring := rfl

theorem State.elect_topo (s : State) (out : TopoEntry → Bool) : (s.elect out).link.topo = s.link.topo := rfl

theorem exec_linkBreak_frame {s t : State} {x : Fin 2} (h : exec (.linkBreak x) s = .next t) : Frame [.link, .dpll, .log, .bus] s t := by
  intro p hp
  cases p with
  | link | dpll | log | bus => simp at hp
  | _ => simp only [Part.same, execLinkBreak_keeps x s t h]

/-- The two ports of a broken hop. -/
theorem exec_linkBreak_ports (s : State) (x : Fin 2) (hup : (s.link.port x.val).state = 5) (hlost : 2 ≤ (s.link.port x.val).lostRun) :
    Completes (.linkBreak x) s (fun t => t.link.port x.val = (s.link.port x.val).broken ∧ (∃ sched, t.link.port (1 - x.val) = (s.link.port (1 - x.val)).begin_ sched) ∧
      t.link.ring = false ∧ t.bus = s.bus.raise s.inbandMask 12) := by
  have hbreaks : ¬ ((s.link.port x.val).state ≠ 5 ∨ (s.link.port x.val).lostRun < 2) := by omega
  have hhere : ∀ sched, ((s.link.modPort x.val LinkPort.broken).modPort (1 - x.val) (fun q => q.begin_ sched)).port x.val = (s.link.port x.val).broken := fun sched => by
    rw [Link.port_modPort_here, Link.port_modPort]
  have hother : ∀ sched, ((s.link.modPort x.val LinkPort.broken).modPort (1 - x.val) (fun q => q.begin_ sched)).port (1 - x.val) = (s.link.port (1 - x.val)).begin_ sched := fun sched => by
    rw [Link.port_modPort, Link.port_modPort_other]
  refine ⟨_, rfl, ?_⟩
  rw [if_neg hbreaks]
  split
  · exact ⟨hhere _, ⟨_, hother _⟩, rfl, rfl⟩
  · exact ⟨hhere _, ⟨_, hother _⟩, rfl, rfl⟩

theorem exec_linkRepairReturn_due (s : State) (x : Fin 2) (c : Nat) (hat : (s.link.port x.val).returnAt = some c) (hdue : c ≤ s.tickNat) :
    exec (.linkRepairReturn x) s = .next { s with link := { s.link.modPort x.val (fun p => { p with origin := false, sched := 0, heal := 0, returnAt := none }) with
      ring := (s.link.modPort x.val (fun p => { p with origin := false, sched := 0, heal := 0, returnAt := none })).ring && decide (0 < s.link.k) } } := by
  simp only [exec, execLinkRepairReturn, hat, hdue, decide_true, if_true]
  rfl

/-- Settles O22: the ports of a break are `LinkPort.broken` and `LinkPort.begin_`; a label ahead is waited for. -/
theorem linkBreaksHealsAndReturns : Obligations.LinkBreaksHealsAndReturns := by
  refine ⟨fun s x p hp hup hlost => ?_, fun s x h => ?_, fun s c hat hdue => ?_, fun s c hat hearly => ?_, fun s x p c hp hat hdue => ?_, fun s x c hat hearly => ?_⟩
  · subst hp
    obtain ⟨t, hnext, hhere, ⟨sched, hother⟩, hring, hbus⟩ := exec_linkBreak_ports s x hup hlost
    refine ⟨t, hnext, ?_⟩
    dsimp only
    rw [hhere, hother, hring, hbus]
    exact ⟨rfl, rfl, rfl, rfl, rfl, rfl, rfl, rfl, rfl, exec_linkBreak_frame hnext⟩
  · simp only [exec, execLinkBreak, h, if_true]
  · simp only [exec, execRingFormation, hat, hdue, decide_true, if_true, Option.getD_some]
  · simp only [exec, execRingFormation, hat, Nat.not_le.2 hearly, decide_false, Bool.false_eq_true, if_false]
  · subst hp
    have hring : (s.link.modPort x.val (fun p => { p with origin := false, sched := 0, heal := 0, returnAt := none })).ring = s.link.ring := by
      obtain ⟨a, b, h⟩ := s.link.modPort_eq x.val (fun p => { p with origin := false, sched := 0, heal := 0, returnAt := none })
      rw [h]
    refine ⟨_, exec_linkRepairReturn_due s x c hat hdue, ?_, ?_, fun hk => ?_, fun hk => ?_, Frame.link s _⟩
    · exact s.link.port_modPort x.val _
    · exact s.link.port_modPort_other x _
    · dsimp only
      rw [hk, decide_eq_false (Nat.lt_irrefl 0), Bool.and_false]
    · dsimp only
      rw [hring, decide_eq_true hk, Bool.and_true]
  · simp only [exec, execLinkRepairReturn, hat, Nat.not_le.2 hearly, decide_false, Bool.false_eq_true, if_false]

/-! Frames received (R248, R249, R251, R258, R263). -/

/-- A good mark, in sequence or not (R248). -/
theorem LinkPort.mark_ok (p : LinkPort) (f : LinkFrame) (h : f.markOk = true) : p.mark f = { p with
    markLabel := some (f.label.toNat % 16)
    lostRun := 0
    markRun := if p.markLabel = some ((f.label.toNat % 16 + 15) % 16) then min 8 (p.markRun + 1) else 1 } := by
  simp only [LinkPort.mark, h, if_true]

/-- A lost or misplaced frame (R248). -/
theorem LinkPort.mark_lost (p : LinkPort) (f : LinkFrame) (h : f.markOk = false) : p.mark f =
    if p.locked then { p with
      lostRun := min 2 (p.lostRun + 1), markLabel := none, markRun := 0, frameErrs := min (p.frameErrs + 1) 65535, frameErrSticky := true }
    else { p with lostRun := min 2 (p.lostRun + 1), markLabel := none, markRun := 0 } := by
  simp only [LinkPort.mark, h, Bool.false_eq_true, if_false]
  rfl

/-- What a frame with a good mark leaves at its port. -/
theorem LinkPort.receive_keeps (p : LinkPort) (free : Nat) (skew : Int) (f : LinkFrame) (t sched : Nat) :
    (p.receive free skew f t sched).state = p.state ∧ (p.receive free skew f t sched).lostRun = p.lostRun ∧ (p.receive free skew f t sched).echoTx = f.tTx.toNat ∧
    (p.receive free skew f t sched).delays.length = min (p.delays.length + 1) 64 := by
  have hdelays : (p.timing free skew f t sched).delays.length = min (p.delays.length + 1) 64 := by
    simp only [LinkPort.timing, List.length_take, List.length_cons]
    omega
  unfold LinkPort.receive
  repeat' split
  all_goals exact ⟨rfl, rfl, rfl, hdelays⟩

theorem LinkPort.receive_bad (p : LinkPort) (free : Nat) (skew : Int) (f : LinkFrame) (t sched : Nat) (h : f.good = false) :
    (p.receive free skew f t sched).copies = p.copies ∧ (p.receive free skew f t sched).frameErrs = min (p.frameErrs + 1) 65535 := by
  simp only [LinkPort.receive, h, Bool.not_false, if_true]
  exact ⟨rfl, rfl⟩

theorem LinkPort.receive_up (p : LinkPort) (free : Nat) (skew : Int) (f : LinkFrame) (t sched : Nat) (h : f.good = true) (hup : p.state = 5) :
    (p.receive free skew f t sched).copies = ({ label := f.label.toNat, at_ := t, slots := f.slots, crossed := f.crossed } :: p.copies).take 128 ∧
    (p.receive free skew f t sched).frameErrs = p.frameErrs := by
  simp only [LinkPort.receive, h, hup, Bool.not_true, Bool.false_eq_true, if_false, if_true]
  exact ⟨rfl, rfl⟩

theorem LinkPort.receive_off (p : LinkPort) (free : Nat) (skew : Int) (f : LinkFrame) (t sched : Nat) (hup : p.state ≠ 5) :
    (p.receive free skew f t sched).copies = p.copies := by
  cases hgood : f.good with
  | false => exact (p.receive_bad free skew f t sched hgood).1
  | true =>
    simp only [LinkPort.receive, hgood, hup, Bool.not_true, Bool.false_eq_true, if_false]
    rfl

/-! What else a frame does leaves its port as it is. -/

theorem Link.measure_port (l : Link) (free x t : Nat) (f : LinkFrame) (y : Nat) : (l.measure free x t f).port y = l.port y := by
  unfold Link.measure
  split <;> rfl

theorem State.carryCells_port (s : State) (x : Fin 2) (f : LinkFrame) : (s.carryCells x.val f).link.port x.val = s.link.port x.val := by
  unfold State.carryCells
  extract_lets half p q
  split
  · exact s.link.port_modPort_here x _
  · rfl

theorem State.takeGun_port (s : State) (f : LinkFrame) (x : Nat) : (s.takeGun f).link.port x = s.link.port x := by
  unfold State.takeGun
  extract_lets
  repeat' split
  all_goals rfl

theorem State.adopt_port (s : State) (x : Nat) (f : LinkFrame) (y : Nat) : (s.adopt x f).link.port y = s.link.port y := by
  unfold State.adopt
  extract_lets
  repeat' split
  all_goals rfl

theorem State.keepFrame_port (s : State) (x : Nat) (f : LinkFrame) (y : Nat) : (s.keepFrame x f).link.port y = s.link.port y := by
  by_cases hx : x = 0 <;> simp [State.keepFrame, hx, Link.port]

/-! A frame sent (R251). -/

/-- The gun fields leave the rest of a frame. -/
theorem State.gunFields_eq (s : State) (m : Nat) (f : LinkFrame) : ∃ a b c, s.gunFields m f = { f with gunMask := a, gunDelta := b, gunSrc := c } := by
  unfold State.gunFields
  repeat' split
  all_goals exact ⟨_, _, _, rfl⟩

/-- What the sent frame has from the one that was to be sent. -/
structure SentAs (s : State) (y : Nat) (f g : LinkFrame) : Prop where
  label : g.label = f.label
  sender : g.sender = Fin.ofNat 1024 s.devId
  good : g.good = f.good
  ring : g.ring = f.ring
  k : g.k = f.k
  slots : (s.link.port y).state ≠ 5 → (s.link.port y).rev ≠ 1 → g.slots = []

theorem State.port_sendFrame (s : State) (y t : Nat) (f : LinkFrame) :
    ∃ g o, (s.sendFrame y t f).link.port y = { s.link.port y with sent := some g, outbox := o } ∧ SentAs s y f g := by
  obtain ⟨a, b, c, hgun⟩ := s.gunFields_eq f.label.toNat f
  refine ⟨_, _, s.link.port_modPort y _, ?_⟩
  rw [hgun]
  split
  case isTrue hrev => exact ⟨rfl, rfl, rfl, rfl, rfl, fun _ hnot => absurd hrev hnot⟩
  case isFalse => exact ⟨rfl, rfl, rfl, rfl, rfl, fun hdown _ => if_neg (by simpa using hdown)⟩

theorem State.port_sendFrame_other (s : State) (x : Fin 2) (t : Nat) (f : LinkFrame) : (s.sendFrame x.val t f).link.port (1 - x.val) = s.link.port (1 - x.val) :=
  s.link.port_modPort_other x _

theorem State.port_sendFrame_here (s : State) (x : Fin 2) (t : Nat) (f : LinkFrame) : (s.sendFrame (1 - x.val) t f).link.port x.val = s.link.port x.val :=
  s.link.port_modPort_here x _

theorem State.passFrame_port (s : State) (x : Fin 2) (t : Nat) (f : LinkFrame) : (s.passFrame x.val t f).link.port x.val = s.link.port x.val := by
  rw [State.passFrame, State.port_sendFrame_here]
  exact s.link.port_modPort_here x _

/-! The received frame as a command. -/

theorem exec_linkFrameReceived_frame {s t : State} {x : Fin 2} {f : LinkFrame} {d : Nat} (h : exec (.linkFrameReceived x f d) s = .next t) : Frame [.link, .free] s t := by
  intro p hp
  cases p with
  | link | free => simp at hp
  | _ => simp only [Part.same, execLinkFrameReceived_keeps x f d s t h]

section
variable {s : State} {x : Fin 2} {p : LinkPort} (hp : s.link.port x.val = p) (f : LinkFrame) (d : Nat) (hon : s.linkOn x.val = true) (hup : p.state ≠ 0) (htwo : p.state ≠ 2)
include hp hon hup htwo

/-- A frame with a good mark on a locked port. -/
theorem exec_linkFrameReceived_locked (hmark : f.markOk = true) (hlocked : p.locked = true) :
    Completes (.linkFrameReceived x f d) s (fun t => ∃ sched, t.link.port x.val = (p.mark f).receive s.free (s.skew x.val) f (524288 * s.clock.now + d) sched) := by
  subst hp
  have hmod : (((s.modLink x.val (fun p => p.mark f)).modLink x.val (fun p => p.receive s.free (s.skew x.val) f (linkTick * s.clock.now + d)
      (linkTick * s.tickNat + d - linkTick * (f.label.toNat + 1)))).link.port x.val) =
      ((s.link.port x.val).mark f).receive s.free (s.skew x.val) f (linkTick * s.clock.now + d) (linkTick * s.tickNat + d - linkTick * (f.label.toNat + 1)) := by
    simp only [State.modLink, Link.port_modPort]
  refine ⟨_, rfl, linkTick * s.tickNat + d - linkTick * (f.label.toNat + 1), ?_⟩
  rw [if_neg (by simp [hon, hup, htwo]), if_neg (by simp [hmark, hlocked])]
  repeat' split
  · rw [State.carryCells_port, Link.measure_port]
    exact hmod
  · rw [State.keepFrame_port, State.adopt_port, State.takeGun_port, State.carryCells_port, Link.measure_port]
    exact hmod
  · rw [State.passFrame_port, State.adopt_port, State.takeGun_port, State.carryCells_port, Link.measure_port]
    exact hmod
  · rw [State.adopt_port, State.takeGun_port, State.carryCells_port, Link.measure_port]
    exact hmod

/-- A frame that is lost, or one on a port without frame lock, is only marked. -/
theorem exec_linkFrameReceived_marked (h : f.markOk = false ∨ p.locked = false) : exec (.linkFrameReceived x f d) s = .next (s.putLink x (p.mark f)) := by
  subst hp
  have hon' : (!s.linkOn x.val || decide ((s.link.port x.val).state = 0 ∨ (s.link.port x.val).state = 2)) = false := by simp [hon, hup, htwo]
  have hmarked : (!f.markOk || !(s.link.port x.val).locked) = true := by rcases h with h | h <;> simp [h]
  simp only [exec, execLinkFrameReceived, hon', hmarked, Bool.false_eq_true, if_false, if_true, State.modLink_eq_putLink]

end

/-- An update of a port does not change the ID (R253). -/
theorem State.devId_modPort (s : State) (x : Nat) (f : LinkPort → LinkPort) : { s with link := s.link.modPort x f }.devId = s.devId := by
  obtain ⟨a, b, h⟩ := s.link.modPort_eq x f
  rw [h]
  rfl

/-! Frames launched and retimed (R252, R255, R258). -/

theorem exec_linkFrameLaunch_frame {s t : State} {x : Fin 2} (h : exec (.linkFrameLaunch x) s = .next t) : Frame [.link, .free] s t := by
  intro p hp
  cases p with
  | link | free => simp at hp
  | _ => simp only [Part.same, execLinkFrameLaunch_keeps x s t h]

theorem exec_linkRetime_frame {s t : State} {x : Fin 2} (h : exec (.linkRetime x) s = .next t) : Frame [.link, .free] s t := by
  intro p hp
  cases p with
  | link | free => simp at hp
  | _ => simp only [Part.same, execLinkRetime_keeps x s t h]

/-- An origin launches: its port sends the frame and has one healing frame less to send; the other port is as it was. -/
theorem exec_linkFrameLaunch_sends (s : State) (x : Fin 2) (p : LinkPort) (hp : s.link.port x.val = p) (hon : s.linkOn x.val = true)
    (h : p.state = 1 ∨ p.state = 3 ∨ p.state = 4 ∨ (p.state = 5 ∧ s.isOrigin x.val = true)) :
    Completes (.linkFrameLaunch x) s (fun t => ∃ g o, t.link.port x.val = { p with heal := p.heal - 1, sent := some g, outbox := o } ∧
      g.label = BitVec.ofNat 48 (s.tickNat - 1 - p.sched / 524288) ∧ g.sender = Fin.ofNat 1024 s.devId ∧ g.good = true ∧ (p.state ≠ 5 → p.rev ≠ 1 → g.slots = []) ∧
      t.link.port (1 - x.val) = s.link.port (1 - x.val)) := by
  subst hp
  have hsends : (s.linkOn x.val && (decide ((s.link.port x.val).state = 1 ∨ (s.link.port x.val).state = 3 ∨ (s.link.port x.val).state = 4) ||
      (decide ((s.link.port x.val).state = 5) && s.isOrigin x.val))) = true := by
    rcases h with h | h | h | ⟨h, horigin⟩ <;> simp [*]
  refine ⟨_, rfl, ?_⟩
  rw [if_pos hsends]
  obtain ⟨g, o, hport, hsent⟩ := State.port_sendFrame { s.modLink x.val (fun p => { p with heal := p.heal - 1 }) with free := s.free + 1 } x.val
    (linkTick * s.clock.now + (s.link.port x.val).sched % linkTick + Config.launchTime s.free % 1007)
    { s.header (s.tickNat - 1 - (s.link.port x.val).sched / linkTick) with
      slots := (s.placeSlots (s.tickNat - 1 - (s.link.port x.val).sched / linkTick) (1 - x.val) false [] []).1
      heal := decide (0 < (s.link.port x.val).heal) }
  have hmod : ({ s.modLink x.val (fun p => { p with heal := p.heal - 1 }) with free := s.free + 1 } : State).link.port x.val =
      { s.link.port x.val with heal := (s.link.port x.val).heal - 1 } := s.link.port_modPort x.val _
  refine ⟨g, o, hport.trans (by rw [hmod]), hsent.label, ?_, hsent.good, fun h1 h2 => hsent.slots (by rw [hmod]; exact h1) (by rw [hmod]; exact h2), ?_⟩
  · rw [hsent.sender]
    exact congrArg (Fin.ofNat 1024) (s.devId_modPort x.val _)
  · rw [State.port_sendFrame_other]
    exact s.link.port_modPort_other x _

theorem exec_linkFrameLaunch_not (s : State) (x : Fin 2) (h : s.linkOn x.val = false ∨ (s.link.port x.val).state = 0 ∨ (s.link.port x.val).state = 2 ∨
    ((s.link.port x.val).state = 5 ∧ s.isOrigin x.val = false)) : exec (.linkFrameLaunch x) s = .next s := by
  have hnot : (s.linkOn x.val && (decide ((s.link.port x.val).state = 1 ∨ (s.link.port x.val).state = 3 ∨ (s.link.port x.val).state = 4) ||
      (decide ((s.link.port x.val).state = 5) && s.isOrigin x.val))) = false := by
    rcases h with h | h | h | ⟨h, horigin⟩ <;> simp [*]
  simp only [exec, execLinkFrameLaunch, hnot, Bool.false_eq_true, if_false]

/-- The pacesetter of a ring retimes: it sends a frame labelled TICK - 1 with the header that it writes itself. -/
theorem exec_linkRetime_eq (s : State) (x : Fin 2) (hon : s.linkOn x.val = true) (hup : (s.link.port x.val).state = 5) (hretimes : s.link.retimes = true) :
    ∃ u d f, exec (.linkRetime x) s = .next (State.sendFrame u x.val d f) ∧ u.devId = s.devId ∧ f.label = BitVec.ofNat 48 (s.tickNat - 1) ∧ f.ring = s.link.ring ∧
      f.k = Fin.ofNat 256 s.link.k := by
  have hsends : (s.linkOn x.val && decide ((s.link.port x.val).state = 5) && s.link.retimes) = true := by simp [hon, hup, hretimes]
  refine ⟨_, _, _, congrArg Host.Outcome.next (if_pos hsends), s.devId_modPort x.val _, ?_, ?_, ?_⟩
  all_goals dsimp only
  all_goals split <;> rfl

/-- Settles O23: a frame with a good mark is `LinkPort.receive` at its port, one sent is `SentAs`. -/
theorem linkFramesAreReceivedLaunchedAndRetimed : Obligations.LinkFramesAreReceivedLaunchedAndRetimed := by
  refine ⟨fun s x f d p hp hon hup htwo => ⟨fun hmark hlocked hfive => ?_, fun hmark hlocked hfive => ?_, fun hmark hlocked => ?_, fun hmark hlocked => ?_, fun hmark hlocked => ?_⟩,
    fun s x f d h => ?_, fun s x p hp hon h => ?_, exec_linkFrameLaunch_not, fun s x hon hup hretimes => ?_, fun s x h => ?_⟩
  · obtain ⟨t, hnext, sched, hport⟩ := exec_linkFrameReceived_locked hp f d hon hup htwo hmark hlocked
    refine ⟨t, hnext, ?_⟩
    dsimp only
    obtain ⟨kstate, klost, kecho, -⟩ := (p.mark f).receive_keeps s.free (s.skew x.val) f (524288 * s.clock.now + d) sched
    rw [hport, kstate, klost, kecho]
    rw [p.mark_ok f hmark]
    exact ⟨fun hgood => LinkPort.receive_up _ _ _ _ _ _ hgood hfive, fun hbad => LinkPort.receive_bad _ _ _ _ _ _ hbad, rfl, rfl, hfive, exec_linkFrameReceived_frame hnext⟩
  · obtain ⟨t, hnext, sched, hport⟩ := exec_linkFrameReceived_locked hp f d hon hup htwo hmark hlocked
    refine ⟨t, hnext, ?_⟩
    dsimp only
    obtain ⟨kstate, -, kecho, kdelays⟩ := (p.mark f).receive_keeps s.free (s.skew x.val) f (524288 * s.clock.now + d) sched
    rw [hport, kstate, kecho, kdelays]
    rw [p.mark_ok f hmark]
    exact ⟨LinkPort.receive_off _ _ _ _ _ _ hfive, rfl, rfl, rfl, exec_linkFrameReceived_frame hnext⟩
  · rw [exec_linkFrameReceived_marked hp f d hon hup htwo (.inr hlocked), p.mark_ok f hmark, Nat.mod_add_mod]
  · rw [exec_linkFrameReceived_marked hp f d hon hup htwo (.inl hmark), p.mark_lost f hmark, hlocked, if_neg Bool.false_ne_true]
  · rw [exec_linkFrameReceived_marked hp f d hon hup htwo (.inl hmark), p.mark_lost f hmark, if_pos hlocked]
  · have hoff : (!s.linkOn x.val || decide ((s.link.port x.val).state = 0 ∨ (s.link.port x.val).state = 2)) = true := by
      rcases h with h | h | h <;> simp [h]
    simp only [exec, execLinkFrameReceived, hoff, if_true]
  · obtain ⟨t, hnext, g, o, hport, hlabel, hsender, hgood, hslots, hother⟩ := exec_linkFrameLaunch_sends s x p hp hon h
    refine ⟨t, hnext, ?_⟩
    dsimp only
    rw [hport]
    exact ⟨⟨g, rfl, hlabel, hsender, hgood, hslots⟩, rfl, hother, exec_linkFrameLaunch_frame hnext⟩
  · obtain ⟨u, d, f, hnext, hdev, hlabel, hring, hk⟩ := exec_linkRetime_eq s x hon hup hretimes
    obtain ⟨g, o, hport, hsent⟩ := u.port_sendFrame x.val d f
    exact ⟨_, hnext, ⟨g, by rw [hport], hsent.label.trans hlabel, by rw [hsent.sender, hdev], hsent.ring.trans hring, hsent.k.trans hk⟩, exec_linkRetime_frame hnext⟩
  · simp only [exec, execLinkRetime, h, Bool.and_false, Bool.false_eq_true, if_false]

/-! The topology table (R253, R269). -/

theorem State.judgeIds_topo (s : State) : s.judgeIds.link.topo = s.link.topo := rfl

theorem State.announceRing_topo (s : State) : s.announceRing.link.topo = s.link.topo := rfl

theorem exec_announcementReceived_frame {s t : State} {x : Fin 2} {a : Announcement} (h : exec (.announcementReceived x a) s = .next t) : Frame [.link, .bus] s t := by
  intro p hp
  cases p with
  | link | bus => simp at hp
  | _ => simp only [Part.same, execAnnouncementReceived_keeps x a s t h]

theorem exec_announcementDrop_frame {s t : State} {id : Fin 1024} (h : exec (.announcementDrop id) s = .next t) : Frame [.link, .bus] s t := by
  intro p hp
  cases p with
  | link | bus => simp at hp
  | _ => simp only [Part.same, execAnnouncementDrop_keeps id s t h]

/-- The table takes an announcement that a port in BLOCKED or beyond receives; a change of the topology is told. -/
theorem exec_announcementReceived_taken (s : State) (x : Fin 2) (a : Announcement) (hon : s.linkOn x.val = true) (hstate : 3 ≤ (s.link.port x.val).state)
    (hrunning : s.ctl.running = true) (hserial : a.serial ≠ Config.serial) :
    Completes (.announcementReceived x a) s (fun t => t.link.topo = (s.link.announced x.val a s.clock.now).topo ∧
      t.bus.attn = (if s.link.newsOf a then s.bus.attn ||| BitVec.ofNat 32 (2 ^ 12) else s.bus.attn) ∧ (s.link.newsOf a = false → t.bus = s.bus)) := by
  have htaken : ¬ (!s.linkOn x.val || decide ((s.link.port x.val).state < 3) || !s.ctl.running || decide (a.serial = Config.serial)) = true := by
    simp [hon, Nat.not_lt.2 hstate, hrunning, hserial]
  obtain ⟨u, hnext, htopo, hbus⟩ : ∃ u : State, exec (.announcementReceived x a) s = .next (u.raiseIf (s.link.newsOf a) 12) ∧
      u.link.topo = (s.link.announced x.val a s.clock.now).topo ∧ u.bus = s.bus := by
    refine ⟨_, congrArg Host.Outcome.next (if_neg htaken), ?_⟩
    split <;> exact ⟨rfl, rfl⟩
  refine ⟨_, hnext, htopo, ?_, fun hno => ?_⟩
  · rw [← hbus]
    cases s.link.newsOf a <;> rfl
  · rw [hno]
    exact hbus

/-- An announcement in the table: the entry of its device, and every other entry. -/
theorem Link.announced_topo (l : Link) (x : Nat) (a : Announcement) (now : Nat) :
    ∃ e : TopoEntry, e.ann = a ∧ (if x = 0 then e.atA else e.atB) = some now ∧ (l.announced x a now).topo = l.topo.filter (fun e => decide (e.ann.serial ≠ a.serial)) ++ [e] := by
  refine ⟨_, ?_, ?_, rfl⟩
  · split <;> split <;> rfl
  · by_cases hx : x = 0 <;> simp only [hx, if_true, if_false]

theorem Link.newsOf_new (l : Link) (a : Announcement) (h : ∀ e, e ∈ l.topo → e.ann.serial ≠ a.serial) : l.newsOf a = true := by
  rw [Link.newsOf, List.find?_eq_none.2 (by simpa using h)]

theorem Link.newsOf_known (l : Link) (a : Announcement) (e : TopoEntry) (h : l.topo.find? (fun y => decide (y.ann.serial = a.serial)) = some e) :
    l.newsOf a = decide (e.ann.revA ≠ a.revA ∨ e.ann.revB ≠ a.revB) := by
  rw [Link.newsOf, h]

/-- An entry that misses three announcements. -/
def TopoEntry.missed (id : Fin 1024) (now : Nat) (e : TopoEntry) : Bool := decide (e.ann.id = id) && decide (e.seen + 3 * 9600 ≤ now)

theorem exec_announcementDrop_due (s : State) (id : Fin 1024) (h : s.link.topo.any (TopoEntry.missed id s.clock.now) = true) :
    Completes (.announcementDrop id) s (fun t => t.link.topo = s.link.topo.filter (fun e => !e.missed id s.clock.now) ∧
      t.bus.attn = s.bus.attn ||| BitVec.ofNat 32 (2 ^ 12)) := by
  refine ⟨_, congrArg Host.Outcome.next (if_pos h), ?_⟩
  split <;> exact ⟨rfl, rfl⟩

theorem exec_announcementDrop_early (s : State) (id : Fin 1024) (h : s.link.topo.any (TopoEntry.missed id s.clock.now) = false) : exec (.announcementDrop id) s = .next s :=
  congrArg Host.Outcome.next (if_neg (by rw [← Bool.not_eq_true] at h; exact h))

/-- Settles O24: what the table holds is `Link.announced_topo`, what it loses `TopoEntry.missed`. -/
theorem linkTopologyAlignmentAndOffsetFollow : Obligations.LinkTopologyAlignmentAndOffsetFollow := by
  refine ⟨fun s hawake hrunning hat => ?_, fun s h => ?_, fun s x a hon hstate hrunning hserial => ?_, fun s id h => ?_, fun s id h => ?_, fun s => ?_, fun s => ?_,
    fun s hpace hports => ?_, fun s u l r hnext hdue => ?_, fun s u l r hnext hearly => ?_⟩
  · have hnext : exec .linkAnnouncement s = .next { s with link := s.link.broadcast s.devId (annBytes s.ownAnn) } :=
      congrArg Host.Outcome.next (if_pos (by simp [hawake, hrunning, hat]))
    refine ⟨_, hnext, rfl, fun x _ hx => ?_, fun x _ hx => ?_, Frame.link s _⟩
    · exact ⟨s.link.ownCell s.devId false (annBytes s.ownAnn), by rw [Link.port_broadcast, if_pos hx], rfl, rfl⟩
    · rw [Link.port_broadcast, if_neg (Nat.not_le.2 hx)]
  · have hnot : (s.awake && s.ctl.running && decide (s.tickNat % 9600 = 0)) = false := by rcases h with h | h | h <;> simp [h]
    simp only [exec, execLinkAnnouncement, hnot, Bool.false_eq_true, if_false]
  · obtain ⟨t, hnext, htopo, hattn, hsame⟩ := exec_announcementReceived_taken s x a hon hstate hrunning hserial
    obtain ⟨e, hann, hat, htable⟩ := s.link.announced_topo x.val a s.clock.now
    refine ⟨t, hnext, ⟨e, by simp [htopo, htable], hann, hat⟩, fun e' he' => ?_, fun hall => ?_, fun e' hfound => ⟨fun hdiff => ?_, fun hA hB => ?_⟩,
      exec_announcementReceived_frame hnext⟩
    · have hne : e' ≠ e := fun heq => he' (by rw [heq, hann])
      simp [htopo, htable, he', hne]
    · rw [hattn, s.link.newsOf_new a hall, if_pos rfl]
    · rw [hattn, s.link.newsOf_known a e' hfound, if_pos (decide_eq_true hdiff)]
    · exact hsame (by rw [s.link.newsOf_known a e' hfound]; simp [hA, hB])
  · obtain ⟨e, hin, hid, hseen⟩ := h
    obtain ⟨t, hnext, htopo, hattn⟩ := exec_announcementDrop_due s id (List.any_eq_true.2 ⟨e, hin, by simp [TopoEntry.missed, hid, hseen]⟩)
    refine ⟨t, hnext, fun e' => ?_, hattn, exec_announcementDrop_frame hnext⟩
    rw [htopo, List.mem_filter]
    simp only [TopoEntry.missed, ← Bool.decide_and, Bool.not_eq_true', decide_eq_false_iff_not]
  · exact exec_announcementDrop_early s id (List.any_eq_false.2 fun e hin => by
      simp only [TopoEntry.missed, Bool.and_eq_true, decide_eq_true_eq, not_and, Nat.not_le]
      exact h e hin)
  · have haligned : (s.link.aligned || (s.link.target.isSome && decide (s.link.near = 96))) = if s.link.near = 96 ∧ s.link.target ≠ none then true else s.link.aligned := by
      cases s.link.target <;> by_cases hnear : s.link.near = 96 <;> simp [hnear]
    simp only [exec, execLinkAlignedChange, if_true, haligned]
  · have haligned : (s.link.aligned && s.link.target.isSome && decide (s.link.far ≠ 4)) = if s.link.far = 4 ∨ s.link.target = none then false else s.link.aligned := by
      split <;> rename_i h
      · rcases h with h | h <;> simp [h]
      · obtain ⟨hfar, htarget⟩ := not_or.1 h
        simp [hfar, Option.isSome_iff_ne_none.2 htarget]
    simp only [exec, execLinkAlignedChange, Bool.false_eq_true, if_false, haligned]
  · have ha : s.link.a.state ≠ 4 := hports 0 (by decide)
    have hb : s.link.b.state ≠ 4 := hports 1 (by decide)
    simp [Link.target, Link.upstream, ha, hb, hpace]
  · simp only [exec, execLinkOffsetChange, hnext, hdue, if_true]
  · simp only [exec, execLinkOffsetChange, hnext, Nat.not_le.2 hearly, if_false]

/-! Cells, and the packets that they carry (R272, R273, R390). -/

theorem mem_tabPut_self {α : Type} (t : Tab α) (k : Nat) (v : α) : (k, v) ∈ tabPut t k v := by
  induction t with
  | nil => simp [tabPut]
  | cons e t ih =>
    obtain ⟨j, w⟩ := e
    simp only [tabPut]
    split
    · exact List.mem_cons_self
    · split
      · exact List.mem_cons_self
      · exact List.mem_cons_of_mem _ ih

/-- The reassembly that a cell belongs to, as it stands. -/
def Link.assemblyOf (l : Link) (x : Nat) (c : LinkCell) : Reassembly :=
  (l.assembling.find? (fun r => decide (r.port = x) && decide (r.src = c.src.val) && decide (r.seq = c.seq.val))).getD
    { port := x, src := c.src.val, seq := c.seq.val, segs := [], total := none }

theorem Link.assemblyOf_is (l : Link) (x : Nat) (c : LinkCell) :
    (l.assemblyOf x c).port = x ∧ (l.assemblyOf x c).src = c.src.val ∧ (l.assemblyOf x c).seq = c.seq.val := by
  rw [Link.assemblyOf]
  cases h : l.assembling.find? (fun r => decide (r.port = x) && decide (r.src = c.src.val) && decide (r.seq = c.seq.val)) with
  | none => exact ⟨rfl, rfl, rfl⟩
  | some r =>
    have hr := List.find?_some h
    simp only [Bool.and_eq_true, decide_eq_true_eq] at hr
    obtain ⟨⟨hport, hsrc⟩, hseq⟩ := hr
    exact ⟨hport, hsrc, hseq⟩

/-- The last of what is assembled holds the cell's segment. -/
theorem Link.segment_assembling (l : Link) (x : Nat) (c : LinkCell) : ∃ base, (base = l.assemblyOf x c ∨ base = { l.assemblyOf x c with segs := [], total := none }) ∧
    { base with segs := tabPut base.segs c.seg.val c.data, total := if c.last then some (c.seg.val + 1) else base.total } ∈ (l.segment x c).assembling := by
  refine ⟨if c.first then { l.assemblyOf x c with segs := [], total := none } else l.assemblyOf x c, ?_, ?_⟩
  · cases c.first
    · exact .inl rfl
    · exact .inr rfl
  · rw [Link.assemblyOf]
    refine List.mem_append_right _ (List.mem_singleton.2 ?_)
    cases l.assembling.find? (fun r => decide (r.port = x) && decide (r.src = c.src.val) && decide (r.seq = c.seq.val)) <;> rfl

/-- A segment is in the reassembly of its packet. -/
theorem Link.segment_mem (l : Link) (x : Nat) (c : LinkCell) : ∃ r, r ∈ (l.segment x c).assembling ∧ r.port = x ∧ r.src = c.src.val ∧ r.seq = c.seq.val ∧
    (c.seg.val, c.data) ∈ r.segs := by
  obtain ⟨base, hbase, hmem⟩ := l.segment_assembling x c
  obtain ⟨hport, hsrc, hseq⟩ := l.assemblyOf_is x c
  refine ⟨_, hmem, ?_, ?_, ?_, mem_tabPut_self _ _ _⟩
  all_goals rcases hbase with rfl | rfl <;> assumption

/-- A bus whose port takes a request at once carries it on. -/
theorem State.enter_takes {s : State} {q : Req} (h : s.Takes q) (hbus : q.port.val < 2) (target op : Nat) (go : State → State) : s.enter target op q go = go s := by
  obtain ⟨hserved, hfirst, hport⟩ := h
  obtain ⟨hready, hempty⟩ := hport hbus
  simp [State.enter, State.serveBefore_first _ _ _ hfirst, hserved, hbus, hready, hempty]

theorem exec_remoteForward_eq (s : State) (q : Req) (target : Fin 1024) (op : BitVec 15) (hbus : q.port.val < 2) (hremote : q.remote = true) (hother : target.val ≠ s.devId)
    (htakes : s.Takes q) (hrev : s.revisionOk op.toNat q = true) : exec (.remoteForward q target op) s = .next ((s.seen q).forward target.val op.toNat q) := by
  have hcond : q.port.val < 2 ∧ q.remote = true ∧ target.val ≠ s.devId := ⟨hbus, hremote, hother⟩
  have hnext : exec (.remoteForward q target op) s = .next (s.enter target.val op.toNat q (fun s => s.forwardJudged target.val op.toNat q)) :=
    congrArg Host.Outcome.next (if_pos hcond)
  rw [hnext, State.enter_takes htakes hbus, State.forwardJudged, hrev, if_neg (by decide)]
  rfl

theorem Link.send_outstanding (l : Link) (self dst : Nat) (b : List Byte) : (l.send self dst b).outstanding = l.outstanding := by
  obtain ⟨a, b', h⟩ := l.modPort_eq (l.portTo dst) (fun p => { p with outbox := p.outbox ++ cellsOf self dst l.seq b })
  rw [Link.send, h]

/-- Settles O25: a segment by `Link.segment_mem`, a request to another device by `State.forward`. -/
theorem remotePacketsTravelByCells : Obligations.RemotePacketsTravelByCells := by
  refine ⟨fun s x c hon hstate hfull hgood hlocal hbcast hdst => ?_, fun s x c h => ?_, fun s x src seq b l htake hop hawake hrunning => ?_,
    fun s x src seq b l o htake hop hans hno => ?_, fun s x src seq b l htake hop hans => ?_, fun s seq o hfind => ?_, fun s q target op h => ?_,
    fun s q target op hbus hremote hother htakes hrev => ⟨fun hunknown => ?_, fun hknown hroom => ?_⟩⟩
  · have hforus : (!s.linkOn x.val || !s.cellForUs c || decide ((s.link.port x.val).state < 3)) = false := by
      simp [State.cellForUs, hon, hstate, hfull, hgood, hbcast, hdst]
    have hnext : exec (.controlCellReceived x c) s = .next { s with link := s.link.segment x.val c } := by
      simp only [exec, execControlCellReceived, hforus, hlocal, hbcast, Bool.false_eq_true, if_false]
    exact ⟨_, hnext, s.link.segment_mem x.val c, Frame.link s _⟩
  · have hnot : (!s.linkOn x.val || !s.cellForUs c || decide ((s.link.port x.val).state < 3)) = true := by
      rcases h with h | h | ⟨hbcast, hlocal, hdst⟩
      · simp [h]
      · simp [State.cellForUs, h]
      · simp [State.cellForUs, hbcast, hlocal, hdst]
    simp only [exec, execControlCellReceived, hnot, if_true]
  · have hreq : ¬ (0x8000 ≤ le b 2 2 ∨ (!s.awake) = true) := by simp [hop, hawake]
    simp only [exec, execRemotePacketReassembled, htake, hreq, if_false, hrunning, if_true]
  · simp only [exec, execRemoteReplyReceived, htake, Nat.not_lt.2 hop, hans, hno, if_false]
  · simp only [exec, execRemoteReplyReceived, htake, Nat.not_lt.2 hop, hans, if_false]
  · simp only [exec, execRemoteTimeout, hfind]
  · have hnot : ¬ (q.port.val < 2 ∧ q.remote = true ∧ target.val ≠ s.devId) := by
      rintro ⟨h1, h2, h3⟩
      rcases h with h | h | h
      · omega
      · simp [h] at h2
      · exact h3 h
    simp only [exec, execRemoteForward, hnot, if_false]
  · have hall : (s.seen q).link.topo.all (fun e => decide (e.ann.id.val ≠ target.val)) = true :=
      List.all_eq_true.2 fun e he => decide_eq_true fun heq => hunknown e he (Fin.ext heq)
    rw [exec_remoteForward_eq s q target op hbus hremote hother htakes hrev, State.forward, if_pos hall]
    rfl
  · obtain ⟨e, he, hid⟩ := hknown
    have hall : ¬ (s.seen q).link.topo.all (fun e => decide (e.ann.id.val ≠ target.val)) = true := fun h =>
      absurd (congrArg Fin.val hid) (of_decide_eq_true (List.all_eq_true.1 h e he))
    have hnext := exec_remoteForward_eq s q target op hbus hremote hother htakes hrev
    rw [State.forward, if_neg hall, if_neg (c := 8 ≤ ((s.seen q).link.outstanding.filter (fun o => !o.accepted)).length) (Nat.not_le.2 hroom)] at hnext
    exact ⟨_, hnext, _, congrArg (· ++ _) (Link.send_outstanding _ _ _ _), rfl, rfl, rfl, rfl, rfl⟩

end Sys2Proof.Machine
end

section
/-! SUPPORT. Steering, clock outputs, references, handoff and holdover (chapters 11 and 12). -/
namespace Sys2Proof.Machine

-- One proof after another: a check of the whole text in one process stays within its memory.
set_option Elab.async false

/-- Nothing changes but the synthesis component. -/
theorem Frame.synth (s : State) (y : Synth) : Frame [.synth] s { s with synth := y } := by
  intro p hp
  cases p with
  | synth => simp at hp
  | _ => rfl

/-! Steering (R286-R288). -/

theorem steerClamp_ne_iff (v : Int) : steerClamp v ≠ v ↔ v < -500000000 ∨ 500000000 < v := by
  unfold steerClamp
  omega

/-- The goal of s_now without an upstream link partner. -/
theorem State.slewed_of_goal (s : State) (goal : Int) (hfollows : s.follows = false) (hgoal : goal = 96 * max (-500000000) (min 500000000 (signed (s.dir 0x0103) 32))) :
    s.slewed = (slewStep (field (s.dir 0x0104) 0 3)).elim goal (fun d => if s.synth.sNow < goal then min goal (s.synth.sNow + d) else max goal (s.synth.sNow - d)) := by
  simp only [State.slewed, State.steerGoal, steerClamp, hfollows, Bool.false_eq_true, if_false, ← hgoal]
  cases slewStep (field (s.dir 0x0104) 0 3) <;> rfl

theorem State.slewed_at_once (s : State) (goal : Int) (hfollows : s.follows = false)
    (hgoal : goal = 96 * max (-500000000) (min 500000000 (signed (s.dir 0x0103) 32))) (hslew : field (s.dir 0x0104) 0 3 = 4) : s.slewed = goal := by
  rw [s.slewed_of_goal goal hfollows hgoal, hslew]
  rfl

theorem State.slewed_by_100 (s : State) (goal : Int) (hfollows : s.follows = false)
    (hgoal : goal = 96 * max (-500000000) (min 500000000 (signed (s.dir 0x0103) 32))) (hslew : field (s.dir 0x0104) 0 3 = 0) :
    s.slewed = if s.synth.sNow < goal then min goal (s.synth.sNow + 100) else max goal (s.synth.sNow - 100) := by
  rw [s.slewed_of_goal goal hfollows hgoal, hslew]
  rfl

/-- Settles O27: s_now a tick later by `State.slewed_by_100`, or at once. -/
theorem steeringSlewsStartAndEnd : Obligations.SteeringSlewsStartAndEnd := by
  refine ⟨fun s t v q hsteers hdue => ?_, fun s h => ?_, fun s => rfl, fun s goal hfollows hgoal => ⟨s.slewed_at_once goal hfollows hgoal, fun hslew hnear => ?_,
    fun hslew hup => ?_, fun hslew hdown => ?_⟩, fun s hfollows => ?_⟩
  · have hnext : exec .steerSlewStart s = .next (State.setSteer { s with synth := { s.synth with steers := [] } } v) := by
      simp [exec, execSteerSlewStart, hsteers, hdue]
    refine ⟨_, hnext, rfl, ?_, rfl, rfl, fun p hp => ?_⟩
    · exact decide_eq_decide.2 (steerClamp_ne_iff v)
    · cases p with
      | cfg | synth => simp at hp
      | _ => rfl
  · have hnone : s.synth.steers.filter (fun e => decide (e.1 ≤ s.tickNat)) = [] := List.filter_eq_nil_iff.2 fun e he => by simpa using h e he
    simp [exec, execSteerSlewStart, hnone]
  · change s.slewed = goal
    rw [s.slewed_by_100 goal hfollows hgoal hslew]
    split <;> omega
  · change s.slewed = _
    rw [s.slewed_by_100 goal hfollows hgoal hslew]
    split <;> omega
  · change s.slewed = _
    rw [s.slewed_by_100 goal hfollows hgoal hslew]
    split <;> omega
  · simp [State.steerTick, State.slewed, hfollows]

/-! Clock outputs (R292-R294). -/

theorem setBit5_getLsbD (b : BitVec 5) (o : Fin 5) (v : Bool) (k : Nat) (hk : k < 5) : (setBit5 b o.val v).getLsbD k = if k = o.val then v else b.getLsbD k := by
  have hbit : (BitVec.ofNat 5 (2 ^ o.val)).getLsbD k = decide (k = o.val) := by
    rw [BitVec.getLsbD_ofNat, Nat.testBit_two_pow]
    simp [hk, eq_comm]
  cases v with
  | false =>
    simp only [setBit5, Bool.false_eq_true, if_false, BitVec.getLsbD_and, BitVec.getLsbD_not, hbit, hk, decide_true, Bool.true_and]
    by_cases hko : k = o.val <;> simp [hko]
  | true =>
    simp only [setBit5, if_true, BitVec.getLsbD_or, hbit]
    by_cases hko : k = o.val <;> simp [hko]

/-- A gating condition holds (R292). -/
theorem State.gateWanted_of (s : State) (o : Nat) (h : s.synth.lock = false ∨ s.synth.writeGate.getLsbD o = true ∨ ((s.ckOut o).testBit 6 = true ∧ s.dpll.unreferenced = true)) :
    s.gateWanted o = true := by
  rcases h with h | h | ⟨h, h'⟩ <;> simp [State.gateWanted, *]

/-- No gating condition holds. -/
theorem State.gateWanted_none (s : State) (o : Nat) (hlock : s.synth.lock = true) (h6 : (s.ckOut o).testBit 6 = false) (h7 : (s.ckOut o).testBit 7 = false)
    (hwrite : s.synth.writeGate.getLsbD o = false) (hsleep : s.synth.sleepGate.getLsbD o = false) : s.gateWanted o = false := by
  simp [State.gateWanted, *]

/-- The instant at which a gated output stops (R293). -/
def State.ckStop (s : State) (o : Nat) : Nat :=
  if s.synth.gated.getLsbD o then (s.synth.out o).2.1 else if s.rootCycle < (s.synth.out o).2.2 then 0 else ckRise (s.synth.out o).1 s.dpll.align s.rootCycle

theorem exec_clockOutputGate_eq (s : State) (o : Fin 5) (h : s.gateWanted o.val = true) : exec (.clockOutputGate o) s = .next { s with synth := { s.synth with
    gated := setBit5 s.synth.gated o.val true
    writeGate := setBit5 s.synth.writeGate o.val false
    stopAt := tabSet (fun _ => 0) s.synth.stopAt o.val (s.ckStop o.val) } } :=
  congrArg Host.Outcome.next (if_pos h)

theorem exec_clockOutputResume_eq (s : State) (o : Fin 5) (h : (s.ckOn o.val && !s.gateWanted o.val && s.synth.gated.getLsbD o.val) = true) :
    exec (.clockOutputResume o) s = .next { s with synth := { s.synth with
      gated := setBit5 s.synth.gated o.val false
      outs := tabSet (fun _ => 0) s.synth.outs o.val (s.ckOut o.val)
      pulseTo := tabSet (fun _ => 0) s.synth.pulseTo o.val (s.ckFall o.val)
      riseFrom := tabSet (fun _ => 0) s.synth.riseFrom o.val (max (s.rootCycle + 2) (s.synth.out o.val).2.1)
      resumeAt := tabSet (fun _ => 0) s.synth.resumeAt o.val (ckRise (s.ckOut o.val) s.dpll.align (max (s.rootCycle + 2) (s.synth.out o.val).2.1)) } } :=
  congrArg Host.Outcome.next (if_pos h)

/-- Settles O28: the gate and the resumption by their equations, each output by `setBit5_getLsbD` and its own table entries. -/
theorem clockOutputsGateAndResume : Obligations.ClockOutputsGateAndResume := by
  refine ⟨fun s o h => ?_, fun s o hlock h6 h7 hwrite hsleep => ?_, fun s o hlock => ?_⟩
  · refine ⟨_, exec_clockOutputGate_eq s o (s.gateWanted_of o.val h), ?_, ?_, fun hopen hran => ?_, fun hgated => ?_, fun k hk hne => ⟨?_, ?_, ?_⟩, rfl, Frame.synth s _⟩
    · rw [setBit5_getLsbD _ o _ _ o.isLt, if_pos rfl]
    · rw [setBit5_getLsbD _ o _ _ o.isLt, if_pos rfl]
    · have hstop : s.ckStop o.val = ckRise (s.synth.out o.val).1 s.dpll.align s.rootCycle := by
        rw [State.ckStop, hopen, if_neg Bool.false_ne_true, if_neg (Nat.not_lt.2 hran)]
      simp only [Synth.out, tabGet_set_self, hstop]
    · have hstop : s.ckStop o.val = (s.synth.out o.val).2.1 := by rw [State.ckStop, if_pos hgated]
      simp only [Synth.out, tabGet_set_self, hstop]
    · rw [setBit5_getLsbD _ o _ _ hk, if_neg hne]
    · rw [setBit5_getLsbD _ o _ _ hk, if_neg hne]
    · simp only [Synth.out, tabGet_set, if_neg hne]
  · have hopen := s.gateWanted_none o.val hlock h6 h7 hwrite hsleep
    refine ⟨congrArg Host.Outcome.next (if_neg (by simp [hopen])), fun hon hgated => ?_, fun h => ?_⟩
    · refine ⟨_, exec_clockOutputResume_eq s o (by simp [State.ckOn, hon, hgated, hopen]), ?_, ?_, fun k hk hne => ⟨?_, ?_⟩, rfl, Frame.synth s _⟩
      · rw [setBit5_getLsbD _ o _ _ o.isLt, if_pos rfl]
      · simp [Synth.out]
      · rw [setBit5_getLsbD _ o _ _ hk, if_neg hne]
      · simp only [Synth.out, tabGet_set, if_neg hne]
    · have hnot : (s.ckOn o.val && !s.gateWanted o.val && s.synth.gated.getLsbD o.val) = false := by
        rcases h with h | h
        · rw [State.ckOn, h, Bool.false_and, Bool.false_and]
        · rw [h, Bool.and_false]
      simp only [exec, execClockOutputResume, hnot, Bool.false_eq_true, if_false]
  · exact congrArg Host.Outcome.next (if_neg (by simp [State.gateWanted, hlock]))

/-- Nothing changes but the references. -/
theorem Frame.dpll (s : State) (d : Dpll) : Frame [.dpll] s { s with dpll := d } := by
  intro p hp
  cases p with
  | dpll => simp at hp
  | _ => rfl

/-! Qualification (R301-R304). -/

/-- A source changed, and QUALIFIED as before. -/
theorem State.refChange_same (s : State) (n : Nat) (r : RefSource) (h : ((s.refSrc n).qstate = 3) ↔ (r.qstate = 3)) :
    s.refChange n r = { s with dpll := { s.dpll with src := tabSet (fun _ => {}) s.dpll.src n r } } := by
  simp only [State.refChange, decide_eq_decide.2 h, if_true]
  rfl

/-- A source changed to or from QUALIFIED (R318). -/
theorem State.refChange_told (s : State) (n : Nat) (r : RefSource) (h : ¬ (((s.refSrc n).qstate = 3) ↔ (r.qstate = 3))) :
    s.refChange n r = { s with dpll := { s.dpll with src := tabSet (fun _ => {}) s.dpll.src n r }, bus := s.bus.raise s.inbandMask 2 } := by
  have hne : ¬ (decide ((s.refSrc n).qstate = 3) = decide (r.qstate = 3)) := fun heq => h (decide_eq_decide.1 heq)
  simp only [State.refChange, if_neg hne]
  rfl

theorem State.monitored_pin (s : State) (n : Fin 8) : s.monitored n.val = (s.awake && s.refNamed n.val) := by
  simp [State.monitored]

/-- A source once a beat is missed: beyond MISS_TOL it is disqualified, and the fourth in a row is no signal. -/
def RefSource.missed (r : RefSource) (tol : Nat) : RefSource :=
  let r0 := { r with misses := r.misses + 1, missSticky := true }
  let r1 := if tol < r0.misses ∧ (r0.qstate = 2 ∨ r0.qstate = 3) then r0.disqualify 1 else r0
  if 4 ≤ r1.misses then { r1 with qstate := 1, restorable := false, offsets := [] } else r1

theorem exec_refBeatMissed_eq (s : State) (n : Fin 8) (r : RefSource) (hr : s.refSrc n.val = r) (hawake : s.awake = true) (hnamed : s.refNamed n.val = true) :
    exec (.refBeatMissed n) s = .next { s.refChange n.val (r.missed (field (s.dir 0x0202) 24 2)) with
      dpll := { (s.refChange n.val (r.missed (field (s.dir 0x0202) 24 2))).dpll with
        secBad := (s.refChange n.val (r.missed (field (s.dir 0x0202) 24 2))).dpll.secBad || decide (s.dpll.current = n.val) } } := by
  subst hr
  exact congrArg Host.Outcome.next (if_pos (by simp [State.monitored_pin, hawake, hnamed]))

theorem RefSource.missed_within (r : RefSource) (tol : Nat) (htol : tol < 4) (h : r.misses < tol) :
    r.missed tol = { r with misses := r.misses + 1, missSticky := true } := by
  have hwithin : ¬ (tol < r.misses + 1 ∧ (r.qstate = 2 ∨ r.qstate = 3)) := by omega
  simp only [RefSource.missed, if_neg hwithin]
  rw [if_neg (by omega)]

theorem RefSource.missed_beyond (r : RefSource) (tol : Nat) (hq : r.qstate = 3) (h : tol ≤ r.misses) (h3 : r.misses < 3) :
    r.missed tol = { r with misses := r.misses + 1, missSticky := true, qstate := 4, dqReason := 1, dqSticky := true, restorable := false } := by
  have hbeyond : tol < r.misses + 1 ∧ (r.qstate = 2 ∨ r.qstate = 3) := ⟨by omega, .inr hq⟩
  simp only [RefSource.missed, if_pos hbeyond, RefSource.disqualify]
  rw [if_neg (by omega)]

theorem RefSource.missed_fourth (r : RefSource) (tol : Nat) (hq : r.qstate = 3) (htol : tol < 4) (h3 : r.misses = 3) :
    r.missed tol = { r with misses := 4, missSticky := true, qstate := 1, dqReason := 1, dqSticky := true, restorable := false, offsets := [] } := by
  have hbeyond : tol < r.misses + 1 ∧ (r.qstate = 2 ∨ r.qstate = 3) := ⟨by omega, .inr hq⟩
  simp only [RefSource.missed, if_pos hbeyond, RefSource.disqualify]
  rw [if_pos (by omega), h3]

/-- The drift that a report leaves, in ppb a second (R302). -/
def State.reportDrift (s : State) (r : RefSource) (ppb : Int) : Int :=
  let win := field (s.dir 0x0203) 16 8
  let offs := (ppb :: r.offsets).take (10 * win + 1)
  let diff := if offs.length = 10 * win + 1 then ppb - offs.getLastD 0 else 0
  if offs.length = 10 * win + 1 then looseQuot s.free diff (10 * win) else r.drift

/-- A report on a qualified source with an offset within PULL-OUT, by which no cause of R302 holds, and one beyond. -/
theorem exec_refFreqReport_eq (s : State) (n : Fin 8) (r : RefSource) (ppb : Int) (hr : s.refSrc n.val = r) (hawake : s.awake = true) (hnamed : s.refNamed n.val = true)
    (hat : s.tickNat % 9600 = 0) (hq : r.qstate = 3) (hok : s.refPortOk n.val = true) (hnarrow : s.refNarrow n.val = false) (hlim : field (s.dir 0x0203) 0 16 = 0)
    (hsync : 2 ≤ n.val → s.portSync (n.val - 2) ≠ 0) : ∃ d, exec (.refFreqReport ⟨n.val, by omega⟩ ppb) s = .next { s.refChange n.val
      (if 1000 * field (s.dir 0x0202) 8 8 < ppb.natAbs then
        { r with offset := ppb, offsets := (ppb :: r.offsets).take (10 * field (s.dir 0x0203) 16 8 + 1), drift := d, qstate := 4, dqReason := 2, dqSticky := true, restorable := false }
      else { r with offset := ppb, offsets := (ppb :: r.offsets).take (10 * field (s.dir 0x0203) 16 8 + 1), drift := d }) with free := s.free + 1 } := by
  subst hr
  have hmon : (s.monitored n.val && decide (s.tickNat % 9600 = 0)) = true := by simp [State.monitored_pin, hawake, hnamed, hat]
  have hmoved : s.refMoved n.val = false := by
    by_cases h2 : 2 ≤ n.val
    · simp [State.refMoved, hsync h2]
    · simp [State.refMoved, h2]
  have hcause : ∀ drift, s.reportCause n.val ppb drift = if 1000 * field (s.dir 0x0202) 8 8 < ppb.natAbs then 2 else 0 := fun drift => by
    simp [State.reportCause, hlim, hnarrow, hok, hmoved]
  have hpin : ¬ n.val ≥ 8 := by omega
  refine ⟨s.reportDrift (s.refSrc n.val) ppb, ?_⟩
  simp only [exec, execRefFreqReport, hmon, if_true, hpin, if_false, hq, hcause]
  by_cases hout : 1000 * field (s.dir 0x0202) 8 8 < ppb.natAbs
  · simp [hout, RefSource.disqualify, State.reportDrift]
  · simp [hout, State.reportDrift]

theorem State.frame_refChange (s : State) (n : Nat) (r : RefSource) (d : Dpll) : Frame [.dpll, .bus] s { s.refChange n r with dpll := d } := by
  intro p hp
  cases p with
  | dpll | bus => simp at hp
  | _ => rfl

theorem exec_refSignalSeen_begins (s : State) (n : Fin 8) (r : RefSource) (hr : s.refSrc n.val = r) (hawake : s.awake = true) (hnamed : s.refNamed n.val = true)
    (hok : s.refPortOk n.val = true) (hnarrow : s.refNarrow n.val = false) (hbegins : r.qstate = 1 ∨ (r.qstate = 4 ∧ r.dqReason = 1)) :
    exec (.refSignalSeen n) s = .next (s.refChange n.val { r with misses := 0, qstate := 2, since := s.clock.now, cls := (s.port (n.val - 2)).cls }) := by
  subst hr
  have hmon : s.monitored n.val = true := by simp [State.monitored_pin, hawake, hnamed]
  have hb : (!(decide ((s.refSrc n.val).qstate = 1) || (decide ((s.refSrc n.val).qstate = 4) && decide ((s.refSrc n.val).dqReason = 1)))) = false := by
    rcases hbegins with h | ⟨h, h'⟩ <;> simp [*]
  simp only [exec, execRefSignalSeen, hmon, hb, hok, hnarrow, if_true, Bool.not_true, Bool.false_eq_true, if_false]

theorem exec_acceptTimeEnd_due (s : State) (n : Fin 8) (r : RefSource) (hr : s.refSrc n.val = r) (hawake : s.awake = true) (hnamed : s.refNamed n.val = true)
    (hq : r.qstate = 2) (hdue : r.since + 9600 * field (s.dir 0x0202) 16 8 ≤ s.clock.now) : exec (.acceptTimeEnd n) s = .next (s.refChange n.val
      { r with qstate := 3, qualifiedAt := s.clock.now, restorable := decide (field (s.dir 0x0201) 8 8 = 0) }) := by
  subst hr
  exact congrArg Host.Outcome.next (if_pos (by simp [State.monitored_pin, hawake, hnamed, hq, hdue]))

/-- Settles O29: what a missed beat leaves is `RefSource.missed`, what a report leaves `exec_refFreqReport_eq`; `State.refChange` tells a change of QUALIFIED. -/
theorem referenceSourcesQualify : Obligations.ReferenceSourcesQualify := by
  have htol : ∀ s : State, field (s.dir 0x0202) 24 2 < 4 := fun s => Nat.mod_lt _ (by decide)
  refine ⟨fun s n r hr hawake hnamed hq => ?_, fun s n h => ?_, fun s n r hr hawake hnamed hok hnarrow hbegins => ?_,
    fun s n r ppb hr hawake hnamed hat hq hok hnarrow hlim hsync => ?_, fun s n ppb hat => ?_, fun s n r hr hawake hnamed hq => ⟨fun hdue => ?_, fun hearly => ?_⟩,
    fun s n r hr hq hawake => ⟨fun hdue => ?_, fun hearly => ?_⟩, fun s n hawake => ?_⟩
  · have hnext := exec_refBeatMissed_eq s n r hr hawake hnamed
    have hqs : (s.refSrc n.val).qstate = 3 := by rw [hr, hq]
    refine ⟨fun h => ?_, fun h h3 => ?_, fun h3 => ?_⟩
    · have hsame := s.refChange_same n.val { r with misses := r.misses + 1, missSticky := true } (by simp [hqs, hq])
      rw [r.missed_within _ (htol s) h, hsame] at hnext
      exact ⟨_, hnext, rfl, rfl, Frame.dpll s _⟩
    · rw [r.missed_beyond _ hq h h3] at hnext
      exact ⟨_, hnext, rfl, congrArg (fun t => t.bus.attn) (s.refChange_told n.val _ (by simp [hqs])), s.frame_refChange _ _ _⟩
    · rw [r.missed_fourth _ hq (htol s) h3] at hnext
      exact ⟨_, hnext, rfl, congrArg (fun t => t.bus.attn) (s.refChange_told n.val _ (by simp [hqs])), s.frame_refChange _ _ _⟩
  · have hmon : s.monitored n.val = false := by
      rw [State.monitored_pin]
      rcases h with h | h <;> simp [h]
    simp only [exec, execRefBeatMissed, execRefSignalSeen, hmon, Bool.false_eq_true, if_false, and_self]
  · rw [exec_refSignalSeen_begins s n r hr hawake hnamed hok hnarrow hbegins, s.refChange_same]
    rcases hbegins with h | ⟨h, -⟩ <;> simp [hr, h]
  · obtain ⟨d, hnext⟩ := exec_refFreqReport_eq s n r ppb hr hawake hnamed hat hq hok hnarrow hlim hsync
    refine ⟨fun hin => ?_, fun hout => ?_⟩
    · rw [if_neg (Nat.not_lt.2 hin), s.refChange_same _ _ (by simp [hr, hq])] at hnext
      refine ⟨_, hnext, d, rfl, rfl, fun p hp => ?_⟩
      cases p with
      | dpll | free => simp at hp
      | _ => rfl
    · rw [if_pos hout, s.refChange_told _ _ (by simp [hr, hq])] at hnext
      refine ⟨_, hnext, d, rfl, rfl, fun p hp => ?_⟩
      cases p with
      | dpll | bus | free => simp at hp
      | _ => rfl
  · simp only [exec, execRefFreqReport, hat, decide_false, Bool.and_false, Bool.false_eq_true, if_false]
  · have hnext := exec_acceptTimeEnd_due s n r hr hawake hnamed hq hdue
    rw [s.refChange_told _ _ (by simp [hr, hq])] at hnext
    refine ⟨_, hnext, rfl, rfl, fun p hp => ?_⟩
    cases p with
    | dpll | bus => simp at hp
    | _ => rfl
  · subst hr
    simp only [exec, execAcceptTimeEnd, Nat.not_le.2 hearly, decide_false, Bool.and_false, Bool.false_eq_true, if_false]
  · subst hr
    exact congrArg Host.Outcome.next (if_pos (by simp [hq, hdue, hawake]))
  · subst hr
    simp only [exec, execWtrEnd, Nat.not_le.2 hearly, decide_false, Bool.and_false, Bool.false_and, Bool.false_eq_true, if_false]
  · simp only [exec, execWtrEnd, hawake, Bool.and_false, Bool.false_eq_true, if_false]

/-! The handoff (R307, R309, R312). -/

/-- The mean of eight beats whose sum eight divides. -/
theorem meanOf_eight (free : Nat) (b : List Int) (hlen : b.length = 8) (h : b.sum % 8 = 0) : meanOf free b = b.sum / 8 := by
  have hsum : b.foldl (· + ·) 0 = b.sum := by rw [← List.sum_eq_foldl]
  simp [meanOf, looseQuot, hsum, hlen, h]

theorem State.pull_nonneg (s : State) : 0 ≤ s.pull := Int.natCast_nonneg _

/-- An output within PULL_IN (R309). -/
theorem State.pulled_natAbs (s : State) (d : Int) : (s.pulled d).natAbs ≤ s.pull.natAbs := by
  have hpull := s.pull_nonneg
  unfold State.pulled
  omega

theorem State.alignAt_port (s : State) (n : Nat) (pulse : Int) (h : 2 ≤ n) : s.alignAt n pulse = s.dpll.align :=
  if_neg (by omega)

theorem State.realign_same (s : State) : s.realign s.dpll.align = s.synth := if_pos rfl

theorem exec_handoffCapture_frame {s t : State} (h : exec .handoffCapture s = .next t) : Frame [.dpll, .synth, .log, .bus] s t := by
  intro p hp
  cases p with
  | dpll | synth | log | bus => simp at hp
  | _ => simp only [Part.same, execHandoffCapture_keeps s t h]

/-- The capture, at a tick after the last beat. -/
theorem exec_handoffCapture_due (s : State) (phi pulse : Int) (hawake : s.awake = true) (hstate : s.dpll.state = .handoff) (hmeasured : s.dpll.measured = some (phi, pulse))
    (hlater : s.dpll.measuredAt < s.clock.now) : exec .handoffCapture s = .next { s with
      synth := s.realign (s.alignAt s.dpll.target pulse)
      dpll := { s.dpll with
        state := .tracking, current := s.dpll.target, target := 15, measured := none, buildOut := phi
        delta := s.pulled (roundDiv (word0 s.synth.xoFreq * (s.refSrc s.dpll.target).offset) (10 ^ 9))
        loopSum := s.pulled (roundDiv (word0 s.synth.xoFreq * (s.refSrc s.dpll.target).offset) (10 ^ 9))
        lastCapture := s.clock.now, secBad := true, switches := satAdd 16 s.dpll.switches 1, switchSticky := true
        shortHistory := false, align := s.alignAt s.dpll.target pulse }
      log := s.log.add 0x2C 1
      bus := s.bus.raise s.inbandMask 2 } := by
  have hcapture : (decide (s.clock.now ≤ s.dpll.measuredAt) || !s.awake) = false := by simp [Nat.not_le.2 hlater, hawake]
  simp only [exec, execHandoffCapture, hstate, hmeasured, hcapture, Bool.false_eq_true, if_false]

theorem exec_handoffCapture_not (s : State) (h : s.awake = false ∨ s.dpll.state ≠ .handoff ∨ s.dpll.measured = none ∨ s.clock.now ≤ s.dpll.measuredAt) :
    exec .handoffCapture s = .next s := by
  simp only [exec, execHandoffCapture]
  split
  · next phi pulse hstate hmeasured =>
    rcases h with h | h | h | h
    · simp [h]
    · exact absurd hstate h
    · simp [hmeasured] at h
    · simp [h]
  · rfl

/-! Forces whose tick has come (R301, R315). -/

/-- With no force to come. -/
def State.forcesTaken (s : State) : State := { s with dpll := { s.dpll with forceNext := [] } }

/-- One force, due at its tick. -/
theorem exec_forceAct_one (s : State) (t a n q : Nat) (hawake : s.awake = true) (hnext : s.dpll.forceNext = [(t, a, n, q)]) (hdue : t ≤ s.tickNat) :
    exec .forceAct s = .next (s.forcesTaken.forceTo a n) := by
  have hforce : s.forceDue = true := by simp [State.forceDue, hawake, hnext, hdue]
  simp only [exec, execForceAct, State.forcesAct, hforce, if_true]
  simp [hnext, hdue, State.forcesTaken]

theorem exec_forceAct_frame {s t : State} (h : exec .forceAct s = .next t) : Frame [.dpll, .bus] s t := by
  intro p hp
  cases p with
  | dpll | bus => simp at hp
  | _ => simp only [Part.same, execForceAct_keeps s t h]

/-- A device that aligns to a link partner takes no force but a release (R301). -/
theorem State.forceTo_aligning (s : State) (a n : Nat) (hlink : s.linkSource.isSome = true) (ha : a ≠ 0) : s.forceTo a n = s := by
  simp [State.forceTo, hlink, ha]

theorem State.forceTo_release (s : State) (n : Nat) : s.forceTo 0 n = { s.raiseIf s.dpll.force.isSome 2 with dpll := { s.dpll with force := none } } := by
  simp [State.forceTo]

theorem State.forceTo_source (s : State) (n : Nat) (hlink : s.linkSource = none) :
    s.forceTo 1 n = { s.raiseIf s.dpll.force.isSome 2 with dpll := { s.dpll with force := some (1, n) } } := by
  simp [State.forceTo, hlink]

theorem State.forceTo_holdover (s : State) (n : Nat) (hlink : s.linkSource = none) :
    s.forceTo 2 n = { (s.raiseIf s.dpll.force.isSome 2).enterHoldover with
      dpll := { (s.raiseIf s.dpll.force.isSome 2).enterHoldover.dpll with force := some (2, 0) } } := by
  simp [State.forceTo, hlink]

theorem State.forceTo_freerun (s : State) (n : Nat) (hlink : s.linkSource = none) :
    s.forceTo 3 n = { (s.raiseIf s.dpll.force.isSome 2).raiseIf (decide (s.dpll.state ≠ .freerun)) 2 with
      dpll := { s.dpll with force := some (3, 0), state := .freerun, current := 15, target := 15, measured := none, delta := 0 } } := by
  simp [State.forceTo, hlink]

/-! A holdover that expires (R314). -/

/-- A holdover past its limits. -/
def State.holdoverDue (s : State) : Bool :=
  (decide (field (s.dir 0x0206) 0 16 ≠ 0) && decide (field (s.dir 0x0206) 0 16 * 1658880000000 < s.hoError)) ||
    (decide (field (s.dir 0x0206) 16 16 ≠ 0) && decide (96000 * 60 * field (s.dir 0x0206) 16 16 < s.hoTime))

theorem State.holdoverDue_of_time (s : State) (hmax : field (s.dir 0x0206) 16 16 ≠ 0) (hlong : 5760000 * field (s.dir 0x0206) 16 16 < s.hoTime) : s.holdoverDue = true := by
  simp [State.holdoverDue, hmax, hlong]

theorem State.holdoverDue_unlimited (s : State) (h : s.dir 0x0206 = 0) : s.holdoverDue = false := by
  simp [State.holdoverDue, h, field]

theorem execHoldoverExpire_eq (s : State) : execHoldoverExpire s = .next (
    if s.dpll.state = .holdover && s.awake && s.holdoverDue then
      { s with dpll := { s.dpll with state := .expired, expSticky := true }, bus := (s.bus.raise s.inbandMask 4).raise s.inbandMask 2 }
    else if s.dpll.state = .handoff && decide (s.dpll.outgoing = .holdover) && s.awake && s.holdoverDue then
      { s.raise 4 with dpll := { s.dpll with outgoing := .expired, expSticky := true } }
    else s) := rfl

theorem exec_holdoverExpire_frame {s t : State} (h : exec .holdoverExpire s = .next t) : Frame [.dpll, .bus] s t := by
  intro p hp
  cases p with
  | dpll | bus => simp at hp
  | _ => simp only [Part.same, execHoldoverExpire_keeps s t h]

/-- Settles O30: the capture by `exec_handoffCapture_due`, a force that is due by `State.forceTo`. -/
theorem handoffHoldoverAndForce : Obligations.HandoffHoldoverAndForce := by
  refine ⟨fun s b pulse hstate hawake hlen => ?_, fun s b pulse h => ?_, fun s phi pulse hawake hstate hmeasured hlater => ?_, exec_handoffCapture_not,
    fun s hstate hlock hawake hsec => ⟨fun hgood => ?_, fun hbad => ?_⟩, fun s h => ?_, fun s hawake hmax hlong => ⟨fun hstate => ?_, fun hstate hout => ?_⟩,
    fun s hstop => ?_, fun s h => ?_, fun s t n q hawake hlink hnext hdue => ?_, fun s t n q hawake hnext hdue => ?_, fun s t n q hawake hlink hnext hdue => ?_,
    fun s t n q hawake hlink hnext hdue => ?_, fun s t a n q hawake hlink ha hnext hdue => ?_, fun s h => ?_⟩
  · exact ⟨meanOf s.free b, congrArg Host.Outcome.next (if_pos ⟨hstate, hawake, hlen⟩), meanOf_eight s.free b hlen⟩
  · refine congrArg Host.Outcome.next (if_neg ?_)
    rintro ⟨h1, h2, h3⟩
    rcases h with h | h | h
    · exact h h1
    · simp [h] at h2
    · exact h h3
  · have hnext := exec_handoffCapture_due s phi pulse hawake hstate hmeasured hlater
    refine ⟨_, hnext, rfl, rfl, rfl, rfl, s.pulled_natAbs _, rfl, rfl, rfl, fun htarget => ?_, rfl, rfl, rfl, exec_handoffCapture_frame hnext⟩
    dsimp only
    rw [s.alignAt_port _ _ htarget]
    exact ⟨rfl, s.realign_same⟩
  · refine ⟨looseQuot s.free s.dpll.secSum s.dpll.secTicks, (congrArg Host.Outcome.next (if_pos ⟨hstate, hlock, hawake, hsec⟩)).trans ?_⟩
    rw [hgood, if_neg Bool.false_ne_true]
  · refine (congrArg Host.Outcome.next (if_pos ⟨hstate, hlock, hawake, hsec⟩)).trans ?_
    rw [hbad, if_pos rfl]
  · refine congrArg Host.Outcome.next (if_neg ?_)
    rintro ⟨h1, h2, h3, h4⟩
    rcases h with h | h | h
    · exact h h1
    · simp [h] at h3
    · omega
  · have hnext : exec .holdoverExpire s = .next { s with
        dpll := { s.dpll with state := .expired, expSticky := true }, bus := (s.bus.raise s.inbandMask 4).raise s.inbandMask 2 } := by
      simp only [exec, execHoldoverExpire_eq]
      rw [if_pos (by simp [hstate, hawake, s.holdoverDue_of_time hmax hlong])]
    exact ⟨_, hnext, rfl, by simp only [Bus.raise, BitVec.or_assoc]; rfl, exec_holdoverExpire_frame hnext⟩
  · have hnext : exec .holdoverExpire s = .next { s.raise 4 with dpll := { s.dpll with outgoing := .expired, expSticky := true } } := by
      simp only [exec, execHoldoverExpire_eq]
      rw [if_neg (by simp [hstate]), if_pos (by simp [hstate, hout, hawake, s.holdoverDue_of_time hmax hlong])]
    exact ⟨_, hnext, rfl, rfl, exec_holdoverExpire_frame hnext⟩
  · rw [State.hoTime, hstop, Option.getD_none]
  · simp only [exec, execHoldoverExpire_eq]
    rcases h with h | h | ⟨hstate, hout⟩
    · simp [h]
    · simp [s.holdoverDue_unlimited h]
    · rcases hout with hout | hout <;> simp [hstate, hout]
  · have hact := exec_forceAct_one s t 1 n q hawake hnext hdue
    rw [s.forcesTaken.forceTo_source n hlink] at hact
    exact ⟨_, hact, rfl, exec_forceAct_frame hact⟩
  · have hact := exec_forceAct_one s t 0 n q hawake hnext hdue
    rw [State.forceTo_release] at hact
    refine ⟨_, hact, rfl, fun hforce => ?_, exec_forceAct_frame hact⟩
    exact congrArg (fun b => (if b then s.bus.raise s.inbandMask 2 else s.bus).attn) hforce
  · have hact := exec_forceAct_one s t 2 n q hawake hnext hdue
    rw [s.forcesTaken.forceTo_holdover n hlink] at hact
    exact ⟨_, hact, rfl, rfl, rfl, rfl, rfl, rfl, exec_forceAct_frame hact⟩
  · have hact := exec_forceAct_one s t 3 n q hawake hnext hdue
    rw [s.forcesTaken.forceTo_freerun n hlink] at hact
    exact ⟨_, hact, rfl, rfl, rfl, rfl, rfl, rfl, exec_forceAct_frame hact⟩
  · rw [exec_forceAct_one s t a n q hawake hnext hdue, s.forcesTaken.forceTo_aligning a n hlink ha]
    rfl
  · have hnot : s.forceDue = false := by
      rcases h with h | h
      · rw [State.forceDue, h, Bool.false_and]
      · rw [State.forceDue, List.any_eq_false.2 fun e he => by simpa using h e he, Bool.and_false]
    simp only [exec, execForceAct, State.forcesAct, hnot, Bool.false_eq_true, if_false]

end Sys2Proof.Machine
end

section
/-! SUPPORT. Supplies, boots, modes and wakes (chapter 13). -/
namespace Sys2Proof.Machine

-- One proof after another: a check of the whole text in one process stays within its memory.
set_option Elab.async false

/-! Resets and the start of a boot (R322-R324, R330, R359). -/

/-- The address pins as a boot samples them (R360). -/
theorem addressCode_eq (d : Straps) : addressCode d = d.d0.val + 4 * d.d1.val + 16 * d.d2.val + 64 * d.d3.val + 256 * d.d4.val := rfl

theorem State.logBoot_mirror (s : State) : s.logBoot.mram.mirror = s.mram.mirror := by
  unfold State.logBoot
  extract_lets
  split <;> rfl

theorem State.frame_bootBegin (s : State) : Frame [.power, .bus, .synth, .log, .mram] s s.bootBegin := by
  intro p hp
  cases p with
  | power | bus | synth | log | mram => simp at hp
  | _ => simp only [Part.same, State.bootBegin_keeps]

/-- What a boot begins with. -/
theorem State.bootBegin_fields (s : State) : s.bootBegin.power = { s.power with inReset := false, mode := .boot, verified := false } ∧
    s.bootBegin.synth = { s.synth with xoFreq := s.dev 0x0100 } ∧ s.bootBegin.bus.code = addressCode s.bus.straps ∧ s.bootBegin.bus.straps = s.bus.straps ∧
    (s.bootBegin.bus.addrReserved = true ↔ (s.dev 0x1900).testBit 0 = true ∧ (addressCode s.bus.straps % 128 < 8 ∨ 0x78 ≤ addressCode s.bus.straps % 128)) ∧
    s.bootBegin.mram.mirror = s.mram.mirror := by
  refine ⟨?_, ?_, rfl, ?_, ?_, s.logBoot_mirror⟩
  · simp only [State.bootBegin, State.logBoot_keeps]
  · simp only [State.bootBegin, State.logBoot_keeps]
  · simp only [State.bootBegin, State.logBoot_keeps]
  · simp only [State.bootBegin, Bool.and_eq_true, Bool.or_eq_true, decide_eq_true_eq]

/-- A device held in reset boots once every supply is valid and RESET_N is high. -/
theorem State.tryBoot_begins (s : State) (hreset : s.power.inReset = true) (hlow : s.power.resetLow = false) (hsupplied : s.power.supplied = true) : s.tryBoot = s.bootBegin := by
  simp [State.tryBoot, hreset, hlow, hsupplied]

theorem State.tryBoot_unsupplied (s : State) (h : s.power.supplied = false) : s.tryBoot = s := by
  simp [State.tryBoot, h]

theorem State.tryBoot_low (s : State) (hreset : s.power.inReset = true) (hlow : s.power.resetLow = true) : s.tryBoot = s := by
  simp only [State.tryBoot, hreset, hlow, if_true]
  split <;> rfl

theorem State.tryBoot_running (s : State) (hreset : s.power.inReset = false) (hexit : s.power.exiting = none) : s.tryBoot = s := by
  simp only [State.tryBoot, hreset, hexit, Bool.false_eq_true, if_false]
  split <;> rfl

/-- Any boot keeps the supplies and the ledger's mirror. -/
theorem State.tryBoot_valid (s : State) : s.tryBoot.power.valid = s.power.valid ∧ s.tryBoot.mram.mirror = s.mram.mirror := by
  have hself : s.power.valid = s.power.valid ∧ s.mram.mirror = s.mram.mirror := ⟨rfl, rfl⟩
  have hbegin : ∀ u : State, u.bootBegin.power.valid = u.power.valid ∧ u.bootBegin.mram.mirror = u.mram.mirror := fun u => by
    obtain ⟨hpower, -, -, -, -, hmirror⟩ := u.bootBegin_fields
    exact ⟨by rw [hpower], hmirror⟩
  unfold State.tryBoot
  split
  · exact hself
  split
  · split
    · exact hself
    · exact hbegin s
  · split
    · split
      · exact hbegin _
      · exact hself
    · split
      · exact hbegin _
      · exact hself
    · exact hself

theorem State.listenUpdate_deaf (s : State) (hmode : s.power.mode = .boot) (hdeaf : s.wake.listening = false) : s.listenUpdate = s := by
  have hwants : s.wantsListen = false := by simp [State.wantsListen, hmode]
  simp [State.listenUpdate, hwants, hdeaf]

/-! Supplies lost (R199, R322). -/

theorem exec_supplyPorAssert_vaon (s : State) : exec (.supplyPorAssert 0) s = .next (State.deviceReset
    { s with power := { s.power with valid := s.power.valid &&& ~~~ 1#8 }, jtag := .idcode } 0 0 true) := rfl

/-- A supply other than VAON, HPVDD and VSPK is lost outside Rest, Watch and reset. -/
theorem exec_supplyPorAssert_resets (s : State) (i : Fin 8) (h1 : 1 ≤ i.val) (h5 : i.val ≤ 5) (hreset : s.power.inReset = false) (hasleep : s.asleep = false) :
    exec (.supplyPorAssert i) s = .next (State.deviceReset { s with
      power := { s.power with valid := s.power.valid &&& ~~~ BitVec.ofNat 8 (2 ^ i.val) }
      jtag := if i.val = 0 ∨ i.val = 5 then .idcode else s.jtag } 1 (i.val - 1) false) := by
  have h0 : i.val ≠ 0 := by omega
  have h6 : i.val ≠ 6 := by omega
  have h7 : i.val ≠ 7 := by omega
  obtain ⟨hrest, hwatch⟩ : s.power.mode ≠ .rest ∧ s.power.mode ≠ .watch := by simpa [State.asleep] using hasleep
  simp only [exec, execSupplyPorAssert, h0, h6, h7, if_false, hreset, Bool.false_eq_true]

/-- A headphone channel as HPVDD is lost (R199): off, to start again, PROTECT and DISABLED. -/
def OutCh.pumpLost (c : OutCh) (s : State) (o : Nat) : OutCh :=
  ({ c with
    driving := false
    rejoin := false
    step := if c.step ≠ 0 ∨ (c.driving || c.rejoin) && !c.causes.getLsbD cDisabled then 1 else 0 }.raise s o cProtect).raise s o cDisabled

theorem OutCh.pumpLost_driving (c : OutCh) (s : State) (o : Nat) : (c.pumpLost s o).driving = false := by
  obtain ⟨-, hdisabled, -, -⟩ := OutCh.raise_keeps (({ c with
    driving := false
    rejoin := false
    step := if c.step ≠ 0 ∨ (c.driving || c.rejoin) && !c.causes.getLsbD cDisabled then 1 else 0 } : OutCh).raise s o cProtect) s o cDisabled
  obtain ⟨-, hprotect, -, -⟩ := OutCh.raise_keeps { c with
    driving := false
    rejoin := false
    step := if c.step ≠ 0 ∨ (c.driving || c.rejoin) && !c.causes.getLsbD cDisabled then 1 else 0 } s o cProtect
  exact hdisabled.trans hprotect

theorem exec_supplyPorAssert_hpvdd (s : State) (b : Nat) (hpump : s.out.pump = .starting b ∨ s.out.pump = .ready) :
    exec (.supplyPorAssert 6) s = .next { s.raise 8 with
      power := { s.power with valid := s.power.valid &&& ~~~ 64#8 }
      out := { s.out with
        pump := .failed s.clock.now
        cpFault := true
        ch := (List.range 8).foldl (fun t k => tabMod (fun _ => {}) t (16 + k) (fun c => c.pumpLost s (16 + k))) s.out.ch } } := by
  rcases hpump with h | h
  · simp only [exec, execSupplyPorAssert, h]
    rfl
  · simp only [exec, execSupplyPorAssert, h]
    rfl

/-! Supplies and RESET_N released (R320, R323, R330). -/

theorem exec_supplyPorRelease_boots (s : State) (i : Fin 8) (d : Straps) (hi : i.val ≠ 7) (hmode : s.power.mode = .boot) (hdeaf : s.wake.listening = false) :
    exec (.supplyPorRelease i d) s = .next (State.tryBoot { s with
      power := { s.power with valid := s.power.valid ||| BitVec.ofNat 8 (2 ^ i.val) }
      bus := { s.bus with straps := d } }) := by
  simp only [exec, execSupplyPorRelease, hi, if_false]
  rw [State.listenUpdate_deaf]
  · exact hmode
  · exact hdeaf

/-- VSPK valid again counts from here (R210). -/
theorem State.vspkBack_since (s : State) (h : s.out.vspkSince = none) : s.vspkBack.out.vspkSince = some s.clock.now := by
  have hout : (s.modOuts [24, 25, 26, 27] (fun _ c => if c.prot.getLsbD 3 then { c with clearSince := some s.clock.now } else c)).out.vspkSince = none := h
  simp only [State.vspkBack, hout]

/-- Settles O31: a loss is `State.deviceReset` or the failed pump, a release `State.tryBoot`. -/
theorem suppliesAndResetsAct : Obligations.SuppliesAndResetsAct := by
  refine ⟨fun s => ?_, fun s i h1 h5 hreset hasleep => ?_, fun s hreset hmode => ?_, fun s b hpump => ?_, fun s => ?_, fun s d code hreset hsupplied hcode => ?_,
    fun s d hsupplied => ?_, fun s d => ?_, fun s i d hi hreset hmode hdeaf => ⟨fun hlow hall => ?_, fun h => ?_⟩⟩
  · refine ⟨_, exec_supplyPorAssert_vaon s, rfl, rfl, rfl, rfl, rfl, rfl, rfl, rfl, rfl, rfl, rfl, rfl, fun p hp => ?_⟩
    cases p with
    | mram | free | pending => rfl
    | _ => simp at hp
  · exact ⟨_, exec_supplyPorAssert_resets s i h1 h5 hreset hasleep, rfl, rfl, rfl, rfl, rfl, rfl, rfl, rfl, rfl, rfl⟩
  · simp only [exec, execSupplyPorAssert, hreset, hmode]
    rfl
  · refine ⟨_, exec_supplyPorAssert_hpvdd s b hpump, rfl, rfl, rfl, rfl, fun i hi => ?_, fun p hp => ?_⟩
    · dsimp only [State.outCh]
      rw [tabGet_mods_hp (fun _ => ({} : OutCh)) (fun o c => c.pumpLost s o) _ i hi, OutCh.pumpLost_driving]
    · cases p with
      | power | out | bus => simp at hp
      | _ => rfl
  · refine ⟨_, rfl, rfl, rfl, rfl, rfl, rfl, rfl, rfl, rfl, rfl, fun p hp => ?_⟩
    cases p with
    | mram | jtag | free | pending => rfl
    | _ => simp at hp
  · obtain ⟨hpower, hsynth, hcode', hstraps, hreserved, -⟩ := State.bootBegin_fields { s with power := { s.power with resetLow := false }, bus := { s.bus with straps := d } }
    have hnext : exec (.resetNRise d) s = .next (State.bootBegin { s with power := { s.power with resetLow := false }, bus := { s.bus with straps := d } }) :=
      congrArg Host.Outcome.next (State.tryBoot_begins _ hreset rfl hsupplied)
    refine ⟨_, hnext, ?_, ?_, ?_, ?_, hcode'.trans hcode.symm, hstraps, hsynth, ?_, ?_⟩
    · rw [hpower]
    · rw [hpower]
    · rw [hpower]
    · rw [hpower]
    · rw [hcode]
      exact hreserved
    · have hframe := State.frame_bootBegin { s with power := { s.power with resetLow := false }, bus := { s.bus with straps := d } }
      intro p hp
      have h := hframe p hp
      cases p with
      | power | bus => simp at hp
      | _ => exact h
  · exact congrArg Host.Outcome.next (State.tryBoot_unsupplied _ hsupplied)
  · have hnext : exec (.supplyPorRelease 7 d) s = .next (State.vspkBack { s with
        power := { s.power with valid := s.power.valid ||| BitVec.ofNat 8 (2 ^ 7) }
        bus := { s.bus with straps := d } }).listenUpdate.tryBoot := rfl
    refine ⟨_, hnext, ?_⟩
    generalize hu : (State.vspkBack { s with
      power := { s.power with valid := s.power.valid ||| BitVec.ofNat 8 (2 ^ 7) }
      bus := { s.bus with straps := d } }).listenUpdate = u
    obtain ⟨hvalid, hmirror⟩ := u.tryBoot_valid
    have hpower : u.power = { s.power with valid := s.power.valid ||| BitVec.ofNat 8 (2 ^ 7) } := by
      rw [← hu]
      simp only [State.listenUpdate_keeps, State.vspkBack_keeps]
    have hmram : u.mram = s.mram := by
      rw [← hu]
      simp only [State.listenUpdate_keeps, State.vspkBack_keeps]
    have hsince : s.out.vspkSince = none → u.out.vspkSince = some s.clock.now := fun hnone => by
      rw [← hu]
      simp only [State.listenUpdate_keeps]
      exact State.vspkBack_since _ hnone
    refine ⟨?_, fun hnone hreset hexit => ?_, ?_⟩
    · exact hvalid.trans (congrArg Power.valid hpower)
    · rw [u.tryBoot_running (by rw [hpower]; exact hreset) (by rw [hpower]; exact hexit)]
      exact hsince hnone
    · rw [hmirror, hmram]
  · have hnext := exec_supplyPorRelease_boots s i d hi hmode hdeaf
    rw [State.tryBoot_begins { s with power := { s.power with valid := s.power.valid ||| BitVec.ofNat 8 (2 ^ i.val) }, bus := { s.bus with straps := d } }
      hreset hlow (decide_eq_true hall)] at hnext
    have hframe := State.frame_bootBegin { s with power := { s.power with valid := s.power.valid ||| BitVec.ofNat 8 (2 ^ i.val) }, bus := { s.bus with straps := d } }
    obtain ⟨hpower, -, hcode, -, -, -⟩ := State.bootBegin_fields { s with
      power := { s.power with valid := s.power.valid ||| BitVec.ofNat 8 (2 ^ i.val) }, bus := { s.bus with straps := d } }
    refine ⟨_, hnext, by rw [hpower], by rw [hpower], hcode, fun p hp => ?_⟩
    have h := hframe p hp
    cases p with
    | power | bus => simp at hp
    | _ => exact h
  · rw [exec_supplyPorRelease_boots s i d hi hmode hdeaf]
    rcases h with h | h
    · exact congrArg Host.Outcome.next (State.tryBoot_low _ hreset h)
    · exact congrArg Host.Outcome.next (State.tryBoot_unsupplied _ (decide_eq_false h))

/-! The converter chains start from cleared state (R72). -/

theorem State.startChain_chain (s : State) (k n : Nat) : ((s.startChain k).adcCh n).chain = if n = k then [] else (s.adcCh n).chain := by
  simp only [State.startChain, State.adcCh, tabGet_mod]
  split <;> rfl

theorem State.foldl_startChain_chain (l : List Nat) (s : State) (n : Nat) (h : n ∈ l ∨ (s.adcCh n).chain = []) : ((l.foldl (fun s n => s.startChain n) s).adcCh n).chain = [] := by
  induction l generalizing s with
  | nil => simpa using h
  | cons k l ih =>
    refine ih (s.startChain k) ?_
    rw [State.startChain_chain]
    by_cases hk : n = k
    · simp [hk]
    · simpa [hk] using h

theorem State.foldl_startOutChain_adc (l : List Nat) (s : State) : (l.foldl (fun s o => s.startOutChain o) s).conv.adc = s.conv.adc := by
  induction l generalizing s with
  | nil => rfl
  | cons k l ih => exact ih (s.startOutChain k)

theorem State.startChains_chain (s : State) (n : Nat) (hn : n < 24) : (s.startChains.adcCh n).chain = [] := by
  rw [State.startChains, State.adcCh, State.foldl_startOutChain_adc]
  exact State.foldl_startChain_chain (List.range 24) s n (.inl (List.mem_range.2 hn))

theorem State.frame_startChains (s : State) : Frame [.inp, .conv] s s.startChains := by
  intro p hp
  cases p with
  | inp | conv => simp at hp
  | _ => simp only [Part.same, State.startChains_keeps]

/-! A bank verified (R331). -/

/-- A firmware bank may be verified now. -/
def State.verifies (s : State) : Bool := decide (s.power.mode = .boot) && !s.power.inReset && !s.power.verified && s.synth.lock

/-- The firmware starts from a bank. -/
theorem State.firmwareStarts_power (s : State) (bank : Nat) :
    (s.firmwareStarts bank).power = { s.power with verified := true, bootBank := bank, fallback := decide (bank = 1) } := by
  simp only [State.firmwareStarts, State.startChains_keeps]

theorem State.firmwareStarts_chain (s : State) (bank n : Nat) (hn : n < 24) : ((s.firmwareStarts bank).adcCh n).chain = [] := State.startChains_chain _ n hn

theorem State.frame_firmwareStarts (s : State) (bank : Nat) : Frame [.power, .inp, .conv] s (s.firmwareStarts bank) := by
  intro p hp
  cases p with
  | power | inp | conv => simp at hp
  | _ => simp only [Part.same, State.firmwareStarts, State.startChains_keeps]

theorem execFirmwareVerify_eq (s : State) (h : s.verifies = true) : execFirmwareVerify s = .next (
    if (s.mram.bank s.mram.active1).passes then s.firmwareStarts 0
    else if (s.mram.bank (!s.mram.active1)).passes then
      (if s.mramBlocked then s else { s with mram := { s.mram with active1 := !s.mram.active1 } }.firmwareStarts 1)
    else { s.bootRecord with
      power := { s.power with mode := .recovery, bootBank := 2, fallback := false }
      log := if s.power.bootFromRest || s.power.bootFromRecovery then s.log else s.log.add 0x14 1 }) :=
  congrArg Host.Outcome.next (if_neg (by simpa [State.verifies] using h))

theorem execFirmwareVerify_not (s : State) (h : s.verifies = false) : execFirmwareVerify s = .next s :=
  congrArg Host.Outcome.next (if_pos (by
    change (!s.verifies) = true
    rw [h]
    rfl))

/-- Both banks as they stand, whichever is active. -/
theorem Mram.bank_fails (m : Mram) (one : Bool) (h0 : m.bank0.passes = false) (h1 : m.bank1.passes = false) : (m.bank one).passes = false := by
  cases one
  · exact h0
  · exact h1

/-! Idle is entered (R72, R197, R305). -/

theorem State.raiseIf_attn (s : State) (c : Bool) (k : Nat) : (s.raiseIf c k).bus.attn = s.bus.attn ||| (if c then BitVec.ofNat 32 (2 ^ k) else 0#32) := by
  cases c
  · exact BitVec.or_zero.symm
  · rfl

theorem State.cmRamp_congr {s t : State} (h : t.cfg = s.cfg) : t.cmRamp = s.cmRamp := by
  simp only [State.cmRamp, State.dir, h]

theorem State.idleEntry_power (s : State) (exit : Bool) : (s.idleEntry exit).power = { s.power with mode := .idle } := by
  cases exit <;> simp [State.idleEntry]

theorem State.idleEntry_dpll (s : State) (exit : Bool) : (s.idleEntry exit).dpll = s.dpll.start := by
  cases exit <;> simp [State.idleEntry]

theorem State.idleEntry_synth (s : State) (exit : Bool) : (s.idleEntry exit).synth = { s.synth with sleepGate := 0 } := by
  cases exit <;> simp [State.idleEntry]

theorem State.idleEntry_bias (s : State) (exit : Bool) : (s.idleEntry exit).out.bias = .rising 0 s.clock.now (s.clock.now + s.cmRamp) := by
  have hramp : ∀ t : State, t.cfg = s.cfg → t.clock = s.clock → Bias.rising 0 t.clock.now (t.clock.now + t.cmRamp) = .rising 0 s.clock.now (s.clock.now + s.cmRamp) :=
    fun t hcfg hclock => by rw [State.cmRamp_congr hcfg, hclock]
  cases exit
  · simp only [State.idleEntry, Bool.false_eq_true, if_false, State.listenUpdate_keeps, State.markMode_keeps, State.linkStart_keeps, State.portsUnmeasured_keeps,
      State.raiseIf_keeps]
    exact hramp _ (by simp) (by simp)
  · simp only [State.idleEntry, if_true, State.listenUpdate_keeps, State.markMode_keeps, State.linkStart_keeps, State.portsUnmeasured_keeps, State.raiseIf_keeps]
    exact hramp _ (by simp) (by simp)

theorem State.idleEntry_attn (s : State) (exit : Bool) :
    (s.idleEntry exit).bus.attn = s.bus.attn ||| (if s.dpll.startNews then BitVec.ofNat 32 (2 ^ 2) else 0#32) := by
  cases exit
  all_goals
    simp only [State.idleEntry, State.listenUpdate_keeps, State.markMode_keeps, State.linkStart_keeps, State.portsUnmeasured_keeps, State.raiseIf_attn]
    simp

theorem State.frame_idleEntry (s : State) (exit : Bool) : Frame [.power, .synth, .dpll, .bus, .log, .inp, .conv, .out, .ports, .link, .wake] s (s.idleEntry exit) := by
  intro p hp
  cases p with
  | power | synth | dpll | bus | log | inp | conv | out | ports | link | wake => simp at hp
  | _ => simp only [Part.same, State.idleEntry_keeps]

/-! The end of a boot and of an exit in Idle (R330, R337). -/

/-- Idle as a boot enters it: the record is made and every parameter is at its default. -/
def State.bootEntered (s : State) : State := { s.bootRecord with cfg := {} }.idleEntry s.power.bootFromRest

/-- AUTORUN follows a boot after a reset (R332). -/
def State.bootAuto (s : State) : Bool := !s.power.bootFromRest && !s.power.bootFromRecovery && (s.dev 0x0000).testBit 0

theorem State.bootIdle_eq (s : State) (hmode : s.power.mode = .boot) (hverified : s.power.verified = true) (hlock : s.synth.lock = true)
    (hreset : s.power.inReset = false) (hexit : s.power.exiting = none) : s.bootIdle = State.raiseIf { s.bootEntered with
      power := { s.bootEntered.power with
        bootFromRest := false, bootFromRecovery := false, woken := false, autorunDue := if s.bootAuto then 1 else 0, autorun := s.bootAuto
        refusedAtBoot := false, bootReason := 0 }
      log := if s.power.bootFromRest || s.power.bootFromRecovery then s.bootEntered.log else s.bootEntered.log.add 0x14 1 } s.power.fallback 13 := by
  have hgo : (!(decide (s.power.mode = .boot) && s.power.verified && s.synth.lock && !s.power.inReset)) = false := by simp [hmode, hverified, hlock, hreset]
  simp only [State.bootIdle, hgo, hexit, Option.isSome_none, Bool.false_eq_true, if_false]
  rfl

theorem exec_bootIdleReached_frame {s t : State} (h : exec .bootIdleReached s = .next t) :
    Frame [.power, .synth, .dpll, .bus, .ctl, .cfg, .log, .inp, .conv, .out, .ports, .link, .wake] s t := by
  intro p hp
  cases p with
  | power | synth | dpll | bus | ctl | cfg | log | inp | conv | out | ports | link | wake => simp at hp
  | _ => simp only [Part.same, execBootIdleReached_keeps s t h]

/-- ATTN_CAUSE bit 9 stands through the jack pins of an exit. -/
theorem State.jacksReturn_attn (s : State) (w : Option Nat) (h : s.bus.attn.getLsbD 9 = true) : (s.jacksReturn w).bus.attn.getLsbD 9 = true := by
  unfold State.jacksReturn
  generalize List.range 4 = l
  induction l generalizing s with
  | nil => exact h
  | cons j l ih =>
    refine ih _ ?_
    dsimp only
    split
    · simp [Bus.raise, h]
    · split
      · exact h
      · exact h

theorem State.exitDone_power (s : State) (c : WakeCause) (slot0 : Bool) (hwake : s.power.wake = some c) : (s.exitDone slot0).power = { s.power with
    woken := true, exiting := none, wake := none, attnHeld := false, retentionLost := false
    autorunDue := if (s.dev 0x0000).testBit 1 then (if slot0 then 1 else 2) else 0
    autorun := (s.dev 0x0000).testBit 1, lastWake := c.code, wakeJs := c.js } := by
  simp [State.exitDone, hwake]

theorem State.exitDone_attn (s : State) (slot0 : Bool) : (s.exitDone slot0).bus.attn.getLsbD 9 = true := by
  refine State.jacksReturn_attn _ _ ?_
  simp [Bus.raise]

/-- An exit from Watch completes. -/
theorem exec_exitComplete_watch (s : State) (hmode : s.power.mode = .watch) (hexit : s.power.exiting = some .watch) (hlock : s.synth.lock = true)
    (hsupplied : s.power.supplied = true) (hkept : s.power.retentionLost = false) :
    exec .exitComplete s = .next (((s.idleEntry true).inputsReturn.pinsReturn).exitDone false) := by
  simp [exec, execExitComplete, hmode, hexit, hlock, hsupplied, hkept]

/-! AUTORUN (R332, R340). -/

theorem execAutorun_not (s : State) (h : s.power.autorunDue = 0 ∨ s.inIdle = false) : execAutorun s = .next s := by
  rcases h with h | h
  · simp [execAutorun, h]
  · simp [execAutorun, h]

/-- AUTORUN with nothing in its way, as the recall of slot 0 with ARM or as ARM. -/
theorem execAutorun_eq (s : State) (hidle : s.inIdle = true) (hentering : s.power.entering = none) (hblocked : s.mramBlocked = false) (hfrozen : s.frozen = false)
    (hrunning : s.ctl.running = true) (hcheck : s.cfg.check = none) : execAutorun s = .next (
      if s.power.autorunDue = 1 then State.doConfigRecall { s with power := { s.power with autorunDue := 0 } } (s.ownJob 0x0602 [0, 1, 0, 0])
      else if s.power.autorunDue = 2 then State.doArm { s with power := { s.power with autorunDue := 0 } } (s.ownJob 0x0201 [])
      else s) :=
  congrArg Host.Outcome.next (if_neg (by simp [hidle, hentering, hblocked, hfrozen, hrunning, hcheck]))

/-- The recall of an empty slot 0 over the internal port is refused with 0xA3, and ends AUTORUN. -/
theorem State.doConfigRecall_empty (s : State) (hidle : s.inIdle = true) (hentering : s.power.entering = none) (hfrozen : s.frozen = false) (hcheck : s.cfg.check = none)
    (harmed : s.cfg.armed = none) (hempty : (s.mram.slot 0).len = 0) : s.doConfigRecall (s.ownJob 0x0602 [0, 1, 0, 0]) =
    ((((s.reply (s.ownJob 0x0602 [0, 1, 0, 0]) 1 0 []).refuseConfig (s.ownJob 0x0602 [0, 1, 0, 0]) 0xA3 15 0 []).raise 1).noteBoot (s.ownJob 0x0602 [0, 1, 0, 0]) 0xA3) := by
  have hslot : le (s.ownJob 0x0602 [0, 1, 0, 0]).req.payload 0 1 = 0 := rfl
  have hok : ¬ (7 < 0 ∨ 1 < le (s.ownJob 0x0602 [0, 1, 0, 0]).req.payload 1 1 ∨ (!zeros (s.ownJob 0x0602 [0, 1, 0, 0]).req.payload 2 2) = true) := by
    have h1 : le (s.ownJob 0x0602 [0, 1, 0, 0]).req.payload 1 1 = 1 := rfl
    have h2 : zeros (s.ownJob 0x0602 [0, 1, 0, 0]).req.payload 2 2 = true := rfl
    rw [h1, h2]
    decide
  have hjudge : (s.mram.slot 0).judge = (0xA3, []) := by rw [Slot.judge, if_pos hempty]
  simp only [State.doConfigRecall, hslot, if_neg hok, hidle, hentering, hfrozen, hcheck, harmed, hjudge]
  simp

/-- What the refusal of the recall leaves. -/
theorem exec_autorun_empty (s : State) (hidle : s.inIdle = true) (hentering : s.power.entering = none) (hblocked : s.mramBlocked = false) (hfrozen : s.frozen = false)
    (hrunning : s.ctl.running = true) (hcheck : s.cfg.check = none) (hdue : s.power.autorunDue = 1) (harmed : s.cfg.armed = none) (hempty : (s.mram.slot 0).len = 0) :
    Completes .autorun s (fun t => t.power = { s.power with autorunDue := 0, autorun := false, refusedAtBoot := true, bootReason := 0xA3 } ∧ t.cfg.lastReason = 0xA3 ∧
      t.bus.attn = s.bus.attn ||| BitVec.ofNat 32 (2 ^ 1) ∧ t.cfg.direct = s.cfg.direct ∧ t.cfg.active = s.cfg.active) := by
  have hnext : exec .autorun s = .next (State.doConfigRecall { s with power := { s.power with autorunDue := 0 } } (s.ownJob 0x0602 [0, 1, 0, 0])) := by
    rw [exec, execAutorun_eq s hidle hentering hblocked hfrozen hrunning hcheck, if_pos hdue]
  refine ⟨_, hnext.trans (congrArg Host.Outcome.next (State.doConfigRecall_empty _ hidle hentering hfrozen hcheck harmed hempty)), ?_, ?_, ?_, ?_, ?_⟩
  all_goals rfl

/-- An ARM that starts its check (R417). -/
def State.armAsked (u : State) (j : Job) : State := { u.askChecks u.shadowSpk with
  cfg := { (u.askChecks u.shadowSpk).cfg with check := some { kind := .arm, job := j, named := 0, ahead := (u.askChecks u.shadowSpk).cfg.queue.length } } }

theorem State.doArm_asks (u : State) (j : Job) (hidle : u.inIdle = true) (hentering : u.power.entering = none) (hpfw : u.power.pfw = false) (hcheck : u.cfg.check = none)
    (harmed : u.cfg.armed = none) : u.doArm j = (u.armAsked j).reply j 1 0 [] := by
  simp [State.doArm, State.armAsked, hidle, hentering, hpfw, hcheck, harmed]

theorem State.frame_armAsked (u : State) (j : Job) : Frame [.cfg, .conv] u (u.armAsked j) := by
  intro p hp
  cases p with
  | cfg | conv => simp at hp
  | _ => simp [Part.same, State.armAsked]

/-- A reply over the internal port waits there (R332). -/
theorem State.frame_reply_own (s : State) (j : Job) (status detail : Nat) (data : List Byte) (hport : j.req.port.val = 4) : Frame [.ctl] s (s.reply j status detail data) := by
  unfold State.reply
  split
  · exact fun p _ => by cases p <;> rfl
  · intro p hp
    rw [hport]
    cases p with
    | ctl => simp at hp
    | _ => rfl

/-- AUTORUN with ARM starts the check of an ARM. -/
theorem exec_autorun_arm (s : State) (hidle : s.inIdle = true) (hentering : s.power.entering = none) (hblocked : s.mramBlocked = false) (hfrozen : s.frozen = false)
    (hrunning : s.ctl.running = true) (hcheck : s.cfg.check = none) (hdue : s.power.autorunDue = 2) (harmed : s.cfg.armed = none) :
    Completes .autorun s (fun t => t.power = { s.power with autorunDue := 0 } ∧ (∃ p, t.cfg.check = some p ∧ p.kind = .arm ∧ p.job.opcode = 0x0201) ∧
      Frame [.power, .cfg, .conv, .ctl] s t) := by
  have hpfw : s.power.pfw = false := (Bool.or_eq_false_iff.1 hblocked).1
  have hnext : exec .autorun s = .next (State.doArm { s with power := { s.power with autorunDue := 0 } } (s.ownJob 0x0201 [])) := by
    rw [exec, execAutorun_eq s hidle hentering hblocked hfrozen hrunning hcheck, if_neg (by rw [hdue]; decide), if_pos hdue]
  have hask := State.doArm_asks { s with power := { s.power with autorunDue := 0 } } (s.ownJob 0x0201 []) hidle hentering hpfw hcheck harmed
  have hframe := (State.frame_armAsked { s with power := { s.power with autorunDue := 0 } } (s.ownJob 0x0201 []))
  have hreply := State.frame_reply_own (State.armAsked { s with power := { s.power with autorunDue := 0 } } (s.ownJob 0x0201 [])) (s.ownJob 0x0201 []) 1 0 [] rfl
  have hall := (hframe.wide (c := [.cfg, .conv, .ctl]) (by decide)).trans (hreply.wide (by decide))
  refine ⟨_, hnext.trans (congrArg Host.Outcome.next hask), hall .power (by decide), ⟨_, (congrArg Cfg.check (hreply .cfg (by decide))).trans rfl, rfl, rfl⟩, fun p hp => ?_⟩
  have hpart := hall p
  cases p with
  | power | cfg | conv | ctl => simp at hp
  | _ => exact hpart (by decide)

/-- Settles O32: a verified bank starts by `State.firmwareStarts`, Idle is entered by `State.idleEntry`, and AUTORUN is the recall or the ARM. -/
theorem bootAndExitReachIdle : Obligations.BootAndExitReachIdle := by
  refine ⟨fun s hmode hreset hunverified hlock => ⟨fun ha => ?_, fun ha hb hopen => ?_, fun ha hb hblocked => ?_, fun h0 h1 => ?_⟩, fun s h => ⟨?_, ?_⟩,
    fun s hmode hreset hverified hlock hexit => ?_, fun s c hmode hexit hlock hsupplied hkept hwake => ?_, fun s h => ?_, execAutorun_not,
    fun s hidle hentering hblocked hfrozen hrunning hcheck => ⟨fun hdue harmed hempty =>
      exec_autorun_empty s hidle hentering hblocked hfrozen hrunning hcheck hdue harmed hempty, fun hdue harmed =>
      exec_autorun_arm s hidle hentering hblocked hfrozen hrunning hcheck hdue harmed⟩⟩
  · have hnext := execFirmwareVerify_eq s (by simp [State.verifies, hmode, hreset, hunverified, hlock])
    rw [if_pos ha] at hnext
    exact ⟨_, hnext, s.firmwareStarts_power 0, fun n hn => s.firmwareStarts_chain 0 n hn, s.frame_firmwareStarts 0⟩
  · have hnext := execFirmwareVerify_eq s (by simp [State.verifies, hmode, hreset, hunverified, hlock])
    rw [if_neg (by simp [ha]), if_pos hb, hopen, if_neg Bool.false_ne_true] at hnext
    have hframe := State.frame_firmwareStarts { s with mram := { s.mram with active1 := !s.mram.active1 } } 1
    refine ⟨_, hnext, hframe .mram (by decide), State.firmwareStarts_power _ 1, fun n hn => State.firmwareStarts_chain _ 1 n hn, fun p hp => ?_⟩
    have hpart := hframe p
    cases p with
    | power | mram | inp | conv => simp at hp
    | _ => exact hpart (by decide)
  · have hnext := execFirmwareVerify_eq s (by simp [State.verifies, hmode, hreset, hunverified, hlock])
    rwa [if_neg (by simp [ha]), if_pos hb, if_pos hblocked] at hnext
  · have hnext := execFirmwareVerify_eq s (by simp [State.verifies, hmode, hreset, hunverified, hlock])
    rw [if_neg (by simp [s.mram.bank_fails _ h0 h1]), if_neg (by simp [s.mram.bank_fails _ h0 h1])] at hnext
    refine ⟨_, hnext, rfl, ⟨_, rfl, rfl⟩, ?_, fun p hp => ?_⟩
    · simp only [Bool.or_eq_true]
    · cases p with
      | power | ctl | log => simp at hp
      | _ => rfl
  · refine execFirmwareVerify_not s ?_
    rcases h with h | h <;> simp [State.verifies, h]
  · have hgo : (!(decide (s.power.mode = .boot) && s.power.verified && s.synth.lock && !s.power.inReset)) = true := by rcases h with h | h <;> simp [h]
    exact congrArg Host.Outcome.next (if_pos hgo)
  · have hnext : exec .bootIdleReached s = .next s.bootIdle := rfl
    have hframe := exec_bootIdleReached_frame hnext
    rw [s.bootIdle_eq hmode hverified hlock hreset hexit] at hnext hframe
    have hin := State.frame_idleEntry { s.bootRecord with cfg := {} } s.power.bootFromRest
    have hcfg : s.bootEntered.cfg = {} := hin .cfg (by decide)
    have hramp : s.bootEntered.cmRamp = State.cmRamp { s.bootRecord with cfg := {} } := State.cmRamp_congr hcfg
    refine ⟨_, hnext, ?_, rfl, hcfg, ?_, ?_, ?_, ?_, ?_, ?_, ?_, rfl, hframe⟩
    · exact congrArg Power.mode (State.idleEntry_power _ _)
    · exact congrArg Dpll.state (State.idleEntry_dpll _ _)
    · exact congrArg Dpll.current (State.idleEntry_dpll _ _)
    · exact congrArg Dpll.history (State.idleEntry_dpll _ _)
    · refine (State.idleEntry_bias _ _).trans ?_
      rw [← hramp]
      rfl
    · exact congrArg Synth.sleepGate (State.idleEntry_synth _ _)
    · exact hin .ctl (by decide)
    · rw [State.raiseIf_attn]
      exact congrArg (· ||| _) (State.idleEntry_attn _ _)
  · have hnext := exec_exitComplete_watch s hmode hexit hlock hsupplied hkept
    have hpower : ((s.idleEntry true).inputsReturn.pinsReturn).power = { s.power with mode := .idle } := by
      simp only [State.pinsReturn_keeps, State.inputsReturn_keeps, State.idleEntry_power]
    have hdone := State.exitDone_power ((s.idleEntry true).inputsReturn.pinsReturn) c false (by rw [hpower]; exact hwake)
    refine ⟨_, hnext, ?_, ?_, ?_, ?_, ?_, ?_, State.exitDone_attn _ _, ?_, ?_, ?_, ?_⟩
    · rw [hdone, hpower]
    · rw [hdone]
    · rw [hdone]
    · rw [hdone]
    · rw [hdone]
    · rw [hdone]
    all_goals simp only [State.exitDone_keeps, State.pinsReturn_keeps, State.inputsReturn_keeps, State.idleEntry_keeps]
  · simp [exec, execExitComplete, h]

/-! Run is left (R212, R328). -/

/-- An output as Run is left: DISABLED, its sequence over, and, unless it is a headphone, not driven. -/
def OutCh.idled (c : OutCh) (s : State) (o : Nat) : OutCh :=
  if isHp o then { c with step := 0, stopping := false }.raise s o cDisabled else { { c with step := 0, stopping := false }.raise s o cDisabled with driving := false }

theorem State.outputsIdle_eq (s : State) : s.outputsIdle = s.modOuts (List.range 28) (fun o c => c.idled s o) := rfl

theorem OutCh.idled_disabled (c : OutCh) (s : State) (o : Nat) : (c.idled s o).causes.getLsbD 1 = true := by
  unfold OutCh.idled
  split
  · rw [OutCh.raise_causes]
    simp [cDisabled]
  · dsimp only
    rw [OutCh.raise_causes]
    simp [cDisabled]

theorem OutCh.idled_off (c : OutCh) (s : State) (o : Nat) (h : o < 16 ∨ 24 ≤ o) : (c.idled s o).driving = false := by
  have hnot : isHp o = false := by
    simp only [isHp, decide_eq_false_iff_not]
    omega
  simp [OutCh.idled, hnot]

/-- The device in Idle, its graph's work gone. -/
def State.runLeft (s : State) : State :=
  ({ s with
    power := { s.power with mode := .idle, leaving := none, leaveJob := none }
    graph := { s.graph with runners := [], sinks := [], queues := [], kept := [], ready := [], termOut := [] } }.outputsIdle.portsLeave).markMode

theorem exec_modeMuteEnd_idle (s : State) (e : Nat) (hleaving : s.power.leaving = some (.idle, e)) (hdue : e ≤ s.clock.now) (hjob : s.power.leaveJob = none) :
    exec .modeMuteEnd s = .next s.runLeft := by
  simp only [exec, execModeMuteEnd, hleaving, hdue, hjob, if_true]
  rfl

theorem exec_modeMuteEnd_sleep (s : State) (e : Nat) (m : Mode) (hleaving : s.power.leaving = some (m, e)) (hm : m = .rest ∨ m = .watch) (hdue : e ≤ s.clock.now)
    (hjob : s.power.leaveJob = none) : exec .modeMuteEnd s = .next (s.runLeft.beginEntry m) := by
  rcases hm with rfl | rfl
  · simp only [exec, execModeMuteEnd, hleaving, hdue, hjob, if_true]
    rfl
  · simp only [exec, execModeMuteEnd, hleaving, hdue, hjob, if_true]
    rfl

theorem State.runLeft_power (s : State) : s.runLeft.power = { s.power with mode := .idle, leaving := none, leaveJob := none } := by
  simp only [State.runLeft, State.markMode_keeps, State.portsLeave_keeps, State.outputsIdle_keeps]

theorem State.runLeft_graph (s : State) : s.runLeft.graph.runners = [] ∧ s.runLeft.graph.ready = [] ∧ s.runLeft.graph.queues = [] := by
  simp only [State.runLeft, State.markMode_keeps, State.portsLeave_keeps, State.outputsIdle_keeps, and_self]

theorem State.runLeft_out (s : State) : s.runLeft.out = (State.outputsIdle { s with
    power := { s.power with mode := .idle, leaving := none, leaveJob := none }
    graph := { s.graph with runners := [], sinks := [], queues := [], kept := [], ready := [], termOut := [] } }).out := by
  simp only [State.runLeft, State.markMode_keeps, State.portsLeave_keeps]

theorem State.runLeft_bias (s : State) : s.runLeft.out.bias = s.out.bias := by
  rw [State.runLeft_out]
  rfl

theorem State.frame_runLeft (s : State) : Frame [.power, .graph, .out, .ports, .wake, .log] s s.runLeft := by
  intro p hp
  cases p with
  | power | graph | out | ports | wake | log => simp at hp
  | _ => simp only [Part.same, State.runLeft, State.markMode_keeps, State.portsLeave_keeps, State.outputsIdle_keeps]

theorem State.runLeft_outCh (s : State) (o : Nat) (ho : o < 28) : (s.runLeft.outCh o).causes.getLsbD 1 = true ∧ (o < 16 ∨ 24 ≤ o → (s.runLeft.outCh o).driving = false) := by
  rw [State.outCh, State.runLeft_out, State.outputsIdle_eq, ← State.outCh, State.outCh_modOuts _ _ List.nodup_range, if_pos (List.mem_range.2 ho)]
  exact ⟨OutCh.idled_disabled _ _ _, OutCh.idled_off _ _ _⟩

/-! The sequence into Rest and Watch (R333). -/

/-- The line bias as the sequence begins (R197). -/
theorem State.beginEntry_out (s : State) (m : Mode) : (s.beginEntry m).out.pump = .off ∧
    (s.out.bias ≠ .down → (s.beginEntry m).out.bias = .falling (s.out.bias.level s.clock.now) s.clock.now (s.clock.now + s.cmRamp)) := by
  simp only [State.beginEntry, State.listenUpdate_keeps, State.markMode_keeps, State.linkStop_keeps, State.portsLeave_keeps]
  refine ⟨rfl, fun hup => ?_⟩
  cases hb : s.out.bias with
  | down => exact absurd hb hup
  | _ => rfl

theorem State.beginEntry_power (s : State) (m : Mode) : (s.beginEntry m).power =
    { s.power with entering := some (m, s.clock.now), entryStep := 0, wake := none, jackSamples := [], entryCommitted := false } := by
  simp only [State.beginEntry, State.listenUpdate_keeps, State.markMode_keeps, State.linkStop_keeps, State.portsLeave_keeps]

theorem State.beginEntry_topo (s : State) (m : Mode) : (s.beginEntry m).link.topo = [] := by
  simp only [State.beginEntry, State.listenUpdate_keeps, State.markMode_keeps]
  rfl

theorem State.frame_beginEntry (s : State) (m : Mode) : Frame [.power, .inp, .out, .ports, .link, .wake, .log] s (s.beginEntry m) := by
  intro p hp
  cases p with
  | power | inp | out | ports | link | wake | log => simp at hp
  | _ => simp only [Part.same, State.beginEntry_keeps]

/-- Every session of a list ends: those of its numbers are gone, and a claim lost is told (R394). -/
theorem State.endSessions_gone (l : List Session) (s : State) (reason op tick : Nat) (y : Session) (h : y ∈ (s.endSessions l reason op tick).ctl.sessions) :
    y ∈ s.ctl.sessions ∧ ∀ x ∈ l, y.number ≠ x.number := by
  induction l generalizing s with
  | nil => exact ⟨h, fun x hx => by simp at hx⟩
  | cons x l ih =>
    obtain ⟨hin, hrest⟩ := ih (s.endSession x reason op tick) h
    have hkept : y ∈ s.ctl.sessions ∧ y.number ≠ x.number := by simpa [State.endSession, Control.record] using hin
    obtain ⟨hmem, hne⟩ := hkept
    refine ⟨hmem, fun z hz => ?_⟩
    rcases List.mem_cons.1 hz with rfl | hz
    · exact hne
    · exact hrest z hz

theorem State.endSessions_all (s : State) (reason op tick : Nat) : (s.endSessions s.ctl.sessions reason op tick).ctl.sessions = [] := by
  refine List.eq_nil_iff_forall_not_mem.2 fun y hy => ?_
  obtain ⟨hmem, hne⟩ := State.endSessions_gone _ s reason op tick y hy
  exact hne y hmem rfl

theorem State.endSessions_silent (l : List Session) (s : State) (reason op tick : Nat) (h : ∀ x ∈ l, x.claims = 0) : (s.endSessions l reason op tick).bus = s.bus := by
  induction l generalizing s with
  | nil => rfl
  | cons x l ih =>
    refine (ih (s.endSession x reason op tick) fun z hz => h z (List.mem_cons_of_mem _ hz)).trans ?_
    simp [State.endSession, h x List.mem_cons_self]

theorem State.endSessions_attn (l : List Session) (s : State) (reason op tick : Nat) (h0 : reason ≠ 0) (h6 : reason ≠ 6) :
    (s.endSessions l reason op tick).bus.attn = s.bus.attn ||| (if l.any (fun x => decide (x.claims ≠ 0)) then BitVec.ofNat 32 (2 ^ 17) else 0#32) := by
  induction l generalizing s with
  | nil => simp [State.endSessions]
  | cons x l ih =>
    refine (ih (s.endSession x reason op tick)).trans ?_
    by_cases hx : x.claims = 0
    · simp [State.endSession, hx]
    · have hlost : (s.endSession x reason op tick).bus.attn = s.bus.attn ||| BitVec.ofNat 32 (2 ^ 17) := by
        have hcond : x.claims ≠ 0 ∧ reason ≠ 0 ∧ reason ≠ 6 := ⟨hx, h0, h6⟩
        exact congrArg Bus.attn (if_pos hcond)
      have hany : (x :: l).any (fun x => decide (x.claims ≠ 0)) = true := List.any_eq_true.2 ⟨x, List.mem_cons_self, decide_eq_true hx⟩
      rw [hlost, hany, if_pos rfl]
      split
      · rw [BitVec.or_assoc, BitVec.or_self]
      · exact BitVec.or_zero

/-- The end of the ramp-down: the clock outputs are gated. -/
def State.rampedDown (s : State) : State :=
  { s with
    power := { s.power with entryStep := 1, rampedAt := s.clock.now }
    synth := { s.synth with sleepGate := 31 }
    out := { s.out with bias := .down } }

theorem exec_biasRampDownEnd_due (s : State) (e : Nat) (m : Mode) (hentering : s.power.entering = some (m, e)) (hstep : s.power.entryStep = 0)
    (hdue : e + s.cmRamp ≤ s.clock.now) : exec .biasRampDownEnd s = .next (if s.power.entryCommitted then s.rampedDown else s.rampedDown.logCommitIf 2) := by
  refine congrArg Host.Outcome.next (if_neg ?_)
  simp [hentering, hstep, hdue]

theorem State.logCommitIf_mram (s : State) (cause : Nat) (h : s.mramBlocked = true) : (s.logCommitIf cause).mram = s.mram := by
  rw [State.logCommitIf, if_pos h]

theorem State.frame_logCommitIf (s : State) (cause : Nat) : Frame [.mram, .log] s (s.logCommitIf cause) := by
  intro p hp
  cases p with
  | mram | log => simp at hp
  | _ => simp only [Part.same, State.logCommitIf_keeps]

theorem State.frame_rampedDown (s : State) : Frame [.power, .synth, .out] s s.rampedDown := by
  intro p hp
  cases p with
  | power | synth | out => simp at hp
  | _ => rfl

/-- Every session ends at an entry, with no challenge left. -/
def State.sessionsClosed (s : State) : State :=
  { s.endSessions s.ctl.sessions 4 0 s.tickNat with
    power := { s.power with entryStep := 2 }
    ctl := { (s.endSessions s.ctl.sessions 4 0 s.tickNat).ctl with challenges := [] } }

theorem exec_sessionsCloseAtEntry_due (s : State) (x : Mode × Nat) (hentering : s.power.entering = some x) (hstep : s.power.entryStep = 1)
    (hdue : s.power.rampedAt + 154 ≤ s.clock.now) : exec .sessionsCloseAtEntry s = .next s.sessionsClosed := by
  refine congrArg Host.Outcome.next ((if_pos ?_).trans ?_)
  · simp [hentering, hstep, hdue]
  · simp only [State.sessionsClosed, State.endSessions_keeps]

theorem State.frame_sessionsClosed (s : State) : Frame [.power, .ctl, .bus] s s.sessionsClosed := by
  intro p hp
  cases p with
  | power | ctl | bus => simp at hp
  | _ => simp only [Part.same, State.sessionsClosed, State.endSessions_keeps]

/-- The root stops at the end of the sequence. -/
def State.rootStopped (s : State) (m : Mode) : State :=
  { s with
    power := { s.power with
      mode := m, entering := none, entryStep := 0, woken := false, retentionLost := false, pfw := false,
      pfwClear := if s.power.pfw then some s.clock.now else s.power.pfwClear, enteredAt := s.clock.now }
    clock := { s.clock with rootRunning := false, phase := 0, opened := true }
    synth := { s.synth with lock := false, analogLock := false, xoOk := false, quietLock := true, gated := 31 }
    dpll := { s.dpll with stoppedAt := some s.clock.now }
    conv := { s.conv with current := none, onAsk := false } }

theorem exec_rootStop_due (s : State) (m : Mode) (e : Nat) (hentering : s.power.entering = some (m, e)) (hstep : s.power.entryStep = 2)
    (hdue : s.power.rampedAt + 250 ≤ s.clock.now) : exec .rootStop s = .next ((s.rootStopped m).lapEnd.markMode).listenUpdate := by
  simp only [exec, execRootStop, hentering]
  exact congrArg Host.Outcome.next (if_pos ⟨hstep, hdue⟩)

/-- Nothing listens in Rest (R348). -/
theorem State.listenUpdate_rest (s : State) (h : s.power.mode = .rest) : s.listenUpdate.wake.listening = false := by
  have hwants : s.wantsListen = false := by simp [State.wantsListen, h]
  unfold State.listenUpdate
  rw [hwants]
  split
  next heq => exact heq.symm
  · rfl

theorem State.frame_rootStopped (s : State) (m : Mode) :
    Frame [.power, .clock, .synth, .dpll, .out, .conv, .wake, .log] s ((s.rootStopped m).lapEnd.markMode).listenUpdate := by
  intro p hp
  cases p with
  | power | clock | synth | dpll | out | conv | wake | log => simp at hp
  | _ => simp only [Part.same, State.listenUpdate_keeps, State.markMode_keeps, State.lapEnd_keeps, State.rootStopped]

theorem exec_modeMuteEnd_early (s : State) (e : Nat) (m : Mode) (hleaving : s.power.leaving = some (m, e)) (h : s.clock.now < e) : exec .modeMuteEnd s = .next s := by
  simp only [exec, execModeMuteEnd, hleaving, if_neg (Nat.not_le.2 h)]

theorem exec_biasRampDownEnd_early (s : State) (e : Nat) (m : Mode) (hentering : s.power.entering = some (m, e)) (h : s.clock.now < e + s.cmRamp) :
    exec .biasRampDownEnd s = .next s := by
  simp [exec, execBiasRampDownEnd, hentering, Nat.not_le.2 h]

theorem exec_sessionsCloseAtEntry_early (s : State) (h : s.power.entering = none ∨ s.clock.now < s.power.rampedAt + 154) : exec .sessionsCloseAtEntry s = .next s := by
  rcases h with h | h
  · simp [exec, execSessionsCloseAtEntry, h]
  · simp [exec, execSessionsCloseAtEntry, Nat.not_le.2 h]

theorem exec_rootStop_early (s : State) (h : s.power.entering = none ∨ s.power.entryStep ≠ 2 ∨ s.clock.now < s.power.rampedAt + 250) : exec .rootStop s = .next s := by
  cases hentering : s.power.entering with
  | none => simp only [exec, execRootStop, hentering]
  | some x =>
    have hnot : ¬ (s.power.entryStep = 2 ∧ s.power.rampedAt + 250 ≤ s.clock.now) := by
      rintro ⟨hstep, hdue⟩
      rcases h with h | h | h
      · rw [hentering] at h
        exact absurd h (by simp)
      · exact h hstep
      · omega
    simp only [exec, execRootStop, hentering]
    exact congrArg Host.Outcome.next (if_neg hnot)

/-- Settles O33: Run left is `State.runLeft`, and the sequence `State.beginEntry`, `State.rampedDown`, `State.sessionsClosed` and `State.rootStopped`. -/
theorem modesAreLeftAndEnteredInOrder : Obligations.ModesAreLeftAndEnteredInOrder := by
  refine ⟨fun s e hleaving hdue hjob => ?_, fun s e m hleaving hm hdue hjob => ?_, exec_modeMuteEnd_early, fun s e m hentering hstep hdue => ?_,
    exec_biasRampDownEnd_early, fun s x hentering hstep hdue => ?_, exec_sessionsCloseAtEntry_early, fun s e m hentering hm hstep hdue => ?_, exec_rootStop_early⟩
  · obtain ⟨hrunners, hready, hqueues⟩ := s.runLeft_graph
    exact ⟨_, exec_modeMuteEnd_idle s e hleaving hdue hjob, s.runLeft_power, hrunners, hready, hqueues, s.runLeft_outCh, s.frame_runLeft⟩
  · have hpower := s.runLeft.beginEntry_power m
    rw [s.runLeft_power] at hpower
    have hkept := s.frame_runLeft
    have hclock : s.runLeft.clock = s.clock := hkept .clock (by decide)
    have hcfg : s.runLeft.cfg = s.cfg := hkept .cfg (by decide)
    obtain ⟨hpump, hbias⟩ := s.runLeft.beginEntry_out m
    rw [s.runLeft_bias, hclock, State.cmRamp_congr hcfg] at hbias
    refine ⟨_, exec_modeMuteEnd_sleep s e m hleaving hm hdue hjob, ?_, ?_, ?_, ?_, hpump, hbias, s.runLeft.beginEntry_topo m, ?_⟩
    · rw [hpower]
    · rw [hpower]
    · rw [hpower, hclock]
    · rw [hpower]
    · exact Frame.trans (hkept.wide (by decide)) ((s.runLeft.frame_beginEntry m).wide (by decide))
  · refine ⟨_, exec_biasRampDownEnd_due s e m hentering hstep hdue, ?_⟩
    by_cases hcommitted : s.power.entryCommitted = true
    · rw [if_pos hcommitted]
      exact ⟨rfl, rfl, rfl, fun _ => rfl, s.frame_rampedDown.wide (by decide)⟩
    · rw [if_neg hcommitted]
      refine ⟨?_, ?_, ?_, fun hblocked => State.logCommitIf_mram s.rampedDown 2 hblocked, ?_⟩
      · simp only [State.logCommitIf_keeps, State.rampedDown]
      · simp only [State.logCommitIf_keeps, State.rampedDown]
      · simp only [State.logCommitIf_keeps, State.rampedDown]
      · exact Frame.trans (s.frame_rampedDown.wide (by decide)) ((s.rampedDown.frame_logCommitIf 2).wide (by decide))
  · refine ⟨_, exec_sessionsCloseAtEntry_due s x hentering hstep hdue, s.endSessions_all 4 0 s.tickNat, rfl, rfl, fun hclaim => ?_,
      fun hnone => State.endSessions_silent _ s 4 0 s.tickNat hnone, s.frame_sessionsClosed⟩
    obtain ⟨y, hy, hclaims⟩ := hclaim
    refine (State.endSessions_attn s.ctl.sessions s 4 0 s.tickNat (by decide) (by decide)).trans ?_
    rw [if_pos (List.any_eq_true.2 ⟨y, hy, decide_eq_true hclaims⟩)]
  · have hpower : ((s.rootStopped m).lapEnd.markMode).listenUpdate.power = (s.rootStopped m).power := by
      simp only [State.listenUpdate_keeps, State.markMode_keeps, State.lapEnd_keeps]
    have hclock : ((s.rootStopped m).lapEnd.markMode).listenUpdate.clock = (s.rootStopped m).clock := by
      simp only [State.listenUpdate_keeps, State.markMode_keeps, State.lapEnd_keeps]
    have hsynth : ((s.rootStopped m).lapEnd.markMode).listenUpdate.synth = (s.rootStopped m).synth := by
      simp only [State.listenUpdate_keeps, State.markMode_keeps, State.lapEnd_keeps]
    have hconv : ((s.rootStopped m).lapEnd.markMode).listenUpdate.conv = (s.rootStopped m).conv := by
      simp only [State.listenUpdate_keeps, State.markMode_keeps, State.lapEnd_keeps]
    have hdpll : ((s.rootStopped m).lapEnd.markMode).listenUpdate.dpll = (s.rootStopped m).dpll := by
      simp only [State.listenUpdate_keeps, State.markMode_keeps, State.lapEnd_keeps]
    refine ⟨_, exec_rootStop_due s m e hentering hstep hdue, ?_⟩
    dsimp only
    rw [hpower, hclock, hsynth, hconv, hdpll]
    refine ⟨rfl, rfl, rfl, rfl, rfl, rfl, rfl, rfl, rfl, rfl, rfl, rfl, fun hrest => State.listenUpdate_rest _ ?_, s.frame_rootStopped m⟩
    simp only [State.markMode_keeps, State.lapEnd_keeps]
    exact hrest

/-! A wake source acts (R333, R335-R337). -/

/-- An exit from Watch begins. -/
def State.watchWoken (s : State) (c : WakeCause) : State :=
  { s with
    power := { s.power with exiting := some .watch, wake := some c }
    wake := { s.wake with modeMarks := (s.wake.widx :: s.wake.modeMarks).take 64 } }

/-- An exit from Rest begins. -/
def State.restWoken (s : State) (c : WakeCause) : State :=
  { s with power := { s.power with exiting := some .rest, wake := some c, attnHeld := true } }

/-- The sequence into Rest or Watch is broken off. -/
def State.entryBroken (s : State) (c : WakeCause) : State :=
  { s.raise 9 with
    power := { s.power with entering := none, entryStep := 0, woken := true, lastWake := c.code, wakeJs := c.js, wake := none }
    synth := { s.synth with sleepGate := 0 }
    out := { s.out with bias := s.biasBack } }

theorem State.tryBoot_retained (s : State) (hreset : s.power.inReset = false) (hexit : s.power.exiting = some .watch) (hkept : s.power.retentionLost = false) : s.tryBoot = s := by
  have hnot : ¬ (s.power.mode = .watch ∧ s.power.retentionLost = true) := by simp [hkept]
  simp only [State.tryBoot, hreset, hexit, Bool.false_eq_true, if_false, if_neg hnot, ite_self]

theorem State.tryBoot_rest (s : State) (hreset : s.power.inReset = false) (hexit : s.power.exiting = some .rest) (hmode : s.power.mode = .rest)
    (hsupplied : s.power.supplied = true) : s.tryBoot = s.restBoot := by
  simp only [State.tryBoot, hsupplied, hreset, hexit, hmode, Bool.not_true, Bool.false_eq_true, if_false, if_true]

theorem State.wakeUp_watch (s : State) (c : WakeCause) (hmode : s.power.mode = .watch) (hexit : s.power.exiting = none) (hkept : s.power.retentionLost = false)
    (hreset : s.power.inReset = false) : s.wakeUp c = s.watchWoken c := by
  have htry : (s.watchWoken c).tryBoot = s.watchWoken c := State.tryBoot_retained _ hreset rfl hkept
  unfold State.wakeUp
  split
  case h_2 =>
    rw [hexit]
    exact htry
  all_goals simp_all

theorem State.wakeUp_rest (s : State) (c : WakeCause) (hmode : s.power.mode = .rest) (hexit : s.power.exiting = none) : s.wakeUp c = (s.restWoken c).tryBoot := by
  unfold State.wakeUp
  split
  case h_1 =>
    rw [hexit]
    rfl
  all_goals simp_all

theorem State.wakeUp_entering (s : State) (c : WakeCause) (x : Mode × Nat) (hmode : s.power.mode = .idle) (hentering : s.power.entering = some x) :
    s.wakeUp c = ((s.entryBroken c).linkStart.inputsReturn.markMode).listenUpdate := by
  unfold State.wakeUp
  split
  case h_3 =>
    rw [hentering]
    rfl
  all_goals simp_all

/-- What a boot out of Rest begins with: TICK and the cause of the wake stand (R324, R337). -/
theorem State.restBoot_fields (s : State) : s.restBoot.power.mode = .boot ∧ s.restBoot.power.exiting = s.power.exiting ∧ s.restBoot.power.wake = s.power.wake ∧
    s.restBoot.power.attnHeld = s.power.attnHeld ∧ s.restBoot.power.bootFromRest = true ∧ s.restBoot.clock.rootRunning = false ∧ s.restBoot.cfg = {} := by
  obtain ⟨hpower, -, -, -, -, -⟩ := State.bootBegin_fields { s.deviceReset 3 0 false with
    clock := { (s.deviceReset 3 0 false).clock with tick := s.clock.tick }
    power := { (s.deviceReset 3 0 false).power with
      lastWake := s.power.lastWake, wakeJs := s.power.wakeJs, wake := s.power.wake, exiting := s.power.exiting, attnHeld := s.power.attnHeld,
      bootFromRest := true }
    log := s.log }
  have hkept := State.frame_bootBegin { s.deviceReset 3 0 false with
    clock := { (s.deviceReset 3 0 false).clock with tick := s.clock.tick }
    power := { (s.deviceReset 3 0 false).power with
      lastWake := s.power.lastWake, wakeJs := s.power.wakeJs, wake := s.power.wake, exiting := s.power.exiting, attnHeld := s.power.attnHeld,
      bootFromRest := true }
    log := s.log }
  have hclock := hkept .clock (by decide)
  have hcfg := hkept .cfg (by decide)
  simp only [Part.same] at hclock hcfg
  rw [State.restBoot, hpower, hclock, hcfg]
  exact ⟨rfl, rfl, rfl, rfl, rfl, rfl, rfl⟩

/-! Which source acts when (R336). -/

theorem State.wakeable_entering (s : State) (watchOnly : Bool) (m : Mode) (e : Nat) (hentering : s.power.entering = some (m, e))
    (h : m = .watch ∨ (m = .rest ∧ watchOnly = false)) : s.wakeable watchOnly = true := by
  unfold State.wakeable
  rw [hentering]
  rcases h with rfl | ⟨rfl, rfl⟩ <;> simp

theorem State.wakeable_watch (s : State) (watchOnly : Bool) (h : s.power.mode = .watch) : s.wakeable watchOnly = true := by
  simp [State.wakeable, h]

theorem State.wakeable_rest (s : State) (h : s.power.mode = .rest) : s.wakeable false = true := by
  simp [State.wakeable, h]

theorem State.wakeable_rest_only (s : State) (h : s.power.mode = .rest) (hentering : s.power.entering = none) : s.wakeable true = false := by
  simp [State.wakeable, h, hentering]

theorem State.wakeable_awake (s : State) (watchOnly : Bool) (h : s.awake = true) (hentering : s.power.entering = none) : s.wakeable watchOnly = false := by
  have hmode : s.power.mode = .idle ∨ s.power.mode = .run := by simpa [State.awake, State.inIdle, State.inRun] using h
  rcases hmode with hmode | hmode <;> simp [State.wakeable, hmode, hentering]

theorem State.asleep_awake (s : State) (h : s.awake = true) : s.asleep = false := by
  have hmode : s.power.mode = .idle ∨ s.power.mode = .run := by simpa [State.awake, State.inIdle, State.inRun] using h
  rcases hmode with hmode | hmode <;> simp [State.asleep, hmode]

theorem exec_wakeN_acts (s : State) (hmode : s.wakeable false = true) (hon : (s.dir 0x0002).testBit 0 = true) : exec .wakeN s = .next (s.wakeUp { code := 1 }) :=
  congrArg Host.Outcome.next (if_pos (by rw [hmode, hon]; rfl))

theorem exec_busWake_acts (s : State) (hmode : s.wakeable true = true) (hon : (s.dir 0x0002).testBit 6 = true) : exec .busWake s = .next (s.wakeUp { code := 4 }) :=
  congrArg Host.Outcome.next (if_pos (by rw [hmode, hon]; rfl))

theorem exec_restTimer_acts (s : State) (hmode : s.asleep = true) (hon : (s.dir 0x0002).testBit 5 = true)
    (hdue : s.power.enteredAt + 96000 * field (s.dir 0x0002) 16 16 ≤ s.clock.now) : exec .restTimer s = .next (s.wakeUp { code := 3 }) :=
  congrArg Host.Outcome.next (if_pos (by rw [hmode, hon, decide_eq_true hdue]; rfl))

theorem exec_wakeN_idle (s : State) (h : s.wakeable false = false ∨ (s.dir 0x0002).testBit 0 = false) : exec .wakeN s = .next s :=
  congrArg Host.Outcome.next (if_neg (by rcases h with h | h <;> simp [h]))

theorem exec_busWake_idle (s : State) (h : s.wakeable true = false ∨ (s.dir 0x0002).testBit 6 = false) : exec .busWake s = .next s :=
  congrArg Host.Outcome.next (if_neg (by rcases h with h | h <;> simp [h]))

theorem exec_restTimer_idle (s : State) (h : s.asleep = false ∨ (s.dir 0x0002).testBit 5 = false ∨
    s.clock.now < s.power.enteredAt + 96000 * field (s.dir 0x0002) 16 16) : exec .restTimer s = .next s :=
  congrArg Host.Outcome.next (if_neg (by
    rcases h with h | h | h
    · simp [h]
    · simp [h]
    · simp [Nat.not_le.2 h]))

/-! A jack pin sampled (R336). -/

/-- A sample of a jack pin kept, the newest of three first. -/
def State.jackSampled (s : State) (pin : Nat) (level : Bool) : State :=
  { s.modHpPin pin (fun p => { p with level := level }) with
    power := { s.power with jackSamples := tabSet (fun _ => []) s.power.jackSamples pin ((level :: tabGet (fun _ => []) s.power.jackSamples pin).take 3) } }

theorem exec_jackWake_asleep (s : State) (pin : Fin 4) (l : Bool) (h : s.wakeable false = true) : exec (.jackWake pin l) s = .next (
    if decide ((l :: tabGet (fun _ => []) s.power.jackSamples pin.val).take 3 = [(s.dir (0x0600 + pin.val)).testBit 5, (s.dir (0x0600 + pin.val)).testBit 5,
      !(s.dir (0x0600 + pin.val)).testBit 5]) && s.hpPinOn pin.val && (s.dir 0x0002).testBit (1 + pin.val)
    then (s.jackSampled pin.val l).wakeUp { code := 2, js := pin.val } else s.jackSampled pin.val l) :=
  congrArg Host.Outcome.next (if_neg (by rw [h]; decide))

theorem exec_jackWake_awake (s : State) (pin : Fin 4) (l : Bool) (h : s.wakeable false = false) : exec (.jackWake pin l) s = .next s :=
  congrArg Host.Outcome.next (if_pos (by rw [h]; rfl))

theorem State.frame_jackSampled (s : State) (pin : Nat) (l : Bool) : Frame [.power, .out] s (s.jackSampled pin l) := by
  intro p hp
  cases p with
  | power | out => simp at hp
  | _ => rfl

theorem take_three_eq (l : Bool) (old : List Bool) : (l :: old).take 3 = [l, l, !l] ↔ old.take 2 = [l, !l] := by
  rw [List.take_succ_cons, List.cons_inj_right]

theorem unity_eq : unity = 2 ^ 32 := by decide

/-- Settles O34: each source that finds its mode and its enable is `State.wakeUp`. -/
theorem wakeSourcesWake : Obligations.WakeSourcesWake := by
  refine ⟨fun s i k hsource hmode hexit hkept hreset => ?_, fun s i k hsource hmode hexit hreset => ?_, fun s hmode hentering => ?_, fun s h => ?_,
    fun s i k m e hsource hmode hentering => ?_, fun s hawake hentering => ?_, fun s h => ?_, fun s pin l old hmode hexit hkept hreset hold hlevel hpin hon => ?_⟩
  · have hacts : exec i s = .next (s.wakeUp { code := k }) := by
      rcases hsource with ⟨rfl, rfl, hon⟩ | ⟨rfl, rfl, hon, hdue⟩ | ⟨rfl, rfl, hon⟩
      · exact exec_wakeN_acts s (s.wakeable_watch false hmode) hon
      · exact exec_restTimer_acts s (by simp [State.asleep, hmode]) hon hdue
      · exact exec_busWake_acts s (s.wakeable_watch true hmode) hon
    rw [hacts, s.wakeUp_watch _ hmode hexit hkept hreset]
    rfl
  · have hacts : exec i s = .next ((s.restWoken { code := k }).tryBoot) := by
      rw [← s.wakeUp_rest _ hmode hexit]
      rcases hsource with ⟨rfl, rfl, hon⟩ | ⟨rfl, rfl, hon, hdue⟩
      · exact exec_wakeN_acts s (s.wakeable_rest hmode) hon
      · exact exec_restTimer_acts s (by simp [State.asleep, hmode]) hon hdue
    refine ⟨fun hsupplied => ?_, fun hunsupplied => ?_⟩
    · rw [(s.restWoken { code := k }).tryBoot_rest hreset rfl hmode hsupplied] at hacts
      obtain ⟨hboot, hexiting, hwake, hattn, hfrom, hroot, hcfg⟩ := (s.restWoken { code := k }).restBoot_fields
      have hjtag : (s.restWoken { code := k }).restBoot.jtag = s.jtag := by
        simp only [State.restBoot_keeps]
        rfl
      exact ⟨_, hacts, hboot, hexiting, hwake, hattn, hfrom, (s.restWoken { code := k }).restBoot_tick, hroot, hcfg, hjtag⟩
    · exact hacts.trans (congrArg Host.Outcome.next (State.tryBoot_unsupplied (s.restWoken { code := k }) hunsupplied))
  · exact exec_busWake_idle s (.inl (s.wakeable_rest_only hmode hentering))
  · exact exec_restTimer_idle s (.inr (.inr h))
  · have hacts : exec i s = .next (s.wakeUp { code := k }) := by
      rcases hsource with ⟨rfl, rfl, hon, hm⟩ | ⟨rfl, rfl, hon, rfl⟩
      · exact exec_wakeN_acts s (s.wakeable_entering false m e hentering (hm.symm.imp_right fun h => ⟨h, rfl⟩)) hon
      · exact exec_busWake_acts s (s.wakeable_entering true _ e hentering (.inl rfl)) hon
    rw [s.wakeUp_entering _ _ hmode hentering] at hacts
    refine ⟨_, hacts, ?_⟩
    simp only [State.listenUpdate_keeps, State.markMode_keeps, State.inputsReturn_keeps, State.linkStart_keeps, State.entryBroken]
    refine ⟨trivial, rfl, trivial, fun hdown => ?_, fun a b l hfalling hl => ?_⟩
    · simp only [State.biasBack, hdown]
    · rw [← hl]
      have hg : ¬ (2 ^ 32 = 0) := by decide
      simp only [State.biasBack, hfalling, if_neg hg, unity_eq]
  · exact ⟨exec_wakeN_idle s (.inl (s.wakeable_awake false hawake hentering)), exec_restTimer_idle s (.inl (s.asleep_awake hawake)),
      exec_busWake_idle s (.inl (s.wakeable_awake true hawake hentering)), fun pin l => exec_jackWake_awake s pin l (s.wakeable_awake false hawake hentering)⟩
  · have hoff : ∀ k, (s.dir 0x0002).testBit k = false := fun k => by rw [h, Nat.zero_testBit]
    exact ⟨exec_wakeN_idle s (.inr (hoff 0)), exec_restTimer_idle s (.inr (.inl (hoff 5))), exec_busWake_idle s (.inr (hoff 6))⟩
  · have hsample := exec_jackWake_asleep s pin l (s.wakeable_watch false hmode)
    rw [hold, hlevel, hpin, hon, Bool.and_true, Bool.and_true] at hsample
    refine ⟨fun hins => ?_, fun hnot => ?_⟩
    · rw [if_pos (decide_eq_true ((take_three_eq l old).2 hins)), (s.jackSampled pin.val l).wakeUp_watch _ hmode hexit hkept hreset] at hsample
      exact ⟨_, hsample, rfl, rfl⟩
    · rw [if_neg (fun h => hnot ((take_three_eq l old).1 (of_decide_eq_true h)))] at hsample
      refine ⟨_, hsample, hexit, ?_, s.frame_jackSampled pin.val l⟩
      rw [← hold]
      rfl

end Sys2Proof.Machine
end

section
/-! SUPPORT. The handover, the wake chain and the detector (chapter 14). -/
namespace Sys2Proof.Machine

-- One proof after another: a check of the whole text in one process stays within its memory.
set_option Elab.async false

/-! A handover acts at its boundary and catches up (R354). -/

theorem Frame.wake (s : State) (x : Wake) : Frame [.wake] s { s with wake := x } := by
  intro p hp
  cases p with
  | wake => simp at hp
  | _ => rfl

/-- No exchange due: the ports make none at the boundary. -/
theorem State.portsAct_none (s : State) (h : ∀ p, p < 6 → s.exchangeDue p = false) : s.portsAct = s := by
  have hskip : ∀ l : List Nat, (∀ p ∈ l, s.exchangeDue p = false) → l.foldl (fun (s : State) p => if s.exchangeDue p then s.portExchange p else s) s = s := by
    intro l hl
    induction l with
    | nil => rfl
    | cons p l ih =>
      rw [List.foldl_cons, hl p List.mem_cons_self]
      exact ih fun q hq => hl q (List.mem_cons_of_mem _ hq)
  exact hskip _ fun p hp => h p (List.mem_range.1 hp)

/-- The one request that waits has come due: it acts on the wake stream. -/
def State.handed (s : State) (frm : Option (BitVec 32)) (r : Nat) : State := { s with wake := { s.wake with handoverNext := [] }.hand frm r }

theorem State.handoverDue_one (s : State) (e r q : Nat) (frm : Option (BitVec 32)) (hnext : s.wake.handoverNext = [(e, frm, r, q)]) (hdue : e ≤ s.tickNat) :
    s.handoverDue = true := by
  simp [State.handoverDue, hnext, hdue]

theorem State.handoversAct_one (s : State) (e r q : Nat) (frm : Option (BitVec 32)) (hnext : s.wake.handoverNext = [(e, frm, r, q)]) (hdue : e ≤ s.tickNat) :
    s.handoversAct = s.handed frm r := by
  rw [State.handoversAct, s.handoverDue_one e r q frm hnext hdue, if_pos rfl]
  simp [State.handoverAct, State.handed, hnext, hdue]

theorem exec_handoverStart_due (s : State) (e r q : Nat) (frm : Option (BitVec 32)) (hbetween : s.Between) (hports : ∀ p, p < 6 → s.exchangeDue p = false)
    (hnext : s.wake.handoverNext = [(e, frm, r, q)]) (hdue : e ≤ s.tickNat) : exec .handoverStart s = .next (s.handed frm r).openIfReady := by
  have hopen : s.clock.opened = false := hbetween.1
  refine congrArg Host.Outcome.next ((if_neg ?_).trans ?_)
  · simp [hopen, s.handoverDue_one e r q frm hnext hdue]
  · rw [State.between_acts hbetween, s.portsAct_none hports, s.handoversAct_one e r q frm hnext hdue]

theorem exec_handoverStart_early (s : State) (h : s.clock.opened = true ∨ (∀ e, e ∈ s.wake.handoverNext → s.tickNat < e.1)) : exec .handoverStart s = .next s := by
  refine congrArg Host.Outcome.next (if_pos ?_)
  rcases h with h | h
  · simp [h]
  · have hnone : s.handoverDue = false := by
      rw [State.handoverDue, List.any_eq_false]
      exact fun e he => by simpa using h e he
    simp [hnone]

/-- The tick waits for an injection that is still due. -/
theorem State.openIfReady_injection (s : State) (h : s.dep.injectNext ≠ 0) : s.openIfReady = s := by
  simp [State.openIfReady, State.actsDue, h]

theorem exec_handoverStart_injection (s : State) (e r q : Nat) (frm : Option (BitVec 32)) (hbetween : s.Between) (hports : ∀ p, p < 6 → s.exchangeDue p = false)
    (hnext : s.wake.handoverNext = [(e, frm, r, q)]) (hdue : e ≤ s.tickNat) (hinject : s.dep.injectNext ≠ 0) : exec .handoverStart s = .next (s.handed frm r) :=
  (exec_handoverStart_due s e r q frm hbetween hports hnext hdue).trans (congrArg Host.Outcome.next ((s.handed frm r).openIfReady_injection hinject))

theorem State.openIfReady_idle (s : State) (hopen : s.clock.opened = false) (hdue : s.actsDue = false) : s.openIfReady = s.openTick := by
  simp [State.openIfReady, hopen, hdue]

/-- With nothing else due a handover is the boundary's last act. -/
theorem State.handed_settled (s : State) (frm : Option (BitVec 32)) (r : Nat) (hbetween : s.Between) (hports : ∀ p, p < 6 → s.exchangeDue p = false)
    (hinject : s.dep.injectNext = 0) (hforce : s.forceDue = false) : (s.handed frm r).actsDue = false := by
  obtain ⟨-, harmed, hguns⟩ := hbetween
  have hswap : (s.handed frm r).swapDue = false := by simp [State.swapDue, State.handed, harmed]
  have hgun : (s.handed frm r).gunDue = false := hguns
  have hforce' : (s.handed frm r).forceDue = false := hforce
  have hports' : (List.range 6).any (s.handed frm r).exchangeDue = false := by
    rw [List.any_eq_false]
    intro p hp
    have hnone : (s.handed frm r).exchangeDue p = false := hports p (List.mem_range.1 hp)
    simp [hnone]
  have hhand : (s.handed frm r).handoverDue = false := by
    cases frm <;> rfl
  have hinject' : (s.handed frm r).dep.injectNext = 0 := hinject
  simp [State.actsDue, hswap, hgun, hforce', hports', hhand, hinject']

/-- The tick's own step of the wake stream. -/
theorem State.openTick_wake (s : State) : s.openTick.wake = s.wake.tick s.tickNat := by
  simp [State.openTick, State.tickNat]

/-- A handover that has just started is read at its first position. -/
theorem Wake.tick_started (w : Wake) (tick : Nat) (i : BitVec 32) (r : Nat) (h : w.handover = some { idx := i, r := r }) :
    w.tick tick = { w with handover := some { idx := i, r := r, ran := true }, stream := { sample := word (w.at_ i * 256) } } := by
  simp [Wake.tick, Wake.catchUp, h, Wake.readAt, Wake.at_]

theorem Wake.catchUp_reached (w : Wake) (tick : Nat) (h : Handover) (hh : w.handover = some h) (hlive : h.live = false) (hran : h.ran = true) (hsixth : h.sixth = 0)
    (hlag : (w.widx - h.idx).toInt ≤ 8) : w.catchUp tick =
    { w with handover := some { h with live := true }, caughtUp := true, hIndex := h.idx, hTick := BitVec.ofNat 32 tick } := by
  have hreach : h.lag w.widx ≤ 48 := by
    simp only [Handover.lag, hsixth]
    omega
  simp [Wake.catchUp, hh, hlive, hran, hreach, hsixth, Handover.whole]

theorem Wake.catchUp_behind (w : Wake) (tick : Nat) (h : Handover) (hh : w.handover = some h) (hsixth : h.sixth < 6) (hlag : 9 < (w.widx - h.idx).toInt) :
    w.catchUp tick = w := by
  have hfar : ¬ h.lag w.widx ≤ 48 := by
    simp only [Handover.lag]
    omega
  simp [Wake.catchUp, hh, hfar]

/-- A start keeps the index that its reply gave, unless listening has started anew behind it. -/
theorem State.handed_from (s : State) (i : BitVec 32) (r : Nat) (h : 0 ≤ (i - s.wake.startIdx).toInt) :
    s.handed (some i) r = { s with wake := { s.wake with handoverNext := [], handover := some { idx := i, r := r }, caughtUp := false, hIndex := 0xFFFFFFFF } } := by
  simp only [State.handed, Wake.hand, if_neg (Int.not_lt.2 h)]

theorem State.handed_anew (s : State) (i : BitVec 32) (r : Nat) (h : (i - s.wake.startIdx).toInt < 0) :
    s.handed (some i) r = { s with wake := { s.wake with handoverNext := [], handover := some { idx := s.wake.startIdx, r := r }, caughtUp := false, hIndex := 0xFFFFFFFF } } := by
  simp only [State.handed, Wake.hand, if_pos h]

/-- Settles O38: the request acts by `State.handed`, the tick opens by `Wake.tick_started`, and `Wake.catchUp` ends the catching up. -/
theorem handoverStartsAndCatchesUp : Obligations.HandoverStartsAndCatchesUp := by
  refine ⟨fun s e i r q hbetween hports hnext hdue hforce hi => ⟨fun hinject => ?_, fun hinject => ?_⟩, fun s e i r q hbetween hports hnext hdue hi hinject => ?_,
    fun s e r q hbetween hports hnext hdue hinject => ?_, exec_handoverStart_early, fun s h hh hlive hran hsixth hlag => ?_, fun s h hh hsixth hlag => ?_, fun s h => ?_⟩
  · rw [exec_handoverStart_injection s e r q _ hbetween hports hnext hdue hinject, s.handed_from i r hi]
  · have hopen : (s.handed (some i) r).clock.opened = false := hbetween.1
    refine ⟨_, (exec_handoverStart_due s e r q _ hbetween hports hnext hdue).trans (congrArg Host.Outcome.next
      (State.openIfReady_idle _ hopen (s.handed_settled _ r hbetween hports hinject hforce))), ?_⟩
    dsimp only
    rw [State.openTick_wake, State.openTick_clock, s.handed_from i r hi, Wake.tick_started _ _ i r rfl]
    exact ⟨rfl, rfl, rfl, rfl, rfl, rfl, rfl⟩
  · rw [exec_handoverStart_injection s e r q _ hbetween hports hnext hdue hinject, s.handed_anew i r hi]
  · rw [exec_handoverStart_injection s e r q _ hbetween hports hnext hdue hinject]
    rfl
  · exact congrArg (fun w => Host.Outcome.next { s with wake := w }) (s.wake.catchUp_reached _ h hh hlive hran hsixth hlag)
  · exact congrArg (fun w => Host.Outcome.next { s with wake := w }) (s.wake.catchUp_behind _ h hh hsixth hlag)
  · have hnone : s.wake.catchUp s.tickNat = s.wake := by simp [Wake.catchUp, h]
    exact congrArg (fun w => Host.Outcome.next { s with wake := w }) hnone

/-! Bits heard in Watch (R343, R347-R349). -/

/-- n values at 768 kHz have passed: one sample of the ring for every 48. -/
def State.Heard (n : Nat) (s t : State) : Prop :=
  t.wake.widx = s.wake.widx + BitVec.ofNat 32 ((s.wake.cic.count + n) / 48) ∧ t.wake.cic.count = (s.wake.cic.count + n) % 48 ∧
    t.wake.records = s.wake.records ∧ t.wake.listening = s.wake.listening ∧ t.free = s.free + n ∧ Frame [.wake, .free] s t

theorem State.Heard.refl (s : State) (h : s.wake.cic.count < 48) : State.Heard 0 s s := by
  refine ⟨?_, (Nat.mod_eq_of_lt h).symm, rfl, rfl, rfl, fun p _ => by cases p <;> rfl⟩
  rw [Nat.add_zero, Nat.div_eq_of_lt h]
  simp

theorem State.Heard.trans {n m : Nat} {s t u : State} (h : State.Heard n s t) (k : State.Heard m t u) : State.Heard (n + m) s u := by
  obtain ⟨hwidx, hcount, hrecords, hlistening, hfree, hframe⟩ := h
  obtain ⟨kwidx, kcount, krecords, klistening, kfree, kframe⟩ := k
  refine ⟨?_, ?_, krecords.trans hrecords, klistening.trans hlistening, ?_, hframe.trans kframe⟩
  · have hsum : (s.wake.cic.count + n) / 48 + ((s.wake.cic.count + n) % 48 + m) / 48 = (s.wake.cic.count + (n + m)) / 48 := by omega
    rw [kwidx, hwidx, hcount, BitVec.add_assoc, ← BitVec.ofNat_add, hsum]
  · rw [kcount, hcount]
    omega
  · omega

/-- A value enters the wake chain: every 48th makes a sample. -/
theorem Wake.feed_clock (w : Wake) (free : Nat) (x : Int) (h : w.cic.count < 48) :
    (w.feed free x).widx = w.widx + BitVec.ofNat 32 ((w.cic.count + 1) / 48) ∧ (w.feed free x).cic.count = (w.cic.count + 1) % 48 ∧
      (w.feed free x).records = w.records ∧ (w.feed free x).listening = w.listening := by
  by_cases hlast : w.cic.count + 1 < 48
  · rw [Nat.div_eq_of_lt hlast, Nat.mod_eq_of_lt hlast]
    simp [Wake.feed, Cic.decimate, hlast]
  · have hcount : w.cic.count + 1 = 48 := by omega
    simp [Wake.feed, Cic.decimate, hcount]

theorem Wake.slowBit_clock (w : Wake) (free : Nat) (b : Bool) (h : w.cic.count < 48) :
    (w.slowBit free b).widx = w.widx + BitVec.ofNat 32 ((w.cic.count + 1) / 48) ∧ (w.slowBit free b).cic.count = (w.cic.count + 1) % 48 ∧
      (w.slowBit free b).records = w.records ∧ (w.slowBit free b).listening = w.listening := w.feed_clock free _ h

theorem State.wakeOnOnset_congr {s t : State} (h : t.cfg = s.cfg) : t.wakeOnOnset = s.wakeOnOnset := by
  simp only [State.wakeOnOnset, State.dir, h]

/-- Stage 1 without a wake on an onset changes the wake block only, and leaves the ring's index and the records. -/
theorem State.stage1_quiet (s : State) (h : s.wakeOnOnset = false) : ∃ w : Wake, s.stage1 = { s with wake := w } ∧
    w.widx = s.wake.widx ∧ w.cic = s.wake.cic ∧ w.records = s.wake.records ∧ w.listening = s.wake.listening := by
  unfold State.stage1
  extract_lets
  split
  · exact ⟨s.wake, rfl, rfl, rfl, rfl, rfl⟩
  split
  · exact ⟨_, rfl, rfl, rfl, rfl, rfl⟩
  · extract_lets
    rw [h, Bool.and_false, if_neg Bool.false_ne_true]
    exact ⟨_, rfl, rfl, rfl, rfl, rfl⟩

theorem State.stage1_heard (s : State) (h : s.wakeOnOnset = false) (hcount : s.wake.cic.count < 48) : State.Heard 0 s s.stage1 := by
  obtain ⟨w, hstage, hwidx, hcic, hrecords, hlistening⟩ := s.stage1_quiet h
  obtain ⟨kwidx, kcount, -, -, -, -⟩ := State.Heard.refl s hcount
  rw [hstage]
  exact ⟨hwidx.trans kwidx, (congrArg Cic.count hcic).trans kcount, hrecords, hlistening, rfl, (Frame.wake s w).wide (by decide)⟩

/-- A bit of the listening source in Watch. -/
def State.hearBit (s : State) (b : Bool × Bool) : State :=
  State.stage1 { s with wake := s.wake.slowBit s.free (s.watchBit b), free := s.free + 1 }

theorem State.hearBit_heard (s : State) (b : Bool × Bool) (h : s.wakeOnOnset = false) (hcount : s.wake.cic.count < 48) : State.Heard 1 s (s.hearBit b) := by
  obtain ⟨hwidx, hcount', hrecords, hlistening⟩ := s.wake.slowBit_clock s.free (s.watchBit b) hcount
  have hfed : State.Heard 1 s { s with wake := s.wake.slowBit s.free (s.watchBit b), free := s.free + 1 } := by
    refine ⟨hwidx, hcount', hrecords, hlistening, rfl, fun p hp => ?_⟩
    cases p with
    | wake | free => simp at hp
    | _ => rfl
  refine hfed.trans (State.stage1_heard _ h ?_)
  exact hcount' ▸ Nat.mod_lt _ (by decide)

theorem State.hearBit_cfg (s : State) (b : Bool × Bool) (h : s.wakeOnOnset = false) : (s.hearBit b).cfg = s.cfg := by
  obtain ⟨w, hstage, -, -, -, -⟩ := State.stage1_quiet { s with wake := s.wake.slowBit s.free (s.watchBit b), free := s.free + 1 } h
  rw [State.hearBit, hstage]

theorem State.hearBits_heard (bits : List (Bool × Bool)) (s : State) (h : s.wakeOnOnset = false) (hcount : s.wake.cic.count < 48) :
    State.Heard bits.length s (bits.foldl State.hearBit s) := by
  induction bits generalizing s with
  | nil => exact State.Heard.refl s hcount
  | cons b bits ih =>
    have hbit := s.hearBit_heard b h hcount
    obtain ⟨-, hcount', -, -, -, -⟩ := id hbit
    have hcfg := s.hearBit_cfg b h
    have hrest := ih (s.hearBit b) ((State.wakeOnOnset_congr hcfg).trans h) (by rw [hcount']; omega)
    rw [List.length_cons, Nat.add_comm]
    exact State.Heard.trans hbit hrest

theorem exec_wakeFrameEnd_watch (s : State) (bits : List (Bool × Bool)) (hlistening : s.wake.listening = true) (hroot : s.clock.rootRunning = false) :
    exec (.wakeFrameEnd bits) s = .next (bits.foldl State.hearBit s).stage1 := by
  have hfed : (s.wake.listening && !s.clock.rootRunning) = true := by simp [hlistening, hroot]
  exact congrArg (fun t => Host.Outcome.next (State.stage1 t)) (if_pos hfed)

theorem exec_wakeFrameEnd_other (s : State) (bits : List (Bool × Bool)) (h : s.wake.listening = false ∨ s.clock.rootRunning = true) :
    exec (.wakeFrameEnd bits) s = .next s.stage1 := by
  have hnot : ¬ (s.wake.listening && !s.clock.rootRunning) = true := by rcases h with h | h <;> simp [h]
  exact congrArg (fun t => Host.Outcome.next (State.stage1 t)) (if_neg hnot)

/-- Two runs of bits that agree on the edge heard are heard alike. -/
theorem State.hearBits_congr (f : Bool × Bool → Bool) (bits other : List (Bool × Bool)) (hsame : bits.map f = other.map f) (s : State) (h : s.wakeOnOnset = false)
    (hedge : ∀ t : State, t.cfg = s.cfg → ∀ b, t.watchBit b = f b) : bits.foldl State.hearBit s = other.foldl State.hearBit s := by
  induction bits generalizing other s with
  | nil =>
    rw [List.map_nil] at hsame
    rw [List.map_eq_nil_iff.1 hsame.symm]
  | cons b bits ih =>
    obtain ⟨c, rest, rfl, hc, hrest⟩ := List.map_eq_cons_iff.1 hsame.symm
    have hbit : s.hearBit c = s.hearBit b := by
      simp only [State.hearBit, hedge s rfl, hc]
    have hcfg := s.hearBit_cfg b h
    rw [List.foldl_cons, List.foldl_cons, hbit]
    exact ih rest hrest.symm _ ((State.wakeOnOnset_congr hcfg).trans h) fun t ht => hedge t (ht.trans hcfg)

theorem State.watchBit_fst (s : State) (h : s.wkSource = 8 ∨ (s.wkSource % 2 = 1 ↔ (s.dir 0x1802).testBit (2 + s.wkSource / 4) = true)) (b : Bool × Bool) :
    s.watchBit b = b.1 := by
  refine if_neg ?_
  rcases h with h | h
  · simp [h]
  · simp [h]

theorem State.watchBit_snd (s : State) (hsource : s.wkSource < 8) (h : ¬ (s.wkSource % 2 = 1 ↔ (s.dir 0x1802).testBit (2 + s.wkSource / 4) = true)) (b : Bool × Bool) :
    s.watchBit b = b.2 := by
  have hxor : xor (decide (s.wkSource % 2 = 1)) ((s.dir 0x1802).testBit (2 + s.wkSource / 4)) = true := by
    cases hswap : (s.dir 0x1802).testBit (2 + s.wkSource / 4) <;> simp_all
  refine if_pos ?_
  rw [hxor, decide_eq_true hsource]
  rfl

theorem State.watchBit_congr {s t : State} (h : t.cfg = s.cfg) (b : Bool × Bool) : t.watchBit b = s.watchBit b := by
  have hdir : t.dir = s.dir := funext fun id => by rw [State.dir, State.dir, h]
  have hsource : t.wkSource = s.wkSource := by rw [State.wkSource, State.wkSource, hdir]
  unfold State.watchBit
  rw [hsource, hdir]

/-- The first whole frame sets the floor (R349). -/
theorem State.stage1_first (s : State) (hlistening : s.wake.listening = true) (hfloor : s.wake.floor = none)
    (hring : 256 + s.wake.widx.toNat % 256 ≤ s.wake.ring.length) (hnew : s.wake.widx - BitVec.ofNat 32 (s.wake.widx.toNat % 256) ≠ s.wake.frameDone) :
    s.stage1 = { s with wake := { s.wake with
      floor := some (frameEnergy ((s.wake.ring.drop (s.wake.widx.toNat % 256)).take 256), 0)
      framesOver := 0
      frameDone := s.wake.widx - BitVec.ofNat 32 (s.wake.widx.toNat % 256) } } := by
  have hwhole : ¬ ((s.wake.ring.drop (s.wake.widx.toNat % 256)).take 256).length < 256 := by
    rw [List.length_take, List.length_drop]
    omega
  unfold State.stage1
  extract_lets w past e f p
  have hgo : ¬ (!w.listening || decide (f.length < 256) || decide (e = w.frameDone)) = true := by
    simp only [Bool.or_eq_true, Bool.not_eq_true', decide_eq_true_eq, not_or]
    exact ⟨⟨by rw [hlistening]; simp, hwhole⟩, hnew⟩
  rw [if_neg hgo]
  split
  · rfl
  next heq => exact absurd (hfloor.symm.trans heq) (by simp)

theorem State.stage1_deaf (s : State) (h : s.wake.listening = false) : s.stage1 = s := by
  unfold State.stage1
  extract_lets w
  exact if_pos (by rw [h]; rfl)

/-! A match of an episode (R350, R352). -/

theorem Wake.nearer_foldl_mem (w : Wake) (l : List (Nat × Nat)) (a : Nat × Nat) : l.foldl w.nearer a ∈ a :: l := by
  induction l generalizing a with
  | nil => exact List.mem_cons_self
  | cons p l ih =>
    rw [List.foldl_cons]
    rcases List.mem_cons.1 (ih (w.nearer a p)) with h | h
    · rw [h, Wake.nearer]
      split
      · exact List.mem_cons_of_mem _ List.mem_cons_self
      · exact List.mem_cons_self
    · exact List.mem_cons_of_mem _ (List.mem_cons_of_mem _ h)

/-- The slots that match at a frame: they take part, are ready, and their path there is within THRESHOLD. -/
theorem Wake.mem_matchAt (w : Wake) (x : Episode) (i k c : Nat) : (k, c) ∈ w.matchAt (w.pathsOf x) i ↔
    k ∈ x.slots ∧ w.ready k = true ∧ w.within k c = true ∧ (w.paths (w.episodeLevels x) k)[i]? = some (some c) := by
  have hget : ∀ l : List (Option Nat), l.getD i none = some c ↔ l[i]? = some (some c) := fun l => by
    rw [List.getD_eq_getElem?_getD]
    cases l[i]? with
    | none => simp
    | some y => simp
  simp only [Wake.matchAt, Wake.pathsOf, List.mem_filterMap, List.mem_map, List.mem_filter, Option.map_eq_some_iff, Option.filter_eq_some_iff, Prod.mk.injEq]
  constructor
  · rintro ⟨p, ⟨q, ⟨hslot, hready⟩, rfl⟩, d, ⟨hpath, hwithin⟩, rfl, rfl⟩
    exact ⟨hslot, hready, hwithin, (hget _).1 hpath⟩
  · rintro ⟨hslot, hready, hwithin, hpath⟩
    exact ⟨_, ⟨k, ⟨hslot, hready⟩, rfl⟩, c, ⟨(hget _).2 hpath, hwithin⟩, rfl, rfl⟩

/-- The match found at one frame. -/
def Wake.foundAt (w : Wake) (x : Episode) (i : Nat) : Option (Nat × Nat × Nat) :=
  match w.matchAt (w.pathsOf x) i with
  | [] => none
  | a :: rest => some (i, rest.foldl w.nearer a)

theorem Wake.found_eq (w : Wake) (x : Episode) : w.found x = (List.range (w.episodeFrames x)).findSome? (w.foundAt x) := rfl

theorem Wake.foundAt_some (w : Wake) (x : Episode) (j : Nat) (r : Nat × Nat × Nat) (h : w.foundAt x j = some r) : r.1 = j ∧ r.2 ∈ w.matchAt (w.pathsOf x) j := by
  unfold Wake.foundAt at h
  split at h
  · cases h
  next a rest heq =>
    cases h
    exact ⟨rfl, heq ▸ w.nearer_foldl_mem rest a⟩

theorem Wake.foundAt_none (w : Wake) (x : Episode) (j : Nat) (h : w.foundAt x j = none) : w.matchAt (w.pathsOf x) j = [] := by
  unfold Wake.foundAt at h
  split at h
  next heq => exact heq
  · cases h

/-- The first of a range that gives something, and none before it. -/
theorem findSome?_range_eq_some {α : Type} (f : Nat → Option α) (n : Nat) (r : α) (h : (List.range n).findSome? f = some r) :
    ∃ i, i < n ∧ f i = some r ∧ ∀ j, j < i → f j = none := by
  obtain ⟨before, i, after, hrange, hi, hbefore⟩ := List.findSome?_eq_some_iff.1 h
  have hlen : before.length < n := by
    have := congrArg List.length hrange
    simp at this
    omega
  have hat : i = before.length := by
    have := congrArg (fun l => l[before.length]?) hrange
    simpa [List.getElem?_range hlen] using this.symm
  refine ⟨i, by omega, hi, fun j hj => hbefore j ?_⟩
  have := congrArg (fun l => l[j]?) hrange
  simp only [List.getElem?_range (show j < n by omega), List.getElem?_append_left (show j < before.length by omega)] at this
  exact List.mem_of_getElem? this.symm

/-- What a match says: a slot of the episode whose path ends there within THRESHOLD, as no slot's does at an earlier frame. -/
theorem Wake.found_some (w : Wake) (x : Episode) (i k c : Nat) (h : w.found x = some (i, k, c)) :
    i < w.episodeFrames x ∧ (k, c) ∈ w.matchAt (w.pathsOf x) i ∧ ∀ j, j < i → w.matchAt (w.pathsOf x) j = [] := by
  rw [Wake.found_eq] at h
  obtain ⟨j, hj, hfound, hbefore⟩ := findSome?_range_eq_some _ _ _ h
  obtain ⟨rfl, hmem⟩ := w.foundAt_some x j _ hfound
  exact ⟨hj, hmem, fun q hq => w.foundAt_none x q (hbefore q hq)⟩

/-- A sum within THRESHOLD has its D within it. -/
theorem looseQuot_le (free c f thr : Nat) (h : 50 * c ≤ 16 * f * thr) : (looseQuot free (50 * c) (16 * f)).toNat ≤ thr := by
  unfold looseQuot
  by_cases hf : f = 0
  · subst hf
    have hc : c = 0 := by omega
    simp [hc]
  · have hpos : (0 : Int) < ((16 * f : Nat) : Int) := by omega
    have hnat : 50 * c ≤ thr * (16 * f) := by rwa [Nat.mul_comm thr]
    have hle : (50 * c : Int) ≤ thr * ((16 * f : Nat) : Int) := by exact_mod_cast hnat
    have hquot : (50 * c : Int) / ((16 * f : Nat) : Int) ≤ thr := Int.ediv_le_of_le_mul hpos hle
    split
    next hmod => 
      push_cast at hquot ⊢
      omega
    next hmod =>
      have hlt : (50 * c : Int) / ((16 * f : Nat) : Int) < thr :=
        Int.ediv_lt_of_lt_mul hpos (Int.lt_iff_le_and_ne.2 ⟨hle, fun heq => hmod (by rw [heq, Int.mul_emod_left])⟩)
      split <;> (push_cast at hlt ⊢; omega)

/-! A match is told (R352), and ends its episode. -/

/-- The record of a wake event. -/
def State.wakeRec (s : State) (start end_ : BitVec 32) (template distance : Nat) : WakeRec :=
  { start := start, end_ := end_, seq := (s.wake.seq + 1) % 256, template := template, late := s.wake.lateBetween start end_, modeEnd := s.recMode, distance := distance }

/-- A wake event told, before it wakes the device. -/
def State.wakeTold (s : State) (start end_ : BitVec 32) (template distance : Nat) : State :=
  { s.raise 9 with
    wake := { s.wake with records := (s.wakeRec start end_ template distance :: s.wake.records).take 8, seq := (s.wake.seq + 1) % 256 }
    log := s.log.add 0xF4 1 }

theorem State.wakeEvent_eq (s : State) (start end_ : BitVec 32) (template distance : Nat) : s.wakeEvent start end_ template distance =
    if (s.wakeTold start end_ template distance).wakeable true && (decide (template = 7) = s.wakeOnOnset) then
      (s.wakeTold start end_ template distance).wakeUp { code := 5 } else s.wakeTold start end_ template distance := rfl

theorem State.wakeEvent_awake (s : State) (start end_ : BitVec 32) (template distance : Nat) (hawake : s.awake = true) (hentering : s.power.entering = none) :
    s.wakeEvent start end_ template distance = s.wakeTold start end_ template distance := by
  have hwakeable : (s.wakeTold start end_ template distance).wakeable true = false := State.wakeable_awake _ true hawake hentering
  rw [State.wakeEvent_eq, hwakeable]
  rfl

theorem State.wakeEvent_watch (s : State) (start end_ : BitVec 32) (template distance : Nat) (hcause : decide (template = 7) = s.wakeOnOnset)
    (hmode : s.power.mode = .watch) (hexit : s.power.exiting = none) (hkept : s.power.retentionLost = false) (hreset : s.power.inReset = false) :
    s.wakeEvent start end_ template distance = (s.wakeTold start end_ template distance).watchWoken { code := 5 } := by
  have hwakeable : (s.wakeTold start end_ template distance).wakeable true = true := State.wakeable_watch _ true hmode
  have hwake := State.wakeUp_watch (s.wakeTold start end_ template distance) { code := 5 } hmode hexit hkept hreset
  rw [State.wakeEvent_eq, hwakeable, decide_eq_true hcause, Bool.and_self, if_pos rfl, hwake]

theorem State.frame_wakeTold (s : State) (start end_ : BitVec 32) (template distance : Nat) : Frame [.wake, .log, .bus] s (s.wakeTold start end_ template distance) := by
  intro p hp
  cases p with
  | wake | log | bus => simp at hp
  | _ => rfl

/-- The episode ends with its match. -/
def State.episodeMatched (s : State) : State := { s with wake := { s.wake with episode := none }, free := s.free + 1 }

/-- D of a match of the template in slot k with sum c. -/
def State.matchD (s : State) (k c : Nat) : Nat := (looseQuot s.free (50 * c) (16 * (s.wake.template k).frames)).toNat

theorem exec_stage2Match_found (s : State) (x : Episode) (i k c : Nat) (hx : s.wake.episode = some x) (hfound : s.wake.found x = some (i, k, c)) :
    exec .stage2Match s = .next (s.episodeMatched.wakeEvent x.onset (x.onset + BitVec.ofNat 32 (256 * (i + 1)) - 1) k (s.matchD k c)) := by
  refine congrArg Host.Outcome.next ?_
  split
  next y hy =>
    cases hx.symm.trans hy
    split
    next j q d hf =>
      cases hfound.symm.trans hf
      rfl
    next hf => exact absurd (hfound.symm.trans hf) (by simp)
  next hy => exact absurd (hx.symm.trans hy) (by simp)

theorem exec_stage2Match_none (s : State) (h : s.wake.episode = none ∨ ∃ x, s.wake.episode = some x ∧ s.wake.found x = none) : exec .stage2Match s = .next s := by
  rcases h with hx | ⟨x, hx, hfound⟩
  · simp only [exec, execStage2Match, hx]
  · simp only [exec, execStage2Match, hx, hfound]

theorem exec_stage2End_over (s : State) (x : Episode) (hx : s.wake.episode = some x) (h : (128 ≤ s.wake.episodeFrames x ∨ 20 ≤ x.quiet) ∧ (s.wake.found x).isNone) :
    exec .stage2End s = .next { s with wake := { s.wake with episode := none, rejected := satAdd 16 s.wake.rejected 1 } } := by
  refine congrArg Host.Outcome.next ?_
  split
  next y hy =>
    cases hx.symm.trans hy
    exact if_pos h
  next hy => exact absurd (hx.symm.trans hy) (by simp)

theorem exec_stage2End_on (s : State) (x : Episode) (hx : s.wake.episode = some x) (h : ¬ ((128 ≤ s.wake.episodeFrames x ∨ 20 ≤ x.quiet) ∧ (s.wake.found x).isNone)) :
    exec .stage2End s = .next s := by
  simp only [exec, execStage2End, hx, if_neg h]

theorem exec_stage2End_none (s : State) (hx : s.wake.episode = none) : exec .stage2End s = .next s := by
  simp only [exec, execStage2End, hx]

theorem Wake.episodeFrames_full (w : Wake) (x : Episode) : 128 ≤ w.episodeFrames x ↔ 128 * 256 ≤ (w.widx - x.onset).toNat := by
  unfold Wake.episodeFrames
  omega

/-- Settles O37: the bits are heard by `State.Heard`, and a match is `Wake.found_some` told by `State.wakeTold`. -/
theorem wakeDetectorHearsAndMatches : Obligations.WakeDetectorHearsAndMatches := by
  refine ⟨fun s bits hlistening hroot honset hcount => ?_, fun s bits other honset hedge => ?_, fun s bits hdeaf => ?_, fun s bits hlistening hroot hfloor hring hnew => ?_,
    fun s x i k c hx hfound hawake hentering => ?_, fun s x i k c hx hfound hk honset hmode hexit hkept hreset => ?_,
    fun s hx => ⟨exec_stage2Match_none s (.inl hx), exec_stage2End_none s hx⟩, fun s x hx hfound => exec_stage2Match_none s (.inr ⟨x, hx, hfound⟩),
    fun w x i k c hfound => ?_, fun s x hx hend hfound => ?_, fun s x hx h => ?_⟩
  · have hheard := State.hearBits_heard bits s honset hcount
    obtain ⟨-, hcount', -, -, -, hframe⟩ := id hheard
    have hcfg : (bits.foldl State.hearBit s).cfg = s.cfg := hframe .cfg (by decide)
    have hlast := State.stage1_heard (bits.foldl State.hearBit s) ((State.wakeOnOnset_congr hcfg).trans honset) (by rw [hcount']; omega)
    obtain ⟨kwidx, kcount, krecords, klistening, kfree, kframe⟩ := State.Heard.trans hheard hlast
    exact ⟨_, exec_wakeFrameEnd_watch s bits hlistening hroot, kwidx, kcount, krecords, klistening.trans hlistening, kfree, kframe⟩
  · by_cases hfed : s.wake.listening = true ∧ s.clock.rootRunning = false
    · obtain ⟨hlistening, hroot⟩ := hfed
      rw [exec_wakeFrameEnd_watch s bits hlistening hroot, exec_wakeFrameEnd_watch s other hlistening hroot]
      rcases hedge with ⟨hrise, hsame⟩ | ⟨hsource, hfall, hsame⟩
      · rw [State.hearBits_congr _ bits other hsame s honset fun t ht b => (State.watchBit_congr ht b).trans (s.watchBit_fst hrise b)]
      · rw [State.hearBits_congr _ bits other hsame s honset fun t ht b => (State.watchBit_congr ht b).trans (s.watchBit_snd hsource hfall b)]
    · have hother : s.wake.listening = false ∨ s.clock.rootRunning = true := by
        cases hlistening : s.wake.listening with
        | false => exact .inl rfl
        | true => exact .inr (eq_true_of_ne_false fun hroot => hfed ⟨hlistening, hroot⟩)
      rw [exec_wakeFrameEnd_other s bits hother, exec_wakeFrameEnd_other s other hother]
  · rw [exec_wakeFrameEnd_other s bits (.inl hdeaf), s.stage1_deaf hdeaf]
  · rw [exec_wakeFrameEnd_other s bits (.inr hroot), s.stage1_first hlistening hfloor hring hnew]
  · obtain ⟨-, hmatch, -⟩ := s.wake.found_some x i k c hfound
    obtain ⟨-, -, hwithin, -⟩ := (s.wake.mem_matchAt x i k c).1 hmatch
    have hmode : s.episodeMatched.recMode = if s.inRun then 3 else 2 := by
      have hawake' : s.power.mode = .idle ∨ s.power.mode = .run := by simpa [State.awake, State.inIdle, State.inRun] using hawake
      rcases hawake' with hm | hm <;> simp [State.recMode, State.episodeMatched, State.inRun, hm]
    refine ⟨_, (exec_stage2Match_found s x i k c hx hfound).trans (congrArg Host.Outcome.next (State.wakeEvent_awake _ _ _ _ _ hawake hentering)),
      rfl, rfl, ⟨_, rfl, rfl, rfl, rfl, rfl, rfl, looseQuot_le _ _ _ _ (of_decide_eq_true hwithin), hmode⟩, rfl, rfl, ?_⟩
    intro p hp
    have h := s.episodeMatched.frame_wakeTold x.onset (x.onset + BitVec.ofNat 32 (256 * (i + 1)) - 1) k (s.matchD k c) p
    cases p with
    | wake | log | bus | free => simp at hp
    | _ => exact h (by decide)
  · have hcause : decide (k = 7) = s.episodeMatched.wakeOnOnset := (decide_eq_false (by omega)).trans honset.symm
    exact ⟨_, (exec_stage2Match_found s x i k c hx hfound).trans (congrArg Host.Outcome.next (State.wakeEvent_watch _ _ _ _ _ hcause hmode hexit hkept hreset)), rfl, rfl⟩
  · obtain ⟨hi, hmatch, hbefore⟩ := w.found_some x i k c hfound
    obtain ⟨hslot, hready, hwithin, hpath⟩ := (w.mem_matchAt x i k c).1 hmatch
    refine ⟨hi, hslot, hready, hwithin, hpath, fun j q d hj hq hqready hqpath => ?_⟩
    refine Bool.eq_false_iff.2 fun hin => ?_
    have hmem := (w.mem_matchAt x j q d).2 ⟨hq, hqready, hin, hqpath⟩
    rw [hbefore j hj] at hmem
    exact absurd hmem List.not_mem_nil
  · rw [exec_stage2End_over s x hx ⟨hend.imp_left (s.wake.episodeFrames_full x).2, by rw [hfound]; rfl⟩]
    rfl
  · refine exec_stage2End_on s x hx ?_
    rintro ⟨hend, hnone⟩
    rw [s.wake.episodeFrames_full x] at hend
    rcases h with ⟨hshort, hquiet⟩ | hfound
    · omega
    · exact hfound (Option.isNone_iff_eq_none.1 hnone)

end Sys2Proof.Machine
end

section
/-! SUPPORT. Transactions and conditions of the buses (chapter 15). -/
namespace Sys2Proof.Machine

-- One proof after another: a check of the whole text in one process stays within its memory.
set_option Elab.async false

/-! A transaction on a bus whose target is deaf. -/

/-- Idle with its supplies valid and its processor running, and a SPI that stands where a general call leaves the two-wire target. -/
def deafSpi : State := { ctl := { running := true }, power := { mode := .idle, valid := 255 }, bus := { spi := { phase := .deaf } } }

theorem deafSpi_answers : deafSpi.Answers false := by
  refine ⟨by decide, rfl, fun h => ?_⟩
  cases h

theorem deafSpi_served : deafSpi.served = true := by decide

theorem State.begins_deaf (s : State) (twi : Bool) (h : (s.bus.port twi).phase = .deaf) : s.begins twi = s := if_pos h

theorem State.spiBytes_deaf (s : State) (l : List Byte) (h : s.bus.spi.phase = .deaf) : l.foldl State.spiByte s = s := by
  induction l with
  | nil => rfl
  | cons b l ih =>
    have hbyte : s.spiByte b = s := by simp only [State.spiByte, h]
    rw [List.foldl_cons, hbyte, ih]

theorem exec_mailboxWrite_deafSpi (h b : List Byte) : exec (.mailboxWrite false (some h) b) deafSpi = .next deafSpi := by
  have hsent : (deafSpi.begins false).sends false (h ++ b) = deafSpi := by
    rw [State.begins_deaf deafSpi false rfl]
    exact deafSpi.spiBytes_deaf _ rfl
  exact congrArg Host.Outcome.next hsent

theorem exec_replyPageRead_deafSpi (h : ReadHead) (n : Nat) : exec (.replyPageRead false (some h) n) deafSpi = .next deafSpi := by
  have hled : deafSpi.reads false h = deafSpi := by
    unfold State.reads
    rw [if_neg Bool.false_ne_true, State.begins_deaf deafSpi false rfl]
    exact deafSpi.spiBytes_deaf _ rfl
  have hread : (deafSpi.reads false h).clocks false n = deafSpi := by
    rw [hled]
    exact deafSpi.spiBytes_deaf _ rfl
  exact congrArg Host.Outcome.next hread

/-- Refutes O39: `State.Answers` leaves the phase of the SPI open, and a SPI in the phase `deaf` (which no transaction on it leads to) takes no packet. -/
theorem not_mailboxWriteFramesPackets : ¬ Obligations.MailboxWriteFramesPackets := by
  rintro ⟨hwhole, -⟩
  obtain ⟨t, hnext, hmail, -⟩ := hwhole deafSpi false 0x0100 [0x4B, 0x10, 1, 0, 7, 0, 0, 0, 1, 2, 3, 4] deafSpi_answers deafSpi_served (by decide) (by decide) (by decide) (by decide)
  rw [exec_mailboxWrite_deafSpi] at hnext
  cases hnext
  exact absurd hmail (by decide)

/-- Refutes O40: in the same state a read of the ID registers moves no pointer. -/
theorem not_registerWindowReads : ¬ Obligations.RegisterWindowReads := by
  rintro ⟨-, -, hid, -⟩
  obtain ⟨t, hnext, -, hpointer, -⟩ := hid deafSpi false deafSpi_answers
  rw [exec_replyPageRead_deafSpi] at hnext
  cases hnext
  exact absurd hpointer (by decide)

/-! A transaction ends (R365, R368). -/

theorem Frame.bus (s : State) (x : Bus) : Frame [.bus] s { s with bus := x } := by
  intro p hp
  cases p with
  | bus => simp at hp
  | _ => rfl

/-- A port once its fragment is discarded: flagged, and answered where the reply finds room. -/
def BusPort.discarded (p : BusPort) : BusPort :=
  if p.fragment = [] then p
  else if p.held = [] ∧ p.queued + (fragmentReply p.rev p.fragment).length ≤ 2080 then
    { p with fragment := [], flags := p.flags ||| 32, replies := p.replies ++ [fragmentReply p.rev p.fragment] }
  else { p with fragment := [], flags := p.flags ||| 32 }

theorem fragmentReply_length (rev : Nat) (f : List Byte) : (fragmentReply rev f).length = 14 := rfl

theorem State.discardFragment_nil (s : State) (twi : Bool) (h : (s.bus.port twi).fragment = []) : s.discardFragment twi = s := by
  simp [State.discardFragment, h]

/-- What a bus counts and holds beside its ports. -/
def Bus.SameCounts (b c : Bus) : Prop := c.attn = b.attn ∧ c.rstarts = b.rstarts ∧ c.busErrors = b.busErrors ∧ c.timeouts = b.timeouts

/-- A reply for a bus goes to its FIFO; nothing but the buses changes. -/
theorem State.placeReply_port (s : State) (twi : Bool) (r : List Byte) : (s.placeReply (b2n twi) 0 r).bus.port twi = (s.bus.port twi).place r ∧
    (s.placeReply (b2n twi) 0 r).bus.port (!twi) = s.bus.port (!twi) ∧ s.bus.SameCounts (s.placeReply (b2n twi) 0 r).bus ∧
    (s.placeReply (b2n twi) 0 r).bus.discarded = s.bus.discarded ∧ Frame [.bus] s (s.placeReply (b2n twi) 0 r) := by
  refine ⟨?_, ?_, ⟨?_, ?_, ?_, ?_⟩, ?_, fun p hp => ?_⟩
  case refine_8 =>
    cases twi
    all_goals
      cases p with
      | bus => simp at hp
      | _ => rfl
  all_goals cases twi <;> rfl

/-- A fragment discarded, before it is answered. -/
def State.fragmentDropped (s : State) (twi : Bool) : State :=
  { s with bus := { s.bus.mod twi (fun p => { p with fragment := [], flags := p.flags ||| 32 }) with discarded := satAdd 16 s.bus.discarded 1 } }

theorem State.discardFragment_eq (s : State) (twi : Bool) (h : (s.bus.port twi).fragment ≠ []) : s.discardFragment twi =
    if (s.bus.port twi).held = [] ∧ (s.bus.port twi).queued + (fragmentReply (s.bus.port twi).rev (s.bus.port twi).fragment).length ≤ 2080 then
      (s.fragmentDropped twi).placeReply (b2n twi) 0 (fragmentReply (s.bus.port twi).rev (s.bus.port twi).fragment)
    else s.fragmentDropped twi := by
  simp [State.discardFragment, State.fragmentDropped, h]

theorem State.fragmentDropped_port (s : State) (twi : Bool) :
    (s.fragmentDropped twi).bus.port twi = { s.bus.port twi with fragment := [], flags := (s.bus.port twi).flags ||| 32 } ∧
    (s.fragmentDropped twi).bus.port (!twi) = s.bus.port (!twi) ∧ s.bus.SameCounts (s.fragmentDropped twi).bus := by
  cases twi <;> exact ⟨rfl, rfl, rfl, rfl, rfl, rfl⟩

theorem BusPort.place_room (p : BusPort) (r : List Byte) (hheld : p.held = []) (hroom : p.queued + r.length ≤ 2080) : p.place r = { p with replies := p.replies ++ [r] } := by
  simp [BusPort.place, hheld, hroom]

/-- A fragment is discarded at its port, and counted; nothing but the buses changes. -/
theorem State.discardFragment_port (s : State) (twi : Bool) : (s.discardFragment twi).bus.port twi = (s.bus.port twi).discarded ∧
    (s.discardFragment twi).bus.port (!twi) = s.bus.port (!twi) ∧ s.bus.SameCounts (s.discardFragment twi).bus ∧
    (s.discardFragment twi).bus.discarded = (if (s.bus.port twi).fragment = [] then s.bus.discarded else min (s.bus.discarded + 1) 65535) ∧
    Frame [.bus] s (s.discardFragment twi) := by
  by_cases hnil : (s.bus.port twi).fragment = []
  · rw [s.discardFragment_nil twi hnil, BusPort.discarded, if_pos hnil, if_pos hnil]
    exact ⟨rfl, rfl, ⟨rfl, rfl, rfl, rfl⟩, rfl, fun p _ => by cases p <;> rfl⟩
  · have hframe : Frame [.bus] s (s.fragmentDropped twi) := Frame.bus s _
    obtain ⟨hport, hother, hcounts⟩ := s.fragmentDropped_port twi
    rw [s.discardFragment_eq twi hnil, BusPort.discarded, if_neg hnil, if_neg hnil]
    by_cases hroom : (s.bus.port twi).held = [] ∧ (s.bus.port twi).queued + (fragmentReply (s.bus.port twi).rev (s.bus.port twi).fragment).length ≤ 2080
    · obtain ⟨hheld, hqueued⟩ := id hroom
      obtain ⟨kport, kother, kcounts, kdiscarded, kframe⟩ :=
        (s.fragmentDropped twi).placeReply_port twi (fragmentReply (s.bus.port twi).rev (s.bus.port twi).fragment)
      obtain ⟨hattn, hrstarts, herrors, htimeouts⟩ := hcounts
      obtain ⟨kattn, krstarts, kerrors, ktimeouts⟩ := kcounts
      rw [if_pos hroom, if_pos hroom, kother, hother, kdiscarded]
      exact ⟨kport.trans ((congrArg (fun p => BusPort.place p _) hport).trans (BusPort.place_room _ _ hheld hqueued)), rfl, ⟨kattn.trans hattn, krstarts.trans hrstarts, kerrors.trans herrors, ktimeouts.trans htimeouts⟩, rfl, hframe.trans kframe⟩
    · rw [if_neg hroom, if_neg hroom]
      exact ⟨hport, hother, hcounts, rfl, hframe⟩

/-- What is left alone as a fragment is discarded: the packets that wait, and the replies placed. -/
theorem BusPort.discarded_keeps (p : BusPort) : p.discarded.fragment = [] ∧ p.discarded.mailbox = p.mailbox ∧ p.replies <+: p.discarded.replies ∧
    p.discarded.lastRefused = p.lastRefused := by
  unfold BusPort.discarded
  split
  next h => exact ⟨h, rfl, List.prefix_rfl, rfl⟩
  split
  · exact ⟨rfl, rfl, List.prefix_append _ _, rfl⟩
  · exact ⟨rfl, rfl, List.prefix_rfl, rfl⟩

theorem BusPort.discarded_answered (p : BusPort) (h : p.fragment ≠ []) (hheld : p.held = []) (hroom : p.queued + 14 ≤ 2080) :
    p.discarded = { p with fragment := [], flags := p.flags ||| 32, replies := p.replies ++ [fragmentReply p.rev p.fragment] } := by
  rw [BusPort.discarded, if_neg h, if_pos ⟨hheld, by rw [fragmentReply_length]; exact hroom⟩]

theorem BusPort.discarded_nil (p : BusPort) (h : p.fragment = []) : p.discarded = p := if_pos h

/-- A port once its transaction has ended; nothing is addressed after a STOP. -/
def BusPort.ended (p : BusPort) : BusPort := { p.discarded with phase := .idle, refusing := false, firstPage := none }
def BusPort.stopped (p : BusPort) : BusPort := { p.ended with addressed := false }

theorem State.modBus_port (s : State) (twi : Bool) (f : BusPort → BusPort) : (s.modBus twi f).bus.port twi = f (s.bus.port twi) ∧
    (s.modBus twi f).bus.port (!twi) = s.bus.port (!twi) ∧ s.bus.SameCounts (s.modBus twi f).bus ∧ (s.modBus twi f).bus.discarded = s.bus.discarded := by
  cases twi <;> exact ⟨rfl, rfl, ⟨rfl, rfl, rfl, rfl⟩, rfl⟩

theorem Bus.SameCounts.trans {a b c : Bus} (h : a.SameCounts b) (k : b.SameCounts c) : a.SameCounts c := by
  obtain ⟨hattn, hrstarts, herrors, htimeouts⟩ := h
  obtain ⟨kattn, krstarts, kerrors, ktimeouts⟩ := k
  exact ⟨kattn.trans hattn, krstarts.trans hrstarts, kerrors.trans herrors, ktimeouts.trans htimeouts⟩

/-- A change of one bus port: what it becomes, and what stands beside it. -/
structure State.EndsAt (s t : State) (twi : Bool) (f : BusPort → BusPort) : Prop where
  port : t.bus.port twi = f (s.bus.port twi)
  other : t.bus.port (!twi) = s.bus.port (!twi)
  counts : s.bus.SameCounts t.bus
  discarded : t.bus.discarded = if (s.bus.port twi).fragment = [] then s.bus.discarded else min (s.bus.discarded + 1) 65535
  frame : Frame [.bus] s t

theorem State.EndsAt.modBus {s t : State} {twi : Bool} {f : BusPort → BusPort} (h : s.EndsAt t twi f) (g : BusPort → BusPort) : s.EndsAt (t.modBus twi g) twi (g ∘ f) := by
  obtain ⟨kport, kother, kcounts, kdiscarded⟩ := t.modBus_port twi g
  exact ⟨kport.trans (congrArg g h.port), kother.trans h.other, h.counts.trans kcounts, kdiscarded.trans h.discarded, h.frame.trans (Frame.bus t _)⟩

theorem State.discardFragment_endsAt (s : State) (twi : Bool) : s.EndsAt (s.discardFragment twi) twi BusPort.discarded := by
  obtain ⟨hport, hother, hcounts, hdiscarded, hframe⟩ := s.discardFragment_port twi
  exact ⟨hport, hother, hcounts, hdiscarded, hframe⟩

theorem State.endTransaction_endsAt (s : State) (twi : Bool) : s.EndsAt (s.endTransaction twi) twi BusPort.ended := (s.discardFragment_endsAt twi).modBus _

theorem State.stops_endsAt (s : State) (twi : Bool) : s.EndsAt (s.stops twi) twi BusPort.stopped := (s.endTransaction_endsAt twi).modBus _

/-! The bus conditions (R367-R369, R373, R377). -/

theorem getLsbD_flagged (x : BitVec 16) (k : Nat) (hk : k < 16) : (x ||| BitVec.ofNat 16 (2 ^ k)).getLsbD k = true := by
  rw [BitVec.getLsbD_or, BitVec.getLsbD_ofNat, Nat.testBit_two_pow_self, decide_eq_true hk, Bool.and_self, Bool.or_true]

theorem getLsbD_flagged_mono (x y : BitVec 16) (k : Nat) (h : x.getLsbD k = true) : (x ||| y).getLsbD k = true := by
  rw [BitVec.getLsbD_or, h, Bool.true_or]

/-- A port whose transaction a bus condition has ended. -/
def BusPort.ClosedBy (p q : BusPort) (k : Nat) : Prop :=
  q.fragment = [] ∧ q.active = false ∧ q.flags.getLsbD k = true ∧ q.mailbox = p.mailbox ∧ p.replies <+: q.replies

/-- A port's BUS_FLAGS with one more bit. -/
def BusPort.flagged (p : BusPort) (k : Nat) : BusPort := { p with flags := p.flags ||| BitVec.ofNat 16 (2 ^ k) }

theorem BusPort.ended_flagged (p : BusPort) (k : Nat) (hk : k < 16) : p.ClosedBy (p.ended.flagged k) k := by
  obtain ⟨hfragment, hmailbox, hreplies, -⟩ := p.discarded_keeps
  exact ⟨hfragment, rfl, getLsbD_flagged _ k hk, hmailbox, hreplies⟩

theorem BusPort.stopped_flagged (p : BusPort) (k : Nat) (hk : k < 16) : p.ClosedBy (p.stopped.flagged k) k := by
  obtain ⟨hfragment, hmailbox, hreplies, -⟩ := p.discarded_keeps
  exact ⟨hfragment, rfl, getLsbD_flagged _ k hk, hmailbox, hreplies⟩

theorem BusPort.ClosedBy.flagged {p q : BusPort} {k : Nat} (h : p.ClosedBy q k) (j : Nat) : p.ClosedBy (q.flagged j) k := by
  obtain ⟨hfragment, hactive, hflag, hmailbox, hreplies⟩ := h
  exact ⟨hfragment, hactive, getLsbD_flagged_mono _ _ k hflag, hmailbox, hreplies⟩

theorem State.busAlive_false (s : State) (h : ¬ s.busAlive = true) : s.busAlive = false := by simpa using h

theorem exec_rstartAtAck (s : State) (halive : s.busAlive = true) (hdeaf : s.bus.twi.phase ≠ .deaf) : exec .rstartAtAck s = .next
    { (s.endTransaction true).flagTwi 4 with bus := { ((s.endTransaction true).flagTwi 4).bus with
      rstarts := satAdd 16 ((s.endTransaction true).flagTwi 4).bus.rstarts 1 } } :=
  congrArg Host.Outcome.next (if_pos ⟨halive, hdeaf⟩)

theorem exec_rstartAtAck_idle (s : State) (h : s.busAlive = false ∨ s.bus.twi.phase = .deaf) : exec .rstartAtAck s = .next s := by
  refine congrArg Host.Outcome.next (if_neg ?_)
  rcases h with h | h <;> simp [h]

/-- A STOP that a bus condition forces, with its flag and the attention. -/
def State.forcedStop (s : State) (k : Nat) : State := ((s.stops true).flagTwi k).raise 16

theorem State.flagTwi_endsAt {s t : State} {f : BusPort → BusPort} (h : s.EndsAt t true f) (k : Nat) : s.EndsAt (t.flagTwi k) true (fun p => (f p).flagged k) := h.modBus _

theorem exec_busError (s : State) (halive : s.busAlive = true) : exec .busError s = .next
    { s.forcedStop 3 with bus := { (s.forcedStop 3).bus with busErrors := satAdd 16 (s.forcedStop 3).bus.busErrors 1 } } :=
  congrArg Host.Outcome.next (if_pos halive)

/-- The flags of a timeout, with the one that says that the target held SDA. -/
def State.timedOut (s : State) (k : Nat) (held : Bool) : State := if held then (s.forcedStop k).flagTwi 2 else s.forcedStop k

theorem State.busTimeout_eq (s : State) (k : Nat) (held : Bool) (halive : s.busAlive = true) : s.busTimeout k held =
    { s.timedOut k held with bus := { (s.timedOut k held).bus with timeouts := satAdd 16 (s.timedOut k held).bus.timeouts 1 } } := if_pos halive

theorem State.busTimeout_idle (s : State) (k : Nat) (held : Bool) (h : s.busAlive = false) : s.busTimeout k held = s := if_neg (by rw [h]; exact Bool.false_ne_true)

/-- What a bus condition on the two-wire bus leaves: the transaction has ended with flag k, and the SPI is as it was. -/
theorem State.forcedStop_closes (s : State) (k : Nat) (hk : k < 16) :
    s.bus.twi.ClosedBy (s.forcedStop k).bus.twi k ∧ (s.forcedStop k).bus.spi = s.bus.spi ∧ (s.forcedStop k).bus.attn = s.bus.attn ||| BitVec.ofNat 32 (2 ^ 16) ∧
    (s.forcedStop k).bus.rstarts = s.bus.rstarts ∧ (s.forcedStop k).bus.busErrors = s.bus.busErrors ∧ (s.forcedStop k).bus.timeouts = s.bus.timeouts ∧
    Frame [.bus] s (s.forcedStop k) := by
  obtain ⟨hport, hother, ⟨hattn, hrstarts, herrors, htimeouts⟩, -, hframe⟩ := State.flagTwi_endsAt (s.stops_endsAt true) k
  have hclosed := s.bus.twi.stopped_flagged k hk
  refine ⟨?_, hother, congrArg (· ||| BitVec.ofNat 32 (2 ^ 16)) hattn, hrstarts, herrors, htimeouts, hframe.trans (Frame.bus _ _)⟩
  have htwi : (s.forcedStop k).bus.twi = s.bus.twi.stopped.flagged k := hport
  rw [htwi]
  exact hclosed

theorem State.timedOut_closes (s : State) (k : Nat) (held : Bool) (hk : k < 16) :
    s.bus.twi.ClosedBy (s.timedOut k held).bus.twi k ∧ (s.timedOut k held).bus.spi = s.bus.spi ∧ (s.timedOut k held).bus.attn = s.bus.attn ||| BitVec.ofNat 32 (2 ^ 16) ∧
    (s.timedOut k held).bus.rstarts = s.bus.rstarts ∧ (s.timedOut k held).bus.busErrors = s.bus.busErrors ∧ (s.timedOut k held).bus.timeouts = s.bus.timeouts ∧
    (held = true → (s.timedOut k held).bus.twi.flags.getLsbD 2 = true) ∧ Frame [.bus] s (s.timedOut k held) := by
  obtain ⟨hclosed, hspi, hattn, hrstarts, herrors, htimeouts, hframe⟩ := s.forcedStop_closes k hk
  cases held with
  | false => exact ⟨hclosed, hspi, hattn, hrstarts, herrors, htimeouts, fun h => absurd h Bool.false_ne_true, hframe⟩
  | true => exact ⟨hclosed.flagged 2, hspi, hattn, hrstarts, herrors, htimeouts, fun _ => getLsbD_flagged _ 2 (by decide), hframe.trans (Frame.bus _ _)⟩

/-- A SPI transaction cut short (R376, R377). -/
def State.spiCut (s : State) : State :=
  (s.stops false).modBus false (fun p => { p with flags := p.flags ||| 256, lastRefused := p.lastRefused && s.bus.spi.active })

theorem exec_spiFrameError (s : State) (halive : s.busAlive = true) : exec .spiFrameError s = .next (s.spiCut.raise 16) := congrArg Host.Outcome.next (if_pos halive)

/-! In-band attention (R380). -/

theorem State.inbandDue_pulse (s : State) (hawake : s.awake = true) (hon : (s.dir 0x1903).testBit 0 = true) (hdue : s.bus.pulseDue = true) : s.inbandDue = true := by
  simp [State.inbandDue, hawake, hon, hdue]

theorem State.inbandDue_again (s : State) (b : Nat) (hawake : s.awake = true) (hon : (s.dir 0x1903).testBit 0 = true) (hlast : s.bus.lastPulse = some b)
    (hrepeat : field (s.dir 0x1903) 8 8 ≠ 0) (hlate : b + 960 * field (s.dir 0x1903) 8 8 ≤ s.clock.now) (hset : s.inbandSet = true) (hread : s.bus.readSince = false) :
    s.inbandDue = true := by
  simp [State.inbandDue, hawake, hon, hlast, hrepeat, hlate, hset, hread]

theorem State.inbandDue_off (s : State) (h : s.awake = false ∨ (s.dir 0x1903).testBit 0 = false) : s.inbandDue = false := by
  rcases h with h | h <;> simp [State.inbandDue, h]

theorem exec_inbandPulse_made (s : State) (hdue : s.inbandDue = true) (hidle : s.bus.twi.fragment = []) : exec .inbandPulse s = .next { s with bus := { s.bus with
    pulseDue := false, lastPulse := some s.clock.now, readSince := false, pulses := min (s.bus.pulses + 1) 65535, twi := { s.bus.twi with phase := .idle, addressed := false } } } :=
  congrArg Host.Outcome.next (if_pos (by rw [hdue, hidle]; rfl))

theorem exec_inbandPulse_none (s : State) (h : s.inbandDue = false ∨ s.bus.twi.fragment ≠ []) : exec .inbandPulse s = .next s :=
  congrArg Host.Outcome.next (if_neg (by rcases h with h | h <;> simp [h]))

theorem exec_inbandPulseAbort_due (s : State) (hdue : s.inbandDue = true) : exec .inbandPulseAbort s = .next { s with bus := { s.bus with pulseDue := true } } :=
  congrArg Host.Outcome.next (if_pos hdue)

theorem exec_inbandPulseAbort_none (s : State) (h : s.inbandDue = false) : exec .inbandPulseAbort s = .next s :=
  congrArg Host.Outcome.next (if_neg (by rw [h]; exact Bool.false_ne_true))

/-- Settles O41: every end of a transaction is `State.EndsAt`, and a pulse is made or kept as `State.inbandDue` says. -/
theorem busConditionsAndInBandPulses : Obligations.BusConditionsAndInBandPulses := by
  refine ⟨⟨fun s twi p hp halive hfragment hheld hroom => ?_, fun s twi p hp halive hfragment => ?_, fun s twi halive => ?_, fun s i held k halive hi => ?_,
    fun s hdeaf => exec_rstartAtAck_idle s (.inr hdeaf), fun s held halive => ⟨exec_rstartAtAck_idle s (.inl halive), ?_, ?_, ?_⟩, fun s halive => ?_, fun s halive => ?_⟩,
    fun s hawake hon hdue => ⟨exec_inbandPulse_made s (s.inbandDue_pulse hawake hon hdue), fun h => exec_inbandPulse_none s (.inr h), ?_⟩,
    fun s b hawake hon hdue hlast hrepeat hlate hset hread => exec_inbandPulseAbort_due s (s.inbandDue_again b hawake hon hlast hrepeat hlate hset hread),
    fun s h => ⟨exec_inbandPulse_none s (.inl (s.inbandDue_off h)), exec_inbandPulseAbort_none s (s.inbandDue_off h)⟩⟩
  · have hnext : exec (.packetFragmentDiscard twi) s = .next (s.stops twi) := congrArg Host.Outcome.next (if_pos halive)
    obtain ⟨hport, -, ⟨hattn, -, -, -⟩, hdiscarded, hframe⟩ := s.stops_endsAt twi
    rw [hp, BusPort.stopped, BusPort.ended, p.discarded_answered hfragment hheld hroom] at hport
    rw [hp, if_neg hfragment] at hdiscarded
    refine ⟨_, hnext, ?_⟩
    dsimp only
    rw [hport]
    exact ⟨rfl, rfl, rfl, hdiscarded, rfl, rfl, hattn, hframe⟩
  · have hnext : exec (.packetFragmentDiscard twi) s = .next (s.stops twi) := congrArg Host.Outcome.next (if_pos halive)
    obtain ⟨hport, hother, -, hdiscarded, hframe⟩ := s.stops_endsAt twi
    rw [hp, BusPort.stopped, BusPort.ended, p.discarded_nil hfragment] at hport
    rw [hp, if_pos hfragment] at hdiscarded
    refine ⟨_, hnext, hport.trans ?_, hdiscarded, hother, hframe⟩
    simp only
  · exact congrArg Host.Outcome.next (if_neg (by rw [halive]; exact Bool.false_ne_true))
  · rcases hi with ⟨rfl, rfl, hdeaf⟩ | ⟨rfl, rfl⟩ | ⟨rfl, rfl⟩ | ⟨rfl, rfl⟩
    · obtain ⟨hport, hother, ⟨hattn, hrstarts, herrors, htimeouts⟩, -, hframe⟩ := State.flagTwi_endsAt (s.endTransaction_endsAt true) 4
      obtain ⟨hfragment, hactive, hflag, hmailbox, hreplies⟩ := s.bus.twi.ended_flagged 4 (by decide)
      have htwi : ((s.endTransaction true).flagTwi 4).bus.twi = s.bus.twi.ended.flagged 4 := hport
      refine ⟨_, exec_rstartAtAck s halive hdeaf, ?_⟩
      dsimp only
      rw [htwi, hrstarts]
      exact ⟨hfragment, hactive, hflag, hmailbox, hreplies, hother, rfl, herrors, htimeouts, fun h => absurd h (by decide), hattn, hframe.trans (Frame.bus _ _)⟩
    · obtain ⟨⟨hfragment, hactive, hflag, hmailbox, hreplies⟩, hspi, hattn, hrstarts, herrors, htimeouts, hframe⟩ := s.forcedStop_closes 3 (by decide)
      refine ⟨_, exec_busError s halive, ?_⟩
      dsimp only
      rw [herrors]
      exact ⟨hfragment, hactive, hflag, hmailbox, hreplies, hspi, hrstarts, rfl, htimeouts, fun h => absurd h (by decide), hattn, hframe.trans (Frame.bus _ _)⟩
    · obtain ⟨⟨hfragment, hactive, hflag, hmailbox, hreplies⟩, hspi, hattn, hrstarts, herrors, htimeouts, hheld, hframe⟩ := s.timedOut_closes 0 held (by decide)
      refine ⟨_, congrArg Host.Outcome.next (s.busTimeout_eq 0 held halive), ?_⟩
      dsimp only
      rw [htimeouts]
      exact ⟨hfragment, hactive, hflag, hmailbox, hreplies, hspi, hrstarts, herrors, rfl, fun _ => hheld, hattn, hframe.trans (Frame.bus _ _)⟩
    · obtain ⟨⟨hfragment, hactive, hflag, hmailbox, hreplies⟩, hspi, hattn, hrstarts, herrors, htimeouts, hheld, hframe⟩ := s.timedOut_closes 1 held (by decide)
      refine ⟨_, congrArg Host.Outcome.next (s.busTimeout_eq 1 held halive), ?_⟩
      dsimp only
      rw [htimeouts]
      exact ⟨hfragment, hactive, hflag, hmailbox, hreplies, hspi, hrstarts, herrors, rfl, fun _ => hheld, hattn, hframe.trans (Frame.bus _ _)⟩
  · exact congrArg Host.Outcome.next (if_neg (by rw [halive]; exact Bool.false_ne_true))
  · exact congrArg Host.Outcome.next (s.busTimeout_idle 0 held halive)
  · exact congrArg Host.Outcome.next (s.busTimeout_idle 1 held halive)
  · obtain ⟨hport, hother, ⟨hattn, -, -, -⟩, -, hframe⟩ :=
      (s.stops_endsAt false).modBus (fun p => { p with flags := p.flags ||| 256, lastRefused := p.lastRefused && s.bus.spi.active })
    obtain ⟨hfragment, hmailbox, -, hrefused⟩ := s.bus.spi.discarded_keeps
    have hspi : s.spiCut.bus.spi = { s.bus.spi.stopped with
        flags := s.bus.spi.stopped.flags ||| 256, lastRefused := s.bus.spi.stopped.lastRefused && s.bus.spi.active } := hport
    refine ⟨_, exec_spiFrameError s halive, ?_⟩
    simp only [State.raise_bus, Bus.raise]
    rw [hspi]
    refine ⟨hfragment, getLsbD_flagged _ 8 (by decide), rfl, congrArg (· && s.bus.spi.active) hrefused, hmailbox, hother, congrArg (· ||| BitVec.ofNat 32 (2 ^ 16)) hattn,
      hframe.trans (Frame.bus _ _)⟩
  · exact congrArg Host.Outcome.next (if_neg (by rw [halive]; exact Bool.false_ne_true))
  · rw [exec_inbandPulseAbort_due s (s.inbandDue_pulse hawake hon hdue), ← hdue]

end Sys2Proof.Machine
end

section
/-! SUPPORT. Sessions and records age, the control processor restarts, the TAP, and the order in which a request is judged (chapters 15, 16, 19). -/
namespace Sys2Proof.Machine

-- One proof after another: a check of the whole text in one process stays within its memory.
set_option Elab.async false

/-! Sessions, challenges and lockouts age (R392-R394). -/

theorem Frame.ctl (s : State) (c : Control) : Frame [.ctl] s { s with ctl := c } := by
  intro p hp
  cases p with
  | ctl => simp at hp
  | _ => rfl

/-- A session that has idled out: it ends, and its binding is to be told. -/
def State.idledOut (s : State) (x : Session) : State :=
  { s.endSession x 1 0 s.tickNat with ctl := { (s.endSession x 1 0 s.tickNat).ctl with expired := x.binding :: (s.endSession x 1 0 s.tickNat).ctl.expired } }

theorem exec_sessionIdleTimeout_found (s : State) (n : BitVec 16) (x : Session) (hx : s.ctl.sessions.find? (fun y => decide (y.number = n)) = some x) :
    exec (.sessionIdleTimeout n) s = .next (if x.lastPacket + 96000 * field (s.dir 0x1A00) 0 16 ≤ s.clock.now then s.idledOut x else s) := by
  refine congrArg Host.Outcome.next ?_
  split
  next y hy =>
    cases hx.symm.trans hy
    rfl
  next hy => exact absurd (hx.symm.trans hy) (by simp)

theorem exec_sessionIdleTimeout_unknown (s : State) (n : BitVec 16) (h : ∀ y, y ∈ s.ctl.sessions → y.number ≠ n) : exec (.sessionIdleTimeout n) s = .next s := by
  have hnone : s.ctl.sessions.find? (fun y => decide (y.number = n)) = none := List.find?_eq_none.2 fun y hy => by simpa using h y hy
  simp only [exec, execSessionIdleTimeout, hnone]

theorem State.endSession_lost (s : State) (x : Session) (reason op tick : Nat) (h0 : reason ≠ 0) (h6 : reason ≠ 6) (h : x.claims ≠ 0) :
    (s.endSession x reason op tick).bus = s.bus.raise s.inbandMask 17 := if_pos ⟨h, h0, h6⟩

theorem State.endSession_held (s : State) (x : Session) (reason op tick : Nat) (h : x.claims = 0) : (s.endSession x reason op tick).bus = s.bus :=
  if_neg fun hc => hc.1 h

theorem State.frame_endSession (s : State) (x : Session) (reason op tick : Nat) : Frame [.ctl, .bus] s (s.endSession x reason op tick) := by
  intro p hp
  cases p with
  | ctl | bus => simp at hp
  | _ => rfl

/-! The log is committed (R458). -/

theorem State.logCommit_log (s : State) (cause : Nat) : (s.logCommit cause).log = { s.log with live := [], sinceCommit := 0, due := false, image1 := !s.log.image1 } := rfl

theorem State.logCommit_image (s : State) (cause : Nat) : (s.logCommit cause).logImage =
    { valid := true, seq := (s.logImage.seq + 1) % 2 ^ 32, info := cause + 8 * b2n s.mram.logRestarted, counts := s.logCounts } := by
  cases himage : s.log.image1 <;> simp [State.logCommit, State.logImage, himage]

theorem State.frame_logCommit (s : State) (cause : Nat) : Frame [.mram, .log] s (s.logCommit cause) := by
  intro p hp
  cases p with
  | mram | log => simp at hp
  | _ => rfl

/-- The log may be written, and its time has come. -/
theorem exec_logCommit_due (s : State) (hdue : 600 ≤ s.log.sinceCommit) (hmram : s.mramBlocked = false) (hasleep : s.asleep = false) (hreset : s.power.inReset = false) :
    exec .logCommit s = .next (if !s.ctl.running then { s with log := { s.log with due := true } } else s.logCommit (if s.log.due then 3 else 0)) :=
  congrArg Host.Outcome.next (if_neg (by simp [hdue, hmram, hasleep, hreset]))

theorem exec_logCommit_none (s : State) (h : (s.log.sinceCommit < 600 ∧ s.log.due = false) ∨ s.mramBlocked = true) : exec .logCommit s = .next s := by
  refine congrArg Host.Outcome.next (if_pos ?_)
  rcases h with ⟨hearly, hdue⟩ | h
  · simp [Nat.not_le.2 hearly, hdue]
  · simp [h]

theorem exec_ledgerMirror (s : State) : exec .ledgerMirror s =
    .next { s with mram := if s.mramBlocked || s.power.inReset || !s.ctl.running then s.mram else { s.mram with mirror := s.ctl.ledger.take 1024 } } := rfl

/-- Settles O42: a session idles out by `State.idledOut`, and the log is committed by `State.logCommit`. -/
theorem sessionsLockoutsAndRecordsAge : Obligations.SessionsLockoutsAndRecordsAge := by
  refine ⟨fun s n x hx => ⟨fun hidle => ?_, fun hbusy => ?_⟩, exec_sessionIdleTimeout_unknown, fun s p => ?_, fun s p => ⟨fun hend => ?_, fun hlocked => ?_⟩,
    fun s hmram hreset hrunning => ?_, fun s h => ?_, fun s hdue hmram hasleep hreset hnone => ⟨fun hrunning => ?_, fun hstopped => ?_⟩, exec_logCommit_none⟩
  · have hnumber : x.number = n := by simpa using List.find?_some hx
    have hnext := exec_sessionIdleTimeout_found s n x hx
    rw [if_pos hidle] at hnext
    refine ⟨_, hnext, ?_, List.mem_cons_self, ⟨_, rfl, rfl, hnumber, rfl, rfl⟩, fun hclaims => ?_, fun hclaims => ?_, rfl, ?_⟩
    · rw [← hnumber]
      rfl
    · exact congrArg Bus.attn (s.endSession_lost x 1 0 s.tickNat (by decide) (by decide) hclaims)
    · exact s.endSession_held x 1 0 s.tickNat hclaims
    · exact (s.frame_endSession x 1 0 s.tickNat).trans ((Frame.ctl _ _).wide (by decide))
  · rw [exec_sessionIdleTimeout_found s n x hx, if_neg (Nat.not_le.2 hbusy)]
  · refine ⟨_, rfl, fun c => ?_, rfl, Frame.ctl s _⟩
    refine List.mem_filter.trans (and_congr_right fun _ => ?_)
    simp only [Bool.not_eq_true', ← Bool.decide_and, decide_eq_false_iff_not]
  · exact congrArg (fun u => Host.Outcome.next { s with ctl := { s.ctl with lockedUntil := u } }) (if_pos hend)
  · exact congrArg (fun u => Host.Outcome.next { s with ctl := { s.ctl with lockedUntil := u } }) (if_neg (Nat.not_le.2 hlocked))
  · rw [exec_ledgerMirror, hmram, hreset, hrunning]
    rfl
  · rw [exec_ledgerMirror, if_pos (by rcases h with h | h <;> simp [h])]
  · have hnext := exec_logCommit_due s hdue hmram hasleep hreset
    rw [hrunning, hnone] at hnext
    refine ⟨s.logCommit 0, hnext, ?_, ?_, s.frame_logCommit 0⟩
    · rw [s.logCommit_log 0, ← hnone]
    · exact (s.logCommit_image 0).trans (by rw [Nat.zero_add])
  · rw [exec_logCommit_due s hdue hmram hasleep hreset, hstopped]
    rfl

/-! The control processor restarts (R37, R38, R453). -/

theorem State.dropInbox_nil (s : State) (h : s.ctl.inbox = []) : s.dropInbox = { s with ctl := { s.ctl with inbox := [] } } := by
  simp [State.dropInbox, h]

/-- What a restart discards and keeps, with nothing from the link waiting. -/
theorem State.controlRestart_fields (s : State) (c : RestartCause) (hinbox : s.ctl.inbox = []) :
    (s.controlRestart c).ctl = { s.ctl with
      inbox := [], running := false, restartAt := s.clock.now, swapAtRestart := s.swapArmed, claimsAtRestart := s.ctl.sessions.any (fun x => decide (x.claims ≠ 0)),
      sessions := [], challenges := [], photo := [] } ∧
    (s.controlRestart c).cfg = { s.cfg with
      check := none, graphCheck := none, queue := [], save := none, stage := none, commit := none
      armed := s.cfg.armed.map (fun (a : Pending × Nat) => ({ a.1 with ahead := 0, lost := true }, a.2)) } ∧
    (s.controlRestart c).bus = { s.bus with spi := s.bus.spi.restart, twi := s.bus.twi.restart } ∧
    (s.controlRestart c).dep = { s.dep with lastRestart := c.code } ∧ Frame [.ctl, .cfg, .bus, .power, .dep] s (s.controlRestart c) := by
  rw [State.controlRestart, s.dropInbox_nil hinbox]
  refine ⟨rfl, rfl, rfl, rfl, fun p hp => ?_⟩
  cases p with
  | ctl | cfg | bus | power | dep => simp at hp
  | _ => rfl

theorem exec_controlRestart_runs (s : State) (hfirmware : s.firmware = true) (hrunning : s.ctl.running = true) : exec .controlRestart s = .next (s.controlRestart .fault) :=
  congrArg Host.Outcome.next (if_pos (by rw [hfirmware, hrunning]; rfl))

theorem exec_controlRestart_idle (s : State) (h : s.firmware = false ∨ s.ctl.running = false) : exec .controlRestart s = .next s :=
  congrArg Host.Outcome.next (if_neg (by rcases h with h | h <;> simp [h]))

theorem exec_watchdogExpiry_runs (s : State) (hfirmware : s.firmware = true) (hrunning : s.ctl.running = true) (hlate : s.log.served + 9600 ≤ s.clock.now) :
    exec .watchdogExpiry s = .next (s.controlRestart .watchdog) := by
  simp only [exec, execWatchdogExpiry, hfirmware, hrunning, hlate, Bool.not_true, Bool.false_eq_true, if_false, if_true]

theorem exec_watchdogExpiry_idle (s : State) (h : s.firmware = false ∨ (s.ctl.running = true ∧ s.clock.now < s.log.served + 9600)) : exec .watchdogExpiry s = .next s := by
  rcases h with h | ⟨hrunning, hearly⟩
  · exact congrArg Host.Outcome.next (if_pos (by rw [h]; rfl))
  · have hnot : ¬ s.log.served + 9600 ≤ s.clock.now := Nat.not_le.2 hearly
    simp only [exec, execWatchdogExpiry, hrunning, if_true, if_neg hnot, ite_self]

/-- A restart that has taken 100 ms begins anew. -/
theorem exec_watchdogExpiry_again (s : State) (hfirmware : s.firmware = true) (hrunning : s.ctl.running = false) (hlate : s.ctl.restartAt + 9600 ≤ s.clock.now) :
    exec .watchdogExpiry s = .next { s.countRestart with ctl := { s.ctl with restartAt := s.clock.now }, dep := { s.countRestart.dep with lastRestart := 0 } } := by
  refine congrArg Host.Outcome.next ((if_neg ?_).trans ((if_neg ?_).trans (if_pos hlate)))
  · rw [hfirmware]
    decide
  · rw [hrunning]
    decide

/-- Command service resumes. -/
def State.resumed (s : State) : State :=
  { s.countRestart with
    ctl := { s.ctl with
      running := true, ledger := s.mram.mirror, ledgerGap := s.ctl.ledgerGap || s.unmirrored, swapInRestart := s.ctl.swapAtRestart && s.cfg.armed.isNone,
      swapTaken := s.ctl.swapAtRestart && s.cfg.armed.isNone, swapAtRestart := false, claimsAtRestart := false }.record s.clock.tick 0 5 0 0 0 0 0 0
    log := { s.countRestart.log with served := s.clock.now } }

theorem exec_restartComplete_due (s : State) (hfirmware : s.firmware = true) (hrunning : s.ctl.running = false) (hdue : s.log.due = false) :
    exec .restartComplete s = .next ((s.resumed.raise 13).raiseIf s.ctl.claimsAtRestart 17) := by
  refine congrArg Host.Outcome.next ((if_neg ?_).trans (if_neg ?_))
  · rw [hfirmware, hrunning]
    decide
  · have hkept : ((s.resumed.raise 13).raiseIf s.ctl.claimsAtRestart 17).log.due = s.log.due := rfl
    exact fun h => Bool.false_ne_true (hdue.symm.trans (hkept.symm.trans h))

theorem exec_restartComplete_idle (s : State) (h : s.firmware = false ∨ s.ctl.running = true) : exec .restartComplete s = .next s :=
  congrArg Host.Outcome.next (if_pos (by rcases h with h | h <;> simp [h]))

/-- Settles O43: `State.controlRestart_fields` says what a restart leaves, and `State.resumed` how service resumes. -/
theorem controlRestartsAndResumes : Obligations.ControlRestartsAndResumes := by
  refine ⟨fun s i cause hi hfirmware hrunning hinbox => ?_, fun s h => ⟨exec_controlRestart_idle s (.inl h), exec_watchdogExpiry_idle s (.inl h), exec_restartComplete_idle s (.inl h)⟩,
    fun s hrunning hearly => exec_watchdogExpiry_idle s (.inr ⟨hrunning, hearly⟩), fun s h => exec_controlRestart_idle s (.inr h), fun s hfirmware hrunning hlate => ?_,
    fun s hfirmware hrunning hdue => ?_, fun s h => exec_restartComplete_idle s (.inr h)⟩
  · have hacts : ∃ c : RestartCause, c.code = cause ∧ exec i s = .next (s.controlRestart c) := by
      rcases hi with ⟨rfl, rfl⟩ | ⟨rfl, rfl, hlate⟩
      · exact ⟨.fault, rfl, exec_controlRestart_runs s hfirmware hrunning⟩
      · exact ⟨.watchdog, rfl, exec_watchdogExpiry_runs s hfirmware hrunning hlate⟩
    obtain ⟨c, rfl, hnext⟩ := hacts
    obtain ⟨hctl, hcfg, hbus, hdep, hframe⟩ := s.controlRestart_fields c hinbox
    refine ⟨_, hnext, ?_⟩
    dsimp only
    rw [hctl, hcfg, hbus]
    exact ⟨rfl, rfl, rfl, rfl, rfl, rfl, rfl, rfl, rfl, rfl, rfl, by rw [Option.isSome_map], rfl, rfl, rfl, rfl, rfl, hdep, hframe⟩
  · refine ⟨_, exec_watchdogExpiry_again s hfirmware hrunning hlate, rfl, rfl, rfl, fun p hp => ?_⟩
    cases p with
    | ctl | dep | log => simp at hp
    | _ => rfl
  · refine ⟨_, exec_restartComplete_due s hfirmware hrunning hdue, rfl, ⟨_, rfl, rfl, rfl⟩, rfl, rfl, ?_, fun p hp => ?_⟩
    · rw [State.raiseIf_attn]
      cases s.ctl.claimsAtRestart
      · exact BitVec.or_zero
      · rfl
    · cases p with
      | ctl | dep | bus | log => simp at hp
      | _ => rfl

/-! The histograms (R457). -/

/-- A log with the channels of a list that are valid counted in their bins. -/
def MarathonLog.binned (l : MarathonLog) (valid : Nat → Bool) (bin : Nat → Nat) (ks : List Nat) : MarathonLog :=
  ks.foldl (fun l k => if valid k then l.add (bin k) 1 else l) l

theorem MarathonLog.binned_none (l : MarathonLog) (valid : Nat → Bool) (bin : Nat → Nat) (ks : List Nat) (h : ∀ k ∈ ks, valid k = false) : l.binned valid bin ks = l := by
  induction ks with
  | nil => rfl
  | cons k ks ih =>
    rw [MarathonLog.binned, List.foldl_cons, h k List.mem_cons_self, if_neg Bool.false_ne_true]
    exact ih fun j hj => h j (List.mem_cons_of_mem _ hj)

/-- The log after a sample of the histograms: the three dies, then the seven supplies. -/
def State.sampled (s : State) : MarathonLog :=
  (s.log.binned (fun d => (s.meas (11 + d)).valid) (fun d => 0x100 + 64 * d + 4 * tempBin (s.meas (11 + d)).value) (List.range 3)).binned
    (fun i => (s.meas (4 + i)).valid) (fun i => 0x200 + 64 * i + 4 * s.supplyBinOf i) (List.range 7)

theorem exec_histogramSample_due (s : State) (hasleep : s.asleep = false) (hreset : s.power.inReset = false) (hon : (s.dir 0x0480).testBit 8 = true)
    (hdue : s.log.histAt + 96000 ≤ s.clock.now) : exec .histogramSample s = .next { s with log := { s.sampled with histAt := s.clock.now } } :=
  congrArg Host.Outcome.next (if_neg (by simp [hasleep, hreset, hon, Nat.not_lt.2 hdue]))

theorem exec_histogramSample_idle (s : State) (h : s.asleep = true ∨ (s.dir 0x0480).testBit 8 = false ∨ s.clock.now < s.log.histAt + 96000) :
    exec .histogramSample s = .next s :=
  congrArg Host.Outcome.next (if_pos (by rcases h with h | h | h <;> simp [h]))

/-- With MS11 the only channel that may be valid, its temperature alone is counted. -/
theorem State.sampled_die (s : State) (h : ∀ k, 4 ≤ k → k < 14 → k ≠ 11 → (s.meas k).valid = false) :
    s.sampled = if (s.meas 11).valid then s.log.add (0x100 + 4 * tempBin (s.meas 11).value) 1 else s.log := by
  have hsupplies : ∀ l : MarathonLog, l.binned (fun i => (s.meas (4 + i)).valid) (fun i => 0x200 + 64 * i + 4 * s.supplyBinOf i) (List.range 7) = l := fun l =>
    l.binned_none _ _ _ fun i hi => h (4 + i) (by omega) (by have := List.mem_range.1 hi; omega) (by have := List.mem_range.1 hi; omega)
  have hdies : ∀ l : MarathonLog, l.binned (fun d => (s.meas (11 + d)).valid) (fun d => 0x100 + 64 * d + 4 * tempBin (s.meas (11 + d)).value) [1, 2] = l := fun l =>
    l.binned_none _ _ _ fun d hd => by
      rcases List.mem_cons.1 hd with rfl | hd
      · exact h 12 (by omega) (by omega) (by omega)
      · rw [List.mem_singleton.1 hd]
        exact h 13 (by omega) (by omega) (by omega)
  rw [State.sampled, hsupplies]
  exact hdies _

/-! The TAP (R462, R463). -/

/-- The outputs as the TAP takes the pins: silent, with the guard pins let go. -/
def Outputs.tapTaken (u : Outputs) : Outputs :=
  { u with
    ch := (List.range 28).foldl (fun t o => tabMod (fun _ => ({} : OutCh)) t o (fun c => { c with mute := { gain := 0 } })) u.ch
    gby := (List.range 4).foldl (fun t g => tabMod (fun _ => ({} : GbyPin)) t g (fun p => { p with high := false, preEnd := none, settleEnd := none })) u.gby }

theorem State.jtagSet_passive (s : State) (i : Jtag) (hfree : s.jtag.drives = false) (hi : i.drives = false) : s.jtagSet i = { s with jtag := i } := by
  simp [State.jtagSet, hfree, hi]

theorem State.jtagSet_drives (s : State) (i : Jtag) (hfree : s.jtag.drives = false) (hi : i.drives = true) : s.jtagSet i = { s with jtag := i, out := s.out.tapTaken } := by
  simp [State.jtagSet, hfree, hi, Outputs.tapTaken]

/-- Leaving an instruction that drives resets the device. -/
theorem State.jtagSet_left (s : State) (i : Jtag) (hdrives : s.jtag.drives = true) (hi : i.drives = false) :
    s.jtagSet i = ({ State.deviceReset { s with jtag := i } 2 0 true with jtag := i }).tryBoot := by
  refine if_pos ⟨hdrives, fun h => ?_⟩
  rw [h, hdrives] at hi
  exact absurd hi (by decide)

theorem jtagOf_drives (code : Nat) (h : code = 0 ∨ code = 3 ∨ code = 4) : (jtagOf code).drives = true := by
  rcases h with rfl | rfl | rfl <;> decide

theorem jtagOf_bypass (code : Nat) (h : 5 ≤ code) : jtagOf code = .bypass := by
  have h0 : code ≠ 0 := by omega
  have h1 : code ≠ 1 := by omega
  have h2 : code ≠ 2 := by omega
  have h3 : code ≠ 3 := by omega
  have h4 : code ≠ 4 := by omega
  simp [jtagOf, h0, h1, h2, h3, h4]

theorem exec_jtagInstruction (s : State) (code : Nat) : exec (.jtagInstruction code) s = .next (s.jtagSet (jtagOf (code % 16))) := rfl

theorem Outputs.tapTaken_ch (u : Outputs) (o : Nat) (ho : o < 28) : (tabGet (fun _ => ({} : OutCh)) u.tapTaken.ch o).mute = { gain := 0 } := by
  unfold Outputs.tapTaken
  dsimp only
  rw [tabGet_mods (fun _ => ({} : OutCh)) (fun _ c => { c with mute := { gain := 0 } }) (List.range 28) List.nodup_range u.ch o, if_pos (List.mem_range.2 ho)]

theorem Outputs.tapTaken_gby (u : Outputs) (g : Nat) (hg : g < 4) : (tabGet (fun _ => ({} : GbyPin)) u.tapTaken.gby g).high = false := by
  unfold Outputs.tapTaken
  dsimp only
  rw [tabGet_mods (fun _ => ({} : GbyPin)) (fun _ p => { p with high := false, preEnd := none, settleEnd := none }) (List.range 4) List.nodup_range u.gby g,
    if_pos (List.mem_range.2 hg)]

/-- Settles O45: a sample is `State.sampled_die`, and an instruction of the TAP one of the three cases of `State.jtagSet`. -/
theorem histogramsAndJtag : Obligations.HistogramsAndJtag := by
  refine ⟨fun s hasleep hreset hon hdue hothers => ?_, exec_histogramSample_idle, fun s code hfree => ⟨fun h => ?_, fun h => ?_, fun h => ?_, ?_, fun h => ?_⟩,
    fun s hdrives hsupplied hlow => ?_⟩
  · have hnext := exec_histogramSample_due s hasleep hreset hon hdue
    rw [s.sampled_die hothers] at hnext
    refine ⟨fun hvalid => ?_, fun hvalid => ?_⟩
    · rw [hnext, if_pos hvalid]
      rfl
    · rw [hnext, if_neg (by rw [hvalid]; exact Bool.false_ne_true)]
  · rw [exec_jtagInstruction, h]
    exact congrArg Host.Outcome.next (s.jtagSet_passive .sample hfree rfl)
  · rw [exec_jtagInstruction, h]
    exact congrArg Host.Outcome.next (s.jtagSet_passive .idcode hfree rfl)
  · rw [exec_jtagInstruction, jtagOf_bypass _ h]
    exact congrArg Host.Outcome.next (s.jtagSet_passive .bypass hfree rfl)
  · exact congrArg Host.Outcome.next (s.jtagSet_passive .idcode hfree rfl)
  · have hdrives := jtagOf_drives _ h
    refine ⟨_, (exec_jtagInstruction s code).trans (congrArg Host.Outcome.next (s.jtagSet_drives _ hfree hdrives)), hdrives, s.out.tapTaken_ch, s.out.tapTaken_gby,
      fun p hp => ?_⟩
    cases p with
    | jtag | out => simp at hp
    | _ => rfl
  · have hboot := State.tryBoot_begins { State.deviceReset { s with jtag := .idcode } 2 0 true with jtag := .idcode } rfl hlow hsupplied
    have hnext : exec .tapReset s = .next (State.bootBegin { State.deviceReset { s with jtag := .idcode } 2 0 true with jtag := .idcode }) :=
      congrArg Host.Outcome.next ((s.jtagSet_left .idcode hdrives rfl).trans hboot)
    obtain ⟨hpower, -, hcode, hstraps, -, -⟩ := State.bootBegin_fields { State.deviceReset { s with jtag := .idcode } 2 0 true with jtag := .idcode }
    have hkept := State.frame_bootBegin { State.deviceReset { s with jtag := .idcode } 2 0 true with jtag := .idcode }
    have hjtag := hkept .jtag (by decide)
    have hcfg := hkept .cfg (by decide)
    have hctl := hkept .ctl (by decide)
    have hclock := hkept .clock (by decide)
    simp only [Part.same] at hjtag hcfg hctl hclock
    refine ⟨_, hnext, hjtag, ?_⟩
    dsimp only
    rw [hpower, hcfg, hctl, hclock]
    exact ⟨rfl, rfl, rfl, rfl, rfl, hcode, hstraps, rfl⟩

/-! A request that its port does not take at once (R365, R381, R390). -/

theorem State.serveBefore_unserved (q : Req) (n : Nat) (s : State) (h : s.served = false) : State.serveBefore q n s = s := by
  cases n with
  | zero => rfl
  | succ n => exact if_pos (by rw [h]; rfl)

theorem State.request_unserved (s : State) (op : Nat) (run : State → Job → State) (q : Req) (hport : q.port.val < 2) (h : s.served = false) : s.request op run q = s := by
  simp only [State.request, State.enter, State.serveBefore_unserved _ _ s h, if_pos hport, h, Bool.not_false, if_true]

/-- The link answers BUSY while the control processor restarts. -/
theorem State.request_restart (s : State) (op : Nat) (run : State → Job → State) (q : Req) (hport : q.port.val = 2 ∨ q.port.val = 3) (hfirmware : s.firmware = true)
    (hrunning : s.ctl.running = false) : s.request op run q = s.placeReply q.port.val q.origin.val (s.replyPacket (s.jobOf op q) 0x60 1 []) := by
  have hserved : s.served = false := by simp [State.served, hrunning]
  have hbus : ¬ q.port.val < 2 := by omega
  have hlink : q.port.val < 4 ∧ s.firmware = true := ⟨by omega, hfirmware⟩
  simp only [State.request, State.enter, State.serveBefore_unserved _ _ s hserved, if_neg hbus, hserved, Bool.false_eq_true, if_false, if_pos hlink]
  rfl

/-- The packet of a request as a bus carries it. -/
def State.packetOf (s : State) (op : Nat) (q : Req) : List Byte := packet q.rev.val q.remote q.quiet op q.tag.toNat s.devId 0 q.payload

/-- A request on a bus that cannot take it now: it waits in the mailbox while that has room. -/
theorem State.request_waits (s : State) (op : Nat) (run : State → Job → State) (q : Req) (hport : q.port.val < 2) (hserved : s.served = true) (hfirst : s.First q)
    (hbusy : (s.bus.port (decide (q.port.val = 1))).ready = false ∨ (s.bus.port (decide (q.port.val = 1))).mailbox ≠ []) : s.request op run q =
    if (s.bus.port (decide (q.port.val = 1))).mailQueued + (s.packetOf op q).length ≤ 2080 then
      s.modBus (decide (q.port.val = 1)) (fun p => { p with mailbox := p.mailbox ++ [{ bytes := s.packetOf op q, now := s.clock.now, tick := s.tickNat }] })
    else s := by
  have hwait : ¬ ((s.bus.port (decide (q.port.val = 1))).ready && (s.bus.port (decide (q.port.val = 1))).mailbox.isEmpty) = true := by
    rcases hbusy with h | h <;> simp [h]
  simp only [State.request, State.enter, State.serveBefore_first _ _ s hfirst, if_pos hport, hserved, Bool.not_true, Bool.false_eq_true, if_false, if_neg hwait]
  rfl

/-! The steps of R386 in their order. -/

section
variable (u : State) (run : State → Job → State) (j : Job)

/-- Step 3: the revision. -/
theorem State.judge_revision (hj : u.sessionNo j.req = j.session) (h : u.revisionOk j.opcode j.req = false) :
    u.judge run j = u.reply j 0x13 (u.agreed j.req.port.val) [] := by
  simp only [State.judge, hj, h, Bool.not_false, if_true]

/-- Step 5: the opcode's own revision. -/
theorem State.judge_newer (hj : u.sessionNo j.req = j.session) (hrev : u.revisionOk j.opcode j.req = true) (row : OpRow) (hrow : opRow j.opcode = some row)
    (h : j.req.rev.val < row.rev) : u.judge run j = u.reply j 0x12 0 [] := by
  simp only [State.judge, hj, hrev, hrow, if_pos h, Bool.not_true, Bool.false_eq_true, if_false]

/-- What is left to judge of an opcode that the revision knows. -/
def State.judgeRow (row : OpRow) : State :=
  if row.session && decide (j.req.port.val ≠ 4) && (u.ctl.sessionOf (bindingOf j.req)).isNone then
    (if u.ctl.expired.contains (bindingOf j.req) then
      { u with ctl := { u.ctl with expired := u.ctl.expired.filter (fun x => decide (x ≠ bindingOf j.req)) } }.reply j 0x23 0 []
    else u.reply j 0x20 0 [])
  else if !lengthOk j.opcode j.req.payload then u.reply j 0x11 0 []
  else if u.claimClash j ≠ 0 then u.reply j 0x30 (lowestBit (u.claimClash j)) []
  else if !u.stateOk row then u.notInState j
  else run u j

theorem State.judge_known (hj : u.sessionNo j.req = j.session) (hrev : u.revisionOk j.opcode j.req = true) (row : OpRow) (hrow : opRow j.opcode = some row)
    (h : row.rev ≤ j.req.rev.val) : u.judge run j = u.judgeRow run j row := by
  simp only [State.judge, hj, hrev, hrow, if_neg (Nat.not_lt.2 h), Bool.not_true, Bool.false_eq_true, if_false]
  rfl

/-- Step 6: the session. -/
theorem State.judgeRow_sessionless (row : OpRow) (hneeds : row.session = true) (hport : j.req.port.val ≠ 4) (hnone : u.ctl.sessionOf (bindingOf j.req) = none) :
    u.judgeRow run j row = if u.ctl.expired.contains (bindingOf j.req) then
      { u with ctl := { u.ctl with expired := u.ctl.expired.filter (fun x => decide (x ≠ bindingOf j.req)) } }.reply j 0x23 0 [] else u.reply j 0x20 0 [] :=
  if_pos (by rw [hneeds, decide_eq_true hport, hnone]; rfl)

/-- Steps 7 to 9: LENGTH, claims and the state. -/
theorem State.judgeRow_session (row : OpRow) (h : row.session = false ∨ j.req.port.val = 4 ∨ (u.ctl.sessionOf (bindingOf j.req)).isSome = true) :
    u.judgeRow run j row = if !lengthOk j.opcode j.req.payload then u.reply j 0x11 0 []
      else if u.claimClash j ≠ 0 then u.reply j 0x30 (lowestBit (u.claimClash j)) []
      else if !u.stateOk row then u.notInState j else run u j := by
  refine if_neg ?_
  rcases h with h | h | h
  · simp [h]
  · simp [h]
  · simp [Option.isSome_iff_ne_none.1 h]

end

/-- A request is judged in the state in which its session has had its packet. -/
theorem exec_request_takes (s : State) (i : Instr) (op : Nat) (q : Req) (hi : requestOf i = some (op, q)) (h : s.Takes q) :
    exec i s = .next ((s.seen q).judge State.dispatch (s.jobOf op q)) :=
  (exec_dispatch i op q s hi).trans (congrArg Host.Outcome.next (State.request_takes h op State.dispatch))

theorem State.seen_sessionNo (s : State) (op : Nat) (q : Req) : (s.seen q).sessionNo (s.jobOf op q).req = (s.jobOf op q).session := s.sessionNo_touch _ q

theorem State.seen_sessionOf_none (s : State) (q : Req) (h : s.ctl.sessionOf (bindingOf q) = none) : (s.seen q).ctl.sessionOf (bindingOf q) = none := by
  rw [State.seen, State.sessionOf_touch, h]
  rfl

theorem State.seen_sessionOf_isSome (s : State) (q : Req) : ((s.seen q).ctl.sessionOf (bindingOf q)).isSome = (s.ctl.sessionOf (bindingOf q)).isSome := by
  rw [State.seen, State.sessionOf_touch, Option.isSome_map]

/-- Settles O50: a request that its port takes is judged step by step, and one that it does not take waits, is answered BUSY or is lost. -/
theorem requestsAreJudgedInOrder : Obligations.RequestsAreJudgedInOrder := by
  intro s i op q hi
  have hexec := exec_dispatch i op q s hi
  refine ⟨fun hport h => ?_, fun hport hserved hfirst hbusy => ⟨fun hroom => ?_, fun hfull => ?_⟩, fun h t hserved hone hhead hbefore ht htakes => ?_,
    fun hport hfirmware hrunning => ?_, fun htakes hrev => ?_, fun row hrow htakes hrev => ⟨fun hnewer => ?_, fun hknown hneeds hport hnone => ?_, fun hknown hsession => ?_⟩⟩
  · rw [hexec, s.request_unserved op _ q hport h]
  · rw [hexec, s.request_waits op _ q hport hserved hfirst hbusy]
    exact congrArg Host.Outcome.next (if_pos hroom)
  · rw [hexec, s.request_waits op _ q hport hserved hfirst hbusy]
    exact congrArg Host.Outcome.next (if_neg (Nat.not_le.2 hfull))
  · rw [hexec, State.request_after op State.dispatch hserved hone hhead hbefore ht htakes]
  · rw [hexec, s.request_restart op _ q hport hfirmware hrunning]
  · rw [exec_request_takes s i op q hi htakes, State.judge_revision _ _ _ (s.seen_sessionNo op q) hrev]
    rfl
  · rw [exec_request_takes s i op q hi htakes, State.judge_newer _ _ _ (s.seen_sessionNo op q) hrev row hrow hnewer]
  · have hjudged := exec_request_takes s i op q hi htakes
    rw [State.judge_known _ _ _ (s.seen_sessionNo op q) hrev row hrow hknown,
      State.judgeRow_sessionless _ _ _ row hneeds hport (s.seen_sessionOf_none q hnone)] at hjudged
    refine ⟨fun hfresh => hjudged.trans ?_, fun hexpired => hjudged.trans ?_⟩
    · exact congrArg Host.Outcome.next (if_neg (by rw [Bool.not_eq_true]; exact hfresh))
    · exact congrArg Host.Outcome.next (if_pos hexpired)
  · have hjudged := exec_request_takes s i op q hi htakes
    rw [State.judge_known _ _ _ (s.seen_sessionNo op q) hrev row hrow hknown, State.judgeRow_session _ _ _ row (by
      rw [← s.seen_sessionOf_isSome q] at hsession
      exact hsession)] at hjudged
    have hclash : (s.seen q).claimClash (s.jobOf op q) = s.claimClash (s.jobOf op q) := s.claimClash_touch _ _
    rw [hclash] at hjudged
    refine ⟨fun hlength => hjudged.trans ?_, fun hlength hclaim => hjudged.trans ?_, fun hlength hclaim hstate => hjudged.trans ?_⟩
    · exact congrArg Host.Outcome.next (if_pos (by rw [Bool.not_eq_true']; exact hlength))
    · exact congrArg Host.Outcome.next ((if_neg (by rw [Bool.not_eq_true', Bool.not_eq_false]; exact hlength)).trans (if_pos hclaim))
    · exact congrArg Host.Outcome.next ((if_neg (by rw [Bool.not_eq_true', Bool.not_eq_false]; exact hlength)).trans
        ((if_neg (Decidable.not_not.2 hclaim)).trans (if_pos (by rw [Bool.not_eq_true']; exact hstate))))

end Sys2Proof.Machine
end
